-- ==== Sys2Proof/Word.lean ====
section
/-! DEFINITION. The word types of the QX-8640: a byte, a 32-bit register word and a 64-bit value (00 R6, R7). -/

namespace Sys2Proof

/-- A byte of memory. -/
abbrev Byte := BitVec 8

/-- A 32-bit register (00 R7). -/
abbrev Word := BitVec 32

/-- A 64-bit value: two registers, the lower address first (00 R7). -/
abbrev DWord := BitVec 64

end Sys2Proof
end

