-- ==== Sys2Proof/Config.lean ====
section
/-! DEFINITION. What an implementation fixes and the spec leaves open. Every value here is FREE: a constant without a body,
of which nothing can be proved, so a statement about the model holds for every value of it. The assumption log names each. -/

namespace Sys2Proof.Config

/-- Which pair of partial sums is added next, in a Mortise pass or a Plane reduction (02 R71, R82: the order of addition
is not specified). Argument 1: the free counter of the state; argument 2: how many additions are still to do. -/
opaque sumPick (seed k : Nat) : Nat

/-- Which of the FP32 codes within 2 units in the last place a Plane function gives (02 R81), or its result where the function
has no value. Argument 1: the function (0 exp, 1 log, 2 rsqrt, 3 sigmoid, 4 tanh, 5 GELU); argument 2: the FP32 operand code. -/
opaque planeFn (f x : Nat) : Nat

/-- A value that the spec leaves open and that is drawn anew each time: the free counter, and which of the draws. -/
opaque freeValue (counter which : Nat) : Nat

/-- Bytes produced by a cryptographic primitive of Wedge or a Kertik port, as a function of its name and its inputs
(12 R375 to R389, 11 R346). -/
opaque crypto (name : String) (inputs : List (List Byte)) : List Byte

/-- Position of index `i` among `n` samples on the 33-point axis of the LSC grid, in units of 2^-16 grid cells (09 R273 gives the grid
and not where its points lie). -/
opaque lscPlace (n i : Nat) : Nat

/-- Position of a linear value on the 1,024 knots of a TONE curve, in units of 2^-16 knots (09 R273). -/
opaque tonePlace (v : Nat) : Nat

/-- Scale of component `i` (0 Y, 1 Cb, 2 Cr) of a YCbCr view in units of 2^-16, and the code of its zero: 09 R273 names the
coefficients of ITU-R BT.709 and no range of codes. -/
opaque cscScale (i : Nat) : Nat
opaque cscZero (i : Nat) : Nat

/-- Phase of the SCALE filter for the low 16 bits of a sampling position, how many taps lie before the position's whole part, and the
fraction bits kept between its two passes (09 R273). -/
opaque scalePhase (frac : Nat) : Nat
opaque scaleBefore : Nat
opaque scaleBits : Nat

/-- State of a decimation filter after a frame's bits, and its output `t` of that frame: an INT16 code before saturation on the
low-power path, an FP32 code on the high-quality path (10 R303, R304 give pass bands and delays, not the filters). The first argument
is the factor: 48, 192 or 64. -/
opaque filterState (factor state : Nat) (bits : List Bool) : Nat
opaque filterLow (factor state : Nat) (bits : List Bool) (t : Nat) : Int
opaque filterHigh (state : Nat) (bits : List Bool) (t : Nat) : Nat

/-- INT8 code of input `i` of the rung-0 network, of the (AFN, INT16 codes) of the ring's frames, newest first, and of the glance
sub-network, of the extents and codes of the glance image (10 R309, R310 give the networks' numbers and not how audio and image enter them). -/
opaque awlInput (i : Nat) (ring : List (Nat × List Nat)) : Nat
opaque awlGlance (i h w : Nat) (codes : List Nat) : Nat

/-- FP32 code of tap `k` of phase `p` of the beam interpolator (10 R305). -/
opaque interpolator (p k : Nat) : Nat

/-- The part's order code is QX-8640-A1X, not QX-8640-A1H (00 Table Scope-1). -/
opaque extendedRange : Bool

/-- Wydoga's vendor ID, and the revision ID of the silicon's stepping (13 Table Host-1). -/
opaque vendorId : Nat
opaque revisionId : Nat

/-- The serial number in OTP: each part has its own (12 Table Tenants-10). -/
opaque serial : Nat

end Sys2Proof.Config
end

