-- ==== Sys2Proof/Machine/Bits.lean ====
section
/-! DEFINITION. Bit fields, sign extension and byte order over natural numbers (00 R5, R6). -/

namespace Sys2Proof.Machine

/-- Bits [lo + w - 1 : lo] of `n` (00 R5). -/
def bits (n lo w : Nat) : Nat := n / 2 ^ lo % 2 ^ w

/-- Bit `i` of `n`. -/
def bit (n i : Nat) : Bool := n.testBit i

/-- `n` with bits [lo + w - 1 : lo] replaced by the low `w` bits of `v`. -/
def setBits (n lo w v : Nat) : Nat :=
  n % 2 ^ lo + (v % 2 ^ w) * 2 ^ lo + n / 2 ^ (lo + w) * 2 ^ (lo + w)

/-- A Boolean as a one-bit value. -/
def b2n (b : Bool) : Nat := if b then 1 else 0

/-- The two's complement value of the low `w` bits of `n`. -/
def sext (w n : Nat) : Int :=
  let m := n % 2 ^ w
  if 2 ^ (w - 1) ≤ m then (m : Int) - 2 ^ w else m

/-- The low `w` bits of an integer, in two's complement. -/
def toBits (w : Nat) (i : Int) : Nat := (i % (2 ^ w : Nat)).toNat

/-- Bytes to a number, least significant byte first (00 R6). -/
def ofBytes : List Byte → Nat
  | [] => 0
  | b :: bs => b.toNat + 256 * ofBytes bs

/-- The low `k` bytes of a number, least significant byte first (00 R6). -/
def toBytes : Nat → Nat → List Byte
  | 0, _ => []
  | k + 1, n => BitVec.ofNat 8 n :: toBytes k (n / 256)

/-- Quotient rounded up. -/
def cdiv (a b : Nat) : Nat := (a + b - 1) / b

/-- The numbers `a`, `a + 1`, up to `a + k - 1`. -/
def rangeFrom (a k : Nat) : List Nat := (List.range k).map (a + ·)

/-- Positions of the ones among the low `w` bits of a mask, lowest first. -/
def maskList (w m : Nat) : List Nat := (List.range w).filter (fun i => bit m i)

/-- The mask whose ones are the listed positions. -/
def listMask (l : List Nat) : Nat := l.foldl (fun m i => m ||| 2 ^ i) 0

/-- Number of ones among the low `w` bits. -/
def popcount (w m : Nat) : Nat := (maskList w m).length

/-- `a` has reached `t` on a `w`-bit wrapping counter (01 R31, for w = 32). -/
def hasReached (w a t : Nat) : Bool := (a + 2 ^ w - t % 2 ^ w) % 2 ^ w < 2 ^ (w - 1)

/-- `f` applied for each element of a list, in order. -/
def forEach {α σ : Type} (l : List α) (f : α → σ → σ) (s : σ) : σ := l.foldl (fun s a => f a s) s

/-- `f` when the condition holds, nothing otherwise. -/
def whenB {σ : Type} (c : Bool) (f : σ → σ) (s : σ) : σ := if c then f s else s

/-- Replace the elements for which `p` holds. -/
def mapWhere {α : Type} (p : α → Bool) (f : α → α) (l : List α) : List α :=
  l.map (fun a => if p a then f a else a)

/-- Set element `i` of a list, doing nothing past its end. -/
def setAt {α : Type} (l : List α) (i : Nat) (a : α) : List α := l.set i a

/-- Split a list into runs of `n` elements; `k` bounds the number of runs. -/
def runsOf {α : Type} (n : Nat) : Nat → List α → List (List α)
  | 0, _ => []
  | k + 1, l => if l.isEmpty then [] else l.take n :: runsOf n k (l.drop n)

end Sys2Proof.Machine
end

