-- ==== Sys2Proof/Machine/Num.lean ====
section
/-! DEFINITION. Number formats, rounding and saturation (02 R63 to R81). Arithmetic is exact on dyadic numbers and rounds
once, at the place the rule names. -/

namespace Sys2Proof.Machine

/-- The format codes of Table Numbers-1. Code 0xF is reserved and has no constructor. -/
inductive Fmt where
  | int8 | int4 | mxint8 | e4m3 | e5m2 | e3m2 | e2m3 | e2m1 | bf16 | fp16 | fp32 | int32 | uint16 | int16 | uint32
deriving DecidableEq, Repr

/-- The 4-bit FMT code (Table Numbers-1). -/
def Fmt.code : Fmt → Nat
  | .int8 => 0x0 | .int4 => 0x1 | .mxint8 => 0x2 | .e4m3 => 0x3 | .e5m2 => 0x4 | .e3m2 => 0x5 | .e2m3 => 0x6
  | .e2m1 => 0x7 | .bf16 => 0x8 | .fp16 => 0x9 | .fp32 => 0xA | .int32 => 0xB | .uint16 => 0xC | .int16 => 0xD
  | .uint32 => 0xE

/-- The format of a code; 0xF is reserved (R63). -/
def Fmt.ofCode : Nat → Option Fmt
  | 0x0 => some .int8 | 0x1 => some .int4 | 0x2 => some .mxint8 | 0x3 => some .e4m3 | 0x4 => some .e5m2
  | 0x5 => some .e3m2 | 0x6 => some .e2m3 | 0x7 => some .e2m1 | 0x8 => some .bf16 | 0x9 => some .fp16
  | 0xA => some .fp32 | 0xB => some .int32 | 0xC => some .uint16 | 0xD => some .int16 | 0xE => some .uint32
  | _ => none

/-- Format of a code; 0xF is never written. -/
def fmtOf (c : Nat) : Fmt := (Fmt.ofCode c).getD .uint32

/-- Bits per element (Table Numbers-1). -/
def Fmt.bits : Fmt → Nat
  | .int8 | .mxint8 | .e4m3 | .e5m2 => 8
  | .int4 | .e2m1 => 4
  | .e3m2 | .e2m3 => 6
  | .bf16 | .fp16 | .uint16 | .int16 => 16
  | .fp32 | .int32 | .uint32 => 32

/-- Formats with an E8M0 scale per 32 elements. -/
def Fmt.isMX : Fmt → Bool
  | .mxint8 | .e4m3 | .e5m2 | .e3m2 | .e2m3 | .e2m1 => true
  | _ => false

/-- Formats with an FP32 scale per channel. -/
def Fmt.isChan : Fmt → Bool
  | .int8 | .int4 => true
  | _ => false

/-- A number: NaN, an infinity, or `(-1)^neg * m * 2^e`, with a signed zero. -/
inductive Val where
  | nan
  | inf (neg : Bool)
  | fin (neg : Bool) (m : Nat) (e : Int)
deriving DecidableEq, Repr

/-- Which codes of a floating format are not finite numbers (Table Numbers-2). -/
inductive Special where
  | ieee    -- all-ones exponent: mantissa 0 is Inf, the others NaN
  | nanOnly -- S.1111.111 is NaN; no Inf (E4M3)
  | finite  -- every code is a finite number
deriving DecidableEq, Repr

/-- A floating format: exponent bits, mantissa bits, bias (Table Numbers-2). -/
structure FFmt where
  eb : Nat
  mb : Nat
  bias : Nat
  special : Special
deriving DecidableEq, Repr

def fE4M3 : FFmt := ⟨4, 3, 7, .nanOnly⟩
def fE5M2 : FFmt := ⟨5, 2, 15, .ieee⟩
def fE3M2 : FFmt := ⟨3, 2, 3, .finite⟩
def fE2M3 : FFmt := ⟨2, 3, 1, .finite⟩
def fE2M1 : FFmt := ⟨2, 1, 1, .finite⟩
def fBF16 : FFmt := ⟨8, 7, 127, .ieee⟩
def fFP16 : FFmt := ⟨5, 10, 15, .ieee⟩
def fFP32 : FFmt := ⟨8, 23, 127, .ieee⟩

/-- The value a code of a floating format stands for (Table Numbers-2). -/
def FFmt.decode (f : FFmt) (c : Nat) : Val :=
  let neg := bit c (f.eb + f.mb)
  let ex := Machine.bits c f.mb f.eb
  let ma := Machine.bits c 0 f.mb
  if f.special = .ieee ∧ ex = 2 ^ f.eb - 1 then (if ma = 0 then .inf neg else .nan)
  else if f.special = .nanOnly ∧ ex = 2 ^ f.eb - 1 ∧ ma = 2 ^ f.mb - 1 then .nan
  else if ex = 0 then .fin neg ma (1 - f.bias - f.mb)
  else .fin neg (2 ^ f.mb + ma) ((ex : Int) - f.bias - f.mb)

/-- Largest finite magnitude as a code without sign (Table Numbers-2). -/
def FFmt.maxCode (f : FFmt) : Nat :=
  match f.special with
  | .ieee => (2 ^ f.eb - 1) * 2 ^ f.mb - 1
  | .nanOnly => 2 ^ (f.eb + f.mb) - 2
  | .finite => 2 ^ (f.eb + f.mb) - 1

/-- Round `m * 2^e` to a multiple of `2^q`, to nearest, ties to even (R77). -/
def roundAt (m : Nat) (e q : Int) : Nat :=
  if q ≤ e then m * 2 ^ (e - q).toNat
  else
    let k := (q - e).toNat
    let n := m / 2 ^ k
    let r := m % 2 ^ k
    let h := 2 ^ (k - 1)
    if h < r ∨ (r = h ∧ n % 2 = 1) then n + 1 else n

/-- Magnitude code of `m * 2^e` in `f`, rounded to nearest, ties to even, subnormals kept (R77, R80); it lies above
`maxCode` when the rounded magnitude overflows. -/
def FFmt.magCode (f : FFmt) (m : Nat) (e : Int) : Nat :=
  if m = 0 then 0
  else
    let qmin : Int := 1 - f.bias - f.mb
    let q := max qmin ((m.log2 : Int) + e - f.mb)
    let n := roundAt m e q
    -- fields and hidden bit add up: a carry out of the mantissa moves into the exponent field
    (q - qmin).toNat * 2 ^ f.mb + n

/-- The sign bit of a code. -/
def FFmt.signBit (f : FFmt) (neg : Bool) : Nat := b2n neg * 2 ^ (f.eb + f.mb)

/-- The canonical quiet NaN (R78); formats without NaN give 0. -/
def FFmt.nanCode (f : FFmt) : Nat :=
  match f.special with
  | .ieee => (2 ^ f.eb - 1) * 2 ^ f.mb + 2 ^ (f.mb - 1)
  | .nanOnly => 2 ^ (f.eb + f.mb) - 1
  | .finite => 0

/-- The Inf code of an IEEE format. -/
def FFmt.infCode (f : FFmt) : Nat := (2 ^ f.eb - 1) * 2 ^ f.mb

/-- Arithmetic result: round to nearest, ties to even; overflow gives Inf (IEEE 754, R81). -/
def FFmt.round (f : FFmt) : Val → Nat
  | .nan => f.nanCode
  | .inf n => f.signBit n + f.infCode
  | .fin n m e =>
    let c := f.magCode m e
    f.signBit n + (if f.maxCode < c then f.infCode else c)

/-- Outcome of a conversion: the code, whether the element counts as clipped (R78), whether it was a NaN. -/
structure Conv where
  code : Nat
  clipped : Bool := false
  nan : Bool := false
deriving DecidableEq, Repr

/-- Conversion to a floating format: round, then saturate (R77, R78). -/
def FFmt.conv (f : FFmt) : Val → Conv
  | .nan => { code := f.nanCode, nan := true }
  | .inf n =>
    if f.special = .ieee then { code := f.signBit n + f.infCode }
    else { code := f.signBit n + f.maxCode, clipped := true }
  | .fin n m e =>
    let c := f.magCode m e
    if f.maxCode < c then { code := f.signBit n + f.maxCode, clipped := true }
    else { code := f.signBit n + c }

/-- Conversion to an integer in [lo, hi] (R77, R78): a NaN gives 0, a value outside saturates and is clipped. -/
def convInt (lo hi : Int) : Val → Int × Bool × Bool
  | .nan => (0, false, true)
  | .inf n => (if n then lo else hi, true, false)
  | .fin n m e =>
    let r : Int := if n then - (roundAt m e 0 : Int) else roundAt m e 0
    if hi < r then (hi, true, false) else if r < lo then (lo, true, false) else (r, false, false)

/-- Range of an integer target (R65, R78): symmetric for signed formats. -/
def Fmt.intRange : Fmt → Option (Int × Int)
  | .int8 => some (-127, 127) | .int4 => some (-7, 7) | .mxint8 => some (-127, 127)
  | .int32 => some (-2147483647, 2147483647) | .int16 => some (-32767, 32767)
  | .uint16 => some (0, 65535) | .uint32 => some (0, 4294967295)
  | _ => none

/-- Floating description of a format. -/
def Fmt.float : Fmt → Option FFmt
  | .e4m3 => some fE4M3 | .e5m2 => some fE5M2 | .e3m2 => some fE3M2 | .e2m3 => some fE2M3 | .e2m1 => some fE2M1
  | .bf16 => some fBF16 | .fp16 => some fFP16 | .fp32 => some fFP32
  | _ => none

/-- Value of an element code without its scale (Table Numbers-2, R65). -/
def Fmt.decode (f : Fmt) (c : Nat) : Val :=
  match f.float with
  | some ff => ff.decode c
  | none =>
    match f with
    | .uint16 | .uint32 => .fin false (c % 2 ^ f.bits) 0
    | .mxint8 => let i := sext 8 c; .fin (decide (i < 0)) i.natAbs (-6)
    | _ => let i := sext f.bits c; .fin (decide (i < 0)) i.natAbs 0

/-- Conversion of one element to a format without block scale (R77, R78). -/
def Fmt.conv (f : Fmt) (v : Val) : Conv :=
  match f.float with
  | some ff => ff.conv v
  | none =>
    match f.intRange with
    | some (lo, hi) =>
      let (i, c, n) := convInt lo hi v
      { code := toBits f.bits i, clipped := c, nan := n }
    | none => { code := 0 }

/-! ### Exact operations -/

/-- Sign of a value; NaN counts as positive. -/
def Val.neg? : Val → Bool
  | .nan => false
  | .inf n => n
  | .fin n _ _ => n

/-- Multiply by a power of two, exactly. -/
def Val.scale (v : Val) (k : Int) : Val :=
  match v with
  | .fin n m e => .fin n m (e + k)
  | v => v

def Val.negate : Val → Val
  | .nan => .nan
  | .inf n => .inf (!n)
  | .fin n m e => .fin (!n) m e

/-- Exact product; Inf times zero is NaN. -/
def Val.mul : Val → Val → Val
  | .nan, _ | _, .nan => .nan
  | .inf a, .inf b => .inf (xor a b)
  | .inf a, .fin b m _ | .fin b m _, .inf a => if m = 0 then .nan else .inf (xor a b)
  | .fin a m e, .fin b n f => .fin (xor a b) (m * n) (e + f)

/-- Exact sum; Inf minus Inf is NaN; an exact zero sum is +0 unless both terms are -0 (IEEE 754). -/
def Val.add : Val → Val → Val
  | .nan, _ | _, .nan => .nan
  | .inf a, .inf b => if a = b then .inf a else .nan
  | .inf a, .fin _ _ _ | .fin _ _ _, .inf a => .inf a
  | .fin a m e, .fin b n f =>
    let g := min e f
    let x : Int := (m * 2 ^ (e - g).toNat : Nat)
    let y : Int := (n * 2 ^ (f - g).toNat : Nat)
    let z := (if a then -x else x) + (if b then -y else y)
    if z = 0 then .fin (a && b) 0 g else .fin (decide (z < 0)) z.natAbs g

/-- Order on values that are not NaN; zeros are equal. -/
def Val.lt (a b : Val) : Bool :=
  match a, b with
  | .nan, _ | _, .nan => false
  | .inf x, .inf y => x && !y
  | .inf x, .fin _ _ _ => x
  | .fin _ _ _, .inf y => !y
  | a, b =>
    match Val.add a (Val.negate b) with
    | .fin s m _ => s && m != 0
    | _ => false

/-- FP32 rounding of an exact result (R81: subnormals kept, R80). -/
def fp32 (v : Val) : Val := fFP32.decode (fFP32.round v)

/-- FP32 rounding of a Mortise addition: a subnormal result is flushed to zero of the same sign (R71). -/
def fp32Flush (v : Val) : Val :=
  match fp32 v with
  | .fin n m e => if m < 2 ^ 23 then .fin n 0 e else .fin n m e
  | v => v

/-- Fused multiply-add with one rounding (R76, R81). -/
def fma32 (a b c : Val) : Val := fp32 ((a.mul b).add c)

/-- Quotient bits with a sticky bit, enough for one correct rounding to FP32. -/
def divMag (m n : Nat) : Nat × Int :=
  let k := 64 + n.log2
  let q := m * 2 ^ k / n
  let s := if m * 2 ^ k % n = 0 then 0 else 1
  (2 * q + s, -(k : Int) - 1)

/-- FP32 division, correctly rounded (R81). -/
def div32 : Val → Val → Val
  | .nan, _ | _, .nan => .nan
  | .inf _, .inf _ => .nan
  | .inf a, .fin b _ _ => .inf (xor a b)
  | .fin a _ _, .inf b => .fin (xor a b) 0 0
  | .fin a m e, .fin b n f =>
    if n = 0 then (if m = 0 then .nan else .inf (xor a b))
    else let (q, k) := divMag m n; fp32 (.fin (xor a b) q (e - f + k))

/-- Integer square root by bits: `fuel` bits from the top. -/
def isqrtBits : Nat → Nat → Nat → Nat
  | 0, _, r => r
  | k + 1, n, r =>
    let t := r + 2 ^ k
    isqrtBits k n (if t * t ≤ n then t else r)

/-- FP32 square root, correctly rounded (R81). A negative operand other than -0 gives NaN. -/
def sqrt32 : Val → Val
  | .nan => .nan
  | .inf n => if n then .nan else .inf false
  | .fin n m e =>
    if m = 0 then .fin n 0 e
    else if n then .nan
    else
      let e2 := e - 128
      let e3 := if e2 % 2 = 0 then e2 else e2 - 1
      let x := m * 2 ^ (e - e3).toNat
      let r := isqrtBits (x.log2 / 2 + 1) x 0
      let s := if r * r = x then 0 else 1
      fp32 (.fin false (2 * r + s) (e3 / 2 - 1))

/-- FP32 minimum and maximum; a NaN operand gives NaN, and of +0 and -0 the first operand is taken: the manual is silent on both
(log entry 28). -/
def min32 (a b : Val) : Val := if a = .nan ∨ b = .nan then .nan else if b.lt a then b else a
def max32 (a b : Val) : Val := if a = .nan ∨ b = .nan then .nan else if a.lt b then b else a

/-- Value of an FP32 code. -/
def ofFP32 (c : Nat) : Val := fFP32.decode c

/-- FP32 code of a value. -/
def toFP32 (v : Val) : Nat := fFP32.round v

/-- An integer as a value. -/
def ofInt (i : Int) : Val := .fin (decide (i < 0)) i.natAbs 0

/-! ### MX blocks (R64, R79) -/

/-- Value of an MX element with its block's scale byte (R64). -/
def mxDecode (f : Fmt) (scale code : Nat) : Val :=
  if scale = 0xFF then .nan else (f.decode code).scale ((scale : Int) - 127)

/-- `e_max` of R79. -/
def Fmt.emax : Fmt → Int
  | .e4m3 => 8 | .e5m2 => 15 | .e3m2 => 4 | .e2m3 => 2 | .e2m1 => 2 | _ => 0

/-- floor(log2 |v|) of a nonzero finite value. -/
def Val.log2 : Val → Int
  | .fin _ m e => (m.log2 : Int) + e
  | _ => 0

/-- Largest magnitude in a list of finite values. -/
def maxMag (vs : List Val) : Val :=
  vs.foldl (fun a v => let w := (match v with | .fin _ m e => Val.fin false m e | x => x); if a.lt w then w else a)
    (.fin false 0 0)

/-- An encoded block: scale byte, element codes, which elements clipped, elements counted in NONFINITE_IN. -/
structure MXBlock where
  scale : Nat
  codes : List Nat
  clips : List Bool
  nonfinite : Nat
deriving DecidableEq, Repr

/-- Plane encodes one MX block (R79). -/
def mxEncode (f : Fmt) (vs : List Val) : MXBlock :=
  if vs.any (fun v => match v with | .fin _ _ _ => false | _ => true) then
    { scale := 0xFF, codes := vs.map (fun _ => 0), clips := vs.map (fun _ => false), nonfinite := vs.length }
  else
    match maxMag vs with
    | .fin _ 0 _ => { scale := 0, codes := vs.map (fun _ => 0), clips := vs.map (fun _ => false), nonfinite := 0 }
    | a =>
      let e := max (-127) (min 127 (a.log2 - f.emax))
      let cs := vs.map (fun v =>
        let w := v.scale (-e)
        if f = .mxint8 then f.conv (w.scale 6) else f.conv w)
      { scale := (e + 127).toNat, codes := cs.map Conv.code, clips := cs.map Conv.clipped, nonfinite := 0 }

/-! ### Sums in an unspecified order (R71, R82) -/

/-- Element `i` of a list and the list without it. -/
def pluck {α : Type} : List α → Nat → Option (α × List α)
  | [], _ => none
  | a :: l, 0 => some (a, l)
  | a :: l, i + 1 => (pluck l i).map (fun (b, l') => (b, a :: l'))

/-- Sum a list by adding two of its entries at a time, the pair chosen by the free function `Config.sumPick`: any order and
any grouping of the additions can come about. `op` is one addition with its rounding. -/
def sumTree {α : Type} (zero : α) (op : α → α → α) (seed : Nat) : Nat → List α → α
  | _, [] => zero
  | _, [v] => v
  | 0, v :: _ => v
  | fuel + 1, l =>
    match pluck l (Config.sumPick seed (2 * fuel) % l.length) with
    | none => zero
    | some (a, l1) =>
      match pluck l1 (Config.sumPick seed (2 * fuel + 1) % l1.length) with
      | none => a
      | some (b, l2) => sumTree zero op seed fuel (op a b :: l2)

/-- Seed of the `k`-th sum made with a free counter value. -/
def subSeed (seed k : Nat) : Nat := seed * 2 ^ 64 + k

/-- +0. -/
def zeroVal : Val := .fin false 0 0

/-- Sum in FP32 with flushing, as Mortise makes it (R71). -/
def mortiseSum (seed : Nat) (l : List Val) : Val :=
  fp32Flush (sumTree zeroVal (fun a b => fp32Flush (a.add b)) seed l.length l)

/-! ### Plane's arithmetic with the count of the NaNs that it makes (R81, R90) -/

/-- A value of Plane, and how many operations on the way gave a NaN from operands that were none (NAN_MADE). -/
structure PVal where
  v : Val
  made : Nat := 0
deriving DecidableEq, Repr

/-- One operation of Plane on one, two or three operands. -/
def PVal.op1 (f : Val → Val) (a : PVal) : PVal := { v := f a.v, made := a.made + b2n (f a.v == .nan && a.v != .nan) }

/-- Two operands. -/
def PVal.op2 (f : Val → Val → Val) (a b : PVal) : PVal :=
  { v := f a.v b.v, made := a.made + b.made + b2n (f a.v b.v == .nan && a.v != .nan && b.v != .nan) }

/-- Three operands. -/
def PVal.op3 (f : Val → Val → Val → Val) (a b c : PVal) : PVal :=
  { v := f a.v b.v c.v
    made := a.made + b.made + c.made + b2n (f a.v b.v c.v == .nan && a.v != .nan && b.v != .nan && c.v != .nan) }

/-- Sum in Plane's FP32, in an order that is not specified (R81, R82). -/
def planeSumP (seed : Nat) (l : List PVal) : PVal :=
  PVal.op1 fp32 (sumTree { v := zeroVal } (PVal.op2 (fun a b => fp32 (a.add b))) seed l.length l)

/-- Value of such a sum. -/
def planeSum (seed : Nat) (l : List Val) : Val := (planeSumP seed (l.map (fun v => { v := v }))).v

/-- Truncate a raw integer sum by PSHIFT toward zero (R74). -/
def pshift (k : Nat) (p : Int) : Int := if p < 0 then -((p.natAbs / 2 ^ k : Nat) : Int) else (p.natAbs / 2 ^ k : Nat)

/-- Saturate to INT32 (R75). -/
def satInt32 (i : Int) : Int × Bool :=
  if 2147483647 < i then (2147483647, true) else if i < -2147483648 then (-2147483648, true) else (i, false)

/-- Requantization y = (A * 2^PSHIFT * M) + B in FP32 (R76). An INT32 accumulator converts to FP32 first. -/
def requant (k : Nat) (a m b : Val) : Val := fma32 ((fp32 a).scale k) m b

/-- Requantization as an operation of Plane. -/
def requantP (k : Nat) (a : PVal) (m b : Val) : PVal := PVal.op3 (requant k) a { v := m } { v := b }

/-- Formats Mortise multiplies (Table Numbers-3). -/
def mortisePair (a w : Fmt) : Bool :=
  match a with
  | .int8 => w = .int8 || w = .int4
  | .int4 => w = .int4
  | .mxint8 | .e4m3 | .e5m2 | .e3m2 | .e2m3 | .e2m1 => w.isMX
  | .bf16 => w = .bf16 || w.isMX || w.isChan
  | .fp16 => w = .fp16
  | _ => false

/-- Conversion of a narrower operand to BF16 before multiplying (R72): exact but for values below BF16's subnormal range,
which become zero of the same sign. -/
def toBF16 (v : Val) : Val :=
  match v with
  | .fin n m e => if m ≠ 0 ∧ (m.log2 : Int) + e < -133 then .fin n 0 e else v
  | v => v

end Sys2Proof.Machine
end

