-- ==== Sys2Proof/Machine/Tile.lean ====
section
/-! DEFINITION. Tiles: a block of element codes in one format with its scales, its packing into Loft lines (01 R20 to R24,
02 R66 to R68), and conversions of whole tiles (02 R76 to R79). -/

namespace Sys2Proof.Machine

/-- The flags PADDED, CUT, OVERRUN, SEAM and RERUN that R24 combines. -/
structure Flags where
  padded : Bool := false
  cut : Bool := false
  overrun : Bool := false
  seam : Bool := false
  rerun : Bool := false
deriving DecidableEq, Repr

/-- Logical OR of the flags of all inputs (R24). -/
def Flags.or (a b : Flags) : Flags :=
  ⟨a.padded || b.padded, a.cut || b.cut, a.overrun || b.overrun, a.seam || b.seam, a.rerun || b.rerun⟩

/-- The data of a tile: `h` rows, `w` columns, `c` channels, its LAYOUT, its first row and column in the full tensor,
its element codes in the order of the layout, and its scales: E8M0 bytes of MX blocks or FP32 codes of channels. -/
structure Tile where
  fmt : Fmt
  h : Nat
  w : Nat
  c : Nat
  layout : Nat := 0
  oy : Nat := 0
  ox : Nat := 0
  codes : List Nat
  scales : List Nat := []
deriving DecidableEq, Repr

/-- Number of elements. -/
def Tile.size (t : Tile) : Nat := t.h * t.w * t.c

/-- Place of element (y, x, ch) in the order of LAYOUT: 0 row, column, channel; 1 channel, row, column; 2 packed matrix
rows (Table Stations-2). -/
def Tile.index (t : Tile) (y x ch : Nat) : Nat :=
  if t.layout = 1 then (ch * t.h + y) * t.w + x else (y * t.w + x) * t.c + ch

/-- Scale of element `i`: of its MX block (R68) or of its channel (R67; a matrix row is a channel under LAYOUT 2). -/
def Tile.scaleAt (t : Tile) (i : Nat) : Nat :=
  if t.fmt.isMX then t.scales.getD (i / 32) 127
  else if t.fmt.isChan then
    t.scales.getD (if t.layout = 1 then i / (t.h * t.w) else if t.layout = 2 then i / (t.w * t.c) else i % t.c) 0x3F800000
  else 0

/-- An element: its code and the scale that belongs to it. `bf`: the code is BF16, because its tile was re-run in place of the
narrower format of its operand (02 R84, R87). -/
structure Elem where
  code : Nat
  scale : Nat := 0
  bf : Bool := false
deriving DecidableEq, Repr

/-- Element (y, x, ch) of a tile; positions are relative to the tile. -/
def Tile.elem (t : Tile) (y x ch : Nat) : Elem :=
  let i := t.index y x ch
  { code := t.codes.getD i 0, scale := t.scaleAt i }

/-- Exact value of an element without a channel scale: MX elements with their block scale, integers as codes (R64, R70). -/
def elemRaw (f : Fmt) (e : Elem) : Val :=
  if e.bf then fBF16.decode e.code else if f.isMX then mxDecode f e.scale e.code else f.decode e.code

/-- An element as Plane takes it, with its scale; the product q * s_c is an FP32 multiplication (03 R109, 02 R65). A
value that FP32 cannot hold is rounded or becomes infinite (log entry 102). -/
def elemP (f : Fmt) (e : Elem) : PVal :=
  if f.isChan && !e.bf then PVal.op2 (fun a b => fp32 (a.mul b)) { v := f.decode e.code } { v := ofFP32 e.scale }
  else { v := fp32 (elemRaw f e) }

/-- FP32 value of an element with its scale. -/
def elemFP32 (f : Fmt) (e : Elem) : Val := (elemP f e).v

/-- Number of scales of a tile. -/
def scaleCount (f : Fmt) (h w c layout : Nat) : Nat :=
  if f.isMX then cdiv (h * w * c) 32 else if f.isChan then (if layout = 2 then h else c) else 0

/-- Lines that scales occupy (R67). -/
def scaleLines (f : Fmt) (h w c layout : Nat) : Nat :=
  let n := scaleCount f h w c layout
  if f.isMX then cdiv n 64 else if f.isChan then cdiv (n * 4) 64 else 0

/-- LEN_LINES of a tile (01 R21, 02 R67). -/
def tileLines (f : Fmt) (h w c layout : Nat) : Nat := cdiv (h * w * c * f.bits) 512 + scaleLines f h w c layout

def Tile.lines (t : Tile) : Nat := tileLines t.fmt t.h t.w t.c t.layout

/-- Elements as one little-endian bit stream (R66). -/
def packCodes (b : Nat) : List Nat → Nat
  | [] => 0
  | c :: cs => c % 2 ^ b + 2 ^ b * packCodes b cs

/-- The bytes of a tile's lines: the element stream filled to a line, then the scales filled to a line (R66, R67). -/
def Tile.pack (t : Tile) : List Byte :=
  let el := cdiv (t.size * t.fmt.bits) 512
  let sl := scaleLines t.fmt t.h t.w t.c t.layout
  toBytes (el * 64) (packCodes t.fmt.bits t.codes) ++ toBytes (sl * 64) (packCodes (if t.fmt.isMX then 8 else 32) t.scales)

/-- Elements out of a bit stream. -/
def unpackCodes (b : Nat) : Nat → Nat → List Nat
  | 0, _ => []
  | k + 1, n => n % 2 ^ b :: unpackCodes b k (n / 2 ^ b)

/-- Read a tile's elements and scales out of the bytes of its lines. -/
def unpackTile (f : Fmt) (h w c layout oy ox : Nat) (bs : List Byte) : Tile :=
  let n := ofBytes bs
  let el := cdiv (h * w * c * f.bits) 512
  { fmt := f, h := h, w := w, c := c, layout := layout, oy := oy, ox := ox,
    codes := unpackCodes f.bits (h * w * c) n,
    scales := unpackCodes (if f.isMX then 8 else 32) (scaleCount f h w c layout) (n / 2 ^ (el * 512)) }

/-- A tile of zeros (R22). -/
def zeroTile (f : Fmt) (h w c layout oy ox : Nat) : Tile :=
  { fmt := f, h := h, w := w, c := c, layout := layout, oy := oy, ox := ox,
    codes := List.replicate (h * w * c) 0, scales := List.replicate (scaleCount f h w c layout) 0 }

/-- Tile `t` holds position (y, x, ch) of the full tensor. -/
def Tile.holds (t : Tile) (y x ch : Nat) : Bool :=
  decide (t.oy ≤ y ∧ y < t.oy + t.h ∧ t.ox ≤ x ∧ x < t.ox + t.w ∧ ch < t.c)

/-- An element of a tile as an element of an operand of format `f`: marked where the tile is a BF16 re-run (02 R87). -/
def Tile.elemAs (t : Tile) (f : Fmt) (y x ch : Nat) : Elem := { t.elem y x ch with bf := t.fmt == .bf16 && f != .bf16 }

/-- Element at full-tensor position (y, x) among the tiles that hold an operand of format `f`, if one holds it. -/
def findElem (f : Fmt) (ts : List Tile) (y x ch : Nat) : Option Elem :=
  (ts.find? (fun t => t.holds y x ch)).map (fun t => t.elemAs f (y - t.oy) (x - t.ox) ch)

/-- What a tile conversion counted: which elements clipped (R78), elements for NONFINITE_IN (R78, R79). -/
structure ConvCount where
  clips : List Bool := []
  nonfinite : Nat := 0
deriving DecidableEq, Repr

/-- Number of clipped elements. -/
def ConvCount.clipped (c : ConvCount) : Nat := (c.clips.filter id).length

/-- Counts of two conversions together. -/
def ConvCount.add (a b : ConvCount) : ConvCount := { clips := a.clips ++ b.clips, nonfinite := a.nonfinite + b.nonfinite }

/-- Split a list into runs of 32 elements. -/
def chunks32 : Nat → List Val → List (List Val)
  | 0, _ => []
  | k + 1, l => if l.isEmpty then [] else l.take 32 :: chunks32 k (l.drop 32)

/-- Convert the FP32 values of a tile, in layout order, to its output format (R77 to R79). Integer channel formats take the
value in code units when `scales` is empty (R76) and divide it by the channel scale otherwise (03 R121). -/
def convertTile (t : Tile) (vs : List Val) (divide : Bool) : Tile × ConvCount :=
  if t.fmt.isMX then
    let bs := (chunks32 vs.length vs).map (mxEncode t.fmt)
    ({ t with codes := bs.flatMap MXBlock.codes, scales := bs.map MXBlock.scale },
     { clips := bs.flatMap MXBlock.clips, nonfinite := (bs.map MXBlock.nonfinite).sum })
  else
    let cs := vs.zipIdx.map (fun (v, i) =>
      t.fmt.conv (if divide && t.fmt.isChan then div32 v (ofFP32 (t.scaleAt i)) else v))
    ({ t with codes := cs.map Conv.code },
     { clips := cs.map Conv.clipped, nonfinite := (cs.filter Conv.nan).length })

/-- FP32 values of all elements of a tile in layout order, scales applied. -/
def Tile.values (t : Tile) : List Val := t.codes.zipIdx.map (fun (c, i) => elemFP32 t.fmt { code := c, scale := t.scaleAt i })

/-- A tile descriptor (Table Stations-2). -/
structure TileDesc where
  line : Nat := 0
  fmt : Nat := 0
  region : Nat := 0
  h : Nat := 1
  w : Nat := 1
  c : Nat := 1
  layout : Nat := 0
  seq : Nat := 0
  ctx : Nat := 0
  slot : Nat := 0
  poison : Bool := false
  flags : Flags := {}
  last : Bool := false
  skipped : Bool := false
  reason : Nat := 0
  oy : Nat := 0
  ox : Nat := 0
  lenLines : Nat := 0
deriving DecidableEq, Repr

/-- The 32 bytes of a descriptor (Table Stations-2). -/
def TileDesc.encode (d : TileDesc) : List Byte :=
  let f := d.flags
  toBytes 4 (d.line % 2 ^ 20 + d.fmt % 16 * 2 ^ 20 + d.region % 256 * 2 ^ 24) ++
    toBytes 4 ((d.h - 1) % 4096 + (d.w - 1) % 4096 * 2 ^ 12) ++
    toBytes 4 ((d.c - 1) % 65536 + d.layout % 4 * 2 ^ 16) ++ toBytes 4 d.seq ++
    toBytes 4 (d.ctx % 16384 + d.slot % 64 * 2 ^ 14) ++
    toBytes 4 (b2n d.poison + 2 * b2n f.rerun + 4 * b2n f.padded + 8 * b2n f.cut + 16 * b2n f.overrun + 32 * b2n f.seam
      + 64 * b2n d.last + 128 * b2n d.skipped + d.reason % 65536 * 2 ^ 16) ++
    toBytes 4 (d.oy % 65536 + d.ox % 65536 * 2 ^ 16) ++ toBytes 4 (d.lenLines % 2 ^ 20)

/-- The descriptor that 32 bytes hold. -/
def TileDesc.decode (bs : List Byte) : TileDesc :=
  let dw := fun k => ofBytes ((bs.drop (4 * k)).take 4)
  { line := bits (dw 0) 0 20, fmt := bits (dw 0) 20 4, region := bits (dw 0) 24 8, h := bits (dw 1) 0 12 + 1,
    w := bits (dw 1) 12 12 + 1, c := bits (dw 2) 0 16 + 1, layout := bits (dw 2) 16 2, seq := dw 3, ctx := bits (dw 4) 0 14,
    slot := bits (dw 4) 14 6, poison := bit (dw 5) 0,
    flags := { rerun := bit (dw 5) 1, padded := bit (dw 5) 2, cut := bit (dw 5) 3, overrun := bit (dw 5) 4, seam := bit (dw 5) 5 },
    last := bit (dw 5) 6, skipped := bit (dw 5) 7, reason := bits (dw 5) 16 16, oy := bits (dw 6) 0 16, ox := bits (dw 6) 16 16,
    lenLines := bits (dw 7) 0 20 }

end Sys2Proof.Machine
end

