-- ==== Sys2Proof/Machine/Conv.lean ====
section
/-! DEFINITION. Window operators: geometry, Scribe's expansion and regrouping, Mortise's passes, Plane's depthwise
products, and Auger's crop-and-resize (03 R91 to R122). -/

namespace Sys2Proof.Machine

/-- Parameters of a window operator (Table Convolution-1). -/
structure Win where
  kh : Nat := 1
  kw : Nat := 1
  sh : Nat := 1
  sw : Nat := 1
  dh : Nat := 1
  dw : Nat := 1
  pt : Nat := 0
  pb : Nat := 0
  pl : Nat := 0
  pr : Nat := 0
  g : Nat := 1
  padCode : Nat := 0
  padScale : Nat := 0
  mode : Nat := 0
  f : Nat := 2
  transpose : Bool := false
  outExtra : Nat := 0
  cropB : Nat := 0
  cropR : Nat := 0
deriving DecidableEq, Repr

/-- Effective kernel extent along an axis (R92). -/
def extent (k d : Nat) : Nat := d * (k - 1) + 1

/-- Output length along an axis (R92); none when the padded input is shorter than the kernel. -/
def outLen (i k s d lo hi : Nat) : Option Nat :=
  if i + lo + hi < extent k d then none else some ((i + lo + hi - extent k d) / s + 1)

/-- Input position of tap `t` of output position `o` (R93). -/
def tapPos (o s lo t d : Nat) : Int := (o * s : Nat) - (lo : Int) + (t * d : Nat)

/-- Output length of MODE 3 along an axis (R114). -/
def outLenT (o k s d lo hi extra : Nat) : Int :=
  ((o : Int) - 1) * s - lo - hi + extent k d + extra

/-- What a window tap holds: an element read from a tile, the pad code, or an inserted zero (R93, R95, R114). -/
inductive Tap where
  | elem (e : Elem)
  | pad
  | zero
deriving DecidableEq, Repr

/-- The input of a window operator: the tiles that hold it and its full extents. -/
structure WinIn where
  tiles : List Tile
  fmt : Fmt
  h : Nat
  w : Nat
  c : Nat
deriving DecidableEq, Repr

/-- Scale of a padding tap (R93): PAD_SCALE for an MX input, the scale of the channel for INT8 and INT4, taken from the first tile that
holds data in that format (log entry 29). -/
def WinIn.padScale (x : WinIn) (p : Win) (ch : Nat) : Nat :=
  if x.fmt.isMX then p.padScale
  else match x.tiles.find? (fun t => t.fmt == x.fmt && !t.scales.all (· == 0)) with
    | none => 0
    | some t => (t.elem 0 0 ch).scale

/-- Element of the input, or the pad code outside it. -/
def WinIn.at (x : WinIn) (y z : Int) (ch : Nat) : Tap :=
  if 0 ≤ y ∧ y < x.h ∧ 0 ≤ z ∧ z < x.w then
    .elem ((findElem x.fmt x.tiles y.toNat z.toNat ch).getD { code := 0 })
  else .pad

/-- Extents of the tensor that the windows run over: the input (MODE 0), the regrouped tensor (MODE 1 and 2, R102), or
the zero-inserted sequence (MODE 3, R114). -/
def viewDims (x : WinIn) (p : Win) : Nat × Nat × Nat :=
  if p.mode = 1 then (cdiv x.h p.f, cdiv x.w p.f, x.c * p.f * p.f)
  else if p.mode = 2 then (x.h * p.f - p.cropB, x.w * p.f - p.cropR, x.c / (p.f * p.f))
  else if p.mode = 3 then ((x.h - 1) * p.sh + 1, (x.w - 1) * p.sw + 1, x.c)
  else (x.h, x.w, x.c)

/-- Tap at position (y, z, ch) of that tensor. -/
def viewAt (x : WinIn) (p : Win) (y z : Int) (ch : Nat) : Tap :=
  let (vh, vw, vc) := viewDims x p
  if y < 0 ∨ (vh : Int) ≤ y ∨ z < 0 ∨ (vw : Int) ≤ z then .pad
  else if p.mode = 1 then
    let q := ch / x.c
    x.at (y * p.f + (q / p.f : Nat)) (z * p.f + (q % p.f : Nat)) (ch % x.c)
  else if p.mode = 2 then
    let yy := y.toNat; let zz := z.toNat
    x.at (yy / p.f : Nat) (zz / p.f : Nat) ((yy % p.f * p.f + zz % p.f) * vc + ch)
  else if p.mode = 3 then
    if y.toNat % p.sh = 0 ∧ z.toNat % p.sw = 0 then x.at (y.toNat / p.sh : Nat) (z.toNat / p.sw : Nat) ch else .zero
  else x.at y z ch

/-- Stride and low padding of the windows along (height, width): MODE 3 is a stride-1 convolution with its own padding,
which may be negative (R114). -/
def viewStep (p : Win) : (Nat × Int) × (Nat × Int) :=
  if p.mode = 3 then
    ((1, (extent p.kh p.dh : Int) - 1 - p.pt), (1, (extent p.kw p.dw : Int) - 1 - p.pl))
  else ((p.sh, p.pt), (p.sw, p.pl))

/-- Output height and width of the operator (R92 over the regrouped tensor, R114 for MODE 3). -/
def viewOut (x : WinIn) (p : Win) : Nat × Nat :=
  if p.mode = 3 then
    ((outLenT x.h p.kh p.sh p.dh p.pt p.pb p.outExtra).toNat, (outLenT x.w p.kw p.sw p.dw p.pl p.pr p.outExtra).toNat)
  else
    let (vh, vw, _) := viewDims x p
    ((outLen vh p.kh p.sh p.dh p.pt p.pb).getD 0, (outLen vw p.kw p.sw p.dw p.pl p.pr).getD 0)

/-- Element that a tap puts into a Kerf row. -/
def Tap.fill (x : WinIn) (p : Win) (ch : Nat) : Tap → Elem
  | .elem e => e
  | .pad => { code := p.padCode, scale := x.padScale p ch }
  | .zero => { code := 0, scale := 0 }

/-- Channel of the input that channel `ch` of the window's tensor shows at (y, z) (R102); a padding tap replaces an element of it (R93). -/
def sourceChan (x : WinIn) (p : Win) (y z : Int) (ch : Nat) : Nat :=
  if p.mode = 1 then ch % x.c
  else if p.mode = 2 then ((y % p.f).toNat * p.f + (z % p.f).toNat) * (x.c / (p.f * p.f)) + ch
  else ch

/-- Position of tap (ky, kx) of output position (oy, ox) in the window's tensor (R93). -/
def windowPos (p : Win) (oy ox ky kx : Nat) : Int × Int :=
  let ((sh, ph), (sw, pw)) := viewStep p
  ((oy * sh : Nat) - ph + (ky * p.dh : Nat), (ox * sw : Nat) - pw + (kx * p.dw : Nat))

/-- Tap (ky, kx) of channel `ch` of output position (oy, ox). -/
def windowTap (x : WinIn) (p : Win) (oy ox ky kx ch : Nat) : Tap :=
  let (y, z) := windowPos p oy ox ky kx
  viewAt x p y z ch

/-- Element at (y, z) of channel `ch` of the window's tensor. -/
def viewElem (x : WinIn) (p : Win) (y z : Int) (ch : Nat) : Elem := (viewAt x p y z ch).fill x p (sourceChan x p y z ch)

/-- Element that tap (ky, kx) of channel `ch` of output position (oy, ox) puts into the Kerf row. -/
def windowElem (x : WinIn) (p : Win) (oy ox ky kx ch : Nat) : Elem :=
  let (y, z) := windowPos p oy ox ky kx
  viewElem x p y z ch

/-- One Kerf row of group `gi`: element (ky * KW + kx) * C_g + c is tap (ky, kx) of channel g * C_g + c (R96). -/
def kerfRow (x : WinIn) (p : Win) (gi oy ox : Nat) : List Elem :=
  let cg := (viewDims x p).2.2 / p.g
  (List.range (p.kh * p.kw)).flatMap (fun k =>
    (List.range cg).map (fun c => windowElem x p oy ox (k / p.kw) (k % p.kw) (gi * cg + c)))

/-- Taps of one output position of one group that are written without a fetch (R95, PAD_TAPS): input positions, of which a tap of a
MODE 1 tensor has F x F (log entry 35). -/
def padTaps (x : WinIn) (p : Win) (gi oy ox : Nat) : Nat :=
  let cg := (viewDims x p).2.2 / p.g
  let chans := rangeFrom (gi * cg) cg
  let subs := if p.mode = 1 then (chans.map (fun c => c / x.c * x.c)).eraseDups else [gi * cg]
  ((List.range (p.kh * p.kw)).flatMap (fun k => subs.filter (fun c =>
    match windowTap x p oy ox (k / p.kw) (k % p.kw) (max c (gi * cg)) with | .elem _ => false | _ => true))).length

/-- Output positions of rows `a` to `a + n - 1`, in row-major order. -/
def bandPositions (a n ow : Nat) : List (Nat × Nat) :=
  (List.range (n * ow)).map (fun i => (a + i / ow, i % ow))

/-- Output rows of the bent in position `i` of `k` (R110): first row and row count. -/
def bandRows (o k i : Nat) : Nat × Nat := (i * o / k, (i + 1) * o / k - i * o / k)

/-- Input rows that output rows `a` to `b` need along an axis (R111). -/
def haloRows (a b s lo e : Nat) : Int × Int := ((a * s : Nat) - (lo : Int), (b * s : Nat) - (lo : Int) + e - 1)

/-- Places (row, column, channel) of a shape in the order of its LAYOUT. -/
def Tile.places (t : Tile) : List (Nat × Nat × Nat) :=
  (List.range t.size).map (fun i =>
    if t.layout = 1 then (i / t.w % t.h, i % t.w, i / (t.h * t.w)) else (i / (t.w * t.c), i / t.c % t.w, i % t.c))

/-- Regroup alone (R102, MODE 1 or 2 without weights): the part of the regrouped tensor that the empty tile `b` covers, in the input
format and packing, without conversion. Where a BF16 re-run tile is among the inputs the tile is BF16. Scales of INT8 and INT4 are those
of the first position (log entry 34). -/
def regroupTile (x : WinIn) (p : Win) (b : Tile) : Tile :=
  let es := b.places.map (fun (y, z, c) => viewElem x p ((b.oy + y : Nat) : Int) ((b.ox + z : Nat) : Int) c)
  if x.fmt ≠ .bf16 ∧ es.any (·.bf) then
    { b with fmt := .bf16, scales := [], codes := es.map (fun e => if e.bf then e.code else (fBF16.conv (elemRaw x.fmt e)).code) }
  else
    { b with fmt := x.fmt, codes := es.map Elem.code, scales :=
        if x.fmt.isMX then (List.range (cdiv es.length 32)).map (fun i => ((es[32 * i]?).map Elem.scale).getD 0)
        else if x.fmt.isChan then
          (List.range (if b.layout = 2 then b.h else b.c)).map (fun c =>
            (((b.places.zip es).find? (fun q => (if b.layout = 2 then q.1.1 else q.1.2.2) == c)).map (·.2.scale)).getD 0)
        else [] }

/-- Padding positions of a regrouped tile (PAD_TAPS, log entry 35). -/
def regroupPads (x : WinIn) (p : Win) (b : Tile) : Nat :=
  ((b.places.filterMap (fun (y, z, c) =>
    match viewAt x p ((b.oy + y : Nat) : Int) ((b.ox + z : Nat) : Int) c with
    | .elem _ => none
    | _ => some (y, z, c / x.c))).eraseDups).length

/-- An accumulator: its value, and whether an addition of a pass saturated (R75). -/
structure Acc where
  code : Nat
  sat : Bool := false
deriving DecidableEq, Repr

/-- Value of a Mortise operand element: converted to BF16 where the tile runs under the BF16 rows (R72, R87), its exact scaled value
otherwise (R71). DESIGN CHOICE: an FP16 operand beside a BF16 re-run tile is taken at its exact value, since Table Numbers-3 has no such
pair (log entry 101). -/
def operandVal (bf : Bool) (f : Fmt) (e : Elem) : Val := if bf then toBF16 (elemRaw f e) else elemRaw f e

/-- Product sum of one row with one weight column, in passes (R104): integers exactly with PSHIFT and
saturation between passes (R70, R74, R75), the others in FP32 in an unspecified order within and across passes (R71, R73, R89); each
pass starts from +0 (log entry 27). A pass contracts up to `pl` elements: 96 for each array in service, 1,536 with 16. `bf`: the tile runs
under the BF16 rows of Table Numbers-3. -/
def mortiseDot (pl : Nat) (bf : Bool) (fa fw : Fmt) (ps seed : Nat) (row col : List Elem) : Acc :=
  let prs := runsOf pl row.length (row.zip col)
  if fa.isChan ∧ fw.isChan ∧ !bf then
    let step (acc : Option Int × Bool) (run : List (Elem × Elem)) : Option Int × Bool :=
      let p := pshift ps ((run.map (fun (a, w) => sext fa.bits a.code * sext fw.bits w.code)).foldl (· + ·) 0)
      match acc with
      | (none, n) => (some p, n)
      | (some r, n) => let (q, s) := satInt32 (r + p); (some q, n || s)
    let (r, n) := prs.foldl step (none, false)
    { code := toBits 32 (r.getD 0), sat := n }
  else
    let passes := prs.zipIdx.map (fun (run, k) =>
      mortiseSum (subSeed seed (k + 1)) (zeroVal :: run.map (fun (a, w) => (operandVal bf fa a).mul (operandVal bf fw w))))
    { code := toFP32 (mortiseSum (subSeed seed 0) passes) }

/-- Accumulator format of a pair (Table Numbers-3). -/
def accFmt (bf : Bool) (fa fw : Fmt) : Fmt := if fa.isChan ∧ fw.isChan ∧ !bf then .int32 else .fp32

/-- A tile runs under the BF16 rows of Table Numbers-3: an operand is BF16, by its format or because a tile of it was re-run (R72,
R87). -/
def bfRows (fa fw : Fmt) (rows : List (List (List Elem))) : Bool :=
  fa == .bf16 || fw == .bf16 || rows.any (fun g => g.any (fun r => r.any (·.bf)))

/-- Elements of row `r` of a LAYOUT 2 tile. -/
def Tile.row (t : Tile) (r : Nat) : List Elem := (List.range (t.w * t.c)).map (fun i => t.elem r (i / t.c) (i % t.c))

/-- Column of weights for output channel `o` of group `gi`: its row of the weight tile, or, loaded transposed, the elements of column
`o` of the rows of the group with the tap order reversed (R106, R113). `taps` is KH * KW, `cin` the contraction channels per tap of the
group, `coutG` the output channels of a group. -/
def weightCol (wt : Tile) (transposed : Bool) (taps cin coutG gi o : Nat) : List Elem :=
  if transposed then
    let cw := wt.w * wt.c / taps
    (List.range (taps * cin)).map (fun i =>
      let k := taps - 1 - i / cin
      let e := k * cw + o
      wt.elem (gi * cin + i % cin) (e / wt.c) (e % wt.c))
  else wt.row (gi * coutG + o)

/-- The accumulator tile of a Mortise operator over Kerf rows (one list per group), `coutG` output channels a group:
positions by output channels, group-major. Weight rows g * coutG + o belong to group g (R106). -/
def mortiseTile (pl : Nat) (fa : Fmt) (rows : List (List (List Elem))) (wt : Tile) (transposed : Bool) (taps ps seed : Nat)
    (oh ow oy coutG : Nat) : Tile × List Bool :=
  let bf := bfRows fa wt.fmt rows
  let per (p : Nat) : List Acc := rows.zipIdx.flatMap (fun (grp, gi) =>
    let row := grp.getD p []
    (List.range coutG).map (fun o =>
      mortiseDot pl bf fa wt.fmt ps (subSeed seed (p * 2 ^ 24 + gi * coutG + o)) row
        (weightCol wt transposed taps (row.length / taps) coutG gi o)))
  let accs := (List.range (oh * ow)).flatMap per
  ({ fmt := accFmt bf fa wt.fmt, h := oh, w := ow, c := rows.length * coutG, layout := 0, oy := oy,
     codes := accs.map Acc.code }, accs.map Acc.sat)

/-- The weight gradient (R115): output positions are the contraction; element (co, k) is the sum over positions of element k of the
Kerf row of the group of channel co times dY of channel co (R106). -/
def mortiseGrad (pl : Nat) (fa : Fmt) (rows : List (List (List Elem))) (dy : Tile) (ps seed : Nat) : Tile × List Bool :=
  let bf := bfRows fa dy.fmt rows
  let l := ((rows.headD []).headD []).length
  let perGroup := max 1 (dy.c / max 1 rows.length)
  let pos := List.range (dy.h * dy.w)
  let accs := (List.range (dy.c * l)).map (fun i =>
    let co := i / l; let k := i % l
    mortiseDot pl bf fa dy.fmt ps (subSeed seed i)
      (pos.map (fun p => ((rows.getD (co / perGroup) []).getD p []).getD k { code := 0 }))
      (pos.map (fun p => dy.elem (p / dy.w) (p % dy.w) co)))
  ({ fmt := accFmt bf fa dy.fmt, h := dy.c, w := l, c := 1, layout := 2, codes := accs.map Acc.code }, accs.map Acc.sat)

/-- Passes of a tile: streams of positions through one chain against one set of weight blocks (R104). -/
def passCount (pl l cout g : Nat) : Nat := cdiv l pl * cdiv cout 96 * g

/-- Weight blocks of up to 96 rows by 96 channels that a tile loads (R103). -/
def blockCount (l cout g : Nat) : Nat := cdiv l 96 * cdiv cout 96 * g

/-- Depthwise products on Plane: each window by its channel's taps, in FP32 (R106). INT8 and INT4 elements enter as codes, whose scales
M_c holds (R107, log entry 36). DESIGN CHOICE: the sum starts from +0, so a window of -0 products gives +0; the manual names no start
(log entry 27). -/
def depthwise (fa fw : Fmt) (seed : Nat) (row col : List Elem) : PVal :=
  planeSumP seed ({ v := zeroVal } :: (row.zip col).map (fun (a, w) =>
    PVal.op2 Val.mul { v := fp32 (elemRaw fa a) } { v := fp32 (elemRaw fw w) }))

/-! ### Auger (R116 to R122) -/

/-- Parameters of an Auger operator (R117). -/
structure AugerParams where
  oh : Nat
  ow : Nat
  bilinear : Bool
  clamp : Bool
  extrapCode : Nat
  outFmt : Fmt
  outScales : List Nat := []
deriving DecidableEq, Repr

/-- A box record (Table Convolution-4); edges are signed Q16.16. -/
structure Box where
  y0 : Int
  x0 : Int
  y1 : Int
  x1 : Int
  source : Nat
  skip : Bool
deriving DecidableEq, Repr

/-- Row `r` of a box list tile (R116). -/
def Box.ofRow (t : Tile) (r : Nat) : Box :=
  let dw (i : Nat) := (t.elem r i 0).code
  { y0 := sext 32 (dw 0), x0 := sext 32 (dw 1), y1 := sext 32 (dw 2), x1 := sext 32 (dw 3),
    source := dw 4 % 256, skip := bit (dw 4) 8 }

/-- Signed quotient rounded to nearest, ties to even. -/
def rdivEven (a : Int) (b : Nat) : Int :=
  let q := a / b
  let r := (a % b).toNat
  if b < 2 * r ∨ (2 * r = b ∧ q % 2 = 1) then q + 1 else q

/-- Sampling position of output row `i` in Q16.16 (R119). -/
def samplePos (a b : Int) (n i : Nat) : Int := a + rdivEven (((2 * i + 1 : Nat) : Int) * (b - a)) (2 * n) - 32768

/-- Taps along one axis: (index, weight), weight 256 in all; NEAREST has one (R120). -/
def axisTaps (bilinear : Bool) (p : Int) : List (Int × Nat) :=
  if bilinear then
    let f := (p / 256 % 256).toNat
    [(p / 65536, 256 - f), (p / 65536 + 1, f)]
  else [((p + 32768) / 65536, 256)]

/-- Value of a source tap: the element, the nearest edge (CLAMP), or EXTRAP_CODE in the output format (R120). DESIGN CHOICE: under an MX
output format EXTRAP_CODE decodes with scale byte 127, a factor of 1; the manual gives it no block (log entry 100). -/
def augerTap (a : AugerParams) (src : WinIn) (y x : Int) (ch : Nat) : PVal :=
  let inside := decide (0 ≤ y ∧ y < src.h ∧ 0 ≤ x ∧ x < src.w)
  if inside || a.clamp then
    let cy := (max 0 (min y ((src.h : Int) - 1))).toNat
    let cx := (max 0 (min x ((src.w : Int) - 1))).toNat
    elemP src.fmt ((findElem src.fmt src.tiles cy cx ch).getD { code := 0 })
  else elemP a.outFmt { code := a.extrapCode, scale := if a.outFmt.isChan then a.outScales.getD ch 0x3F800000 else 127 }

/-- One output element of a box (R120, R121). -/
def augerSample (a : AugerParams) (src : WinIn) (b : Box) (i j ch : Nat) : PVal :=
  let ys := axisTaps a.bilinear (samplePos b.y0 b.y1 a.oh i)
  let xs := axisTaps a.bilinear (samplePos b.x0 b.x1 a.ow j)
  match ys, xs with
  | [(y0, wy0), (y1, wy1)], [(x0, wx0), (x1, wx1)] =>
    let tap (y x : Int) (w : Nat) : PVal := if w = 0 then { v := zeroVal } else augerTap a src y x ch
    let n (k : Nat) : PVal := { v := .fin false k 0 }
    let mul := PVal.op2 (fun x y => fp32 (x.mul y))
    let add := PVal.op2 (fun x y => fp32 (x.add y))
    let row (y : Int) (wy : Nat) : PVal :=
      add (mul (tap y x0 (wx0 * wy)) (n wx0)) (mul (tap y x1 (wx1 * wy)) (n wx1))
    PVal.op1 (fun v => fp32 (v.scale (-16))) (add (mul (row y0 wy0) (n wy0)) (mul (row y1 wy1) (n wy1)))
  | (y, _) :: _, (x, _) :: _ => augerTap a src y x ch
  | _, _ => { v := zeroVal }

/-- Source positions that output position (i, j) reads (R120, R122): taps of weight 0 are not read, and a tap outside the source is
read at the nearest edge under CLAMP and not at all under CONSTANT. -/
def augerReads (a : AugerParams) (src : WinIn) (b : Box) (i j : Nat) : List (Nat × Nat) :=
  (axisTaps a.bilinear (samplePos b.y0 b.y1 a.oh i)).flatMap (fun (y, wy) =>
    (axisTaps a.bilinear (samplePos b.x0 b.x1 a.ow j)).filterMap (fun (x, wx) =>
      if wy * wx = 0 ∨ src.h = 0 ∨ src.w = 0 then none
      else if 0 ≤ y ∧ y < src.h ∧ 0 ≤ x ∧ x < src.w then some (y.toNat, x.toNat)
      else if a.clamp then some ((max 0 (min y ((src.h : Int) - 1))).toNat, (max 0 (min x ((src.w : Int) - 1))).toNat)
      else none))

/-- Does output position (i, j) read a tap outside the source (OUTSIDE_SAMPLES)? -/
def augerOutside (a : AugerParams) (src : WinIn) (b : Box) (i j : Nat) : Bool :=
  let ys := axisTaps a.bilinear (samplePos b.y0 b.y1 a.oh i)
  let xs := axisTaps a.bilinear (samplePos b.x0 b.x1 a.ow j)
  ys.any (fun (y, wy) => xs.any (fun (x, wx) =>
    wy * wx != 0 && !(decide (0 ≤ y ∧ y < src.h ∧ 0 ≤ x ∧ x < src.w))))

end Sys2Proof.Machine
end

