-- ==== Sys2Proof/Wire.lean ====
section
/-! DEFINITION. The operand types of the commands: what crosses the boundary of the block (a host access, a packet, a
frame, a sample) and what a command says of the physical world around it (an error on a read, a unit that does not answer). -/

namespace Sys2Proof

/-- The BARs of the function (13 R395). -/
inductive Bar where
  | bar0 | bar2 | bar4
deriving DecidableEq, Repr

/-- Access widths (00 R7). -/
inductive Width where
  | w8 | w16 | w32 | w64
deriving DecidableEq, Repr

/-- Width in bytes. -/
def Width.bytes : Width → Nat
  | .w8 => 1 | .w16 => 2 | .w32 => 4 | .w64 => 8

/-- Station kinds (Table Stations-1). -/
inductive Station where
  | mortise | plane | scribe | auger | scarf | truss | dowel | froe | gauge
deriving DecidableEq, Repr

/-- The 4-bit kind code (Table Stations-1). -/
def Station.code : Station → Nat
  | .mortise => 1 | .plane => 2 | .scribe => 3 | .auger => 4 | .scarf => 5 | .truss => 6 | .dowel => 7 | .froe => 8
  | .gauge => 9

/-- A started job: the ring job of a context, the loop job of a camera stream, or the job of a rung. Each kind runs one
job at a time under each name (01 R49, 09 R285, 10 R317). -/
inductive JobId where
  | ring (c : Fin 16384)
  | loop (k : Fin 96)
  | rung (n : Fin 4)
deriving DecidableEq, Repr

/-- How a GDDR6 read or write goes at the pins (06 R221, R222). `pa` is the physical address of the block concerned. -/
inductive ReadOutcome where
  | clean
  | corrected (pa : Nat)                      -- one symbol in error, in the block or in its check block
  | miscorrected (pa : Nat) (bytes : List Byte) -- four or more symbols in error that the code takes for one: the bytes it then holds
  | uncorrectable (pa : Nat) (check : Bool)   -- two or three, or more and detected, in the block or in its check block
  | edcRepeats (n : Fin 8) (pa : Nat)         -- n + 1 failed repeats, then good
  | retrained (pa : Nat)                      -- eight repeats failed, the channel retrained, and the last try was good
  | retrainFailed (pa : Nat)                  -- the last try failed as well
deriving DecidableEq, Repr

/-- How the bursts of a GDDR6 write go (06 R222). -/
inductive WriteOutcome where
  | clean
  | edcRepeats (n : Fin 8) (pa : Nat)
  | retrained (pa : Nat)
  | failed (pa : Nat)
deriving DecidableEq, Repr

/-- How a Loft read goes (06 R213): an error in a line of the Loft of a logical bent. -/
inductive LoftOutcome where
  | clean
  | corrected (bent : Fin 8) (line : Nat)
  | uncorrectable (bent : Fin 8) (line : Nat)
deriving DecidableEq, Repr

/-- What an event concerns, with what the accesses that its command makes meet at the pins of GDDR6 (06 R221, R222) and in Loft (06
R213). -/
structure Met (α : Type) where
  val : α
  rd : ReadOutcome := .clean
  wr : WriteOutcome := .clean
  loft : LoftOutcome := .clean
deriving DecidableEq, Repr

/-- A write burst that an access repeats after a retraining (06 R222): its physical address and the job that writes. -/
structure Retry where
  pa : Nat
  job : Option JobId := none
deriving DecidableEq, Repr

/-- How a host-tier read completes (06 R225). -/
inductive HostOutcome where
  | data (bytes : List Byte)
  | unsupportedRequest
  | completerAbort
  | noAnswer
deriving DecidableEq, Repr

/-- A receiver that checks the incarnation of a transaction (17 R487). -/
inductive Receiver where
  | station (bent : Fin 8) | loft | dowel (bent : Fin 8) | pegStore | port (k : Fin 8)
deriving DecidableEq, Repr

/-- A transaction that a unit of slot `slot` sent with incarnation `inc` and that reaches its receiver now (17 R487). -/
structure Late where
  slot : Fin 29
  inc : BitVec 16
  receiver : Receiver
deriving DecidableEq, Repr

/-- What happens, and the transactions of earlier incarnations that come in with it. -/
structure WithLate (α : Type) where
  val : α
  late : List Late := []
deriving DecidableEq, Repr

/-- What a SEND channel meets: late requests (17 R487), and the Loft lines that it reads (06 R213). -/
structure SendEnv where
  late : List Late := []
  loft : LoftOutcome := .clean
deriving DecidableEq, Repr

/-- What the world does to one tile computation. -/
structure TileEnv where
  mem : ReadOutcome := .clean
  loft : LoftOutcome := .clean
  host : HostOutcome := .data []
  wr : WriteOutcome := .clean
  /-- Transactions of earlier fillers of a unit slot that still arrive (01 R43, 17 R487). -/
  late : List Late := []
deriving DecidableEq, Repr

/-- What a job start finds in its binding lists, whose format the spec does not give: device-virtual addresses of the input and output
bindings in the graph's order. And how the accesses went: the reads of the input list, the output list, CHUNK_CTL with its marks (05
R183), the step list (04 R150), the sequence descriptors of the snapshot (04 R160), and what the reservation and the edits before it read
(04 R151, R166); and the writes of the reservation with those of STEP_STATUS (04 R155). -/
structure StartEnv where
  inputs : List DWord := []
  outputs : List DWord := []
  mem : ReadOutcome := .clean
  host : HostOutcome := .data []
  outMem : ReadOutcome := .clean
  outHost : HostOutcome := .data []
  ctlMem : ReadOutcome := .clean
  ctlHost : HostOutcome := .data []
  stepMem : ReadOutcome := .clean
  stepHost : HostOutcome := .data []
  seqMem : ReadOutcome := .clean
  walkMem : ReadOutcome := .clean
  wr : WriteOutcome := .clean
deriving DecidableEq, Repr

/-- State of a received CSI-2 packet header (08 R253, R254). -/
inductive HdrState where
  | clean | corrected | bad
deriving DecidableEq, Repr

/-- An I3C target that answers ENTDAA (09 R292). -/
structure I3cTarget where
  pid : BitVec 48
  bcr : Byte
  dcr : Byte
deriving DecidableEq, Repr

/-- A host configuration write (13 R395, R396): the fields of the configuration space that the function holds, as they stand after it. -/
structure ConfigWrite where
  busMaster : Bool := false
  memorySpace : Bool := false
  msixEnable : Bool := false
  functionMask : Bool := false
  pasidEnable : Bool := false
  /-- Addresses of BAR0, BAR2 and BAR4; the bits below their sizes stay zero. -/
  bar0 : BitVec 64 := 0
  bar2 : BitVec 64 := 0
  bar4 : BitVec 64 := 0
deriving DecidableEq, Repr

/-- What the flash answers at a start-up (14 R418): its SFDP tables. -/
structure Sfdp where
  answers : Bool := true
  megabits : Nat := 512
  erase4K : Bool := true
  pageBytes : Nat := 256
deriving DecidableEq, Repr

/-- What one UCIe module reaches in training (13 R392, R393). -/
structure ModuleTrain where
  /-- Highest rate in GT/s at which the module trains; 0 for none. -/
  rate : BitVec 6
  /-- Lanes that its redundant lanes replace. -/
  repairs : BitVec 8 := 0
deriving DecidableEq, Repr

/-- A Try-square verdict for one unit (17 R484, R496), and what the test reads of it: the good Mortise arrays of a bent or the repaired
lanes of a UCIe module, a bent's slowdown in units of 0.01 %, and its Loft repair listing as (bank, spare row, bank row). -/
structure Verdict where
  u : Fin 62
  pass : Bool
  code : BitVec 16 := 0
  good : BitVec 17 := 0x1FFFF
  age : BitVec 16 := 0
  rows : List (Nat × Nat × Nat) := []
deriving DecidableEq, Repr

/-- The microphone data of one 1 ms audio frame (10 R298): the levels of PDM_DAT0 to PDM_DAT15 in each of its 24,576 CK_AUD cycles,
from the frame boundary on. A missing cycle is low. With them stands what the writes of audio blocks meet (06 R222). -/
structure AudioFrame where
  pins : List (BitVec 16) := []
  rd : ReadOutcome := .clean
  wr : WriteOutcome := .clean
deriving DecidableEq, Repr

/-- Destination MAC address of a received frame (11 R342). -/
inductive FrameDest where
  | own | broadcast | other
deriving DecidableEq, Repr

/-- A received Kertik frame (11 R339, R340). It is authentic when `raw` is the protected form of `payload` under its header and the key of
its fabric job (R342 row 7, R346). -/
structure Frame where
  fcsOk : Bool := true
  dest : FrameDest := .own
  etherType : BitVec 16 := 0x88B5
  macControl : Bool := false
  /-- The Kertik header of Table Fabric-4, DW0 in the low bits. -/
  hdr : BitVec 256
  /-- The payload in the clear, which the sender protected. -/
  payload : List Byte := []
  /-- What stands in the frame between its Kertik header and its FCS: the protected payload and its GCM tag (11 R339). -/
  raw : List Byte := []
  /-- FEC codewords of the frame that RS(544,514) corrected, and those that it could not (11 R333). -/
  fecCorrected : Nat := 0
  fecBad : Nat := 0
deriving DecidableEq, Repr

end Sys2Proof
end

