-- ==== Sys2Proof/Machine/Graph.lean ====
section
/-! DEFINITION. What a graph of the running image fixes (01 R17 to R19). The manual gives the meaning of a graph, not its
format: the image sections are opaque. This is the content that the meanings need. -/

namespace Sys2Proof.Machine

/-- Where a graph may be used: ring jobs, camera loops, rungs of the cascade. -/
inductive GraphKind where
  | ring | loop | rung1 | rung2 | rung3
deriving DecidableEq, Repr

/-- What a graph binds (01 R47). -/
inductive BindKind where
  | none | session | stream
deriving DecidableEq, Repr

/-- A peg that a graph names: a peg of the job's peg block, the PUBLISH_PEG of a VERSIONED region entry of the context, or a
peg reference (01 R44). -/
inductive PegName where
  | block (offset : Nat)
  | publish (region : Nat)
  | ref (value : Nat)
  /-- Pegs of the frame of a loop job (09 R279, R280): band peg and re-entry peg of its buffer, VIEW_PEG. -/
  | band | reentry | view
deriving DecidableEq, Repr

/-- A Loft region of a graph (01 R25). `pos` counts the bents of the placement from 0. -/
structure RegionDef where
  num : Nat
  pos : Nat := 0
  /-- Bent position and kind code of the producer; kind 0xF with position 0 for a RECEIVE channel (11 R349). -/
  producer : Nat × Nat
  ncons : Nat := 1
  /-- Offset in lines from LOFT_BASE (06 R211). -/
  base : Nat
  slotLines : Nat
  nslots : Nat
  /-- Offsets of the pegs in the peg block. -/
  fullPeg : Nat
  freePeg : Nat
  /-- The operand is PROTECTED: it is sent and stored without coding (07 R230). -/
  protect : Bool := false
deriving DecidableEq, Repr

/-- Peer of a channel (11 R349). -/
inductive Peer where
  | rank (r : Nat)
  | offset (o : Nat)
deriving DecidableEq, Repr

/-- A channel of a fabric graph (11 R349). -/
structure Channel where
  num : Nat
  send : Bool
  region : Nat
  peer : Peer
deriving DecidableEq, Repr

/-- A BARRIER operator (11 R356): its pegs by offset in the peg block and its position. -/
structure BarrierDef where
  pos : Nat := 0
  arrive : Nat
  release : Nat
  /-- For each instance, the operators (by index) and output tiles that come before it in the graph. -/
  after : List (List (Nat × Nat)) := []
deriving DecidableEq, Repr

/-- What a fabric graph declares (11 R348, R349, R356). -/
structure FabricPart where
  minMembers : Nat
  maxMembers : Nat
  channels : List Channel := []
  barriers : List BarrierDef := []
deriving DecidableEq, Repr

/-! ## Operators -/

/-- Names of bindings that the device itself reads or substitutes (04 R155, 05 R182, 09 R287, 10 R323, 13 R407). -/
inductive Binding where
  | plain | stepList | stepStatus | chunkCtl | payload | control | decision
  | tap (k : Nat) | frameRec | reentry | boxesIn | boxesOut | audioLp | audioHq | glance
deriving DecidableEq, Repr

/-- An address in memory that an operator uses: a device-virtual address fixed by the graph, or an offset in a binding. -/
inductive AddrRef where
  | abs (a : Nat)
  | input (k off : Nat)
  | output (k off : Nat)
deriving DecidableEq, Repr

/-- Shape of a tile. -/
structure Shape where
  fmt : Fmt
  h : Nat := 1
  w : Nat := 1
  c : Nat := 1
  layout : Nat := 0
  oy : Nat := 0
  ox : Nat := 0
deriving DecidableEq, Repr

/-- An input of an operator: the region, and for each output tile the SEQ numbers of the tiles that it needs (01 R27). -/
structure OpIn where
  region : Nat
  needs : List (List Nat)
deriving DecidableEq, Repr

/-- An FP32 expression of a Plane program, evaluated element by element (02 R81). -/
inductive PExpr where
  /-- Element of operand `k` at the same place; an operand of one row, column or channel is repeated. Argument 0 is the
  requantized or reduced value. -/
  | arg (k : Nat)
  | const (code : Nat)
  /-- One FP32 code per channel. -/
  | chan (codes : List Nat)
  | sqrt (a : PExpr)
  /-- A function of Config.planeFn. -/
  | fn (f : Nat) (a : PExpr)
  | add (a b : PExpr) | sub (a b : PExpr) | mul (a b : PExpr) | div (a b : PExpr)
  | min (a b : PExpr) | max (a b : PExpr)
  | fma (a b c : PExpr)
deriving DecidableEq, Repr

/-- Where Plane takes the values of an output tile. -/
inductive PlaneSrc where
  | tiles                                           -- the first operand, element by element
  | pool (max countPad : Bool)                      -- Kerf windows (03 R109)
  | depthwise (weights : Nat)                       -- Kerf windows by the taps of operand `weights` (03 R106)
  | sum (axis : Nat) | peak (axis : Nat)            -- reduction of operand 0 along rows 0, columns 1 or channels 2 (02 R82)
deriving DecidableEq, Repr

/-- A Plane operator. -/
structure PlaneOp where
  src : PlaneSrc := .tiles
  /-- M_c and B_c of a requantization, empty for none (02 R76). -/
  m : List Nat := []
  b : List Nat := []
  pshift : Nat := 0
  /-- Steps that follow, over argument 0 and the operands. -/
  post : PExpr := .arg 0
  /-- Channel scales of an INT8 or INT4 output (03 R109). -/
  outScales : List Nat := []
  /-- The result is divided by the channel scale (03 R121); a requantization gives code units (02 R76). -/
  divide : Bool := false
deriving DecidableEq, Repr

/-- A Mortise operator. -/
structure MortiseOp where
  /-- Rows come from the Kerf buffer; otherwise from operand 0 directly (03 R98). -/
  kerf : Bool := false
  /-- Operand that holds the weights, or the STREAMED operand of the graph (06 R215). -/
  weights : Nat := 1
  stream : Option Nat := none
  transposed : Bool := false
  /-- The weight gradient of 03 R115: operand 0 is dY. -/
  grad : Bool := false
  taps : Nat := 1
  groups : Nat := 1
  coutG : Nat := 1
  pshift : Nat := 0
deriving DecidableEq, Repr

/-- Window of a Scribe operator with the full extents of its input. -/
structure ScribeOp where
  win : Win
  h : Nat
  w : Nat
  c : Nat
  /-- Index of the Mortise or Plane operator that reads the Kerf half; none for a regroup alone (03 R102). -/
  reader : Option Nat := none
  /-- Position i of k bents that split the output into bands (03 R110); the rows of the declared tiles then count from the band's first
  row. -/
  band : Option (Nat × Nat) := none
deriving DecidableEq, Repr

/-- A source of an Auger operator: a Loft operand, or a tensor in memory. -/
inductive AugerSrc where
  | loft (operand : Nat)
  | memory (a : AddrRef) (s : Shape)
deriving DecidableEq, Repr

/-- Masks of Table Scarf-2. -/
inductive Mask where
  | none | causal | window (w : Nat)
deriving DecidableEq, Repr

/-- A Scarf operator (Table Scarf-1). DIRECT operands: queries, keys, values, and with SEGMENTED the query and key segment
tiles. PAGED operands: queries, new keys, new values. -/
structure ScarfOp where
  paged : Bool
  kvClass : Nat := 0
  layer : Nat := 0
  hd : Nat
  nkv : Nat
  g : Nat
  mask : Mask := .none
  segmented : Bool := false
  scale : Nat := 0x3F800000
deriving DecidableEq, Repr

/-- Cells of Table Truss-1. -/
inductive Cell where
  | gated3 | gated4 | linear
deriving DecidableEq, Repr

/-- A Truss operator. Operands: pre-activations, and for gated cells U with G x H rows of H. -/
structure TrussOp where
  cell : Cell
  rclass : Nat
  layer : Nat
  h : Nat
  bun : List Nat := []
deriving DecidableEq, Repr

/-- Compression of an output operand (Table Froe-1). -/
structure Coding where
  compress : Bool := false
  tableId : Nat := 0
  build : Bool := false
  histBlocks : Nat := 1
  protect : Bool := false
deriving DecidableEq, Repr

/-- A Dowel transfer: output tile `q` lies at the `q`-th offset from the address. -/
structure DowelOp where
  addr : AddrRef
  offs : List Nat := [0]
  coding : Coding := {}
deriving DecidableEq, Repr

/-- A Gauge histogram operator (09 R288). -/
structure HistOp where
  bins : Nat
  log : Bool
  zy : Nat
  zx : Nat
  channel : Nat
  satLevel : Nat
deriving DecidableEq, Repr

/-- What an operator computes. -/
inductive OpKind where
  | scribe (o : ScribeOp)
  | mortise (o : MortiseOp)
  | plane (o : PlaneOp)
  | auger (o : AugerParams) (srcs : List AugerSrc)
  | scarf (o : ScarfOp)
  | truss (o : TrussOp)
  | load (o : DowelOp)
  | store (o : DowelOp)
  | decode
  | histogram (o : HistOp)
deriving DecidableEq, Repr

/-- The station that runs an operator (Table Stations-1). A store is Dowel's, as a load is. -/
def OpKind.station : OpKind → Station
  | .scribe _ => .scribe | .mortise _ => .mortise | .plane _ => .plane | .auger _ _ => .auger | .scarf _ => .scarf
  | .truss _ => .truss | .load _ => .dowel | .store _ => .dowel | .decode => .froe | .histogram _ => .gauge

/-- The operations that a station issues on a peg besides WAIT (Table Stations-5). -/
inductive PegAct where
  | add | set | thresh | read
deriving DecidableEq, Repr

/-- A peg operation that an operator issues after a tile, with RUNB on a remote peg (11 R355). Its value is a constant, or under
`useRead` the COUNT that the job's last READ returned. -/
structure PegOp where
  tile : Nat
  peg : PegName
  act : PegAct := .add
  value : Nat := 1
  useRead : Bool := false
  runb : Bool := false
  /-- Channel on whose flow a remote operation travels, none for the control flow (11 R354). -/
  channel : Option Nat := none
deriving DecidableEq, Repr

/-- A WAIT before an output tile (01 R32). -/
structure OpWait where
  tile : Nat
  peg : PegName
  target : Nat
deriving DecidableEq, Repr

/-- An operator on one bent of the placement; an operator that a graph spreads over several bents is one of these on each
(01 R19). -/
structure OpDef where
  pos : Nat := 0
  kind : OpKind
  ins : List OpIn := []
  out : Option Nat := none
  ntiles : Nat := 1
  /-- Shapes of the output tiles; the last one stands for all later ones. -/
  shapes : List Shape := []
  /-- T and RERUN_EN of 02 R83. -/
  thresh : Nat := 0xFFFF
  rerunEn : Bool := false
  /-- Phase of the power policy (16 R466). -/
  phase : Nat := 0
  waits : List OpWait := []
  pegs : List PegOp := []
deriving DecidableEq, Repr

/-- A STREAMED operand (06 R215): the blocks of each output tile of the Mortise operator that binds it, in order, by offset
and length, each with the shape of the weight tile that they form. `ops` are the Mortise operators that bind it: one, or with
BROADCAST one on each bent. -/
structure StreamDef where
  ops : List Nat
  addr : AddrRef
  blocks : List (Nat × Nat)
  perTile : Nat := 1
  shape : Shape
  broadcast : Bool := false
deriving DecidableEq, Repr

/-- A graph. -/
structure Graph where
  id : Nat
  kind : GraphKind := .ring
  pegCount : Nat := 0
  bentsNeeded : Nat := 1
  loftLines : Nat := 0
  bind : BindKind := .none
  fabric : Option FabricPart := none
  regions : List RegionDef := []
  ops : List OpDef := []
  streams : List StreamDef := []
  inputs : List Binding := []
  outputs : List Binding := []
  /-- Camera template that a loop graph is certified for, and its POST_US (09 R284, R293). -/
  template : Nat := 0
  postUs : Nat := 0
  /-- Station programs that its bindings name (14 Table Start-5). -/
  programs : List Nat := []
deriving DecidableEq, Repr

/-- Recurrent class and layer of each Truss operator (05 R183), with the position of its bent. -/
def Graph.truss (g : Graph) : List (Nat × Nat × Nat) :=
  g.ops.filterMap (fun o => match o.kind with | .truss t => some (t.rclass, t.layer, o.pos) | _ => none)

/-- Positions of the SEGMENTED operators (04 R134). -/
def Graph.segmented (g : Graph) : List Nat :=
  (g.ops.filterMap (fun o => match o.kind with | .scarf x => if x.segmented then some o.pos else none | _ => none)).eraseDups

/-- Banded window operators of a graph: position of the bent, the operator, and its band. -/
def Graph.bands (g : Graph) : List (Nat × ScribeOp × Nat × Nat) :=
  g.ops.filterMap (fun d => match d.kind with | .scribe o => o.band.map (fun b => (d.pos, o, b.1, b.2)) | _ => none)

/-- KV classes of the PAGED operators (04 R160). -/
def Graph.kvClasses (g : Graph) : List Nat :=
  g.ops.filterMap (fun o => match o.kind with | .scarf x => if x.paged then some x.kvClass else none | _ => none)

/-- Shape of output tile `q`. -/
def OpDef.shape (o : OpDef) (q : Nat) : Option Shape :=
  match o.shapes[q]? with
  | some x => some x
  | none => o.shapes.getLast?

/-- The operand that a store writes: its binding, or its address. -/
def AddrRef.operand : AddrRef → Nat × Nat
  | .abs a => (0, a)
  | .input k _ => (1, k)
  | .output k _ => (2, k)

/-- The operand that operator `i` stores. -/
def Graph.storedOperand (g : Graph) (i : Nat) : Option (Nat × Nat) :=
  (g.ops[i]?).bind (fun d => match d.kind with | .store o => some o.addr.operand | _ => none)

/-- The operand of store operator `i`, named by the first operator that stores it: the stores of several bents may write one operand. -/
def Graph.operandKey (g : Graph) (i : Nat) : Nat :=
  ((List.range g.ops.length).find? (fun k => g.storedOperand k == g.storedOperand i)).getD i

/-- SEQ numbers that output tile `q` needs of an input. -/
def OpIn.need (i : OpIn) (q : Nat) : List Nat := i.needs.getD q []

/-- Tiles of an input that the consumer has released once output tiles 0 to `q - 1` are done and the producer has made `full` tiles
(01 R27): those below the earliest tile that a later output tile needs, and all of them when none is needed any more. -/
def OpIn.released (i : OpIn) (q full : Nat) : Nat :=
  match (i.needs.drop q).flatten with
  | [] => full
  | a :: l => min full (l.foldl Nat.min a)

/-- Output tiles of a Truss operator that `rows` rows fill, and its declared number of another operator (05 R172). -/
def OpDef.tilesFor (d : OpDef) (rows : Nat) : Nat :=
  match d.kind with
  | .truss _ =>
    ((List.range d.ntiles).takeWhile (fun q =>
      decide (((List.range q).map (fun p => ((d.shape p).map (·.h)).getD 0)).sum < rows))).length
  | _ => d.ntiles

/-- Every tile that output tile `q` needs is written, when operator `i` of the graph writes `l[i]` tiles. -/
def Graph.fed (g : Graph) (l : List Nat) (d : OpDef) (q : Nat) : Bool :=
  d.ins.all (fun i => (i.need q).all (fun t =>
    let makers := g.ops.zipIdx.filter (fun o => o.1.out == some i.region)
    makers.isEmpty || decide (t < (makers.map (fun m => l.getD m.2 0)).sum)))

/-- Output tiles of every operator when those listed bound them: an operator stops where a tile that it needs is not written. `k` rounds
reach the operators that follow. -/
def Graph.bound (g : Graph) : Nat → List Nat → List Nat
  | 0, l => l
  | k + 1, l => g.bound k (g.ops.zipIdx.map (fun (d, i) => ((List.range (l.getD i 0)).takeWhile (g.fed l d)).length))

/-- Output tiles of every operator of a job whose chunk has `rows` rows. -/
def Graph.chunkTiles (g : Graph) (rows : Nat) : List Nat := g.bound g.ops.length (g.ops.map (fun d => d.tilesFor rows))

/-- Region `r` of a graph. -/
def Graph.region (g : Graph) (r : Nat) : Option RegionDef := g.regions.find? (fun x => x.num == r)

end Sys2Proof.Machine
end

