-- ==== Sys2Proof/Machine/Store.lean ====
section
/-! DEFINITION. A sparse store: a list of (key, value) pairs with keys strictly rising and no value equal to what an
unlisted key reads as, so that equal stores are equal lists. Registers and every memory of the block are kept in it. -/

namespace Sys2Proof.Machine

variable {α : Type} [DecidableEq α]

/-- The value at a key; `d` is what an unlisted key reads as. -/
def Store.get (d : α) : List (Nat × α) → Nat → α
  | [], _ => d
  | (k, v) :: l, i => if k = i then v else Store.get d l i

/-- A store without key `i`. -/
def Store.erase (l : List (Nat × α)) (i : Nat) : List (Nat × α) := l.filter (fun p => p.1 != i)

/-- Store a value at a key, keeping the canonical form: writing `d` removes the entry. -/
def Store.put (d : α) : List (Nat × α) → Nat → α → List (Nat × α)
  | [], i, v => if v = d then [] else [(i, v)]
  | (k, w) :: l, i, v =>
    if i < k then (if v = d then Store.erase ((k, w) :: l) i else (i, v) :: (k, w) :: l)
    else if i = k then (if v = d then Store.erase l i else (i, v) :: l)
    else (k, w) :: Store.put d l i v

/-- Every key lies above `b`, the keys rise strictly, and no value is the one an unlisted key reads as. -/
def Store.wfFrom (d : Nat → α) : Option Nat → List (Nat × α) → Bool
  | _, [] => true
  | b, (k, v) :: l =>
    (match b with | none => true | some j => decide (j < k)) && decide (v ≠ d k) && Store.wfFrom d (some k) l

/-- The canonical form of a store. -/
def Store.wf (d : Nat → α) (l : List (Nat × α)) : Bool := Store.wfFrom d none l

/-- A byte memory in which an unlisted address reads as `d`. -/
abbrev Mem := List (Nat × Byte)

/-- One byte. -/
def Mem.read (d : Byte) (m : Mem) (a : Nat) : Byte := Store.get d m a

/-- Write one byte. -/
def Mem.write (d : Byte) (m : Mem) (a : Nat) (v : Byte) : Mem := Store.put d m a v

/-- `k` bytes from address `a` upwards. -/
def Mem.readBytes (d : Byte) (m : Mem) (a k : Nat) : List Byte := (rangeFrom a k).map (Mem.read d m)

/-- Write a list of bytes from address `a` upwards. -/
def Mem.writeBytes (d : Byte) (m : Mem) (a : Nat) : List Byte → Mem
  | [] => m
  | b :: bs => Mem.writeBytes d (Mem.write d m a b) (a + 1) bs

/-- A little-endian number of `k` bytes (00 R6). -/
def Mem.readNum (d : Byte) (m : Mem) (a k : Nat) : Nat := ofBytes (Mem.readBytes d m a k)

/-- Write a little-endian number of `k` bytes (00 R6). -/
def Mem.writeNum (d : Byte) (m : Mem) (a k v : Nat) : Mem := Mem.writeBytes d m a (toBytes k v)

/-- Return the `k` bytes from `a` to what an unlisted address reads as. -/
def Mem.clear (m : Mem) (a k : Nat) : Mem := m.filter (fun c => !(a ≤ c.1 && c.1 < a + k))

/-- The canonical form of a byte memory. -/
def Mem.wf (d : Byte) (m : Mem) : Bool := Store.wf (fun _ => d) m

end Sys2Proof.Machine
end

