-- ==== Sys2Proof/Machine/Parts.lean ====
section
/-! DEFINITION. The parts of the state that are no register: jobs, memory, queues. -/

namespace Sys2Proof.Machine

/-! ## Cameras (08, 09) -/

/-- A line of an exposure that waits for the rest of its line set, with what was done to it (08 R261, R262). -/
structure CamLine where
  samples : List Nat
  short : Bool := false
  long : Bool := false
  crc : Bool := false
  missing : Bool := false
deriving DecidableEq, Repr

/-- A line set in a line buffer: the lines of exposures 0 to n - 1 and its tile flags (08 R263, R270). -/
structure LineSet where
  index : Nat
  lines : List (List Nat)
  flags : Flags := {}
deriving DecidableEq, Repr

/-- A frame from its Frame Start until its record is written (08 R260 to R270). -/
structure CamFrame where
  stream : Nat
  seq : Nat
  csiNo : Nat := 0
  /-- Discarded at ingest in glance mode (09 R281). -/
  skipped : Bool := false
  /-- A glance frame that has not been written to the glance buffer yet (09 R282). -/
  glance : Bool := false
  closed : Bool := false
  /-- Time of the close (09 R293). -/
  t0 : Nat := 0
  /-- Flags of Table Ingest-6 that no count implies: SHORT_FRAME and bits 7 to 12. -/
  flags : Nat := 0
  /-- Long packets of each exposure since Frame Start. -/
  counts : List Nat := []
  /-- Lines of each exposure that no set has taken yet. -/
  waiting : List (List CamLine) := []
  /-- Last line of each exposure, empty before the first. -/
  last : List (List Nat) := []
  /-- Sets in the line buffer. -/
  sets : List LineSet := []
  /-- The replication line set (08 R265): the last set placed in the buffer, empty when there is none. -/
  lastSet : List (List Nat) := []
  received : Nat := 0
  padded : Nat := 0
  short : Nat := 0
  long : Nat := 0
  crc : Nat := 0
  missing : Nat := 0
  extra : Nat := 0
  cutAt : Option Nat := none
  emb : List Byte := []
  /-- Sets that the Jointer has served. -/
  served : Nat := 0
  /-- Frame buffer of the loop entry (09 R278). -/
  buf : Option Nat := none
  /-- Rows after stage 3 and tile flags of the served sets, in order (09 R273). -/
  rows : List (List Nat) := []
  marks : List Flags := []
  /-- Rows after stage 5 and rows after stage 6, in order. -/
  fine : List (List Nat) := []
  cond : List (List Nat) := []
deriving DecidableEq, Repr

/-- A loop job that holds a loop place of its stream and has not started (09 R285): its frame, the frame's buffer and record
slot, and the stream's previous frame with its buffer (09 R287). -/
structure LoopWait where
  stream : Nat
  frameSeq : Nat
  buf : Nat
  slot : Nat
  prev : Option (Nat × Nat) := none
deriving DecidableEq, Repr

/-- A frame that the re-entry lane has not finished (09 R280). -/
structure ReentryFrame where
  stream : Nat
  seq : Nat
  buf : Nat
  served : Nat := 0
  /-- Rows that the lane has read, their tile flags, and the reason of the first block that it may not use, 0 for none (07 R247). -/
  rows : List (List Nat) := []
  marks : List Flags := []
  poison : Nat := 0
deriving DecidableEq, Repr

/-- Tile flags of a range of device-virtual addresses that a line set was written to (08 R270). -/
structure LineMark where
  ctx : Nat
  addr : Nat
  len : Nat
  flags : Flags
  /-- Reason with which what the device wrote there poisons, 0 for none (07 R247). -/
  poison : Nat := 0
deriving DecidableEq, Repr

/-- What Cleat still needs of a frame whose record is written (09 R290). -/
structure FrameNote where
  stream : Nat
  seq : Nat
  flags : Nat
  t0 : Nat
deriving DecidableEq, Repr

/-- A control record that Cleat holds for its frame record, or the reason of its poison (09 R290). -/
structure HeldControl where
  stream : Nat
  seq : Nat
  bytes : List Byte
  poison : Nat := 0
deriving DecidableEq, Repr

/-- A control record in a bus queue (09 R291): the stream and frame of a loop record, none for a manual one, its late mark and t0,
and for each entry the target slot and the bytes in the order in which they go out. -/
structure CleatRecord where
  bus : Nat
  source : Option (Nat × Nat)
  late : Bool := false
  t0 : Nat := 0
  entries : List (Nat × List Byte)
deriving DecidableEq, Repr

/-- The image in the glance buffer (09 R282). -/
structure GlanceImage where
  h : Nat := 0
  w : Nat := 0
  codes : List Nat := []
deriving DecidableEq, Repr

/-- What the running image's Jointer tables hold (09 R273, R274): by table index the LIN knots, the DPC threshold and coordinates
(y, x), the LSC gains in Q4.12 of each colour (Table Jointer-3's order of `mosaicRows`) on 33 x 33 points row by row, the CCM rows of
three coefficients and an offset, the TONE knots, and the fixed focus windows; by template the black level of each pattern phase and
k_c of R, G and B; by 2 x template + view the SCALE filter, eight coefficients for each of 64 phases. Coefficients of CCM, k_c and the
filter count 2^-12 (log entry 31). -/
structure JointerTables where
  lin : List (Nat × List Nat) := []
  black : List (Nat × List Nat) := []
  dpc : List (Nat × Nat × List (Nat × Nat)) := []
  lsc : List (Nat × List (List Nat)) := []
  ir : List (Nat × List Nat) := []
  ccm : List (Nat × List (List Int)) := []
  tone : List (Nat × List Nat) := []
  filter : List (Nat × List Int) := []
  focus : List (Nat × List Byte) := []
deriving DecidableEq, Repr

/-- Ingest, the Jointers, the loops and Cleat. -/
structure Camera where
  /-- Frames of all streams, oldest first. -/
  frames : List CamFrame := []
  /-- Last non-zero frame number of a stream since its enable (08 R260). -/
  lastNo : List (Nat × Nat) := []
  /-- Stream that each Jointer served last, plus one: the ingest lane at key j, the re-entry lane at key 8 + j (08 R266, 09 R280). -/
  turn : List (Nat × Nat) := []
  /-- The glance period has expired since a glance frame last opened (09 R281). -/
  glanceDue : Bool := false
  /-- The half of the glance buffer that holds the latest complete frame, and the other half (10 R310). -/
  glance : GlanceImage := {}
  glanceOld : GlanceImage := {}
  /-- A glance frame has come since the last glance network run (10 R310). -/
  glanceNew : Bool := false
  /-- Buffer of the frame that each stream opened last since its loop entry was enabled, plus one (09 R278). -/
  rotation : List (Nat × Nat) := []
  /-- FRAME_SEQ of that frame. -/
  opened : List (Nat × Nat) := []
  /-- Last frame of a stream whose loop job left an unpoisoned box area, plus one (09 R287). -/
  boxes : List (Nat × Nat) := []
  waiting : List LoopWait := []
  reentry : List ReentryFrame := []
  marks : List LineMark := []
  notes : List FrameNote := []
  heldControls : List HeldControl := []
  /-- Queued records of all buses, oldest first. -/
  queue : List CleatRecord := []
  tables : JointerTables := {}
deriving DecidableEq, Repr

/-! ## Audio (10) -/

/-- A frame of the Plumb ring (10 R308): its AFN, SEAM, the listening group's mode, samples that saturated, and the INT16 codes of
16 samples of 8 lanes. -/
structure RingFrame where
  afn : Nat
  seam : Bool
  mode : Nat
  clips : Nat := 0
  samples : List Nat := []
deriving DecidableEq, Repr

/-- A result of Awl (10 R309): the places that it reads, among the inputs of its network and the activations before it, an INT8 weight code
for each, M and B of its requantization as FP32 codes (02 R76), and the class whose score it is, none for an activation. -/
structure AwlOut where
  reads : List Nat
  weights : List Nat
  m : Nat
  b : Nat
  score : Option Nat := none
deriving DecidableEq, Repr

/-- A network of Awl (10 R309, R310): the INT8 codes that it takes in, and its results in order. -/
structure AwlNet where
  inputs : Nat := 0
  outs : List AwlOut := []
deriving DecidableEq, Repr

/-- Multiplications of a run. -/
def AwlNet.macs (n : AwlNet) : Nat := (n.outs.map (fun o => (o.reads.zip o.weights).length)).sum

/-- Weights and activations that the stores hold. -/
def AwlNet.weightCount (n : AwlNet) : Nat := (n.outs.map (fun o => o.weights.length)).sum
def AwlNet.activationCount (n : AwlNet) : Nat := n.inputs + (n.outs.filter (fun o => o.score.isNone)).length

/-- What a clock-group change waits for at the next frame boundary (10 R301, R316). -/
inductive StepWish where
  /-- A step down requested while a step up still waits for its boundary follows that. -/
  | none | up | upThenDown | down | off
deriving DecidableEq, Repr

/-- Rasp, the Plumb island and the cascade. -/
structure Audio where
  /-- Frame 0 has begun (10 R307). -/
  running : Bool := false
  /-- Ring frames, newest first, at most 2,000. -/
  ring : List RingFrame := []
  /-- Settle frames left of each clock group (10 R300). -/
  settle : List (Nat × Nat) := []
  /-- The listening group starts at the next boundary (10 R315). -/
  starting : Bool := false
  /-- The mode change that waits for a boundary (10 R301). -/
  wish : StepWish := .none
  /-- The pending step down has been deferred once (10 R301). -/
  deferred : Bool := false
  /-- Every group is OFF after a cascade disable, and the clearing follows (10 R316). -/
  clearing : Bool := false
  /-- The beam set in force, by the keys of State.regs (10 R306). -/
  applied : List (Nat × Nat) := []
  /-- Filter states of the channels, the low-power path at key c and the high-quality path at key 32 + c (10 R303, R304). -/
  filters : List (Nat × Nat) := []
  /-- High-quality samples of the 32 channels, INT16 codes, newest first: as many as a beam reaches back (10 R305). -/
  past : List (List Nat) := []
  /-- High-quality frames of the block in progress: INT16 codes sample-major, and the samples that saturated. -/
  hq : List (List Nat × Nat) := []
  /-- No frame of the block in progress was a seam frame or outside FULL (10 R322). -/
  hqClean : Bool := false
  /-- Frames of the current hop that have ended, and whether Awl has run for it (10 R309). -/
  hopFrame : Nat := 0
  hopRun : Bool := false
  /-- Consecutive counted hops and refractory hops left of each class (10 R311). -/
  runs : List (Nat × Nat) := []
  refractory : List (Nat × Nat) := []
  /-- Consecutive hops below ACT_OFF (10 R312). -/
  hang : Nat := 0
  /-- Classes of the glance sub-network in the running image. -/
  glanceClasses : Nat := 0
  /-- The rung-0 network and the glance sub-network of the running image, and Awl's activations, INT8 codes (10 R309, R310). -/
  net : AwlNet := {}
  glanceNet : AwlNet := {}
  activations : List Nat := []
  /-- Detections that wait for rung 1, oldest first, each with its HIT_FRAME (10 R319). -/
  waiting : List (Nat × Nat) := []
  /-- Detection that rung 1 or the assistant works on with its HIT_FRAME, and one that waits for rung 2 (10 R324). -/
  current : Nat := 0
  currentHit : Nat := 0
  confirmed : Option Nat := none
  /-- Causes of rung jobs that have not started, in the order of their coming: the rung and the number of its requests (10 R318). -/
  causes : List (Nat × Nat) := []
  /-- Bent of the last rung-1 job (10 R324). -/
  rungBent : Nat := 0
  /-- Numbers of the first replay block of that detection in the low-power ring, and of the first high-quality block since the
  cascade left STATE 1 (10 R323). -/
  lpFirst : Nat := 0
  hqFirst : Nat := 0
deriving DecidableEq, Repr

/-- Something that left the block at one of its interfaces. -/
inductive Out where
  /-- An MSI-X message: vector, address and data of its table entry (13 R410). -/
  | msix (vector addr data : Nat)
  /-- A Kertik frame: port, destination (device * 8 + port, none for broadcast), the bytes of its 802.3 header, Kertik header,
  protected payload with its GCM tag, and FCS (11 R334, R339, R346). -/
  | frame (port : Nat) (dst : Option Nat) (mac : List Byte) (hdr : Nat) (payload : List Byte) (fcs : Nat)
  /-- A read request of the host tier: the PASID it carries, its address in host memory and its length (06 R225, 12 R373). -/
  | hostRead (pasid addr len : Nat)
  /-- A posted write into a result ring in host memory, with the PASID of the ring's tenant (13 R404, R408, R414). -/
  | hostWrite (pasid addr : Nat) (bytes : List Byte)
  /-- A private write on an I3C bus: the target's dynamic address and the bytes after it, none for an attempt that the target did not
  acknowledge (09 R291). -/
  | i3c (bus addr : Nat) (bytes : Option (List Byte))
  /-- The data bytes of an SMBus read (16 R480); `nack` is an address that is not acknowledged. -/
  | smbus (bytes : List Byte)
  | nack
deriving DecidableEq, Repr

/-- What travels in a Kertik frame after its header, before encryption (11 R341), with the form each block of a DATA frame
was coded in, which a retransmission repeats (11 R351). -/
structure FrameBody where
  kind : Nat
  first : Bool := false
  last : Bool := false
  runb : Bool := false
  run : Nat := 0
  block : Nat := 0
  tile : Nat := 0
  payload : List Byte := []
deriving DecidableEq, Repr

/-- An unacknowledged frame of a flow. -/
structure SentFrame where
  psn : Nat
  body : FrameBody
  /-- False while the frame waits for a port or for room in the window (11 R337, R350). -/
  sent : Bool := true
  /-- It has gone out before: it goes out again as a retransmission (11 R351). -/
  once : Bool := true
  /-- Time of the last transmission. -/
  time : Nat := 0
deriving DecidableEq, Repr

/-- A flow record of the fabric (11 R345, R349): one direction of one flow of a context's fabric job. -/
structure Flow where
  ctx : Nat
  /-- Channel number, or 0xFFFF for the control flow. -/
  flow : Nat
  /-- Device id of the other end. -/
  peer : Nat
  send : Bool
  /-- Sender: next PSN. Receiver: cumulative point. -/
  psn : Nat := 0
  /-- Sender: frames not acknowledged, oldest first. -/
  unacked : List SentFrame := []
  /-- Sender: last CREDIT received for the run. -/
  credit : Nat := 0
  /-- Sender: RTO in force, in microseconds (11 R351). -/
  rto : Nat := 40
  /-- Sender: time at which the cumulative point last advanced or the first frame went out (11 R353). -/
  advanced : Nat := 0
  /-- Sender: next tile and block to send. -/
  tile : Nat := 0
  block : Nat := 0
  /-- Sender: tiles whose every frame is acknowledged. -/
  done : Nat := 0
  /-- Receiver: PSNs received above the cumulative point, with the bodies that wait for delivery in order. -/
  early : List (Nat × FrameBody) := []
  /-- Receiver: frames accepted since the last ACK (11 R350). -/
  unackedRx : Nat := 0
  /-- Receiver: an ACK waits for a port, with its RUN_START (11 R337). -/
  ackOwed : Option Bool := none
  /-- Receiver: CREDIT last sent. -/
  creditSent : Nat := 0
  /-- Receiver: tiles delivered. -/
  delivered : Nat := 0
  /-- Receiver: frames below the cumulative point whose tile is not in its region yet (11 R352). -/
  parts : List FrameBody := []
deriving DecidableEq, Repr

/-- A frame for another device (11 R338): the port that received it, its header with HOPS decremented, and what follows the header. -/
structure Forward where
  port : Nat
  hdr : Nat
  payload : List Byte
deriving DecidableEq, Repr

/-- What takes a turn on an egress port (11 R337, R338): a frame of a flow, an ACK, a forwarded frame. -/
inductive Egress where
  | frame (ctx flow peer : Nat) (f : SentFrame)
  | ack (ctx flow peer : Nat) (runStart : Bool)
  | forward (f : Forward)
deriving DecidableEq, Repr

/-- A frame that a REORDER rule holds (11 R360): its port, direction, frames still to pass, and the frame. -/
structure HeldFrame where
  port : Nat
  rx : Bool
  left : Nat
  hdr : Nat
  payload : List Byte
  /-- Where a frame to send goes, as it stood when the rule took it. -/
  dst : Option Nat := none
  frame : Option Frame := none
deriving DecidableEq, Repr

/-- The fabric. -/
structure Fabric where
  flows : List Flow := []
  /-- Member list of each enabled entry, copied at its enable (11 R345). -/
  members : List (Nat × List Nat) := []
  /-- TXC of entry and port: key ctx * 8 + port (11 R346). -/
  txc : List (Nat × Nat) := []
  /-- Job key of each enabled entry in the ports' key store. -/
  keys : List (Nat × List Byte) := []
  /-- Matches of each test rule since its enable: key port * 8 + rule (11 R360). -/
  matched : List (Nat × Nat) := []
  held : List HeldFrame := []
  /-- Forwarded frames that wait for a port, oldest first (11 R337, R338). -/
  forwards : List Forward := []
  /-- Ports on which a KEEPALIVE has arrived (11 R343). -/
  peers : List Nat := []
deriving DecidableEq, Repr

/-- A part of a recurrent stream's state in the Truss state cache of a bent (05 R190, R191). -/
structure TrussPart where
  stream : Nat
  layer : Nat
  bent : Nat
  /-- NEXT_CHUNK of the stream when the part was last written (05 R191). -/
  tag : Nat
  lines : Nat
  /-- Time of last use (05 R193). -/
  used : Nat := 0
  data : List Byte := []
deriving DecidableEq, Repr

/-- A chunk-layer of a chunk in flight on one bent (05 R192). -/
structure ChunkLayer where
  layer : Nat
  bent : Nat
  /-- The fetch of its state parts is done, or they were resident. -/
  ready : Bool := false
  /-- It has waited at the head of its queue (05 R192). -/
  waited : Bool := false
  /-- Rows (steps x batch rows) computed. -/
  rows : Nat := 0
  /-- State after the last step, as in the state record (05 R177). -/
  state : List Byte := []
  /-- LINEAR: for batch row i and element e, at place i x H + e, the pairs (a, b) of the segment in force, FP32 codes; the first
  is (0, h) with the state that the segment starts from (05 R174, R189). -/
  scan : List (List (Nat × Nat)) := []
  /-- A poisoned input row has been read (05 R187): its reason. -/
  poison : Nat := 0
  done : Bool := false
deriving DecidableEq, Repr

/-- A chunk of a recurrent stream in flight (05 R182 to R186). -/
structure Chunk where
  stream : Nat
  nsteps : Nat
  resetAtStart : Bool
  /-- (STEP, ROW, ALL_ROWS) of each mark. -/
  marks : List (Nat × Nat × Bool) := []
  /-- RESET_PENDING as sampled at the start. -/
  sampled : Bool := false
  layers : List ChunkLayer := []
  /-- Reason of an abort; the operators of the job continue (05 R187). -/
  aborted : Nat := 0
deriving DecidableEq, Repr

/-- A sequence descriptor (Table Scarf-9). -/
structure SeqDesc where
  state : Nat := 0
  lastReason : Nat := 0
  gen : Nat := 0
  len : Nat := 0
  fill : Nat := 0
  npages : Nat := 0
  evicted : Nat := 0
  chunks : List Nat := []
deriving DecidableEq, Repr

/-- A slot of a page: list entry, page, slot. -/
structure PageSlot where
  entry : Nat
  page : Nat
  slot : Nat
deriving DecidableEq, Repr

/-- One record of the step list with what its reservation gave (04 R150 to R158). -/
structure StepRec where
  seq : Nat
  ntok : Nat
  /-- CODE of the status word. -/
  code : Nat := 0
  /-- The record stepped (its code is 0, or SEQ_EDITED on a superseded sequence). -/
  stepped : Bool := false
  /-- A read of its list or its descriptor failed: its rows are poisoned with `code` (04 R167). -/
  unread : Bool := false
  stalled : Bool := false
  evictedNow : Bool := false
  /-- Position of the first new token. -/
  base : Nat := 0
  slots : List PageSlot := []
deriving DecidableEq, Repr

/-- The snapshot that a job of an attention session holds (04 R160). -/
structure Snapshot where
  session : Nat
  descs : List SeqDesc
  recs : List StepRec := []
  /-- Code of the failed read of the step list, for which no slot was reserved; 0 for none. -/
  failed : Nat := 0
  /-- Sequences whose descriptor the snapshot could not read, with the code of their walks (04 R167). -/
  lost : List (Nat × Nat) := []
  /-- Pages and chunk frames that the job allocated on a superseded sequence (04 R164). -/
  extraPages : List Nat := []
  extraChunks : List Nat := []
deriving DecidableEq, Repr

/-- An entry of the deferred-reclaim queue of a pool (04 R163), with the session whose REL_PEG it waits for. -/
structure Deferred where
  ctx : Nat
  session : Nat
  target : Nat
  index : Nat
  chunk : Bool
  /-- Place of its word in the queue's memory. -/
  place : Nat := 0
deriving DecidableEq, Repr

/-- A weight block in the weight-stream ring of a bent (06 R215): its job and operand, its number in the graph's order, and its
bytes, none when its read failed with a reason. -/
structure RingBlock where
  bent : Nat
  job : JobId
  stream : Nat
  number : Nat
  bytes : List Byte
  reason : Nat := 0
deriving DecidableEq, Repr

/-- An edit of a page list that has started and whose writes are not applied yet (04 R161, R162, R166): the session, EDIT_OP, EDIT_SEQ,
EDIT_SRC and EDIT_ARG, and the time of EDIT_GO. -/
structure PendingEdit where
  session : Nat
  op : Nat
  seq : Nat
  src : Nat
  arg : Nat
  since : Nat
deriving DecidableEq, Repr

/-- A block in the queue of a bent's decoder (07 R244, R249): its context, the table slot that it names, its lines, and whether it comes
from memory. -/
structure QueuedBlock where
  bent : Nat
  ctx : Nat
  slot : Option Nat := none
  stored : Bool
  lines : List Byte
deriving DecidableEq, Repr

/-- A block that a memory encoder holds until its operand's table is built (07 R243): the store operator that writes it, its bent, its
address and its data. -/
structure HeldBlock where
  op : Nat
  bent : Nat
  addr : Nat
  bytes : List Byte
deriving DecidableEq, Repr

/-- A table build in progress (07 R243): its slot, the job and its operand (`op`, by Graph.operandKey), the blocks that the memory encoders
hold in the order in which they came, and the output tiles (operator, tile) whose peg operations wait until the held blocks are
written. -/
structure FroeBuild where
  slot : Nat
  job : JobId
  op : Nat
  hist : Nat
  held : List HeldBlock := []
  tiles : List (Nat × Nat) := []
deriving DecidableEq, Repr

/-- A started job (01 R50). -/
structure Job where
  id : JobId
  ctx : Nat
  entry : Nat := 0
  graph : Nat
  pegBase : Nat
  donePeg : Nat
  ring : Nat
  tag : Nat := 0
  seq : Nat := 0
  binding : Nat := 0xFFFF
  prio : Nat := 0
  /-- Logical bents of the placement, in increasing order (01 R19). -/
  bents : List Nat := []
  /-- Code of the fault that the job took, 0 for none (01 R52). -/
  fault : Nat := 0
  /-- First poisoning reason of an output tile (01 R23). -/
  poison : Nat := 0
  poisoned : Bool := false
  rerun : Bool := false
  warning : Nat := 0
  payload : List Byte := []
  /-- The job has reached step 1 of Table Stations-10. -/
  finished : Bool := false
  /-- FULL_WAITS has counted the job (13 R409). -/
  waited : Bool := false
  /-- Time of the start (01 R51). -/
  start : Nat := 0
  /-- Output tiles done of each operator of the graph, by operator index and bent position: key op * 8 + position. -/
  progress : List (Nat × Nat) := []
  /-- Output tiles of each operator of a chunk's job, which the steps of the chunk bound (05 R172); empty for another job, whose graph
  fixes them. -/
  tiles : List Nat := []
  /-- Tiles of each input that its operator has released (01 R27): key (op * 8 + position) * 16 + input. -/
  freed : List (Nat × Nat) := []
  /-- What the last READ of a peg returned to the stations of the job (01 Table Stations-5). -/
  pegRead : Nat := 0
  /-- Instances of each BARRIER of the graph, by index, that the job has issued (11 R356). -/
  barriers : List (Nat × Nat) := []
  /-- A Scarf step of the job holds a page-list generation (01 R58, 04 R168). -/
  holdsGeneration : Bool := false
  /-- The chunk in flight that the job carries (05 R182). -/
  chunk : Option Chunk := none
  snapshot : Option Snapshot := none
  /-- Device-virtual addresses of the bindings, in the graph's order (01 R50). -/
  inputs : List Nat := []
  outputs : List Nat := []
  /-- Blocks of a STREAMED operand that a bent has received: key operand * 8 + bent (06 R215). -/
  streamed : List (Nat × Nat) := []
  /-- Operands that are not coded with their table (07 R231, R243), by Graph.operandKey: 1 ZERO_RUN only, 2 nothing. -/
  coding : List (Nat × Nat) := []
  /-- Operands whose first block has reached an encoder (07 R243), by Graph.operandKey. -/
  opened : List Nat := []
  /-- ACTIVE of each VERSIONED region entry of the context at the start, which holds for the whole job (06 R209). -/
  halves : List (Nat × Nat) := []
  /-- Frame buffer of a loop job (09 R278). -/
  buf : Nat := 0
  /-- Control record that the job wrote, or the reason of its poison (09 R290). -/
  control : Option (List Byte) := none
  controlPoison : Nat := 0
  /-- No poisoned BOXES_OUT was written (09 R287). -/
  boxesGood : Bool := true
  /-- DECISION of a rung-1 job, and the reason of its poison (10 R324). -/
  decision : Option Nat := none
  decisionPoison : Nat := 0
  /-- Blocks of the audio rings at which AUDIO_LP and AUDIO_HQ start (10 R323). -/
  lpFirst : Nat := 0
  hqFirst : Nat := 0
deriving DecidableEq, Repr

/-- Output tiles that operator `i` of the job writes. -/
def Job.ntiles (j : Job) (i : Nat) (d : OpDef) : Nat := j.tiles.getD i d.ntiles

/-- Tiles that the producer of region `r` writes for the job, 0 for a region that a port fills. -/
def Job.regionTiles (j : Job) (g : Graph) (r : Nat) : Nat :=
  ((g.ops.zipIdx.filter (fun o => o.1.out == some r)).map (fun o => j.ntiles o.2 o.1)).sum

/-- The chunk in flight of a job (05 R184): one that has not aborted. -/
def Job.inFlight (j : Job) : Option Chunk := j.chunk.bind (fun c => if c.aborted = 0 then some c else none)

/-- Who waits on a peg (01 Table Stations-5, WAIT). -/
inductive Waiter where
  /-- An operator of a graph, before its next output tile. -/
  | op (index : Nat)
  /-- BARRIER `k` of a job at instance `g`: waiting for RELEASE, or on rank 0 for ARRIVE (11 R356). -/
  | release (k g : Nat)
  | arrive (k g : Nat)
  /-- A block of the Sill die that reads a region in peg order. -/
  | block
deriving DecidableEq, Repr

/-- A pending WAIT: the waiter carries its target (01 R32). -/
structure PegWait where
  peg : Nat
  target : Nat
  job : Option JobId := none
  who : Waiter := .block
deriving DecidableEq, Repr

/-- Output tiles that the bents together have done of operator `o`. -/
def Job.tilesDone (j : Job) (o : Nat) : Nat := ((j.progress.filter (fun p => p.1 / 8 == o)).map (·.2)).sum

/-- A page list of a region: pages of the region in order (06 R203). -/
structure RegionPages where
  key : Nat
  pages : List Nat
deriving DecidableEq, Repr

/-- A page waiting for its scrub, and the region entry whose scrub it belongs to, none for a save page (06 R207, R214). -/
structure ScrubPage where
  page : Nat
  region : Option Nat
deriving DecidableEq, Repr

/-- Where GDDR6 stands in Table Memory-7: accesses admitted, an entry before its step 4, self-refresh, an exit begun. -/
inductive Refresh where
  | active | entering | asleep | exiting
deriving DecidableEq, Repr

/-- An access that arrived while GDDR6 admitted none and that no later command repeats (06 R224): bytes that the device writes at a
device-virtual address of a context, after which it adds 1 to a peg; the first descriptors of a session, the disable of a session, an
edit of a session with EDIT_OP, EDIT_SEQ, EDIT_SRC and the time of EDIT_GO, the first record of a stream. -/
inductive Waiting where
  | write (ctx addr : Nat) (bytes : List Byte) (peg : Option Nat)
  | sequences (session : Nat)
  | disable (session : Nat)
  | edit (session op seq src since : Nat)
  | record (stream : Nat)
deriving DecidableEq, Repr

/-- GDDR6 and host memory. -/
structure Memory where
  /-- GDDR6 by physical data address (06 R218); an unlisted byte is zero. -/
  ddr : Mem := []
  /-- The four RS check symbols of a data block (physical address / 64), p0 in the low byte (06 R220). -/
  check : List (Nat × Nat) := []
  /-- Host memory as the device and the host write it; an unlisted byte is zero. -/
  host : Mem := []
  /-- Mailbox pages and the peg event queue: BAR4 by offset. -/
  bar4 : Mem := []
  pages : List RegionPages := []
  scrub : List ScrubPage := []
  /-- Pages of each region entry in STATE 3, and the tenant whose quota still counts them (06 R207, 12 R366, R367). -/
  leaving : List (Nat × Nat × Nat) := []
  /-- Retire-pending pages (06 R223). -/
  pending : List Nat := []
  /-- Pages withheld until the next start-up because the retired list was full (06 R223). -/
  withheld : List Nat := []
  /-- Corrected errors of a page since start-up. -/
  pageCE : List (Nat × Nat) := []
  /-- 4 KiB blocks (physical address / 4096) whose STORED bit is set (07 R239). -/
  stored : List Nat := []
  /-- Blocks (physical address / 64) that read as uncorrectable until they are rewritten (06 R221). -/
  bad : List Nat := []
  /-- The model's own record, no state of the device: the 64-byte blocks that the command in progress has written so far, each with a mark
  for a part of a block; none outside such a command (06 R222). -/
  wrote : Option (List (Nat × Bool)) := none
  /-- Accesses that wait for the exit from self-refresh, oldest first (06 R224). -/
  waiting : List Waiting := []
  /-- The data or check block at the patrol's pointer: block 16 x g + k is data block k of the 15 that check block g covers, or for k = 15
  that check block. -/
  patrol : Nat := 0
deriving DecidableEq, Repr

/-- The power policy of the running image (16 R463, R466, R471; 15 R450). -/
structure PowerPolicy where
  /-- Least power of each domain in milliwatts. -/
  minMw : List (Nat × Nat) := []
  /-- IDLE_RET and IDLE_OFF of each domain in microseconds; a domain that is not listed stays ON. -/
  idle : List (Nat × Nat × Nat) := []
  /-- Preferred operating point of each phase of a graph: (graph, phase, operating point). -/
  phases : List (Nat × Nat × Nat) := []
deriving DecidableEq, Repr

/-- A host write that waits until its domain is ON (15 R452). -/
inductive DeferredWrite where
  | register (off value : Nat)
  | daaGo (bus : Nat) (targets : List I3cTarget)
  | manGo (bus : Nat)
  | testRule (port rule value : Nat)
  | glanceSrc (value : Nat)
  | beamCommit
  | testGo (prog : Nat)
deriving DecidableEq, Repr

/-- A context slot of a bent in use (01 R55, R59): the job it serves and the region-table entries of the job's regions there,
as (region number, index in the bent's region table). -/
structure Resident where
  bent : Nat
  slot : Nat
  job : JobId
  regions : List (Nat × Nat) := []
  /-- Number of the scheduling decision that last took a tile of the slot (01 R55). -/
  served : Nat := 0
deriving DecidableEq, Repr

/-- The descriptor of the tile in one slot of a Loft region of a resident context (01 R20). -/
structure TileAt where
  bent : Nat
  slot : Nat
  region : Nat
  place : Nat
  desc : TileDesc
  /-- Elements whose running sum saturated, in the order of the layout; empty for none (02 R75, R83). -/
  marks : List Bool := []
  /-- The data was loaded from a PROTECTED memory region (07 R230). -/
  guarded : Bool := false
deriving DecidableEq, Repr

/-- The Loft of every bent. -/
structure Lofts where
  /-- Bytes: key bent * 2^26 + byte offset. -/
  data : Mem := []
  /-- Owner of a WRITTEN line: key bent * 2^20 + line, value context + 1 (06 R212). -/
  owner : List (Nat × Nat) := []
  tiles : List TileAt := []
  /-- Corrected errors of a bank row since start-up: key bent * 2^14 + bank * 512 + row (06 R210, R213). -/
  rowCE : List (Nat × Nat) := []
  /-- Rows that the health record of their bent lists for repair, as (physical bent, bank, row) (06 R213). -/
  repair : List (Nat × Nat × Nat) := []
deriving DecidableEq, Repr

/-- Loft lines saved at an eviction (06 R214), by line offset in the slot's range, with the descriptors of the slot's tiles. -/
structure Save where
  job : JobId
  bent : Nat
  pages : List Nat
  lines : List (Nat × List Byte) := []
  tiles : List TileAt := []
  /-- TILES of the slot. -/
  progress : Nat := 0
deriving DecidableEq, Repr

/-- A half of the Kerf buffer of a bent in use (03 R99): rows of element codes for one group of output positions. -/
structure KerfHalf where
  bent : Nat
  slot : Nat
  half : Nat
  /-- The Scribe operator that filled it, by its key in Job.progress. -/
  maker : Nat := 0
  /-- The Mortise or Plane operator that reads the half, by index, and its output tile. -/
  op : Nat := 0
  tile : Nat := 0
  fmt : Fmt := .fp32
  rows : List (List (List Elem)) := []
  flags : Flags := {}
  poison : Bool := false
  reason : Nat := 0
deriving DecidableEq, Repr

end Sys2Proof.Machine
end

