-- ==== Sys2Proof/Machine/RegName.lean ====
section
/-! DEFINITION. The names of the register fields of the QX-8640: one constructor per field of the register and table
tables of spec/01 to spec/17 and 19, named block_FIELD with the manual's own field name. A field of a table entry or of a
repeated block exists once per index; the index stands beside the name wherever a field is read or written. -/

namespace Sys2Proof.Machine

/-- A register field (00 R8). Where two table layouts share words (session entries of TYPE 1 and 2, region entries), the
shared words are one raw field each: ses_D2 to ses_D7 and rgn_D6, rgn_D7. -/
inductive Reg where
  -- region table entry of a bent (Table Stations-3)
  | rt_VALID | rt_SLOT | rt_PRODUCER | rt_NCONS | rt_BASE_LINE | rt_SLOT_LINES_M1 | rt_NSLOTS_M1 | rt_FULL_PEG
  | rt_FREE_PEG
  -- peg entry (Table Stations-7)
  | peg_COUNT | peg_THRESH | peg_ENABLE | peg_HOST_ACCESS | peg_REMOTE_ACCESS | peg_IRQ_EN | peg_WAKE | peg_CONTEXT
  | peg_TENANT | peg_REACHED | peg_WAITING | peg_REASON
  -- peg store control (Table Stations-8)
  | pstore_PEG_ACCESS_FAULTS | pstore_PEG_STALE_DROPS | pstore_PEG_REMOTE_IN | pstore_PEG_REMOTE_REFUSED
  | pstore_ACCESS_EVENT | pstore_STALE_EVENT
  -- job entry (Table Stations-9)
  | job_ENABLE | job_REASON | job_GRAPH | job_PEG_BASE | job_DONE_PEG | job_IN_LIST | job_OUT_LIST | job_RESULT_RING
  | job_BENT_MASK | job_JOB_TAG | job_BINDING | job_JOB_SEQ | job_STATE | job_FAULT
  -- context slot entry of a bent (Table Stations-11)
  | slot_CONTEXT | slot_STATE | slot_PRIO | slot_GRAPH | slot_PEG_BASE | slot_LOFT_BASE | slot_LOFT_LINES
  | slot_JOB_SEQ | slot_TILES
  -- bent control and status (Table Stations-13)
  | bent_LOGICAL | bent_PHYSICAL | bent_PRESENT | bent_INCARNATION | bent_OP | bent_PWR | bent_THROTTLED
  | bent_FILLER | bent_RESIDENT | bent_BUSY | bent_STALE_DROPS | bent_TILE_COUNT | bent_RERUN_COUNT
  | bent_POISON_COUNT | bent_SWITCH_COUNT | bent_STALE_SEEN | bent_POISON_SEEN | bent_SLOT_WAIT | bent_TIMEOUT_SEEN
  -- Plane (Table Numbers-5)
  | plane_SAT_COUNT | plane_NONFINITE_IN | plane_NAN_MADE | plane_SAT_SEEN | plane_NONFINITE_SEEN | plane_NAN_SEEN
  -- Gauge clipped share (Table Numbers-6)
  | gauge_CHECKED | gauge_OVER_COUNT | gauge_CLIPPED_LO | gauge_CLIPPED_HI | gauge_LAST_SHARE | gauge_LAST_STATION
  | gauge_LAST_RERUN | gauge_LAST_SEQ | gauge_LAST_CONTEXT | gauge_OVER_SEEN | gauge_RERUN_CLIPPED
  -- Mortise (Table Convolution-5)
  | mor_ARRAY_IN_SERVICE | mor_SPARE_ARRAY | mor_SPARE_USED | mor_ARRAYS | mor_PASSES | mor_WEIGHT_BLOCKS
  | mor_TRANSPOSED | mor_REPEATS | mor_ARRAY_RETIRED
  -- Scribe (Table Convolution-6)
  | scribe_CUR_KH | scribe_CUR_KW | scribe_CUR_SH_M1 | scribe_CUR_SW_M1 | scribe_CUR_MODE | scribe_CUR_F
  | scribe_CUR_TRANSPOSE | scribe_CUR_DH_M1 | scribe_CUR_DW_M1 | scribe_CUR_OUT_EXTRA | scribe_CUR_SLOT
  | scribe_CUR_PT | scribe_CUR_PB | scribe_CUR_PL | scribe_CUR_PR | scribe_CUR_PAD_CODE | scribe_CUR_PAD_SCALE
  | scribe_FETCH_LINES | scribe_KERF_LINES | scribe_PAD_TAPS | scribe_KERF_DISCARDS | scribe_DISCARD_SEEN
  -- Auger (Table Convolution-7)
  | auger_CUR_OH_M1 | auger_CUR_OW_M1 | auger_CUR_SAMPLE | auger_CUR_EDGE | auger_CUR_SLOT | auger_CUR_BOX
  | auger_BOXES | auger_BAD_BOXES | auger_OUTSIDE_SAMPLES | auger_BAD_BOX_SEEN
  -- KV class record (Table Scarf-4)
  | kvc_NLAYERS_M1 | kvc_VALID | kvc_NKV_M1 | kvc_HD | kvc_KVFMT | kvc_PAGE_BYTES
  -- page pool entry (Table Scarf-6)
  | pool_ENABLE | pool_STATE | pool_REASON | pool_KV_CLASS | pool_BASE | pool_PAGES | pool_CHUNKS | pool_FREE_PAGES
  | pool_FREE_CHUNKS | pool_DEFERRED | pool_PAGE_BYTES | pool_POOL_BYTES
  -- session table entry (TYPE 1) (Table Scarf-8)
  | ses_ENABLE | ses_TYPE | ses_STALLED | ses_REASON | ses_CONTEXT | ses_ACQ | ses_STALLED_SEQS | ses_EVICTIONS
  | ses_REFUSED_STEPS | ses_EDIT_OP | ses_EDIT_SEQ | ses_EDIT_SRC | ses_EDIT_GO | ses_EDIT_ARG | ses_EDIT_BUSY
  | ses_EDIT_OVERRUN | ses_EDIT_REASON | ses_COW_COPIES | ses_D2 | ses_D3 | ses_D4 | ses_D5 | ses_D6 | ses_D7
  -- Scarf (Table Scarf-14)
  | scarf_CUR_SESSION | scarf_CUR_SEQ | scarf_CUR_LAYER | scarf_CUR_DIRECT | scarf_CUR_SLOT | scarf_SEG_CAPABLE
  | scarf_BLOCKS_COMPUTED | scarf_BLOCKS_SKIPPED | scarf_PAGES_READ | scarf_EMPTY_ROWS | scarf_WALK_FAULTS
  | scarf_SEG_FAULTS | scarf_WALK_FAULT_SEEN | scarf_SEG_FAULT_SEEN | scarf_EMPTY_ROW_SEEN
  -- recurrent class record (Table Truss-2)
  | rcl_NLAYERS_M1 | rcl_VALID | rcl_SFMT | rcl_ROW_BYTES | rcl_LROW_BYTES0 | rcl_LROW_BYTES1 | rcl_LROW_BYTES2
  | rcl_LROW_BYTES3 | rcl_LROW_BYTES4 | rcl_LROW_BYTES5 | rcl_LROW_BYTES6 | rcl_LROW_BYTES7
  -- session table entry (TYPE 2) (Table Truss-3)
  | str_STATE_BYTES | str_NEXT_CHUNK | str_STEPS | str_RESET_PENDING | str_IN_FLIGHT | str_SWAP_DEFERRED
  | str_RESIDENT_MASK | str_LAST_REASON | str_FETCHES | str_ABORTS
  -- Truss (Table Truss-5)
  | truss_CUR_SESSION | truss_CUR_LAYER | truss_CUR_SLOT | truss_CUR_CELL | truss_CUR_STEP | truss_CACHE_LINES
  | truss_CACHE_USED | truss_CHUNKS_COMMITTED | truss_CHUNKS_ABORTED | truss_STEPS | truss_FETCHES | truss_HEAD_WAITS
  | truss_SWAPOUTS | truss_SWAP_DEFERRALS | truss_MARKS_APPLIED | truss_ABORT_SEEN | truss_FETCH_ERROR_SEEN
  -- region-map entry (Table Memory-2)
  | rgn_ENABLE | rgn_KIND | rgn_WRITABLE | rgn_PROTECTED | rgn_STATE | rgn_ACTIVE | rgn_RETIRE_PENDING | rgn_REASON
  | rgn_SRC_CONTEXT | rgn_SRC_REGION | rgn_SHARERS | rgn_VA | rgn_SIZE | rgn_VERSION | rgn_D6 | rgn_D7
  -- Dowel (Table Memory-8)
  | dowel_CUR_CONTEXT | dowel_CUR_SLOT | dowel_GDDR6_RD_LINES | dowel_GDDR6_WR_LINES | dowel_HOST_RD_LINES
  | dowel_BROADCAST_LINES | dowel_SAVE_LINES | dowel_RESTORE_LINES | dowel_ACCESS_FAULTS | dowel_POISONED_READS
  | dowel_LOFT_CE | dowel_LOFT_SPARE_ROWS | dowel_WSTREAM_LINES | dowel_ACCESS_FAULT_SEEN | dowel_GDDR6_UE_SEEN
  | dowel_LOFT_UE_SEEN | dowel_HOST_FAULT_SEEN
  -- GDDR6 memory block (Table Memory-9)
  | mem_CLAMSHELL | mem_RATE | mem_SELF_REFRESH | mem_PAGES_TOTAL | mem_PAGES_FREE | mem_PAGES_SCRUBBING
  | mem_RETIRED | mem_RETIRE_PENDING | mem_CE_TOTAL | mem_UE_TOTAL | mem_EDC_RETRIES | mem_LAST_ERR_PA_LO
  | mem_LAST_ERR_PA_HI | mem_LAST_ERR_CH | mem_LAST_ERR_TYPE | mem_LAST_ERR_CONTEXT | mem_LAST_ERR_NOCTX
  | mem_CE_SEEN | mem_UE_SEEN | mem_RETIRE_SEEN | mem_RETIRED_LIST_FULL | mem_RETRAIN_SEEN
  -- GDDR6 channel (Table Memory-9)
  | memch_CH_CE | memch_CH_UE | memch_CH_EDC_RETRIES | memch_CH_RETRAINS
  -- retired list (Table Memory-9)
  | ret_RETIRED_PAGE | ret_VALID | ret_PERSISTED
  -- Froe decoder (Table Froe-4)
  | fdec_CUR_CONTEXT | fdec_CUR_SLOT | fdec_CUR_TYPE | fdec_CUR_TABLE_ID | fdec_CUR_GEN | fdec_BLOCKS_RAW
  | fdec_BLOCKS_ZERO_RUN | fdec_BLOCKS_TABLE | fdec_BLOCKS_INLINE | fdec_IN_LINES | fdec_OUT_LINES
  | fdec_NOT_RESIDENT | fdec_SHORT_BLOCKS | fdec_EXCESS_BLOCKS | fdec_BAD_BLOCKS | fdec_LAST_CODE | fdec_LAST_CONTEXT
  | fdec_LAST_PRODUCED | fdec_NOT_RESIDENT_SEEN | fdec_SHORT_SEEN | fdec_EXCESS_SEEN | fdec_BAD_SEEN
  -- Froe device block (Table Froe-5)
  | froe_COMP_OFF | froe_OFF_START_UP | froe_OFF_SELF_TEST | froe_OFF_RECOVERY | froe_SLOTS_VALID
  | froe_SLOTS_SUPERSEDED | froe_ENC_PLAIN | froe_ENC_ZERO_RUN | froe_ENC_TABLE | froe_ENC_INLINE | froe_BUILDS
  | froe_RETIREMENTS | froe_BUILD_REFUSED | froe_PARTIAL_WRITES | froe_LINES_SAVED | froe_BUILD_REFUSED_SEEN
  | froe_PARTIAL_WRITE_SEEN
  -- Froe table slot (Table Froe-5)
  | ftab_VALID | ftab_SUPERSEDED | ftab_BUILDING | ftab_TABLE_ID | ftab_GEN | ftab_OWNER | ftab_REFS | ftab_DECODES
  -- camera template (Table Ingest-3, Jointer-2)
  | tmpl_VALID | tmpl_NEXP_M1 | tmpl_LINE_PAD | tmpl_FRAME_PAD | tmpl_WIDTH_M1 | tmpl_HEIGHT_M1 | tmpl_EXP_DT0
  | tmpl_EXP_DT1 | tmpl_EXP_DT2 | tmpl_EXP_DT3 | tmpl_PAD_VALUE | tmpl_FPS_MAX | tmpl_IDLE_TIMEOUT | tmpl_EMB_MAX
  | tmpl_MOSAIC | tmpl_PHASE | tmpl_REENTRY_AT | tmpl_TAP_MASK | tmpl_TAP_SHIFT | tmpl_BAND_M1 | tmpl_LIN_TABLE
  | tmpl_DPC_TABLE | tmpl_LSC_TABLE | tmpl_TONE_TABLE | tmpl_RATIO1 | tmpl_RATIO2 | tmpl_RATIO3 | tmpl_PAIR_FLOOR
  | tmpl_KNEE | tmpl_CCM_TABLE | tmpl_OUT_MODE | tmpl_NVIEWS | tmpl_VIEW0_W_M1 | tmpl_VIEW0_H_M1 | tmpl_VIEW1_W_M1
  | tmpl_VIEW1_H_M1 | tmpl_HOLD_MASK | tmpl_LATE_POLICY | tmpl_FOCUS_MODE | tmpl_FOCUS_TABLE | tmpl_LATE_US
  | tmpl_GLANCE_F
  -- camera stream (Table Ingest-4)
  | cam_ENABLE | cam_STATE | cam_REASON | cam_CONTEXT | cam_TEMPLATE | cam_JOINTER | cam_PORT | cam_EMB_EN
  | cam_EMB_VC | cam_EXP_VC0 | cam_EXP_VC1 | cam_EXP_VC2 | cam_EXP_VC3 | cam_REC_RING | cam_REC_SLOTS_M1
  | cam_FRAME_PEG | cam_FRAME_SEQ | cam_FRAMES_FLAGGED | cam_OVERRUNS | cam_DISCARDED_PACKETS | cam_BUFFER_BYTES
  | cam_REC_NEXT
  -- camera port (Table Ingest-7)
  | port_ENABLED | port_CPHY | port_LANES | port_RATE | port_HS_ACTIVE | port_PACKETS | port_HDR_CORRECTED
  | port_HDR_DROPPED | port_CRC_ERRORS | port_UNBOUND_PACKETS | port_UNSUPPORTED_DT | port_ORPHAN_PACKETS
  | port_HDR_DROP_SEEN | port_CRC_SEEN | port_UNSUPPORTED_SEEN
  -- loop entry (Table Jointer-5)
  | loop_ENABLE | loop_STATE | loop_REASON | loop_GRAPH | loop_BENT_MASK | loop_PEG_BASE | loop_BAND_PEG_BASE
  | loop_REENTRY_PEG_BASE | loop_VIEW_PEG | loop_DONE_PEG | loop_RESULT_RING | loop_TAP_FRAMES_M1 | loop_BUS
  | loop_CLEAT_EN | loop_SENSOR_SLOT | loop_LENS_SLOT | loop_LENS_EN | loop_ADAPT_REGION | loop_ADAPT_VALID
  | loop_TAP_BASE | loop_IN_LIST | loop_OUT_LIST | loop_FRAME_BYTES | loop_LOOP_JOBS | loop_LOOPS_SKIPPED
  | loop_CTRL_SENT | loop_LAST_CTRL_CODE | loop_MAX_LAT_US | loop_LAST_CTRL_SEQ | loop_FOCUS_FALLBACKS | loop_CUR_BUF
  -- Jointer (Table Jointer-8)
  | jnt_PRESENT | jnt_GLANCE_CAPABLE | jnt_PWR | jnt_STREAMS | jnt_REENTRY_STREAMS | jnt_SETS_SERVED | jnt_PAD_SETS
  | jnt_REENTRY_SETS | jnt_TAP_BANDS | jnt_DEFECTS_FIXED | jnt_GLANCE_SRC | jnt_GLANCE_ACTIVE | jnt_GLANCE_FRAMES
  | jnt_GLANCE_SKIPPED | jnt_GLANCE_EXIT
  -- I3C bus (Table Jointer-9)
  | i3c_ENABLED | i3c_SCL_RATE | i3c_LOOPS | i3c_DAA_GO | i3c_DAA_BUSY | i3c_HOTJOIN_SEEN | i3c_NACK_SEEN
  | i3c_IBI_SEEN | i3c_RECORDS_SENT | i3c_NACKS | i3c_IBIS | i3c_LAST_IBI_ADDR | i3c_LAST_IBI_MDB | i3c_MAN_RECORD
  | i3c_MAN_GO | i3c_MAN_BUSY | i3c_MAN_OVERRUN | i3c_MAN_REASON
  -- I3C target slot (Table Jointer-9)
  | i3ct_DYN_ADDR | i3ct_VALID | i3ct_BCR | i3ct_DCR | i3ct_PID_LO | i3ct_PID_HI
  -- Gauge histogram (Table Jointer-10)
  | hist_CUR_BINS | hist_CUR_LOG | hist_CUR_ZY_M1 | hist_CUR_ZX_M1 | hist_CUR_SLOT | hist_HIST_TILES
  | hist_HIST_SAMPLES_LO | hist_HIST_SAMPLES_HI | hist_SAT_SAMPLES
  -- detection log entry (Table Cascade-2)
  | det_DET_SEQ | det_CLASS | det_GLANCE | det_SEAM | det_REPLAY_SHORT | det_OUTCOME | det_CODE | det_HIT_FRAME
  | det_REPLAY_FIRST | det_SCORE | det_DECIDED_FRAME
  -- cascade entry (Table Cascade-3)
  | casc_ENABLE | casc_STATE | casc_RUNG3_ACTIVE | casc_RELEASE | casc_REASON | casc_CONTEXT | casc_RUNG3_EN
  | casc_RUNG1_GRAPH | casc_RUNG2_GRAPH | casc_RUNG3_GRAPH | casc_RUNG1_MASK | casc_RUNG2_MASK | casc_RUNG3_MASK
  | casc_PEG_BASE | casc_DONE_PEG | casc_LP_PEG | casc_HQ_PEG | casc_RESULT_RING | casc_RUNG2_SESSION | casc_LP_RING
  | casc_LP_SLOTS_M1 | casc_HQ_RING | casc_HQ_SLOTS_M1 | casc_HQ_LANES_M1 | casc_IN_LIST | casc_OUT_LIST
  | casc_DETECTIONS | casc_CONFIRMS | casc_REJECTS | casc_HITS_DROPPED
  -- Rasp (Table Cascade-7)
  | rasp_MODE0 | rasp_MODE1 | rasp_MODE2 | rasp_MODE3 | rasp_SETTLING | rasp_LISTEN_GROUP | rasp_ACTIVE_GROUPS
  | rasp_HQ_RUNNING | rasp_STEP_DOWN_DEFERRED | rasp_SETTLE_MS | rasp_SAMPLE_DLY | rasp_AFN | rasp_SEAM_FRAMES
  | rasp_STEP_UPS | rasp_STEP_DOWNS | rasp_DEFERRALS | rasp_LP_CLIPS | rasp_HQ_CLIPS | rasp_BEAM_CLIPS
  | rasp_SEAM_SEEN | rasp_CLIP_SEEN | rasp_BEAM_REFUSED | rasp_COMMIT | rasp_PENDING | rasp_BEAM_REASON
  -- Rasp channel (Table Cascade-7)
  | raspch_GAIN | raspch_MUTE
  -- high-quality lane (Table Cascade-7)
  | rasplane_HQ_LANE_SRC | rasplane_HQ_LANE_BEAM
  -- beam channel (Table Cascade-7)
  | beam_DELAY | beam_BGAIN
  -- Plumb (Table Cascade-8)
  | plumb_HOP_MS | plumb_ACTIVITY | plumb_GLANCE_IN | plumb_HIT_PENDING | plumb_ACT_CLASS | plumb_HIT_CLASSES
  | plumb_ACT_ON | plumb_ACT_OFF | plumb_ACT_HANG_HOPS | plumb_RUNG2_HOLD_S | plumb_HOPS | plumb_HITS
  | plumb_GLANCE_RUNS | plumb_HIT_SEEN | plumb_DROP_SEEN | plumb_REPLAY_SHORT_SEEN
  -- Plumb class parameters (Table Cascade-8)
  | plumbc_THRESH | plumbc_CONSEC | plumbc_REFRACT_HOPS
  -- Plumb class score (Table Cascade-8)
  | plumbs_SCORE
  -- route entry (Table Fabric-2)
  | route_ENABLE | route_REASON | route_HOPS
  -- route half-word (Table Fabric-2)
  | routep_NEXT_DEV | routep_NEXT_PORT | routep_VALID
  -- fabric-job entry (Table Fabric-6)
  | fjob_ENABLE | fjob_STATE | fjob_REASON | fjob_FJOB_ID | fjob_KEY_SLOT | fjob_NMEMBERS_M1 | fjob_MY_RANK
  | fjob_MEMBERS | fjob_RUN | fjob_LAST_FAULT | fjob_RETRANSMITS | fjob_AUTH_FAILS | fjob_FLOWS_FAILED
  | fjob_PEG_OPS_IN
  -- Kertik port (Table Fabric-7)
  | kport_ENABLED | kport_SWITCHED | kport_PMD | kport_LINK_UP | kport_SPARE_ASSIGNED | kport_SPARE_IN_USE
  | kport_REPLACED_LANE | kport_VLAN_ID | kport_VLAN_PCP | kport_VLAN_EN | kport_PEER_DEV | kport_PEER_SILENT
  | kport_PEER_PORT | kport_TX_FRAMES | kport_RX_FRAMES | kport_RETRANSMITS | kport_AUTH_FAILS | kport_DUPLICATES
  | kport_BAD_HEADERS | kport_FORWARDED | kport_HOP_EXPIRED | kport_UNKNOWN_JOB | kport_STALE_DROPS
  | kport_FOREIGN_FRAMES | kport_FCS_ERRORS | kport_FEC_CORRECTED | kport_FEC_UNCORRECTED | kport_RETRAINS
  | kport_INJECTED | kport_EARLY_PEG | kport_AUTH_SEEN | kport_LINK_DOWN_SEEN | kport_SPARE_SEEN | kport_STALE_SEEN
  | kport_FEC_UE_SEEN | kport_RULE_REASON
  -- test rule (Table Fabric-7)
  | krule_EN | krule_DIR | krule_ACTION | krule_KIND | krule_ANY_FLOW | krule_FLOW | krule_FJOB_ID | krule_EVERY_N
  | krule_COUNT | krule_CORRUPT_BIT | krule_REORDER_DEPTH
  -- fabric device block (Table Fabric-8)
  | fab_DEV_ID | fab_MAC_PREFIX | fab_ETHERTYPE | fab_RTO_US | fab_FLOW_TIMEOUT_MS | fab_FLOW_RECORDS_FREE
  | fab_ENTRIES_ENABLED | fab_INJECT_ALLOWED | fab_FLOWS_FAILED | fab_PEER_ABORTS | fab_BARRIERS | fab_FLOW_FAIL_SEEN
  | fab_ABORT_SEEN
  -- tenant class record (Table Tenants-1)
  | cls_VALID | cls_PRIO_MIN | cls_FABRIC_EN | cls_TEST_RULES_EN | cls_FROE_TABLES | cls_MAX_MEM_PAGES
  | cls_MAX_SESSIONS | cls_MAX_PEGS | cls_MAX_STREAMS | cls_MAX_CONTEXTS | cls_JOB_TIME_MS | cls_KV_CLASSES
  | cls_RCLASSES | cls_TEMPLATES | cls_GRAPHS
  -- tenant entry (Table Tenants-2)
  | ten_ENABLE | ten_STATE | ten_REASON | ten_CLASS | ten_PASID | ten_Q_MEM_PAGES | ten_Q_SESSIONS | ten_Q_PEGS
  | ten_Q_STREAMS | ten_Q_CONTEXTS | ten_MEM_USED | ten_SESSIONS_USED | ten_PEGS_USED | ten_STREAMS_USED
  | ten_CONTEXTS_USED | ten_FROE_USED
  -- context entry (Table Tenants-3)
  | ctx_ENABLE | ctx_STATE | ctx_REASON | ctx_TENANT | ctx_PRIO | ctx_HEAD | ctx_TAIL | ctx_DB_REASON
  | ctx_RESIDENT_MASK | ctx_JOBS_DONE | ctx_LAST_FAULT
  -- Wedge (Table Tenants-10)
  | wedge_LIFE_CYCLE | wedge_LC_NEXT | wedge_IDENT_READY | wedge_KEM_READY | wedge_CERT_READY | wedge_START_UP
  | wedge_QUEUE | wedge_KEY_BUSY | wedge_BOOT_ID | wedge_KEM_EPOCH | wedge_SERIAL_LO | wedge_SERIAL_HI
  | wedge_RETURNS_LEFT | wedge_ATTESTS | wedge_KEYS_ACCEPTED | wedge_KEYS_REFUSED | wedge_KEY_REFUSED_SEEN
  | wedge_ATTEST_REFUSED_SEEN | wedge_KEM_ROTATED | wedge_IDENT_PK | wedge_DEPLOYED_PK | wedge_BUF
  | wedge_TENANT_VALID | wedge_TENANT | wedge_ATTEST_GO | wedge_ATTEST_REASON | wedge_NONCE | wedge_KEY_GO
  | wedge_KEY_ERASE | wedge_ERASE_SLOT | wedge_KEY_REASON | wedge_LC_GO | wedge_LC_TARGET | wedge_LC_CONFIRM
  | wedge_LC_REASON | wedge_STAGED_DIGEST | wedge_KEY_WINDOW | wedge_LC_TOKEN | wedge_KEM_CERT
  -- report buffer (Table Tenants-10)
  | wbuf_BUF_STATE | wbuf_FREE
  -- measurement (Table Tenants-10)
  | wmeas_MEAS
  -- report (Table Tenants-10)
  | wrep_REPORT
  -- key slot (Table Tenants-10)
  | wkey_SLOT_STATE | wkey_SLOT_TENANT | wkey_SLOT_FJOB_ID
  -- result ring entry (Table Host-4)
  | ring_ENABLE | ring_STATE | ring_REASON | ring_TENANT | ring_LOCATION | ring_SLOT_SIZE | ring_SLOTS_LOG2
  | ring_IRQ_EN | ring_VECTOR | ring_HOST_ADDR | ring_HEAD | ring_TAIL | ring_MBX_PAGE | ring_RESULTS | ring_DROPPED
  | ring_FULL_WAITS | ring_HEAD_REFUSED
  -- host port block (Table Host-6)
  | host_DEV_STATE | host_REDUCED | host_LINK_RATE | host_MOD0_UP | host_MOD1_UP | host_MOD0_REPAIRED
  | host_MOD1_REPAIRED | host_ACCESS_ERRORS | host_DOORBELL_FAULTS | host_MISROUTED | host_PEG_EVENTS_LOST
  | host_LAST_DB_TENANT | host_ACCESS_ERROR | host_DOORBELL_FAULT | host_MISROUTE | host_EVQ_OVERFLOW
  | host_FOREMAN_LOST_EV | host_LINK_DEGRADED | host_EVENT_MASK | host_DEV_VECTOR | host_PEG_VECTOR
  | host_PEG_EVQ_HEAD | host_PEG_EVQ_TAIL
  -- start-up block (Table Start-10)
  | start_RUN_SLOT | start_FALLBACK | start_START_FAILED | start_HEALTH_VALID | start_SELF_TESTED | start_FLASH_SIZE
  | start_UPDATE_STATUS | start_STAGED_SLOT | start_SLOT0_REASON | start_SLOT1_REASON | start_START_MS
  | start_DIR_REASON | start_RUN_SVN | start_MIN_SVN | start_BUILD_ID_LO | start_BUILD_ID_HI | start_SVN_WRITES_LEFT
  | start_KEY_PROGRAMMED | start_KEY_REVOKED | start_RUN_KEY | start_START_REASON | start_UPD_OP | start_UPD_SLOT
  | start_UPD_AREA | start_UPD_GO | start_UPD_BUSY | start_UPD_OVERRUN | start_UPD_REASON | start_UPD_OFFSET
  | start_UPD_BYTES | start_RESTART | start_KEYDIG_SLOT | start_KEYDIG_GO | start_KEYDIG_REASON | start_KEYDIG
  | start_FLASH_ERRORS
  -- clock and domain control (Table Clocks-8)
  | clk_MAIN_LOCKED | clk_IO_LOCKED | clk_CK_CTL_ON_REF | clk_REF_OK | clk_SSC_STEP | clk_MAIN_RELOCKS
  | clk_CLOCK_FAULTS | clk_DOMAINS_ON | clk_DOMAINS_RET | clk_DOMAINS_OFF | clk_CLOCK_FAULT_SEEN | clk_WAKE_SEEN
  | clk_WAKE_SEQ | clk_LAST_SRC | clk_LAST_LEVEL | clk_LAST_ARG | clk_LAST_DOMAIN
  -- domain (Table Clocks-8)
  | dom_STATE | dom_TARGET | dom_CHANGING | dom_ALWAYS_ON | dom_HELD_OFF | dom_TRANSITIONS
  -- wake source counter (Table Clocks-8)
  | wsrc_WAKES_SRC
  -- power (Table Power-7)
  | pwr_CAP_HOST | pwr_CAP_TRAY | pwr_POLICY_MAX | pwr_CAP_EFFECTIVE | pwr_FLOOR_W | pwr_PWR_1MS | pwr_PWR_10MS
  | pwr_OP_LIMIT | pwr_DUTY | pwr_CAP_UNMET | pwr_PARKED_CLASSES | pwr_COOLANT_OK | pwr_COOLANT_STOP
  | pwr_THERMAL_TRIP | pwr_TEMP_HIGH | pwr_TEMP_WARN | pwr_TEMP_LOW | pwr_FLOOR_OVER_CAP | pwr_CAP_REASON
  | pwr_CAP_UNMET_MS | pwr_PARK_EVENTS | pwr_COOLANT_STOPS | pwr_THERMAL_TRIPS | pwr_CAP_UNMET_SEEN | pwr_PARK_SEEN
  | pwr_COOLANT_SEEN | pwr_TRIP_SEEN | pwr_TEMP_HIGH_SEEN | pwr_DROOP_SEEN | pwr_CAP_REFUSED_SEEN | pwr_TJ_MAX
  | pwr_T_THROTTLE | pwr_FILLER_MAX_US | pwr_FILLER_LEVEL_MAX | pwr_COOLANT_HOLD_MS | pwr_DROOP_MV
  | pwr_HOTTEST_SENSOR | pwr_HOTTEST_T
  -- power of a bent (Table Power-8)
  | pwrb_PREF_OP | pwrb_THERM_LIMIT | pwrb_MAX_OP | pwrb_AGE_TRIM_MV | pwrb_DROOP_EVENTS | pwrb_STRETCH_CYCLES
  | pwrb_FILLER_US | pwrb_FILLER_LIMITS | pwrb_AGE_SLOW
  -- temperature sensor (Table Power-9)
  | temp_TEMP | temp_VALID
  -- recovery and Try-square (Table Spares-8)
  | rec_ACTIVE_ID | rec_STANDBY_ID | rec_RECOVERING | rec_HEALTH_STALE | rec_SHUTDOWN_STATE | rec_BENTS_PRESENT
  | rec_ARRAYS_IN_SERVICE | rec_SPARE_BENT | rec_REDUCE_CAUSE | rec_TAKEOVERS | rec_REPLACEMENTS | rec_LAST_EVENT
  | rec_LAST_UNIT | rec_EVENT_SEQ | rec_TAKEOVER_SEEN | rec_SUSPECT_SEEN | rec_FENCE_SEEN | rec_HEALTH_WRITE_FAIL
  | rec_SHUTDOWN_GO | rec_SHUTDOWN_REASON | rec_LR_ACTED | rec_LR_CAUSE | rec_LR_BOOT_ID | rec_TS_PROG | rec_TS_GO
  | rec_TS_BUSY | rec_TS_REASON | rec_TS_UNITS_LO | rec_TS_UNITS_HI | rec_TS_ELAPSED_MS
  -- unit slot incarnation (Table Spares-8)
  | inc_INCARNATION | inc_OCCUPANT
  -- unit slot stale count (Table Spares-8)
  | stale_STALE_COUNT
  -- unit (Table Spares-8)
  | unit_STATUS | unit_SUSPECT_COUNT | unit_FENCED | unit_IN_RESET | unit_FAIL_CODE | unit_TESTED_BOOT_ID
  -- staging buffer (Table Start-10)
  | stage_BUFFER
  -- MSI-X vector (Table Host-1)
  | msix_ADDR_LO | msix_ADDR_HI | msix_DATA | msix_CTRL_MASK
  -- MSI-X pending bit (Table Host-1)
  | pba_PENDING
deriving DecidableEq, Repr

end Sys2Proof.Machine
end

