-- ==== Sys2Proof/Machine/Image.lean ====
section
/-! DEFINITION. What a start-up finds outside the device (14 R418, R426, R432): the flash, and for each slot the outcome of the checks
and the content of the sections, whose formats the manual keeps opaque (14, "The image"). -/

namespace Sys2Proof.Machine

/-- What the sections of an image hold (14 Table Start-5). -/
structure ImageCfg where
  /-- Values of the fields that are set at start-up and of the device-reserved pegs, as (field, index, value). -/
  settings : List (Reg × Nat × Nat) := []
  graphs : List Graph := []
  policy : PowerPolicy := {}
  tables : JointerTables := {}
  ceRetire : Nat := 16
  loftRowCE : Nat := 4
  /-- PATROL_HOURS (06 R222). -/
  patrolHours : Nat := 24
  /-- Classes of the glance sub-network, the rung-0 network and that sub-network (10 R309, R310). -/
  glanceClasses : Nat := 0
  awl : AwlNet := {}
  glanceNet : AwlNet := {}
  /-- Subsystem Vendor ID and Subsystem ID (13 Table Host-1). -/
  subVendor : BitVec 16 := 0
  subId : BitVec 16 := 0
deriving DecidableEq, Repr

/-- What one slot holds beyond its header, where its bytes have not been checked before (14 Table Start-7, log entry 12): whether the
signature verifies, the content of the sections, and the first
of the checks 8 to 18 that the sections break in a way that this content does not show, 0 for none. -/
structure SlotCheck where
  signatureOk : Bool := true
  code : BitVec 16 := 0
  image : ImageCfg := {}
deriving DecidableEq, Repr

/-- What was found of the bytes of a slot (log entry 12): the image, its signature, and the outcome and content. -/
structure SlotSeen where
  image : Mem
  signature : Mem
  check : SlotCheck
deriving DecidableEq, Repr

/-- Outcomes of checks that the manual leaves to standards, as they came out (log entry 12): the same bytes give the same again. The model's
own field, not the device's. GCM tags of job-key records by decapsulation key and key window, signatures of life-cycle tokens by the
token's number, image slots by their bytes. -/
structure Known where
  tags : List (List Byte × Nat × Bool) := []
  tokens : List (Nat × Bool) := []
  slots : List SlotSeen := []
deriving DecidableEq, Repr

/-- What the world shows at a start-up. -/
structure BootEnv where
  /-- Level of COOLANT_OK after its filter (18 R513). -/
  coolant : Bool := true
  /-- SMB_ADDR straps (18 R512). -/
  smbAddr : BitVec 2 := 0
  /-- What the flash answers (14 R418). -/
  flash : Sfdp := {}
  check0 : SlotCheck := {}
  check1 : SlotCheck := {}
  /-- Verdicts of the start-up test (14 R428), when it runs. -/
  verdicts : List Verdict := []
  /-- Targets that answer ENTDAA on each bus (09 R292). -/
  targets : List (Nat × List I3cTarget) := []
  /-- Transactions of earlier fillers of a unit slot that still arrive (17 R487). -/
  late : List Late := []
deriving DecidableEq, Repr

end Sys2Proof.Machine
end

