-- ==== Sys2Proof/Syntax.lean ====
section
/-! DEFINITION. The commands of the block: one constructor per row of the table of operations and events. A host access,
a packet or a pin event carries its operands; an event inside the block names the unit at which it happens. -/

namespace Sys2Proof

/-- A command (spec/opcode_table.json). -/
inductive Instr where
  /-- REGISTER_WRITE (R8). Host write of `width` bits at offset `off` of a BAR. -/
  | registerWrite (bar : Bar) (off : Nat) (width : Width) (value : DWord)
  /-- CLIPPED_LO_READ (R90). Host read of CLIPPED_LO of logical bent `n`. -/
  | clippedLoRead (n : Fin 8)
  /-- HIST_SAMPLES_LO_READ (R296). Host read of HIST_SAMPLES_LO of logical bent `n`. -/
  | histSamplesLoRead (n : Fin 8)
  /-- JOB_ENTRY_ENABLE (R47). Host write of 1 to ENABLE of job entry `e` of context `c`. -/
  | jobEntryEnable (c : Fin 16384) (e : Fin 16)
  /-- JOB_ENTRY_DISABLE (R53). Host write of 0 to ENABLE of job entry `e` of context `c`. -/
  | jobEntryDisable (c : Fin 16384) (e : Fin 16)
  /-- JOB_DB (R48). Doorbell write of `value` at offset 0x000 of the page of tenant `t`. -/
  | jobDb (t : Fin 4096) (value : Word)
  /-- RING_DB (R402). Doorbell write of `value` at offset 0x004 of the page of tenant `t`. -/
  | ringDb (t : Fin 4096) (value : Word)
  /-- PEG_ENABLE (R40). Host write of `value`, ENABLE taken as 1, to DW2 of peg entry `i`. -/
  | pegEnable (i : Fin 65536) (value : Word)
  /-- PEG_DISABLE (R40). Host write of 0 to ENABLE of peg `i`. -/
  | pegDisable (i : Fin 65536)
  /-- PEG_COUNT_WRITE (R39). Host write of COUNT of peg `i`. -/
  | pegCountWrite (i : Fin 65536) (value : Word)
  /-- PEG_THRESH_WRITE (R39). Host write of THRESH of peg `i`. -/
  | pegThreshWrite (i : Fin 65536) (value : Word)
  /-- PEG_ADD_ALIAS_WRITE (R38). Host 32-bit write to the ADD alias of peg `i`. -/
  | pegAddAliasWrite (i : Fin 65536) (value : Word)
  /-- PEG_EVQ_HEAD_WRITE (R412). Host write of PEG_EVQ_HEAD. -/
  | pegEvqHeadWrite (h : BitVec 16)
  /-- PEG_WAIT_COMPLETE (R32). The `k`-th pending WAIT completes if its peg has reached its target. -/
  | pegWaitComplete (k : Nat)
  /-- JOB_START (R50). The queue of context `c` takes the entry at its head. -/
  | jobStart (c : Fin 16384) (env : StartEnv)
  /-- CONTEXT_RESIDENT (R55). The context of started job `j` becomes resident on logical bent `n`, where the job is placed. -/
  | contextResident (j : JobId) (n : Met (Fin 8))
  /-- CONTEXT_RESTORED (R214). The restore of context slot `sl` of bent `n` completes. -/
  | contextRestored (n : Met (Fin 8)) (sl : Fin 64)
  /-- TILE_COMPUTE (R26). Station `st` of bent `n` takes and computes one ready tile. -/
  | tileCompute (n : Fin 8) (st : Station) (env : TileEnv)
  /-- HOST_READ_TIMEOUT (R225). A host-tier read of job `j` has had no completion for 50 ms. -/
  | hostReadTimeout (j : JobId)
  /-- TABLE_BUILD_DONE (R243). The table build in Froe slot `sl` completes. -/
  | tableBuildDone (sl : Met (Fin 64))
  /-- TABLE_SLOT_RETIRE (R244). Froe slot `sl` is retired. -/
  | tableSlotRetire (sl : Fin 64)
  /-- JOB_TIMEOUT (R51). The time limit of started job `j` expires. -/
  | jobTimeout (j : JobId)
  /-- RESULT_SLOT_WRITE (R409). Job `j` leaves the queue through Table Stations-10. -/
  | resultSlotWrite (j : Met JobId)
  /-- DEFERRED_RECLAIM (R163). The pool of context `c` takes back the pages and chunk frames whose REL_PEG target is reached. -/
  | deferredReclaim (c : Met (Fin 16384))
  /-- STATE_FETCH_DONE (R192). Dowel of bent `n` completes the state fetch at the head of the Truss queue for `layer`. -/
  | stateFetchDone (n : Fin 8) (layer : Fin 8) (mem : ReadOutcome)
  /-- CHUNK_COMMIT (R185). The chunk in flight of recurrent stream `sn` commits. -/
  | chunkCommit (sn : Met (Fin 3072))
  /-- SWAP_OUT (R194). The state part of stream `sn` on bent `n` is dropped from the Truss cache. -/
  | swapOut (sn : Fin 3072) (n : Fin 8)
  /-- WEIGHT_STREAM_READ (R215). Dowel of bent `n` reads the next weight blocks into the weight-stream ring. -/
  | weightStreamRead (n : Fin 8) (env : TileEnv)
  /-- ARRAY_RETIRE (R108). Array `a` of the Mortise of bent `n` has failed; `during` says that this was found during a tile. -/
  | arrayRetire (n : Fin 8) (a : Fin 17) (during : Bool)
  /-- POOL_ENABLE (R140). Host write of 1 to ENABLE of the page pool of context `c`. -/
  | poolEnable (c : Fin 16384)
  /-- POOL_READY (R140). Dowel has written the free stacks and counts of the pool of context `c`. -/
  | poolReady (c : Met (Fin 16384))
  /-- POOL_DISABLE (R143). Host write of 0 to ENABLE of the page pool of context `c`. -/
  | poolDisable (c : Fin 16384)
  /-- SESSION_ENABLE (R145). Host write of `value`, ENABLE taken as 1, to DW0 of session entry `sn` (TYPE 1). -/
  | sessionEnable (sn : Met (Fin 3072)) (value : Word)
  /-- SESSION_DISABLE (R146). Host write of 0 to ENABLE of attention session `sn`. -/
  | sessionDisable (sn : Met (Fin 3072))
  /-- STREAM_ENABLE (R179). Host write of `value`, ENABLE taken as 1, to DW0 of session entry `sn` (TYPE 2). -/
  | streamEnable (sn : Met (Fin 3072)) (value : Word)
  /-- STREAM_DISABLE (R180). Host write of 0 to ENABLE of recurrent stream `sn`. -/
  | streamDisable (sn : Fin 3072)
  /-- RESET_PENDING_WRITE (R184). Host write of 1 to RESET_PENDING of stream `sn`. -/
  | resetPendingWrite (sn : Fin 3072)
  /-- OPEN (R162). Host write of EDIT_GO with EDIT_OP 1. -/
  | openSeq (sn : Fin 3072) (seq : Byte) (src : Byte)
  /-- CLOSE (R162). Host write of EDIT_GO with EDIT_OP CLOSE. -/
  | closeSeq (sn : Fin 3072) (seq : Byte) (src : Byte)
  /-- TRUNCATE (R162). Host write of EDIT_GO with EDIT_OP TRUNCATE. -/
  | truncateSeq (sn : Fin 3072) (seq : Byte) (src : Byte)
  /-- FORK (R162). Host write of EDIT_GO with EDIT_OP FORK. -/
  | forkSeq (sn : Fin 3072) (seq : Byte) (src : Byte)
  /-- EDIT_DONE (R162). All writes of the edit of session `sn` are visible. -/
  | editDone (sn : Met (Fin 3072))
  /-- REGION_ENABLE (R204). Host write of `value`, ENABLE taken as 1, to DW0 of region entry `r` of context `c`. -/
  | regionEnable (c : Fin 16384) (r : Fin 32) (value : Word)
  /-- REGION_READY (R205). The translation of region `r` of context `c` is written. -/
  | regionReady (c : Fin 16384) (r : Fin 32)
  /-- REGION_DISABLE (R207). Host write of 0 to ENABLE of region `r` of context `c`. -/
  | regionDisable (c : Fin 16384) (r : Fin 32)
  /-- SCRUB_PAGE_DONE (R207). The page at the front of the scrub queue is scrubbed. -/
  | scrubPageDone
  /-- PATROL_READ (R222). The patrol reads its next block, with this outcome. -/
  | patrolRead (outcome : ReadOutcome)
  /-- CHANNEL_RETRAIN (R222). Channel `ch` retrains after eight failed repeats of the write at `at'`; `ok` says whether the last try succeeds. -/
  | channelRetrain (ch : Fin 32) (ok : Bool) (at' : Retry)
  /-- SELF_REFRESH_ENTRY (R224). Foreman requests self-refresh. -/
  | selfRefreshEntry
  /-- SELF_REFRESH_EXIT (R224). An exit is requested or an access waits. -/
  | selfRefreshExit
  /-- CSI_FRAME_START (R260). A Frame Start packet with this frame number on port `p`. -/
  | csiFrameStart (p : Fin 24) (vc : Fin 32) (hdr : HdrState) (number : BitVec 16)
  /-- CSI_FRAME_END (R260). A Frame End packet on port `p`. -/
  | csiFrameEnd (p : Fin 24) (vc : Fin 32) (hdr : HdrState)
  /-- CSI_LINE_PACKET (R261). A long packet on port `p`. -/
  | csiLinePacket (p : Fin 24) (vc : Fin 32) (dt : BitVec 6) (hdr : HdrState) (crcOk : Bool) (payload : List Byte)
  /-- CSI_EMBEDDED_PACKET (R264). An embedded-data packet on port `p`. -/
  | csiEmbeddedPacket (p : Fin 24) (vc : Fin 32) (hdr : HdrState) (crcOk : Bool) (payload : List Byte)
  /-- CSI_LINE_START_END (R253). A Line Start or Line End packet on port `p`. -/
  | csiLineStartEnd (p : Fin 24) (vc : Fin 32) (hdr : HdrState)
  /-- IDLE_TIMEOUT (R260). IDLE_TIMEOUT of camera stream `k` expires. -/
  | idleTimeout (k : Fin 96)
  /-- LINE_SET_SERVE (R266). Jointer `j` serves its next ready line set. -/
  | lineSetServe (j : Met (Fin 8))
  /-- FRAME_RECORD_WRITE (R268). The record of the oldest closed, fully served frame of stream `k` is written. -/
  | frameRecordWrite (k : Met (Fin 96))
  /-- REENTRY_SET_SERVE (R280). The re-entry lane of Jointer `j` serves its next line set. -/
  | reentrySetServe (j : Met (Fin 8))
  /-- GLANCE_PERIOD_EXPIRY (R281). The 1 s glance period expires. -/
  | glancePeriodExpiry
  /-- GLANCE_FRAME (R282). Jointer 0 has reduced the glance frame. -/
  | glanceFrame
  /-- GLANCE_SRC_WRITE (R281). Host write of GLANCE_SRC. -/
  | glanceSrcWrite (value : BitVec 7)
  /-- CAMERA_STREAM_ENABLE (R257). Host write of 1 to ENABLE of camera stream `k`. -/
  | cameraStreamEnable (k : Fin 96)
  /-- CAMERA_STREAM_DISABLE (R258). Host write of 0 to ENABLE of camera stream `k`. -/
  | cameraStreamDisable (k : Fin 96)
  /-- LOOP_ENABLE (R284). Host write of 1 to ENABLE of loop entry `k`. -/
  | loopEnable (k : Fin 96)
  /-- LOOP_DISABLE (R286). Host write of 0 to ENABLE of loop entry `k`. -/
  | loopDisable (k : Fin 96)
  /-- LOOP_STOPPED (R286). Stopping loop entry `k` has nothing left. -/
  | loopStopped (k : Fin 96)
  /-- LOOP_JOB_START (R285). The waiting loop job of stream `k` starts. -/
  | loopJobStart (k : Fin 96) (env : StartEnv)
  /-- I3C_RECORD_TRANSFER (R291). Cleat sends the next queued record on bus `b`; `acks` are the acknowledgements in order. -/
  | i3cRecordTransfer (b : Fin 24) (acks : List Bool)
  /-- I3C_IBI (R292). A target requests an in-band interrupt. -/
  | i3cIbi (b : Fin 24) (addr : BitVec 7) (mdb : Byte)
  /-- HOT_JOIN (R292). A Hot-Join request on bus `b`. -/
  | hotJoin (b : Fin 24)
  /-- DAA_GO (R292). Host write of DAA_GO; `targets` answer ENTDAA in this order. -/
  | daaGo (b : Fin 24) (targets : List I3cTarget)
  /-- MAN_GO (R292). Host write of MAN_GO on bus `b`. -/
  | manGo (b : Fin 24)
  /-- PDM_FRAME_BOUNDARY (R307). A 1 ms audio frame boundary, with what the microphones gave in the frame that ends. -/
  | pdmFrameBoundary (frame : AudioFrame)
  /-- BEAM_COMMIT (R306). Host write of COMMIT. -/
  | beamCommit
  /-- AWL_HOP (R309). An Awl hop ends; the operand carries nothing. -/
  | awlHop (nothing : Unit)
  /-- RUNG1_JOB_START (R319). Foreman starts the rung-1 job. -/
  | rung1JobStart (env : StartEnv)
  /-- RUNG2_JOB_START (R324). Foreman starts the rung-2 job. -/
  | rung2JobStart (env : StartEnv)
  /-- RUNG2_HOLD_EXPIRY (R325). RUNG2_HOLD_S expires. -/
  | rung2HoldExpiry
  /-- RELEASE (R325). Host write of RELEASE. -/
  | release
  /-- RUNG3_JOB_START (R326). Foreman starts the rung-3 job. -/
  | rung3JobStart (env : StartEnv)
  /-- CASCADE_ENABLE (R315). Host write of 1 to ENABLE of the cascade entry. -/
  | cascadeEnable
  /-- CASCADE_DISABLE (R316). Host write of 0 to ENABLE of the cascade entry. -/
  | cascadeDisable
  /-- CASCADE_CLEARED (R316). The clearing after a cascade disable is done. -/
  | cascadeCleared
  /-- ROUTE_ENABLE (R336). Host write of 1 to ENABLE of route entry `d`. -/
  | routeEnable (d : Fin 512)
  /-- ROUTE_DISABLE (R336). Host write of 0 to ENABLE of route entry `d`. -/
  | routeDisable (d : Fin 512)
  /-- FABRIC_JOB_ENABLE (R345). Host write of 1 to ENABLE of the fabric-job entry of context `c`; `list` is what a member list in host
  memory holds. -/
  | fabricJobEnable (c : Fin 16384) (list : List (BitVec 16))
  /-- FABRIC_JOB_DISABLE (R347). Host write of 0 to ENABLE of the fabric-job entry of context `c`. -/
  | fabricJobDisable (c : Fin 16384)
  /-- TEST_RULE_ENABLE (R359). Host write of `value`, EN taken as 1, to DW0 of test rule `i` of port `k`. -/
  | testRuleEnable (k : Fin 8) (i : Fin 8) (value : Word)
  /-- REORDER_RELEASE (R360). The oldest frame held by a REORDER rule of port `k` is released. -/
  | reorderRelease (k : Fin 8)
  /-- KERTIK_LINK_UP (R332). The bring-up lane test of port `k` ends; lane position 4 is the spare. -/
  | kertikLinkUp (k : Fin 8) (badLanes : List (Fin 5))
  /-- KERTIK_LINK_DOWN (R333). Port `k` loses alignment or FEC lock. -/
  | kertikLinkDown (k : Fin 8) (fecUncorrected : Bool)
  /-- KERTIK_DATA_RX (R352). A frame with KIND DATA arrives on port `k`. -/
  | kertikDataRx (k : Fin 8) (f : Frame)
  /-- KERTIK_ACK_RX (R351). A frame with KIND ACK arrives on port `k`. -/
  | kertikAckRx (k : Fin 8) (f : Frame)
  /-- KERTIK_PEG_RX (R354). A frame with KIND PEG arrives on port `k`. -/
  | kertikPegRx (k : Fin 8) (f : Frame)
  /-- KERTIK_KEEPALIVE_RX (R343). A KEEPALIVE arrives on port `k`. -/
  | kertikKeepaliveRx (k : Fin 8) (f : Frame)
  /-- KERTIK_ABORT_RX (R353). A frame with KIND ABORT arrives on port `k`. -/
  | kertikAbortRx (k : Fin 8) (f : Frame)
  /-- KERTIK_DATA_TX (R352). The SEND channel `chan` of context `c` sends its next frame; requests of earlier fillers of a bent's slot
  still arrive (17 R487), and its reads of Loft meet errors (06 R213). -/
  | kertikDataTx (c : Fin 16384) (chan : Fin 256) (env : SendEnv)
  /-- ACK_DELAY_EXPIRY (R350). 2 µs have passed since the first unacknowledged frame of the receive flow. -/
  | ackDelayExpiry (c : Fin 16384) (flow : Nat)
  /-- RTO_EXPIRY (R351). RTO of the oldest unacknowledged frame of the send flow expires. -/
  | rtoExpiry (c : Fin 16384) (flow : Nat)
  /-- FLOW_TIMEOUT (R353). The send flow has not advanced for FLOW_TIMEOUT_MS. -/
  | flowTimeout (c : Fin 16384) (flow : Nat)
  /-- KEEPALIVE_TX (R343). Port `k` has been silent for 10 µs. -/
  | keepaliveTx (k : Fin 8)
  /-- PEER_SILENT (R343). No frame has arrived on port `k` for 1 ms. -/
  | peerSilent (k : Fin 8)
  /-- BARRIER_ARRIVE (R356). The member's sent DATA frames are all acknowledged at its barrier. -/
  | barrierArrive (c : Fin 16384)
  /-- FILLER_START (R357). Filler work starts on bent `n`. -/
  | fillerStart (n : Fin 8)
  /-- FILLER_LIMIT_EXPIRY (R474). Filler on bent `n` reaches FILLER_MAX_US. -/
  | fillerLimitExpiry (n : Fin 8)
  /-- TENANT_ENABLE (R365). Host write of 1 to ENABLE of tenant `t`. -/
  | tenantEnable (t : Fin 4096)
  /-- QUOTA_WRITE (R366). Host write of `value` to DW3 (or DW4) of tenant `t`. -/
  | quotaWrite (t : Fin 4096) (dw4 : Bool) (value : Word)
  /-- TENANT_DISABLE (R367). Host write of 0 to ENABLE of tenant `t`. -/
  | tenantDisable (t : Fin 4096)
  /-- CONTEXT_ENABLE (R370). Host write of 1 to ENABLE of context `c`. -/
  | contextEnable (c : Fin 16384)
  /-- CONTEXT_DISABLE (R371). Host write of 0 to ENABLE of context `c`. -/
  | contextDisable (c : Fin 16384)
  /-- KEY_GO (R380). Host write of KEY_GO, with the ERASE_SLOT bits of the write. -/
  | keyGo (eraseSlot : Byte)
  /-- KEY_DELIVERY_DONE (R380). Wedge finishes a key delivery; `tagOk` says whether the GCM tag verifies, the first time that these
  bytes are checked (log entry 12). -/
  | keyDeliveryDone (tagOk : Bool)
  /-- KEY_ERASE (R382). Host write of KEY_ERASE with ERASE_SLOT. -/
  | keyErase (slot : Byte)
  /-- ATTEST_GO (R383). Host write of `value` with ATTEST_GO set. -/
  | attestGo (value : Word)
  /-- ATTEST_SIGN_START (R385). Wedge starts signing the next queued item. -/
  | attestSignStart
  /-- ATTEST_SIGN_DONE (R384). Wedge finishes signing a report. -/
  | attestSignDone
  /-- KEM_CERT_SIGN_DONE (R378). Wedge finishes signing the KEM certificate. -/
  | kemCertSignDone
  /-- BUF_FREE (R384). Host write of FREE of report buffer `b`. -/
  | bufFree (b : Fin 8)
  /-- LC_GO (R388). Host write of LC_GO; `tokenOk` says whether the signature of a token verifies, the first time that it is checked (log
  entry 12). -/
  | lcGo (target : BitVec 3) (confirm : BitVec 12) (tokenOk : Bool)
  /-- RING_ENABLE (R404). Host write of 1 to ENABLE of result ring `r`. -/
  | ringEnable (r : Fin 4096)
  /-- RING_READY (R404). The zeroing writes of ring `r` are visible. -/
  | ringReady (r : Fin 4096)
  /-- RING_DISABLE (R405). Host write of 0 to ENABLE of result ring `r`. -/
  | ringDisable (r : Fin 4096)
  /-- UCIE_LINK_TRAIN (R392). The UCIe link trains; what each module reaches. -/
  | ucieLinkTrain (m0 : ModuleTrain) (m1 : ModuleTrain)
  /-- HOT_RESET (R396). A hot reset or link-down, or entry into D3hot. -/
  | hotReset (d3 : Bool)
  /-- L1_ENTRY (R394). The device requests L1. -/
  | l1Entry
  /-- CAP_HOST_WRITE (R467). Host write of CAP_HOST. -/
  | capHostWrite (value : BitVec 16)
  /-- SMBUS_STATUS (R480). SMBus command 0x01. -/
  | smbusStatus
  /-- SMBUS_CAP_TRAY_WRITE (R467). SMBus command 0x02, write. -/
  | smbusCapTrayWrite (value : BitVec 16) (pecOk : Bool)
  /-- SMBUS_CAP_TRAY_READ (R480). SMBus command 0x02, read. -/
  | smbusCapTrayRead
  /-- SMBUS_PWR_10MS (R480). SMBus command 0x03. -/
  | smbusPwr10ms
  /-- SMBUS_FLOOR_W (R480). SMBus command 0x04. -/
  | smbusFloorW
  /-- SMBUS_CAP_REASON (R480). SMBus command 0x05. -/
  | smbusCapReason
  /-- SMBUS_HOTTEST (R480). SMBus command 0x06. -/
  | smbusHottest
  /-- SMBUS_SENSORS (R480). SMBus command 0x07. -/
  | smbusSensors
  /-- SMBUS_FAULT_INFO (R480). SMBus command 0x08. -/
  | smbusFaultInfo
  /-- SMBUS_TIMEOUT (R523). SMB_CLK held low for 25 to 35 ms. -/
  | smbusTimeout
  /-- ERASE (R434). Update operation 1. -/
  | eraseSlot (slot : Fin 2) (area : Fin 4)
  /-- PROGRAM (R434). Update operation 2. -/
  | program (slot : Fin 2) (area : Fin 4)
  /-- READ (R434). Update operation 3. -/
  | readFlash (slot : Fin 2) (area : Fin 4)
  /-- VERIFY (R434). Update operation 4. -/
  | verify (slot : Fin 2) (area : Fin 4)
  /-- COMMIT (R434). Update operation 5. -/
  | commit (slot : Fin 2) (area : Fin 4)
  /-- CANCEL (R434). Update operation 6. -/
  | cancel (slot : Fin 2) (area : Fin 4)
  /-- UPD_DONE (R434). The update operation ends; `check` is what VERIFY finds in a slot whose bytes have not been checked before (log
  entry 12). -/
  | updDone (flashOk : Bool) (check : Machine.SlotCheck)
  /-- RESTART (R429). Host write of RESTART. -/
  | restart (env : Machine.BootEnv)
  /-- KEYDIG_GO (R424). Host write of KEYDIG_GO. -/
  | keydigGo (slot : Fin 4)
  /-- PORST_N_ASSERT (R511). PORST_N falls. -/
  | porstNAssert
  /-- WARM_RST_N_ASSERT (R511). WARM_RST_N falls. -/
  | warmRstNAssert
  /-- PORST_N_RELEASE (R426). PORST_N rises. -/
  | porstNRelease (straps : BitVec 9) (env : Machine.BootEnv)
  /-- WARM_RST_N_RELEASE (R426). WARM_RST_N rises. -/
  | warmRstNRelease (straps : BitVec 9) (env : Machine.BootEnv)
  /-- START_UP_COMPLETE (R426). Start-up reaches step 11. -/
  | startUpComplete
  /-- DOMAIN_ENTRY_REQUEST (R453). Foreman sends domain `d` to OFF or RETENTION. -/
  | domainEntryRequest (d : Fin 152) (off : Bool)
  /-- DOMAIN_ISOLATE (R453). The entry of domain `d` reaches step 3. -/
  | domainIsolate (d : Fin 152)
  /-- DOMAIN_ENTRY_DONE (R453). The rail of domain `d` has settled at its entry. -/
  | domainEntryDone (d : Fin 152)
  /-- DOMAIN_EXIT_REQUEST (R454). A wake or demand starts the exit of domain `d`. -/
  | domainExitRequest (d : Fin 152)
  /-- DOMAIN_EXIT_DONE (R454). The exit of domain `d` completes. -/
  | domainExitDone (d : Fin 152)
  /-- IDLE_RET_EXPIRY (R450). Domain `d` has been idle for IDLE_RET. -/
  | idleRetExpiry (d : Fin 152)
  /-- IDLE_OFF_EXPIRY (R450). Domain `d` has been idle for IDLE_OFF. -/
  | idleOffExpiry (d : Fin 152)
  /-- WAKE_PEG (R456). The level of WAKE peg `i` reaches Foreman. -/
  | wakePeg (i : Fin 65536)
  /-- WAKE_ACTIVITY (R456). The ACTIVITY level reaches Foreman. -/
  | wakeActivity
  /-- WAKE_DEMAND (R456). A demand for domain `d` reaches Foreman. -/
  | wakeDemand (d : Fin 152)
  /-- WAKE_HOST_LINK (R456). The host requests L1 exit on UCIe module `m`. -/
  | wakeHostLink (m : Fin 2)
  /-- WAKE_GLANCE_TIMER (R456). The glance period level reaches Foreman. -/
  | wakeGlanceTimer
  /-- WAKE_POWER_EVENT (R456). A power event reaches Foreman. -/
  | wakePowerEvent
  /-- WAKE_I3C_IBI (R456). An IBI or Hot-Join edge on bus `b`. -/
  | wakeI3cIbi (b : Fin 24)
  /-- WAKE_CSI_SOT (R456). A high-speed start of transmission on port `p`. -/
  | wakeCsiSot (p : Fin 24)
  /-- CLOCK_FAULT (R460). The main PLL loses lock or the ratio monitor trips. -/
  | clockFault
  /-- REFERENCE_ABSENT (R460). The reference has been absent for 10 µs. -/
  | referenceAbsent
  /-- POWER_SAMPLE (R468). Foreman measures the package power. -/
  | powerSample (watts : BitVec 16)
  /-- CONTROL_PERIOD (R468). A 1 ms control period. -/
  | controlPeriod
  /-- OP_CHANGE (R464). Foreman decides operating point `op` for bent `n`. -/
  | opChange (n : Fin 8) (op : Fin 6)
  /-- OP_CHANGE_DONE (R464). The operating-point change of bent `n` completes. -/
  | opChangeDone (n : Fin 8)
  /-- DROOP_FIRE (R473). A droop detector of bent `n` fires. -/
  | droopFire (n : Fin 8)
  /-- STRETCH_END (R473). 64 clear cycles after a droop; `cycles` were doubled. -/
  | stretchEnd (n : Fin 8) (cycles : Word)
  /-- TEMP_SAMPLE (R476). Every sensor is sampled. -/
  | tempSample (temps : List (BitVec 16))
  /-- COOLANT_OK_FALL (R477). COOLANT_OK is low after its filter. -/
  | coolantOkFall
  /-- COOLANT_RESUME (R478). The resume condition holds. -/
  | coolantResume
  /-- FOREMAN_POLL (R488). Foreman polls every unit; `silent` do not answer, `errors` report an error of
  their own control state, and `late` are transactions of earlier fillers of a slot that still arrive (R487). -/
  | foremanPoll (silent : List (Fin 62)) (errors : WithLate (List (Fin 62)))
  /-- UNIT_FENCED (R489). A transaction of declared unit `u` arrives more than 10 µs after its OFF command. -/
  | unitFenced (u : Fin 62)
  /-- SPARE_BENT_IN_SERVICE (R490). The spare bent enters service as logical bent `n`. -/
  | spareBentInService (n : Fin 8)
  /-- HEARTBEAT_ADD (R492). The active (or standby) Foreman adds to its heartbeat peg. -/
  | heartbeatAdd (active : WithLate Bool)
  /-- HEARTBEAT_SAMPLE (R493). A Foreman samples the other's heartbeat peg. -/
  | heartbeatSample (byStandby : Bool) (error : WithLate Bool)
  /-- COLD_SPARE_LOADED (R493). The cold spare Foreman has loaded its firmware. -/
  | coldSpareLoaded
  /-- LAST_RESORT (R494). Wedge's last-resort sequencer acts. -/
  | lastResort (cause : BitVec 3)
  /-- HEALTH_MAP_UPDATE (R498). Foreman writes the health map; `ok` says whether the flash writes succeed. -/
  | healthMapUpdate (ok : Bool)
  /-- SHUTDOWN_GO (R497). Host write of SHUTDOWN_GO. -/
  | shutdownGo
  /-- SHUTDOWN_DONE (R497). The shutdown program ends. -/
  | shutdownDone (verdicts : List Verdict) (ok : Bool)
  /-- UNIT (R496). Try-square program UNIT. -/
  | tsUnit
  /-- LOFT_MARCH (R496). Try-square program LOFT_MARCH. -/
  | tsLoftMarch
  /-- LINK_LOOPBACK (R496). Try-square program LINK_LOOPBACK. -/
  | tsLinkLoopback
  /-- TS_PROGRAM_DONE (R496). A direct Try-square program ends. -/
  | tsProgramDone (verdicts : List Verdict) (elapsed : Word) (ok : Bool)
  /-- MAIN_PLL_RELOCK (R460). The main PLL regains lock after a clock fault. -/
  | mainPllRelock
  /-- CONFIG_SPACE_WRITE (R396). A configuration write: what it leaves in the configuration space, and the power state. -/
  | configSpaceWrite (w : ConfigWrite) (d0 : Bool)
  /-- EDIT_GO (R161). Host write of EDIT_GO that no edit row covers. -/
  | editGo (sn : Fin 3072) (op : BitVec 4) (seq : Byte) (src : Byte)
  /-- TS_GO (R496). Host write of TS_GO. -/
  | tsGo (prog : BitVec 4)
deriving DecidableEq, Repr

end Sys2Proof
end

