-- ==== Sys2Proof/Decode.lean ====
section
/-! DEFINITION. Decoding. No row of the table of commands gives bits, so a word spells no command. -/

namespace Sys2Proof

/-- The command that a word of `nbits` bits spells by the table's bits: none, since no row of the table gives any. -/
def decodeTableWord (_nbits _w : Nat) : Option Instr := none

end Sys2Proof
end

