-- ==== Sys2Proof/Machine/Codec.lean ====
section
/-! DEFINITION. The Froe codec: block headers, ZERO_RUN and TABLE payloads, building a table, and the decoder's outcomes
(07 R232 to R240, R248). Bytes are numbers below 256 here. -/

namespace Sys2Proof.Machine

/-- Block header (Table Froe-2). -/
structure BlockHeader where
  type : Nat
  tableId : Nat := 0
  gen : Nat := 0
  outBytes : Nat
  codedBytes : Nat
deriving DecidableEq, Repr

/-- The 16 header bytes. -/
def BlockHeader.encode (h : BlockHeader) : List Byte :=
  toBytes 16 (h.type + h.tableId * 2 ^ 8 + h.gen * 2 ^ 16 + h.outBytes * 2 ^ 32 + h.codedBytes * 2 ^ 48)

/-- Fields of a header number. -/
def BlockHeader.decode (n : Nat) : BlockHeader :=
  { type := bits n 0 2, tableId := bits n 8 8, gen := bits n 16 16, outBytes := bits n 32 13, codedBytes := bits n 48 13 }

/-- A header that Table Froe-3 calls BAD_HEADER. `stored` says whether the block was read from memory or came by fabric. -/
def badHeader (n : Nat) (stored : Bool) : Bool :=
  let h := BlockHeader.decode n
  bits n 2 6 != 0 || bits n 45 3 != 0 || bits n 61 3 != 0 || bits n 64 64 != 0 ||
  h.outBytes == 0 || decide (4096 < h.outBytes) || decide (4096 < h.codedBytes) ||
  (h.type != 2 && (h.tableId != 0 || h.gen != 0)) || (h.type == 2 && h.gen == 0) ||
  (stored && (h.type == 0 || h.type == 3 || h.outBytes != 4096)) || (!stored && h.type == 2)

/-! ### ZERO_RUN (R235) -/

/-- Literal tokens of up to 128 bytes for a stretch; `k` bounds the number of tokens. -/
def literalTokens : Nat → List Nat → List Nat
  | 0, _ => []
  | k + 1, l => if l.isEmpty then [] else ((l.take 128).length - 1) :: (l.take 128 ++ literalTokens k (l.drop 128))

/-- Zero-run tokens for a run of `n` zero bytes. -/
def zeroTokens (n : Nat) : List Nat := List.replicate (n / 128) 0xFF ++ (if n % 128 = 0 then [] else [n % 128 + 0x7F])

/-- The encoder's single scan: `lit` is the literal stretch so far, `z` the zeros since its end. -/
def zeroRunScan (lit : List Nat) (z : Nat) : List Nat → List Nat
  | [] =>
    if 2 ≤ z then literalTokens lit.length lit ++ zeroTokens z
    else let l := lit ++ List.replicate z 0; literalTokens l.length l
  | b :: bs =>
    if b = 0 then zeroRunScan lit (z + 1) bs
    else if 2 ≤ z then literalTokens lit.length lit ++ zeroTokens z ++ zeroRunScan [b] 0 bs
    else zeroRunScan (lit ++ List.replicate z 0 ++ [b]) 0 bs

/-- ZERO_RUN payload of a block. -/
def zeroRunEncode (l : List Nat) : List Nat := zeroRunScan [] 0 l

/-- Decode tokens: the bytes, and whether a literal token ran past the payload. `k` bounds the number of tokens. -/
def zeroRunDecode : Nat → List Nat → List Nat × Bool
  | 0, _ => ([], false)
  | _, [] => ([], false)
  | k + 1, c :: l =>
    if c < 0x80 then
      let n := c + 1
      if l.length < n then (l, true)
      else let (r, t) := zeroRunDecode k (l.drop n); (l.take n ++ r, t)
    else let (r, t) := zeroRunDecode k l; (List.replicate (c - 0x7F) 0 ++ r, t)

/-! ### Code tables (R236 to R238) -/

/-- Smallest length L >= 1 with 2^L * c >= t. -/
def minLen : Nat → Nat → Nat → Nat → Nat
  | 0, l, _, _ => l
  | k + 1, l, c, t => if t ≤ 2 ^ l * c then l else minLen k (l + 1) c t

/-- Counts of the 257 symbols of a sample, plus one each (R237). -/
def symbolCounts (sample : List Nat) : List Nat :=
  (List.range 257).map (fun s => (sample.filter (· == s)).length + 1)

/-- Insert a symbol into the order by decreasing count, lower symbol first among equals. -/
def insertByCount (c : List Nat) (s : Nat) : List Nat → List Nat
  | [] => [s]
  | t :: l => if c.getD t 0 < c.getD s 0 ∨ (c.getD t 0 = c.getD s 0 ∧ s < t) then s :: t :: l else t :: insertByCount c s l

/-- One round of shortening codes while the Kraft sum allows it. State: Kraft sum, lengths, whether one changed. -/
def shortenRound (order : List Nat) (st : Nat × List Nat × Bool) : Nat × List Nat × Bool :=
  order.foldl (fun (k, ls, ch) s =>
    let l := ls.getD s 0
    if 1 < l ∧ k + 2 ^ (15 - l) ≤ 32768 then (k + 2 ^ (15 - l), ls.set s (l - 1), true) else (k, ls, ch)) st

/-- Rounds until nothing changes; `fuel` bounds them. -/
def shorten (order : List Nat) : Nat → Nat × List Nat → List Nat
  | 0, (_, ls) => ls
  | fuel + 1, (k, ls) =>
    let (k', ls', ch) := shortenRound order (k, ls, false)
    if ch then shorten order fuel (k', ls') else ls'

/-- Code lengths of the 257 symbols from a sample (R237). -/
def buildLengths (sample : List Nat) : List Nat :=
  let t := sample.length + 257
  let c := symbolCounts sample
  let ls := c.map (fun x => minLen 16 1 x t)
  let k := (ls.map (fun l => 2 ^ (15 - l))).sum
  let order := (List.range 257).foldl (fun o s => insertByCount c s o) []
  shorten order (257 * 15) (k, ls)

/-- Kraft sum in units of 2^-15; a length of 0 means no code. -/
def kraft (ls : List Nat) : Nat := (ls.map (fun l => if l = 0 then 0 else 2 ^ (15 - l))).sum

/-- Canonical codes (R238): a list of (symbol, length, code), by increasing length and, within one length, symbol. -/
def canonicalCodes (ls : List Nat) : List (Nat × Nat × Nat) :=
  let syms := ((List.range 15).map (· + 1)).flatMap (fun l => ((List.range 257).filter (fun s => ls.getD s 0 == l)).map (fun s => (s, l)))
  (syms.foldl (fun (acc : List (Nat × Nat × Nat) × Option (Nat × Nat)) (s, l) =>
    match acc.2 with
    | none => ((s, l, 0) :: acc.1, some (l, 0))
    | some (l0, c0) => let c := (c0 + 1) * 2 ^ (l - l0); ((s, l, c) :: acc.1, some (l, c))) ([], none)).1.reverse

/-- Bits of a code, most significant first. -/
def codeBits (l c : Nat) : List Bool := (List.range l).map (fun i => bit c (l - 1 - i))

/-- Fill bytes from bit 7 down; the last is padded with zero bits. `k` bounds the number of bytes. -/
def packBits : Nat → List Bool → List Nat
  | 0, _ => []
  | k + 1, l =>
    if l.isEmpty then []
    else (List.range 8).foldl (fun v i => 2 * v + b2n (l.getD i false)) 0 :: packBits k (l.drop 8)

/-- The code stream of a block: one code per byte, then END. -/
def tableStream (ls : List Nat) (bs : List Nat) : List Nat :=
  let codes := canonicalCodes ls
  let code (s : Nat) : List Bool := match codes.find? (fun x => x.1 == s) with | some (_, l, c) => codeBits l c | none => []
  let b := (bs ++ [256]).flatMap code
  packBits b.length b

/-- The 129 bytes of a code-length table (R236). -/
def packLengths (ls : List Nat) : List Nat := (List.range 129).map (fun k => ls.getD (2 * k) 0 + 16 * ls.getD (2 * k + 1) 0)

/-- The lengths in 129 table bytes. -/
def unpackLengths (l : List Nat) : List Nat :=
  (List.range 257).map (fun s => if s % 2 = 0 then l.getD (s / 2) 0 % 16 else l.getD (s / 2) 0 / 16)

/-- How a code stream ended. -/
inductive StreamEnd where
  | atEnd     -- END was read
  | ranOut    -- the payload ended first
  | badCode   -- a bit pattern that is not a code
deriving DecidableEq, Repr

/-- Decode a bit stream: `l`, `c` are the length and value of the bits read of the current code. Bits that no code begins with are a
pattern that is not a code (R248). -/
def decodeStream (codes : List (Nat × Nat × Nat)) (l c : Nat) : List Bool → List Nat × StreamEnd
  | [] => ([], .ranOut)
  | b :: bs =>
    let l := l + 1
    let c := 2 * c + b2n b
    match codes.find? (fun x => x.2.1 == l && x.2.2 == c) with
    | some (s, _, _) =>
      if s = 256 then ([], .atEnd) else let (r, e) := decodeStream codes 0 0 bs; (s :: r, e)
    | none =>
      if codes.any (fun x => decide (l < x.2.1) && x.2.2 / 2 ^ (x.2.1 - l) == c) then decodeStream codes l c bs else ([], .badCode)

/-- Bits of bytes, bit 7 first. -/
def bytesBits (l : List Nat) : List Bool := l.flatMap (codeBits 8)

/-- Outcome of a block (Table Froe-3): its code, the bytes delivered (none: the tile is poisoned), and the bytes produced
before zero-filling or cutting. -/
structure DecodeOut where
  code : Nat
  bytes : Option (List Nat)
  produced : Nat := 0
deriving DecidableEq, Repr

/-- Deliver `l` as `n` bytes: zero-filled (SHORT_OUTPUT), cut (EXCESS_OUTPUT), or whole. -/
def deliver (n : Nat) (short : Bool) (l : List Nat) : DecodeOut :=
  if short || decide (l.length < n) then
    { code := 0x0B02, bytes := some ((l ++ List.replicate n 0).take n), produced := l.length }
  else if n < l.length then { code := 0x0B03, bytes := some (l.take n), produced := l.length }
  else { code := 0, bytes := some l, produced := l.length }

/-- Check and decode a block (R248, Table Froe-3). `lengths` are the code lengths of the slot that matches a TYPE 2 header,
if one does. -/
def decodeBlock (n : Nat) (stored : Bool) (lengths : Option (List Nat)) (payload : List Nat) : DecodeOut :=
  let h := BlockHeader.decode n
  let coded := payload.take h.codedBytes
  let table (ls : List Nat) (stream : List Nat) : DecodeOut :=
    match decodeStream (canonicalCodes ls) 0 0 (bytesBits stream) with
    | (_, .badCode) => { code := 0x0B05, bytes := none }
    | (l, _) => deliver h.outBytes false l
  if badHeader n stored then { code := 0x0B04, bytes := none }
  else if h.type = 2 then
    match lengths with
    | none => { code := 0x0B01, bytes := none }
    | some ls => table ls coded
  else if h.type = 3 then
    let ls := unpackLengths coded
    if decide (32768 < kraft ls) || ls.getD 256 0 == 0 then { code := 0x0B05, bytes := none }
    else table ls (coded.drop 129)
  else if h.type = 1 then
    let (l, cut) := zeroRunDecode coded.length coded
    deliver h.outBytes cut l
  else deliver h.outBytes false coded

/-- Lines a stored block occupies (R233). -/
def storedLines (coded : Nat) : Nat := cdiv (16 + coded) 64

/-- The form a memory encoder chooses for a block (R239): the header and payload, or none for plain. `table` is the code
table available, with its id and generation. -/
def memoryForm (bs : List Nat) (table : Option (List Nat × Nat × Nat)) : Option (BlockHeader × List Nat) :=
  let z := zeroRunEncode bs
  let zl := storedLines z.length
  let zh : BlockHeader := { type := 1, outBytes := 4096, codedBytes := z.length }
  match table with
  | none => if 64 ≤ zl then none else some (zh, z)
  | some (ls, id, gen) =>
    let t := tableStream ls bs
    let tl := storedLines t.length
    if tl < zl then (if 64 ≤ tl then none else some ({ type := 2, tableId := id, gen := gen, outBytes := 4096, codedBytes := t.length }, t))
    else if 64 ≤ zl then none else some (zh, z)

/-- The form a send encoder chooses (R240): never longer than the data. `off` says that coding is off for this data
(R230, R231). -/
def sendForm (bs : List Nat) (off : Bool) : BlockHeader × List Nat :=
  let raw : BlockHeader × List Nat := ({ type := 0, outBytes := bs.length, codedBytes := bs.length }, bs)
  if off then raw
  else
    let z := zeroRunEncode bs
    let ls := buildLengths bs
    let t := packLengths ls ++ tableStream ls bs
    if t.length < z.length then
      (if bs.length ≤ t.length then raw else ({ type := 3, outBytes := bs.length, codedBytes := t.length }, t))
    else if bs.length ≤ z.length then raw else ({ type := 1, outBytes := bs.length, codedBytes := z.length }, z)

end Sys2Proof.Machine
end

