-- ==== Sys2Proof/Machine/RegInfo.lean ====
section
/-! DEFINITION. What the manual's field tables say of every register field: its type (Table Scope-5), its place in its
entry, its width, its Reset value, whether a counter stops at its top, and whether WARM_RST_N leaves it (R452). -/

namespace Sys2Proof.Machine

/-- The field types of Table Scope-5 that a BAR0 field has. -/
inductive FieldKind where
  | ro | rw | rwl | w1c | w1s
deriving DecidableEq, Repr

/-- One row of a field table. -/
structure RegInfo where
  /-- Type column (Table Scope-5). -/
  kind : FieldKind
  /-- First bit, counted from bit 0 of the entry's first register. -/
  bit : Nat
  /-- Width in bits. -/
  width : Nat
  /-- Reset column; 0 where the column says "set at start-up" (log entry 3). -/
  reset : Nat
  /-- The counter stops at its largest value instead of wrapping ("Stops at"). -/
  stops : Bool := false
  /-- The field is in the shadow store: WARM_RST_N leaves it (R452). -/
  kept : Bool := false
  /-- A write to the field is a row of its own in the table of commands, so REGISTER_WRITE leaves it. -/
  own : Bool := false
deriving DecidableEq, Repr

/-- The row of each field. -/
def Reg.info : Reg → RegInfo
  | .rt_VALID => { kind := .ro, bit := 0, width := 1, reset := 0 }
  | .rt_SLOT => { kind := .ro, bit := 1, width := 6, reset := 0 }
  | .rt_PRODUCER => { kind := .ro, bit := 8, width := 8, reset := 0 }
  | .rt_NCONS => { kind := .ro, bit := 16, width := 4, reset := 0 }
  | .rt_BASE_LINE => { kind := .ro, bit := 32, width := 20, reset := 0 }
  | .rt_SLOT_LINES_M1 => { kind := .ro, bit := 64, width := 12, reset := 0 }
  | .rt_NSLOTS_M1 => { kind := .ro, bit := 76, width := 8, reset := 0 }
  | .rt_FULL_PEG => { kind := .ro, bit := 96, width := 16, reset := 0 }
  | .rt_FREE_PEG => { kind := .ro, bit := 112, width := 16, reset := 0 }
  | .peg_COUNT => { kind := .rw, bit := 0, width := 32, reset := 0, own := true }
  | .peg_THRESH => { kind := .rw, bit := 32, width := 32, reset := 0, own := true }
  | .peg_ENABLE => { kind := .rw, bit := 64, width := 1, reset := 0, own := true }
  | .peg_HOST_ACCESS => { kind := .rwl, bit := 65, width := 1, reset := 0 }
  | .peg_REMOTE_ACCESS => { kind := .rwl, bit := 66, width := 1, reset := 0 }
  | .peg_IRQ_EN => { kind := .rwl, bit := 67, width := 1, reset := 0 }
  | .peg_WAKE => { kind := .rwl, bit := 68, width := 1, reset := 0 }
  | .peg_CONTEXT => { kind := .rwl, bit := 72, width := 14, reset := 0 }
  | .peg_TENANT => { kind := .rwl, bit := 96, width := 12, reset := 0 }
  | .peg_REACHED => { kind := .ro, bit := 108, width := 1, reset := 0 }
  | .peg_WAITING => { kind := .ro, bit := 109, width := 1, reset := 0 }
  | .peg_REASON => { kind := .ro, bit := 112, width := 16, reset := 0 }
  | .pstore_PEG_ACCESS_FAULTS => { kind := .ro, bit := 0, width := 32, reset := 0, stops := true, kept := true }
  | .pstore_PEG_STALE_DROPS => { kind := .ro, bit := 32, width := 32, reset := 0, stops := true, kept := true }
  | .pstore_PEG_REMOTE_IN => { kind := .ro, bit := 64, width := 32, reset := 0, kept := true }
  | .pstore_PEG_REMOTE_REFUSED => { kind := .ro, bit := 96, width := 32, reset := 0, stops := true, kept := true }
  | .pstore_ACCESS_EVENT => { kind := .w1c, bit := 128, width := 1, reset := 0 }
  | .pstore_STALE_EVENT => { kind := .w1c, bit := 129, width := 1, reset := 0 }
  | .job_ENABLE => { kind := .rw, bit := 0, width := 1, reset := 0, own := true }
  | .job_REASON => { kind := .ro, bit := 16, width := 16, reset := 0 }
  | .job_GRAPH => { kind := .rwl, bit := 32, width := 12, reset := 0 }
  | .job_PEG_BASE => { kind := .rwl, bit := 64, width := 16, reset := 0 }
  | .job_DONE_PEG => { kind := .rwl, bit := 96, width := 32, reset := 0 }
  | .job_IN_LIST => { kind := .rwl, bit := 128, width := 64, reset := 0 }
  | .job_OUT_LIST => { kind := .rwl, bit := 192, width := 64, reset := 0 }
  | .job_RESULT_RING => { kind := .rwl, bit := 256, width := 16, reset := 0 }
  | .job_BENT_MASK => { kind := .rwl, bit := 288, width := 8, reset := 0 }
  | .job_JOB_TAG => { kind := .rwl, bit := 320, width := 32, reset := 0 }
  | .job_BINDING => { kind := .rwl, bit := 352, width := 16, reset := 65535 }
  | .job_JOB_SEQ => { kind := .ro, bit := 384, width := 32, reset := 0 }
  | .job_STATE => { kind := .ro, bit := 416, width := 3, reset := 0 }
  | .job_FAULT => { kind := .ro, bit := 432, width := 16, reset := 0 }
  | .slot_CONTEXT => { kind := .ro, bit := 0, width := 14, reset := 0 }
  | .slot_STATE => { kind := .ro, bit := 16, width := 3, reset := 0 }
  | .slot_PRIO => { kind := .ro, bit := 20, width := 2, reset := 0 }
  | .slot_GRAPH => { kind := .ro, bit := 32, width := 12, reset := 0 }
  | .slot_PEG_BASE => { kind := .ro, bit := 48, width := 16, reset := 0 }
  | .slot_LOFT_BASE => { kind := .ro, bit := 64, width := 20, reset := 0 }
  | .slot_LOFT_LINES => { kind := .ro, bit := 96, width := 20, reset := 0 }
  | .slot_JOB_SEQ => { kind := .ro, bit := 128, width := 32, reset := 0 }
  | .slot_TILES => { kind := .ro, bit := 160, width := 32, reset := 0 }
  | .bent_LOGICAL => { kind := .ro, bit := 0, width := 3, reset := 0 }
  | .bent_PHYSICAL => { kind := .ro, bit := 4, width := 4, reset := 0, kept := true }
  | .bent_PRESENT => { kind := .ro, bit := 8, width := 1, reset := 0, kept := true }
  | .bent_INCARNATION => { kind := .ro, bit := 16, width := 16, reset := 0, kept := true }
  | .bent_OP => { kind := .ro, bit := 32, width := 3, reset := 0 }
  | .bent_PWR => { kind := .ro, bit := 35, width := 2, reset := 0 }
  | .bent_THROTTLED => { kind := .ro, bit := 37, width := 1, reset := 0 }
  | .bent_FILLER => { kind := .ro, bit := 38, width := 1, reset := 0 }
  | .bent_RESIDENT => { kind := .ro, bit := 40, width := 7, reset := 0 }
  | .bent_BUSY => { kind := .ro, bit := 48, width := 9, reset := 0 }
  | .bent_STALE_DROPS => { kind := .ro, bit := 64, width := 32, reset := 0, stops := true, kept := true }
  | .bent_TILE_COUNT => { kind := .ro, bit := 96, width := 32, reset := 0, kept := true }
  | .bent_RERUN_COUNT => { kind := .ro, bit := 128, width := 32, reset := 0, kept := true }
  | .bent_POISON_COUNT => { kind := .ro, bit := 160, width := 32, reset := 0, kept := true }
  | .bent_SWITCH_COUNT => { kind := .ro, bit := 192, width := 32, reset := 0, kept := true }
  | .bent_STALE_SEEN => { kind := .w1c, bit := 224, width := 1, reset := 0 }
  | .bent_POISON_SEEN => { kind := .w1c, bit := 225, width := 1, reset := 0 }
  | .bent_SLOT_WAIT => { kind := .w1c, bit := 226, width := 1, reset := 0 }
  | .bent_TIMEOUT_SEEN => { kind := .w1c, bit := 227, width := 1, reset := 0 }
  | .plane_SAT_COUNT => { kind := .ro, bit := 0, width := 32, reset := 0, kept := true }
  | .plane_NONFINITE_IN => { kind := .ro, bit := 32, width := 32, reset := 0, kept := true }
  | .plane_NAN_MADE => { kind := .ro, bit := 64, width := 32, reset := 0, kept := true }
  | .plane_SAT_SEEN => { kind := .w1c, bit := 96, width := 1, reset := 0 }
  | .plane_NONFINITE_SEEN => { kind := .w1c, bit := 97, width := 1, reset := 0 }
  | .plane_NAN_SEEN => { kind := .w1c, bit := 98, width := 1, reset := 0 }
  | .gauge_CHECKED => { kind := .ro, bit := 0, width := 32, reset := 0, kept := true }
  | .gauge_OVER_COUNT => { kind := .ro, bit := 32, width := 32, reset := 0, kept := true }
  | .gauge_CLIPPED_LO => { kind := .ro, bit := 64, width := 32, reset := 0, kept := true }
  | .gauge_CLIPPED_HI => { kind := .ro, bit := 96, width := 32, reset := 0, kept := true }
  | .gauge_LAST_SHARE => { kind := .ro, bit := 128, width := 16, reset := 0 }
  | .gauge_LAST_STATION => { kind := .ro, bit := 144, width := 8, reset := 0 }
  | .gauge_LAST_RERUN => { kind := .ro, bit := 152, width := 1, reset := 0 }
  | .gauge_LAST_SEQ => { kind := .ro, bit := 160, width := 32, reset := 0 }
  | .gauge_LAST_CONTEXT => { kind := .ro, bit := 192, width := 14, reset := 0 }
  | .gauge_OVER_SEEN => { kind := .w1c, bit := 224, width := 1, reset := 0 }
  | .gauge_RERUN_CLIPPED => { kind := .w1c, bit := 225, width := 1, reset := 0 }
  | .mor_ARRAY_IN_SERVICE => { kind := .ro, bit := 0, width := 17, reset := 0, kept := true }
  | .mor_SPARE_ARRAY => { kind := .ro, bit := 32, width := 5, reset := 0, kept := true }
  | .mor_SPARE_USED => { kind := .ro, bit := 37, width := 1, reset := 0 }
  | .mor_ARRAYS => { kind := .ro, bit := 38, width := 5, reset := 16 }
  | .mor_PASSES => { kind := .ro, bit := 64, width := 32, reset := 0, kept := true }
  | .mor_WEIGHT_BLOCKS => { kind := .ro, bit := 96, width := 32, reset := 0, kept := true }
  | .mor_TRANSPOSED => { kind := .ro, bit := 128, width := 32, reset := 0, kept := true }
  | .mor_REPEATS => { kind := .ro, bit := 160, width := 32, reset := 0, kept := true }
  | .mor_ARRAY_RETIRED => { kind := .w1c, bit := 192, width := 1, reset := 0 }
  | .scribe_CUR_KH => { kind := .ro, bit := 0, width := 5, reset := 0 }
  | .scribe_CUR_KW => { kind := .ro, bit := 8, width := 5, reset := 0 }
  | .scribe_CUR_SH_M1 => { kind := .ro, bit := 16, width := 4, reset := 0 }
  | .scribe_CUR_SW_M1 => { kind := .ro, bit := 20, width := 4, reset := 0 }
  | .scribe_CUR_MODE => { kind := .ro, bit := 24, width := 2, reset := 0 }
  | .scribe_CUR_F => { kind := .ro, bit := 26, width := 2, reset := 0 }
  | .scribe_CUR_TRANSPOSE => { kind := .ro, bit := 28, width := 1, reset := 0 }
  | .scribe_CUR_DH_M1 => { kind := .ro, bit := 32, width := 6, reset := 0 }
  | .scribe_CUR_DW_M1 => { kind := .ro, bit := 40, width := 6, reset := 0 }
  | .scribe_CUR_OUT_EXTRA => { kind := .ro, bit := 48, width := 4, reset := 0 }
  | .scribe_CUR_SLOT => { kind := .ro, bit := 52, width := 6, reset := 0 }
  | .scribe_CUR_PT => { kind := .ro, bit := 64, width := 8, reset := 0 }
  | .scribe_CUR_PB => { kind := .ro, bit := 72, width := 8, reset := 0 }
  | .scribe_CUR_PL => { kind := .ro, bit := 80, width := 8, reset := 0 }
  | .scribe_CUR_PR => { kind := .ro, bit := 88, width := 8, reset := 0 }
  | .scribe_CUR_PAD_CODE => { kind := .ro, bit := 96, width := 16, reset := 0 }
  | .scribe_CUR_PAD_SCALE => { kind := .ro, bit := 112, width := 8, reset := 0 }
  | .scribe_FETCH_LINES => { kind := .ro, bit := 128, width := 32, reset := 0, kept := true }
  | .scribe_KERF_LINES => { kind := .ro, bit := 160, width := 32, reset := 0, kept := true }
  | .scribe_PAD_TAPS => { kind := .ro, bit := 192, width := 32, reset := 0, kept := true }
  | .scribe_KERF_DISCARDS => { kind := .ro, bit := 224, width := 32, reset := 0, kept := true }
  | .scribe_DISCARD_SEEN => { kind := .w1c, bit := 256, width := 1, reset := 0 }
  | .auger_CUR_OH_M1 => { kind := .ro, bit := 0, width := 10, reset := 0 }
  | .auger_CUR_OW_M1 => { kind := .ro, bit := 10, width := 10, reset := 0 }
  | .auger_CUR_SAMPLE => { kind := .ro, bit := 20, width := 1, reset := 0 }
  | .auger_CUR_EDGE => { kind := .ro, bit := 21, width := 1, reset := 0 }
  | .auger_CUR_SLOT => { kind := .ro, bit := 22, width := 6, reset := 0 }
  | .auger_CUR_BOX => { kind := .ro, bit := 32, width := 12, reset := 0 }
  | .auger_BOXES => { kind := .ro, bit := 64, width := 32, reset := 0, kept := true }
  | .auger_BAD_BOXES => { kind := .ro, bit := 96, width := 32, reset := 0, stops := true, kept := true }
  | .auger_OUTSIDE_SAMPLES => { kind := .ro, bit := 128, width := 32, reset := 0, kept := true }
  | .auger_BAD_BOX_SEEN => { kind := .w1c, bit := 160, width := 1, reset := 0 }
  | .kvc_NLAYERS_M1 => { kind := .ro, bit := 0, width := 7, reset := 0, kept := true }
  | .kvc_VALID => { kind := .ro, bit := 7, width := 1, reset := 0, kept := true }
  | .kvc_NKV_M1 => { kind := .ro, bit := 8, width := 6, reset := 0, kept := true }
  | .kvc_HD => { kind := .ro, bit := 14, width := 2, reset := 0, kept := true }
  | .kvc_KVFMT => { kind := .ro, bit := 16, width := 4, reset := 0, kept := true }
  | .kvc_PAGE_BYTES => { kind := .ro, bit := 32, width := 32, reset := 0, kept := true }
  | .pool_ENABLE => { kind := .rw, bit := 0, width := 1, reset := 0, own := true }
  | .pool_STATE => { kind := .ro, bit := 1, width := 2, reset := 0 }
  | .pool_REASON => { kind := .ro, bit := 16, width := 16, reset := 0 }
  | .pool_KV_CLASS => { kind := .rwl, bit := 32, width := 6, reset := 0 }
  | .pool_BASE => { kind := .rwl, bit := 64, width := 64, reset := 0 }
  | .pool_PAGES => { kind := .rwl, bit := 128, width := 21, reset := 0 }
  | .pool_CHUNKS => { kind := .rwl, bit := 160, width := 17, reset := 0 }
  | .pool_FREE_PAGES => { kind := .ro, bit := 192, width := 21, reset := 0 }
  | .pool_FREE_CHUNKS => { kind := .ro, bit := 224, width := 17, reset := 0 }
  | .pool_DEFERRED => { kind := .ro, bit := 256, width := 22, reset := 0 }
  | .pool_PAGE_BYTES => { kind := .ro, bit := 288, width := 32, reset := 0 }
  | .pool_POOL_BYTES => { kind := .ro, bit := 320, width := 64, reset := 0 }
  | .ses_ENABLE => { kind := .rw, bit := 0, width := 1, reset := 0, own := true }
  | .ses_TYPE => { kind := .rwl, bit := 1, width := 2, reset := 0 }
  | .ses_STALLED => { kind := .ro, bit := 3, width := 1, reset := 0 }
  | .ses_REASON => { kind := .ro, bit := 16, width := 16, reset := 0 }
  | .ses_CONTEXT => { kind := .rwl, bit := 32, width := 14, reset := 0 }
  | .ses_ACQ => { kind := .ro, bit := 256, width := 32, reset := 0 }
  | .ses_STALLED_SEQS => { kind := .ro, bit := 288, width := 9, reset := 0 }
  | .ses_EVICTIONS => { kind := .ro, bit := 320, width := 32, reset := 0 }
  | .ses_REFUSED_STEPS => { kind := .ro, bit := 352, width := 32, reset := 0 }
  | .ses_EDIT_OP => { kind := .rw, bit := 384, width := 4, reset := 0 }
  | .ses_EDIT_SEQ => { kind := .rw, bit := 388, width := 8, reset := 0 }
  | .ses_EDIT_SRC => { kind := .rw, bit := 396, width := 8, reset := 0 }
  | .ses_EDIT_GO => { kind := .w1s, bit := 415, width := 1, reset := 0, own := true }
  | .ses_EDIT_ARG => { kind := .rw, bit := 416, width := 32, reset := 0 }
  | .ses_EDIT_BUSY => { kind := .ro, bit := 448, width := 1, reset := 0 }
  | .ses_EDIT_OVERRUN => { kind := .w1c, bit := 449, width := 1, reset := 0 }
  | .ses_EDIT_REASON => { kind := .ro, bit := 464, width := 16, reset := 0 }
  | .ses_COW_COPIES => { kind := .ro, bit := 480, width := 32, reset := 0 }
  | .ses_D2 => { kind := .rwl, bit := 64, width := 32, reset := 0 }
  | .ses_D3 => { kind := .rwl, bit := 96, width := 32, reset := 0 }
  | .ses_D4 => { kind := .rwl, bit := 128, width := 32, reset := 0 }
  | .ses_D5 => { kind := .rwl, bit := 160, width := 32, reset := 0 }
  | .ses_D6 => { kind := .rwl, bit := 192, width := 32, reset := 0 }
  | .ses_D7 => { kind := .rwl, bit := 224, width := 32, reset := 0 }
  | .scarf_CUR_SESSION => { kind := .ro, bit := 0, width := 12, reset := 0 }
  | .scarf_CUR_SEQ => { kind := .ro, bit := 12, width := 8, reset := 0 }
  | .scarf_CUR_LAYER => { kind := .ro, bit := 20, width := 7, reset := 0 }
  | .scarf_CUR_DIRECT => { kind := .ro, bit := 27, width := 1, reset := 0 }
  | .scarf_CUR_SLOT => { kind := .ro, bit := 32, width := 6, reset := 0 }
  | .scarf_SEG_CAPABLE => { kind := .ro, bit := 38, width := 1, reset := 0, kept := true }
  | .scarf_BLOCKS_COMPUTED => { kind := .ro, bit := 64, width := 32, reset := 0, kept := true }
  | .scarf_BLOCKS_SKIPPED => { kind := .ro, bit := 96, width := 32, reset := 0, kept := true }
  | .scarf_PAGES_READ => { kind := .ro, bit := 128, width := 32, reset := 0, kept := true }
  | .scarf_EMPTY_ROWS => { kind := .ro, bit := 160, width := 32, reset := 0, kept := true }
  | .scarf_WALK_FAULTS => { kind := .ro, bit := 192, width := 32, reset := 0, stops := true, kept := true }
  | .scarf_SEG_FAULTS => { kind := .ro, bit := 224, width := 32, reset := 0, stops := true, kept := true }
  | .scarf_WALK_FAULT_SEEN => { kind := .w1c, bit := 256, width := 1, reset := 0 }
  | .scarf_SEG_FAULT_SEEN => { kind := .w1c, bit := 257, width := 1, reset := 0 }
  | .scarf_EMPTY_ROW_SEEN => { kind := .w1c, bit := 258, width := 1, reset := 0 }
  | .rcl_NLAYERS_M1 => { kind := .ro, bit := 0, width := 3, reset := 0, kept := true }
  | .rcl_VALID => { kind := .ro, bit := 3, width := 1, reset := 0, kept := true }
  | .rcl_SFMT => { kind := .ro, bit := 4, width := 4, reset := 0, kept := true }
  | .rcl_ROW_BYTES => { kind := .ro, bit := 32, width := 32, reset := 0, kept := true }
  | .rcl_LROW_BYTES0 => { kind := .ro, bit := 64, width := 32, reset := 0, kept := true }
  | .rcl_LROW_BYTES1 => { kind := .ro, bit := 96, width := 32, reset := 0, kept := true }
  | .rcl_LROW_BYTES2 => { kind := .ro, bit := 128, width := 32, reset := 0, kept := true }
  | .rcl_LROW_BYTES3 => { kind := .ro, bit := 160, width := 32, reset := 0, kept := true }
  | .rcl_LROW_BYTES4 => { kind := .ro, bit := 192, width := 32, reset := 0, kept := true }
  | .rcl_LROW_BYTES5 => { kind := .ro, bit := 224, width := 32, reset := 0, kept := true }
  | .rcl_LROW_BYTES6 => { kind := .ro, bit := 256, width := 32, reset := 0, kept := true }
  | .rcl_LROW_BYTES7 => { kind := .ro, bit := 288, width := 32, reset := 0, kept := true }
  | .str_STATE_BYTES => { kind := .ro, bit := 256, width := 32, reset := 0 }
  | .str_NEXT_CHUNK => { kind := .ro, bit := 288, width := 32, reset := 0 }
  | .str_STEPS => { kind := .ro, bit := 320, width := 32, reset := 0 }
  | .str_RESET_PENDING => { kind := .w1s, bit := 352, width := 1, reset := 0, own := true }
  | .str_IN_FLIGHT => { kind := .ro, bit := 353, width := 1, reset := 0 }
  | .str_SWAP_DEFERRED => { kind := .ro, bit := 354, width := 1, reset := 0 }
  | .str_RESIDENT_MASK => { kind := .ro, bit := 355, width := 8, reset := 0 }
  | .str_LAST_REASON => { kind := .ro, bit := 368, width := 16, reset := 0 }
  | .str_FETCHES => { kind := .ro, bit := 384, width := 32, reset := 0 }
  | .str_ABORTS => { kind := .ro, bit := 416, width := 32, reset := 0 }
  | .truss_CUR_SESSION => { kind := .ro, bit := 0, width := 12, reset := 0 }
  | .truss_CUR_LAYER => { kind := .ro, bit := 12, width := 3, reset := 0 }
  | .truss_CUR_SLOT => { kind := .ro, bit := 15, width := 6, reset := 0 }
  | .truss_CUR_CELL => { kind := .ro, bit := 21, width := 2, reset := 0 }
  | .truss_CUR_STEP => { kind := .ro, bit := 32, width := 16, reset := 0 }
  | .truss_CACHE_LINES => { kind := .ro, bit := 64, width := 15, reset := 0, kept := true }
  | .truss_CACHE_USED => { kind := .ro, bit := 96, width := 15, reset := 0 }
  | .truss_CHUNKS_COMMITTED => { kind := .ro, bit := 128, width := 32, reset := 0, kept := true }
  | .truss_CHUNKS_ABORTED => { kind := .ro, bit := 160, width := 32, reset := 0, stops := true, kept := true }
  | .truss_STEPS => { kind := .ro, bit := 192, width := 32, reset := 0, kept := true }
  | .truss_FETCHES => { kind := .ro, bit := 224, width := 32, reset := 0, kept := true }
  | .truss_HEAD_WAITS => { kind := .ro, bit := 256, width := 32, reset := 0, kept := true }
  | .truss_SWAPOUTS => { kind := .ro, bit := 288, width := 32, reset := 0, kept := true }
  | .truss_SWAP_DEFERRALS => { kind := .ro, bit := 320, width := 32, reset := 0, kept := true }
  | .truss_MARKS_APPLIED => { kind := .ro, bit := 352, width := 32, reset := 0, kept := true }
  | .truss_ABORT_SEEN => { kind := .w1c, bit := 384, width := 1, reset := 0 }
  | .truss_FETCH_ERROR_SEEN => { kind := .w1c, bit := 385, width := 1, reset := 0 }
  | .rgn_ENABLE => { kind := .rw, bit := 0, width := 1, reset := 0, own := true }
  | .rgn_KIND => { kind := .rwl, bit := 1, width := 3, reset := 0 }
  | .rgn_WRITABLE => { kind := .rwl, bit := 4, width := 1, reset := 0 }
  | .rgn_PROTECTED => { kind := .rwl, bit := 5, width := 1, reset := 0 }
  | .rgn_STATE => { kind := .ro, bit := 6, width := 2, reset := 0 }
  | .rgn_ACTIVE => { kind := .ro, bit := 8, width := 1, reset := 0 }
  | .rgn_RETIRE_PENDING => { kind := .ro, bit := 9, width := 1, reset := 0 }
  | .rgn_REASON => { kind := .ro, bit := 16, width := 16, reset := 0 }
  | .rgn_SRC_CONTEXT => { kind := .rwl, bit := 32, width := 14, reset := 0 }
  | .rgn_SRC_REGION => { kind := .rwl, bit := 46, width := 5, reset := 0 }
  | .rgn_SHARERS => { kind := .ro, bit := 52, width := 12, reset := 0 }
  | .rgn_VA => { kind := .rwl, bit := 64, width := 48, reset := 0 }
  | .rgn_SIZE => { kind := .rwl, bit := 128, width := 64, reset := 0 }
  | .rgn_VERSION => { kind := .ro, bit := 224, width := 32, reset := 0 }
  | .rgn_D6 => { kind := .rwl, bit := 192, width := 32, reset := 0 }
  | .rgn_D7 => { kind := .rwl, bit := 224, width := 32, reset := 0 }
  | .dowel_CUR_CONTEXT => { kind := .ro, bit := 0, width := 14, reset := 0 }
  | .dowel_CUR_SLOT => { kind := .ro, bit := 14, width := 6, reset := 0 }
  | .dowel_GDDR6_RD_LINES => { kind := .ro, bit := 32, width := 32, reset := 0, kept := true }
  | .dowel_GDDR6_WR_LINES => { kind := .ro, bit := 64, width := 32, reset := 0, kept := true }
  | .dowel_HOST_RD_LINES => { kind := .ro, bit := 96, width := 32, reset := 0, kept := true }
  | .dowel_BROADCAST_LINES => { kind := .ro, bit := 128, width := 32, reset := 0, kept := true }
  | .dowel_SAVE_LINES => { kind := .ro, bit := 160, width := 32, reset := 0, kept := true }
  | .dowel_RESTORE_LINES => { kind := .ro, bit := 192, width := 32, reset := 0, kept := true }
  | .dowel_ACCESS_FAULTS => { kind := .ro, bit := 224, width := 32, reset := 0, stops := true, kept := true }
  | .dowel_POISONED_READS => { kind := .ro, bit := 256, width := 32, reset := 0, stops := true, kept := true }
  | .dowel_LOFT_CE => { kind := .ro, bit := 288, width := 32, reset := 0, kept := true }
  | .dowel_LOFT_SPARE_ROWS => { kind := .ro, bit := 320, width := 9, reset := 0, kept := true }
  | .dowel_WSTREAM_LINES => { kind := .ro, bit := 352, width := 17, reset := 0, kept := true }
  | .dowel_ACCESS_FAULT_SEEN => { kind := .w1c, bit := 384, width := 1, reset := 0 }
  | .dowel_GDDR6_UE_SEEN => { kind := .w1c, bit := 385, width := 1, reset := 0 }
  | .dowel_LOFT_UE_SEEN => { kind := .w1c, bit := 386, width := 1, reset := 0 }
  | .dowel_HOST_FAULT_SEEN => { kind := .w1c, bit := 387, width := 1, reset := 0 }
  | .mem_CLAMSHELL => { kind := .ro, bit := 0, width := 1, reset := 0, kept := true }
  | .mem_RATE => { kind := .ro, bit := 8, width := 8, reset := 0, kept := true }
  | .mem_SELF_REFRESH => { kind := .ro, bit := 16, width := 1, reset := 0 }
  | .mem_PAGES_TOTAL => { kind := .ro, bit := 32, width := 16, reset := 0, kept := true }
  | .mem_PAGES_FREE => { kind := .ro, bit := 64, width := 16, reset := 0, kept := true }
  | .mem_PAGES_SCRUBBING => { kind := .ro, bit := 96, width := 16, reset := 0 }
  | .mem_RETIRED => { kind := .ro, bit := 128, width := 11, reset := 0, kept := true }
  | .mem_RETIRE_PENDING => { kind := .ro, bit := 144, width := 16, reset := 0 }
  | .mem_CE_TOTAL => { kind := .ro, bit := 160, width := 32, reset := 0, kept := true }
  | .mem_UE_TOTAL => { kind := .ro, bit := 192, width := 32, reset := 0, stops := true, kept := true }
  | .mem_EDC_RETRIES => { kind := .ro, bit := 224, width := 32, reset := 0, kept := true }
  | .mem_LAST_ERR_PA_LO => { kind := .ro, bit := 256, width := 32, reset := 0 }
  | .mem_LAST_ERR_PA_HI => { kind := .ro, bit := 288, width := 4, reset := 0 }
  | .mem_LAST_ERR_CH => { kind := .ro, bit := 292, width := 5, reset := 0 }
  | .mem_LAST_ERR_TYPE => { kind := .ro, bit := 297, width := 2, reset := 0 }
  | .mem_LAST_ERR_CONTEXT => { kind := .ro, bit := 320, width := 14, reset := 0 }
  | .mem_LAST_ERR_NOCTX => { kind := .ro, bit := 334, width := 1, reset := 0 }
  | .mem_CE_SEEN => { kind := .w1c, bit := 352, width := 1, reset := 0 }
  | .mem_UE_SEEN => { kind := .w1c, bit := 353, width := 1, reset := 0 }
  | .mem_RETIRE_SEEN => { kind := .w1c, bit := 354, width := 1, reset := 0 }
  | .mem_RETIRED_LIST_FULL => { kind := .w1c, bit := 355, width := 1, reset := 0 }
  | .mem_RETRAIN_SEEN => { kind := .w1c, bit := 356, width := 1, reset := 0 }
  | .memch_CH_CE => { kind := .ro, bit := 0, width := 32, reset := 0, kept := true }
  | .memch_CH_UE => { kind := .ro, bit := 32, width := 32, reset := 0, stops := true, kept := true }
  | .memch_CH_EDC_RETRIES => { kind := .ro, bit := 64, width := 32, reset := 0, kept := true }
  | .memch_CH_RETRAINS => { kind := .ro, bit := 96, width := 32, reset := 0, kept := true }
  | .ret_RETIRED_PAGE => { kind := .ro, bit := 0, width := 16, reset := 0, kept := true }
  | .ret_VALID => { kind := .ro, bit := 16, width := 1, reset := 0, kept := true }
  | .ret_PERSISTED => { kind := .ro, bit := 17, width := 1, reset := 0, kept := true }
  | .fdec_CUR_CONTEXT => { kind := .ro, bit := 0, width := 14, reset := 0 }
  | .fdec_CUR_SLOT => { kind := .ro, bit := 14, width := 6, reset := 0 }
  | .fdec_CUR_TYPE => { kind := .ro, bit := 20, width := 2, reset := 0 }
  | .fdec_CUR_TABLE_ID => { kind := .ro, bit := 32, width := 8, reset := 0 }
  | .fdec_CUR_GEN => { kind := .ro, bit := 48, width := 16, reset := 0 }
  | .fdec_BLOCKS_RAW => { kind := .ro, bit := 64, width := 32, reset := 0, kept := true }
  | .fdec_BLOCKS_ZERO_RUN => { kind := .ro, bit := 96, width := 32, reset := 0, kept := true }
  | .fdec_BLOCKS_TABLE => { kind := .ro, bit := 128, width := 32, reset := 0, kept := true }
  | .fdec_BLOCKS_INLINE => { kind := .ro, bit := 160, width := 32, reset := 0, kept := true }
  | .fdec_IN_LINES => { kind := .ro, bit := 192, width := 32, reset := 0, kept := true }
  | .fdec_OUT_LINES => { kind := .ro, bit := 224, width := 32, reset := 0, kept := true }
  | .fdec_NOT_RESIDENT => { kind := .ro, bit := 256, width := 32, reset := 0, stops := true, kept := true }
  | .fdec_SHORT_BLOCKS => { kind := .ro, bit := 288, width := 32, reset := 0, stops := true, kept := true }
  | .fdec_EXCESS_BLOCKS => { kind := .ro, bit := 320, width := 32, reset := 0, stops := true, kept := true }
  | .fdec_BAD_BLOCKS => { kind := .ro, bit := 352, width := 32, reset := 0, stops := true, kept := true }
  | .fdec_LAST_CODE => { kind := .ro, bit := 384, width := 16, reset := 0 }
  | .fdec_LAST_CONTEXT => { kind := .ro, bit := 400, width := 14, reset := 0 }
  | .fdec_LAST_PRODUCED => { kind := .ro, bit := 416, width := 13, reset := 0 }
  | .fdec_NOT_RESIDENT_SEEN => { kind := .w1c, bit := 448, width := 1, reset := 0 }
  | .fdec_SHORT_SEEN => { kind := .w1c, bit := 449, width := 1, reset := 0 }
  | .fdec_EXCESS_SEEN => { kind := .w1c, bit := 450, width := 1, reset := 0 }
  | .fdec_BAD_SEEN => { kind := .w1c, bit := 451, width := 1, reset := 0 }
  | .froe_COMP_OFF => { kind := .ro, bit := 0, width := 1, reset := 1 }
  | .froe_OFF_START_UP => { kind := .ro, bit := 1, width := 1, reset := 1 }
  | .froe_OFF_SELF_TEST => { kind := .ro, bit := 2, width := 1, reset := 0 }
  | .froe_OFF_RECOVERY => { kind := .ro, bit := 3, width := 1, reset := 0 }
  | .froe_SLOTS_VALID => { kind := .ro, bit := 8, width := 7, reset := 0 }
  | .froe_SLOTS_SUPERSEDED => { kind := .ro, bit := 16, width := 7, reset := 0 }
  | .froe_ENC_PLAIN => { kind := .ro, bit := 32, width := 32, reset := 0, kept := true }
  | .froe_ENC_ZERO_RUN => { kind := .ro, bit := 64, width := 32, reset := 0, kept := true }
  | .froe_ENC_TABLE => { kind := .ro, bit := 96, width := 32, reset := 0, kept := true }
  | .froe_ENC_INLINE => { kind := .ro, bit := 128, width := 32, reset := 0, kept := true }
  | .froe_BUILDS => { kind := .ro, bit := 160, width := 32, reset := 0, kept := true }
  | .froe_RETIREMENTS => { kind := .ro, bit := 192, width := 32, reset := 0, kept := true }
  | .froe_BUILD_REFUSED => { kind := .ro, bit := 224, width := 32, reset := 0, stops := true, kept := true }
  | .froe_PARTIAL_WRITES => { kind := .ro, bit := 256, width := 32, reset := 0, stops := true, kept := true }
  | .froe_LINES_SAVED => { kind := .ro, bit := 288, width := 32, reset := 0, kept := true }
  | .froe_BUILD_REFUSED_SEEN => { kind := .w1c, bit := 320, width := 1, reset := 0 }
  | .froe_PARTIAL_WRITE_SEEN => { kind := .w1c, bit := 321, width := 1, reset := 0 }
  | .ftab_VALID => { kind := .ro, bit := 0, width := 1, reset := 0 }
  | .ftab_SUPERSEDED => { kind := .ro, bit := 1, width := 1, reset := 0 }
  | .ftab_BUILDING => { kind := .ro, bit := 2, width := 1, reset := 0 }
  | .ftab_TABLE_ID => { kind := .ro, bit := 8, width := 8, reset := 0 }
  | .ftab_GEN => { kind := .ro, bit := 16, width := 16, reset := 0 }
  | .ftab_OWNER => { kind := .ro, bit := 32, width := 14, reset := 0 }
  | .ftab_REFS => { kind := .ro, bit := 64, width := 16, reset := 0 }
  | .ftab_DECODES => { kind := .ro, bit := 96, width := 32, reset := 0, kept := true }
  | .tmpl_VALID => { kind := .ro, bit := 0, width := 1, reset := 0, kept := true }
  | .tmpl_NEXP_M1 => { kind := .ro, bit := 1, width := 2, reset := 0, kept := true }
  | .tmpl_LINE_PAD => { kind := .ro, bit := 3, width := 1, reset := 0, kept := true }
  | .tmpl_FRAME_PAD => { kind := .ro, bit := 4, width := 1, reset := 0, kept := true }
  | .tmpl_WIDTH_M1 => { kind := .ro, bit := 32, width := 13, reset := 0, kept := true }
  | .tmpl_HEIGHT_M1 => { kind := .ro, bit := 48, width := 14, reset := 0, kept := true }
  | .tmpl_EXP_DT0 => { kind := .ro, bit := 64, width := 6, reset := 0, kept := true }
  | .tmpl_EXP_DT1 => { kind := .ro, bit := 72, width := 6, reset := 0, kept := true }
  | .tmpl_EXP_DT2 => { kind := .ro, bit := 80, width := 6, reset := 0, kept := true }
  | .tmpl_EXP_DT3 => { kind := .ro, bit := 88, width := 6, reset := 0, kept := true }
  | .tmpl_PAD_VALUE => { kind := .ro, bit := 96, width := 20, reset := 0, kept := true }
  | .tmpl_FPS_MAX => { kind := .ro, bit := 128, width := 10, reset := 0, kept := true }
  | .tmpl_IDLE_TIMEOUT => { kind := .ro, bit := 144, width := 16, reset := 0, kept := true }
  | .tmpl_EMB_MAX => { kind := .ro, bit := 160, width := 15, reset := 0, kept := true }
  | .tmpl_MOSAIC => { kind := .ro, bit := 192, width := 3, reset := 0, kept := true }
  | .tmpl_PHASE => { kind := .ro, bit := 196, width := 4, reset := 0, kept := true }
  | .tmpl_REENTRY_AT => { kind := .ro, bit := 200, width := 3, reset := 0, kept := true }
  | .tmpl_TAP_MASK => { kind := .ro, bit := 204, width := 6, reset := 0, kept := true }
  | .tmpl_TAP_SHIFT => { kind := .ro, bit := 210, width := 4, reset := 0, kept := true }
  | .tmpl_BAND_M1 => { kind := .ro, bit := 216, width := 8, reset := 0, kept := true }
  | .tmpl_LIN_TABLE => { kind := .ro, bit := 224, width := 8, reset := 0, kept := true }
  | .tmpl_DPC_TABLE => { kind := .ro, bit := 232, width := 8, reset := 0, kept := true }
  | .tmpl_LSC_TABLE => { kind := .ro, bit := 240, width := 8, reset := 0, kept := true }
  | .tmpl_TONE_TABLE => { kind := .ro, bit := 248, width := 8, reset := 0, kept := true }
  | .tmpl_RATIO1 => { kind := .ro, bit := 256, width := 16, reset := 0, kept := true }
  | .tmpl_RATIO2 => { kind := .ro, bit := 272, width := 16, reset := 0, kept := true }
  | .tmpl_RATIO3 => { kind := .ro, bit := 288, width := 16, reset := 0, kept := true }
  | .tmpl_PAIR_FLOOR => { kind := .ro, bit := 304, width := 16, reset := 0, kept := true }
  | .tmpl_KNEE => { kind := .ro, bit := 320, width := 16, reset := 0, kept := true }
  | .tmpl_CCM_TABLE => { kind := .ro, bit := 336, width := 8, reset := 0, kept := true }
  | .tmpl_OUT_MODE => { kind := .ro, bit := 344, width := 2, reset := 0, kept := true }
  | .tmpl_NVIEWS => { kind := .ro, bit := 346, width := 2, reset := 0, kept := true }
  | .tmpl_VIEW0_W_M1 => { kind := .ro, bit := 352, width := 13, reset := 0, kept := true }
  | .tmpl_VIEW0_H_M1 => { kind := .ro, bit := 368, width := 14, reset := 0, kept := true }
  | .tmpl_VIEW1_W_M1 => { kind := .ro, bit := 384, width := 13, reset := 0, kept := true }
  | .tmpl_VIEW1_H_M1 => { kind := .ro, bit := 400, width := 14, reset := 0, kept := true }
  | .tmpl_HOLD_MASK => { kind := .ro, bit := 416, width := 12, reset := 0, kept := true }
  | .tmpl_LATE_POLICY => { kind := .ro, bit := 428, width := 1, reset := 0, kept := true }
  | .tmpl_FOCUS_MODE => { kind := .ro, bit := 429, width := 1, reset := 0, kept := true }
  | .tmpl_FOCUS_TABLE => { kind := .ro, bit := 440, width := 8, reset := 0, kept := true }
  | .tmpl_LATE_US => { kind := .ro, bit := 448, width := 14, reset := 0, kept := true }
  | .tmpl_GLANCE_F => { kind := .ro, bit := 462, width := 6, reset := 0, kept := true }
  | .cam_ENABLE => { kind := .rw, bit := 0, width := 1, reset := 0, own := true }
  | .cam_STATE => { kind := .ro, bit := 1, width := 2, reset := 0 }
  | .cam_REASON => { kind := .ro, bit := 16, width := 16, reset := 0 }
  | .cam_CONTEXT => { kind := .rwl, bit := 32, width := 14, reset := 0 }
  | .cam_TEMPLATE => { kind := .rwl, bit := 48, width := 8, reset := 0 }
  | .cam_JOINTER => { kind := .rwl, bit := 56, width := 3, reset := 0 }
  | .cam_PORT => { kind := .rwl, bit := 64, width := 5, reset := 0 }
  | .cam_EMB_EN => { kind := .rwl, bit := 69, width := 1, reset := 0 }
  | .cam_EMB_VC => { kind := .rwl, bit := 72, width := 5, reset := 0 }
  | .cam_EXP_VC0 => { kind := .rwl, bit := 96, width := 5, reset := 0 }
  | .cam_EXP_VC1 => { kind := .rwl, bit := 104, width := 5, reset := 0 }
  | .cam_EXP_VC2 => { kind := .rwl, bit := 112, width := 5, reset := 0 }
  | .cam_EXP_VC3 => { kind := .rwl, bit := 120, width := 5, reset := 0 }
  | .cam_REC_RING => { kind := .rwl, bit := 128, width := 64, reset := 0 }
  | .cam_REC_SLOTS_M1 => { kind := .rwl, bit := 192, width := 8, reset := 0 }
  | .cam_FRAME_PEG => { kind := .rwl, bit := 224, width := 16, reset := 0 }
  | .cam_FRAME_SEQ => { kind := .ro, bit := 256, width := 32, reset := 0 }
  | .cam_FRAMES_FLAGGED => { kind := .ro, bit := 288, width := 32, reset := 0 }
  | .cam_OVERRUNS => { kind := .ro, bit := 320, width := 32, reset := 0 }
  | .cam_DISCARDED_PACKETS => { kind := .ro, bit := 352, width := 32, reset := 0 }
  | .cam_BUFFER_BYTES => { kind := .ro, bit := 384, width := 17, reset := 0 }
  | .cam_REC_NEXT => { kind := .ro, bit := 416, width := 8, reset := 0 }
  | .port_ENABLED => { kind := .ro, bit := 0, width := 1, reset := 0, kept := true }
  | .port_CPHY => { kind := .ro, bit := 1, width := 1, reset := 0, kept := true }
  | .port_LANES => { kind := .ro, bit := 2, width := 3, reset := 0, kept := true }
  | .port_RATE => { kind := .ro, bit := 8, width := 8, reset := 0, kept := true }
  | .port_HS_ACTIVE => { kind := .ro, bit := 32, width := 1, reset := 0 }
  | .port_PACKETS => { kind := .ro, bit := 64, width := 32, reset := 0, kept := true }
  | .port_HDR_CORRECTED => { kind := .ro, bit := 96, width := 32, reset := 0, kept := true }
  | .port_HDR_DROPPED => { kind := .ro, bit := 128, width := 32, reset := 0, stops := true, kept := true }
  | .port_CRC_ERRORS => { kind := .ro, bit := 160, width := 32, reset := 0, stops := true, kept := true }
  | .port_UNBOUND_PACKETS => { kind := .ro, bit := 192, width := 32, reset := 0, kept := true }
  | .port_UNSUPPORTED_DT => { kind := .ro, bit := 224, width := 32, reset := 0, kept := true }
  | .port_ORPHAN_PACKETS => { kind := .ro, bit := 256, width := 32, reset := 0, kept := true }
  | .port_HDR_DROP_SEEN => { kind := .w1c, bit := 288, width := 1, reset := 0 }
  | .port_CRC_SEEN => { kind := .w1c, bit := 289, width := 1, reset := 0 }
  | .port_UNSUPPORTED_SEEN => { kind := .w1c, bit := 290, width := 1, reset := 0 }
  | .loop_ENABLE => { kind := .rw, bit := 0, width := 1, reset := 0, own := true }
  | .loop_STATE => { kind := .ro, bit := 1, width := 2, reset := 0 }
  | .loop_REASON => { kind := .ro, bit := 16, width := 16, reset := 0 }
  | .loop_GRAPH => { kind := .rwl, bit := 32, width := 12, reset := 0 }
  | .loop_BENT_MASK => { kind := .rwl, bit := 44, width := 8, reset := 0 }
  | .loop_PEG_BASE => { kind := .rwl, bit := 64, width := 16, reset := 0 }
  | .loop_BAND_PEG_BASE => { kind := .rwl, bit := 80, width := 16, reset := 0 }
  | .loop_REENTRY_PEG_BASE => { kind := .rwl, bit := 96, width := 16, reset := 0 }
  | .loop_VIEW_PEG => { kind := .rwl, bit := 112, width := 16, reset := 0 }
  | .loop_DONE_PEG => { kind := .rwl, bit := 128, width := 16, reset := 0 }
  | .loop_RESULT_RING => { kind := .rwl, bit := 144, width := 16, reset := 0 }
  | .loop_TAP_FRAMES_M1 => { kind := .rwl, bit := 160, width := 2, reset := 0 }
  | .loop_BUS => { kind := .rwl, bit := 162, width := 5, reset := 0 }
  | .loop_CLEAT_EN => { kind := .rwl, bit := 167, width := 1, reset := 0 }
  | .loop_SENSOR_SLOT => { kind := .rwl, bit := 168, width := 4, reset := 0 }
  | .loop_LENS_SLOT => { kind := .rwl, bit := 172, width := 4, reset := 0 }
  | .loop_LENS_EN => { kind := .rwl, bit := 176, width := 1, reset := 0 }
  | .loop_ADAPT_REGION => { kind := .rwl, bit := 177, width := 5, reset := 0 }
  | .loop_ADAPT_VALID => { kind := .rwl, bit := 182, width := 1, reset := 0 }
  | .loop_TAP_BASE => { kind := .rwl, bit := 192, width := 64, reset := 0 }
  | .loop_IN_LIST => { kind := .rwl, bit := 256, width := 64, reset := 0 }
  | .loop_OUT_LIST => { kind := .rwl, bit := 320, width := 64, reset := 0 }
  | .loop_FRAME_BYTES => { kind := .ro, bit := 384, width := 32, reset := 0 }
  | .loop_LOOP_JOBS => { kind := .ro, bit := 416, width := 32, reset := 0 }
  | .loop_LOOPS_SKIPPED => { kind := .ro, bit := 448, width := 32, reset := 0 }
  | .loop_CTRL_SENT => { kind := .ro, bit := 480, width := 32, reset := 0 }
  | .loop_LAST_CTRL_CODE => { kind := .ro, bit := 512, width := 16, reset := 0 }
  | .loop_MAX_LAT_US => { kind := .ro, bit := 528, width := 16, reset := 0, stops := true }
  | .loop_LAST_CTRL_SEQ => { kind := .ro, bit := 544, width := 32, reset := 0 }
  | .loop_FOCUS_FALLBACKS => { kind := .ro, bit := 576, width := 32, reset := 0 }
  | .loop_CUR_BUF => { kind := .ro, bit := 608, width := 2, reset := 0 }
  | .jnt_PRESENT => { kind := .ro, bit := 0, width := 1, reset := 0, kept := true }
  | .jnt_GLANCE_CAPABLE => { kind := .ro, bit := 1, width := 1, reset := 0, kept := true }
  | .jnt_PWR => { kind := .ro, bit := 2, width := 2, reset := 0 }
  | .jnt_STREAMS => { kind := .ro, bit := 4, width := 7, reset := 0 }
  | .jnt_REENTRY_STREAMS => { kind := .ro, bit := 11, width := 7, reset := 0 }
  | .jnt_SETS_SERVED => { kind := .ro, bit := 32, width := 32, reset := 0, kept := true }
  | .jnt_PAD_SETS => { kind := .ro, bit := 64, width := 32, reset := 0, kept := true }
  | .jnt_REENTRY_SETS => { kind := .ro, bit := 96, width := 32, reset := 0, kept := true }
  | .jnt_TAP_BANDS => { kind := .ro, bit := 128, width := 32, reset := 0, kept := true }
  | .jnt_DEFECTS_FIXED => { kind := .ro, bit := 160, width := 32, reset := 0, kept := true }
  | .jnt_GLANCE_SRC => { kind := .rw, bit := 192, width := 7, reset := 127, own := true }
  | .jnt_GLANCE_ACTIVE => { kind := .ro, bit := 199, width := 1, reset := 0 }
  | .jnt_GLANCE_FRAMES => { kind := .ro, bit := 224, width := 32, reset := 0, kept := true }
  | .jnt_GLANCE_SKIPPED => { kind := .ro, bit := 256, width := 32, reset := 0, kept := true }
  | .jnt_GLANCE_EXIT => { kind := .w1c, bit := 288, width := 1, reset := 0 }
  | .i3c_ENABLED => { kind := .ro, bit := 0, width := 1, reset := 0, kept := true }
  | .i3c_SCL_RATE => { kind := .ro, bit := 8, width := 8, reset := 0, kept := true }
  | .i3c_LOOPS => { kind := .ro, bit := 16, width := 5, reset := 0 }
  | .i3c_DAA_GO => { kind := .w1s, bit := 32, width := 1, reset := 0, own := true }
  | .i3c_DAA_BUSY => { kind := .ro, bit := 33, width := 1, reset := 0 }
  | .i3c_HOTJOIN_SEEN => { kind := .w1c, bit := 34, width := 1, reset := 0 }
  | .i3c_NACK_SEEN => { kind := .w1c, bit := 35, width := 1, reset := 0 }
  | .i3c_IBI_SEEN => { kind := .w1c, bit := 36, width := 1, reset := 0 }
  | .i3c_RECORDS_SENT => { kind := .ro, bit := 64, width := 32, reset := 0, kept := true }
  | .i3c_NACKS => { kind := .ro, bit := 96, width := 32, reset := 0, stops := true, kept := true }
  | .i3c_IBIS => { kind := .ro, bit := 128, width := 32, reset := 0, kept := true }
  | .i3c_LAST_IBI_ADDR => { kind := .ro, bit := 160, width := 7, reset := 0 }
  | .i3c_LAST_IBI_MDB => { kind := .ro, bit := 168, width := 8, reset := 0 }
  | .i3c_MAN_RECORD => { kind := .rw, bit := 4096, width := 1024, reset := 0 }
  | .i3c_MAN_GO => { kind := .w1s, bit := 5120, width := 1, reset := 0, own := true }
  | .i3c_MAN_BUSY => { kind := .ro, bit := 5121, width := 1, reset := 0 }
  | .i3c_MAN_OVERRUN => { kind := .w1c, bit := 5122, width := 1, reset := 0 }
  | .i3c_MAN_REASON => { kind := .ro, bit := 5136, width := 16, reset := 0 }
  | .i3ct_DYN_ADDR => { kind := .ro, bit := 0, width := 7, reset := 0 }
  | .i3ct_VALID => { kind := .ro, bit := 7, width := 1, reset := 0 }
  | .i3ct_BCR => { kind := .ro, bit := 8, width := 8, reset := 0 }
  | .i3ct_DCR => { kind := .ro, bit := 16, width := 8, reset := 0 }
  | .i3ct_PID_LO => { kind := .ro, bit := 32, width := 32, reset := 0 }
  | .i3ct_PID_HI => { kind := .ro, bit := 64, width := 16, reset := 0 }
  | .hist_CUR_BINS => { kind := .ro, bit := 0, width := 2, reset := 0 }
  | .hist_CUR_LOG => { kind := .ro, bit := 2, width := 1, reset := 0 }
  | .hist_CUR_ZY_M1 => { kind := .ro, bit := 4, width := 4, reset := 0 }
  | .hist_CUR_ZX_M1 => { kind := .ro, bit := 8, width := 4, reset := 0 }
  | .hist_CUR_SLOT => { kind := .ro, bit := 12, width := 6, reset := 0 }
  | .hist_HIST_TILES => { kind := .ro, bit := 32, width := 32, reset := 0, kept := true }
  | .hist_HIST_SAMPLES_LO => { kind := .ro, bit := 64, width := 32, reset := 0, kept := true }
  | .hist_HIST_SAMPLES_HI => { kind := .ro, bit := 96, width := 32, reset := 0, kept := true }
  | .hist_SAT_SAMPLES => { kind := .ro, bit := 128, width := 32, reset := 0, kept := true }
  | .det_DET_SEQ => { kind := .ro, bit := 0, width := 32, reset := 0 }
  | .det_CLASS => { kind := .ro, bit := 32, width := 4, reset := 0 }
  | .det_GLANCE => { kind := .ro, bit := 36, width := 1, reset := 0 }
  | .det_SEAM => { kind := .ro, bit := 37, width := 1, reset := 0 }
  | .det_REPLAY_SHORT => { kind := .ro, bit := 38, width := 1, reset := 0 }
  | .det_OUTCOME => { kind := .ro, bit := 40, width := 3, reset := 0 }
  | .det_CODE => { kind := .ro, bit := 48, width := 16, reset := 0 }
  | .det_HIT_FRAME => { kind := .ro, bit := 64, width := 32, reset := 0 }
  | .det_REPLAY_FIRST => { kind := .ro, bit := 96, width := 32, reset := 0 }
  | .det_SCORE => { kind := .ro, bit := 128, width := 16, reset := 0 }
  | .det_DECIDED_FRAME => { kind := .ro, bit := 160, width := 32, reset := 0 }
  | .casc_ENABLE => { kind := .rw, bit := 0, width := 1, reset := 0, own := true }
  | .casc_STATE => { kind := .ro, bit := 1, width := 2, reset := 0 }
  | .casc_RUNG3_ACTIVE => { kind := .ro, bit := 3, width := 1, reset := 0 }
  | .casc_RELEASE => { kind := .w1s, bit := 4, width := 1, reset := 0, own := true }
  | .casc_REASON => { kind := .ro, bit := 16, width := 16, reset := 0 }
  | .casc_CONTEXT => { kind := .rwl, bit := 32, width := 14, reset := 0 }
  | .casc_RUNG3_EN => { kind := .rwl, bit := 46, width := 1, reset := 0 }
  | .casc_RUNG1_GRAPH => { kind := .rwl, bit := 64, width := 12, reset := 0 }
  | .casc_RUNG2_GRAPH => { kind := .rwl, bit := 96, width := 12, reset := 0 }
  | .casc_RUNG3_GRAPH => { kind := .rwl, bit := 128, width := 12, reset := 0 }
  | .casc_RUNG1_MASK => { kind := .rwl, bit := 76, width := 8, reset := 0 }
  | .casc_RUNG2_MASK => { kind := .rwl, bit := 108, width := 8, reset := 0 }
  | .casc_RUNG3_MASK => { kind := .rwl, bit := 140, width := 8, reset := 0 }
  | .casc_PEG_BASE => { kind := .rwl, bit := 160, width := 16, reset := 0 }
  | .casc_DONE_PEG => { kind := .rwl, bit := 176, width := 16, reset := 0 }
  | .casc_LP_PEG => { kind := .rwl, bit := 192, width := 16, reset := 0 }
  | .casc_HQ_PEG => { kind := .rwl, bit := 208, width := 16, reset := 0 }
  | .casc_RESULT_RING => { kind := .rwl, bit := 224, width := 16, reset := 0 }
  | .casc_RUNG2_SESSION => { kind := .rwl, bit := 240, width := 16, reset := 65535 }
  | .casc_LP_RING => { kind := .rwl, bit := 256, width := 64, reset := 0 }
  | .casc_LP_SLOTS_M1 => { kind := .rwl, bit := 320, width := 12, reset := 0 }
  | .casc_HQ_RING => { kind := .rwl, bit := 352, width := 64, reset := 0 }
  | .casc_HQ_SLOTS_M1 => { kind := .rwl, bit := 416, width := 12, reset := 0 }
  | .casc_HQ_LANES_M1 => { kind := .rwl, bit := 428, width := 4, reset := 0 }
  | .casc_IN_LIST => { kind := .rwl, bit := 448, width := 64, reset := 0 }
  | .casc_OUT_LIST => { kind := .rwl, bit := 512, width := 64, reset := 0 }
  | .casc_DETECTIONS => { kind := .ro, bit := 576, width := 32, reset := 0 }
  | .casc_CONFIRMS => { kind := .ro, bit := 608, width := 32, reset := 0 }
  | .casc_REJECTS => { kind := .ro, bit := 640, width := 32, reset := 0 }
  | .casc_HITS_DROPPED => { kind := .ro, bit := 672, width := 32, reset := 0 }
  | .rasp_MODE0 => { kind := .ro, bit := 0, width := 2, reset := 0 }
  | .rasp_MODE1 => { kind := .ro, bit := 2, width := 2, reset := 0 }
  | .rasp_MODE2 => { kind := .ro, bit := 4, width := 2, reset := 0 }
  | .rasp_MODE3 => { kind := .ro, bit := 6, width := 2, reset := 0 }
  | .rasp_SETTLING => { kind := .ro, bit := 8, width := 4, reset := 0 }
  | .rasp_LISTEN_GROUP => { kind := .ro, bit := 12, width := 2, reset := 0, kept := true }
  | .rasp_ACTIVE_GROUPS => { kind := .ro, bit := 14, width := 4, reset := 0, kept := true }
  | .rasp_HQ_RUNNING => { kind := .ro, bit := 18, width := 1, reset := 0 }
  | .rasp_STEP_DOWN_DEFERRED => { kind := .ro, bit := 19, width := 1, reset := 0 }
  | .rasp_SETTLE_MS => { kind := .ro, bit := 32, width := 7, reset := 0, kept := true }
  | .rasp_SAMPLE_DLY => { kind := .ro, bit := 40, width := 8, reset := 0, kept := true }
  | .rasp_AFN => { kind := .ro, bit := 64, width := 32, reset := 0 }
  | .rasp_SEAM_FRAMES => { kind := .ro, bit := 96, width := 32, reset := 0, kept := true }
  | .rasp_STEP_UPS => { kind := .ro, bit := 128, width := 32, reset := 0, kept := true }
  | .rasp_STEP_DOWNS => { kind := .ro, bit := 160, width := 32, reset := 0, kept := true }
  | .rasp_DEFERRALS => { kind := .ro, bit := 192, width := 32, reset := 0, kept := true }
  | .rasp_LP_CLIPS => { kind := .ro, bit := 224, width := 32, reset := 0, kept := true }
  | .rasp_HQ_CLIPS => { kind := .ro, bit := 256, width := 32, reset := 0, kept := true }
  | .rasp_BEAM_CLIPS => { kind := .ro, bit := 288, width := 32, reset := 0, kept := true }
  | .rasp_SEAM_SEEN => { kind := .w1c, bit := 320, width := 1, reset := 0 }
  | .rasp_CLIP_SEEN => { kind := .w1c, bit := 321, width := 1, reset := 0 }
  | .rasp_BEAM_REFUSED => { kind := .w1c, bit := 322, width := 1, reset := 0 }
  | .rasp_COMMIT => { kind := .w1s, bit := 352, width := 1, reset := 0, own := true }
  | .rasp_PENDING => { kind := .ro, bit := 353, width := 1, reset := 0 }
  | .rasp_BEAM_REASON => { kind := .ro, bit := 368, width := 16, reset := 0 }
  | .raspch_GAIN => { kind := .rw, bit := 0, width := 16, reset := 4096 }
  | .raspch_MUTE => { kind := .rw, bit := 16, width := 1, reset := 0 }
  | .rasplane_HQ_LANE_SRC => { kind := .rw, bit := 0, width := 5, reset := 0 }
  | .rasplane_HQ_LANE_BEAM => { kind := .rw, bit := 5, width := 1, reset := 0 }
  | .beam_DELAY => { kind := .rw, bit := 0, width := 15, reset := 0 }
  | .beam_BGAIN => { kind := .rw, bit := 16, width := 16, reset := 0 }
  | .plumb_HOP_MS => { kind := .ro, bit := 0, width := 5, reset := 0, kept := true }
  | .plumb_ACTIVITY => { kind := .ro, bit := 8, width := 1, reset := 0 }
  | .plumb_GLANCE_IN => { kind := .ro, bit := 9, width := 1, reset := 0, kept := true }
  | .plumb_HIT_PENDING => { kind := .ro, bit := 10, width := 1, reset := 0 }
  | .plumb_ACT_CLASS => { kind := .ro, bit := 12, width := 4, reset := 0, kept := true }
  | .plumb_HIT_CLASSES => { kind := .ro, bit := 16, width := 16, reset := 0, kept := true }
  | .plumb_ACT_ON => { kind := .ro, bit := 32, width := 16, reset := 0, kept := true }
  | .plumb_ACT_OFF => { kind := .ro, bit := 48, width := 16, reset := 0, kept := true }
  | .plumb_ACT_HANG_HOPS => { kind := .ro, bit := 64, width := 16, reset := 0, kept := true }
  | .plumb_RUNG2_HOLD_S => { kind := .ro, bit := 80, width := 16, reset := 0, kept := true }
  | .plumb_HOPS => { kind := .ro, bit := 96, width := 32, reset := 0, kept := true }
  | .plumb_HITS => { kind := .ro, bit := 128, width := 32, reset := 0, kept := true }
  | .plumb_GLANCE_RUNS => { kind := .ro, bit := 160, width := 32, reset := 0, kept := true }
  | .plumb_HIT_SEEN => { kind := .w1c, bit := 192, width := 1, reset := 0 }
  | .plumb_DROP_SEEN => { kind := .w1c, bit := 193, width := 1, reset := 0 }
  | .plumb_REPLAY_SHORT_SEEN => { kind := .w1c, bit := 194, width := 1, reset := 0 }
  | .plumbc_THRESH => { kind := .ro, bit := 0, width := 16, reset := 0, kept := true }
  | .plumbc_CONSEC => { kind := .ro, bit := 16, width := 4, reset := 0, kept := true }
  | .plumbc_REFRACT_HOPS => { kind := .ro, bit := 20, width := 12, reset := 0, kept := true }
  | .plumbs_SCORE => { kind := .ro, bit := 0, width := 16, reset := 0 }
  | .route_ENABLE => { kind := .rw, bit := 0, width := 1, reset := 0, own := true }
  | .route_REASON => { kind := .ro, bit := 16, width := 16, reset := 0 }
  | .route_HOPS => { kind := .rwl, bit := 160, width := 4, reset := 0 }
  | .routep_NEXT_DEV => { kind := .rwl, bit := 0, width := 9, reset := 0 }
  | .routep_NEXT_PORT => { kind := .rwl, bit := 9, width := 3, reset := 0 }
  | .routep_VALID => { kind := .rwl, bit := 12, width := 1, reset := 0 }
  | .fjob_ENABLE => { kind := .rw, bit := 0, width := 1, reset := 0, own := true }
  | .fjob_STATE => { kind := .ro, bit := 1, width := 2, reset := 0 }
  | .fjob_REASON => { kind := .ro, bit := 16, width := 16, reset := 0 }
  | .fjob_FJOB_ID => { kind := .rwl, bit := 32, width := 32, reset := 0 }
  | .fjob_KEY_SLOT => { kind := .rwl, bit := 64, width := 8, reset := 0 }
  | .fjob_NMEMBERS_M1 => { kind := .rwl, bit := 72, width := 9, reset := 0 }
  | .fjob_MY_RANK => { kind := .rwl, bit := 81, width := 9, reset := 0 }
  | .fjob_MEMBERS => { kind := .rwl, bit := 128, width := 64, reset := 0 }
  | .fjob_RUN => { kind := .ro, bit := 192, width := 32, reset := 0 }
  | .fjob_LAST_FAULT => { kind := .ro, bit := 224, width := 16, reset := 0 }
  | .fjob_RETRANSMITS => { kind := .ro, bit := 256, width := 32, reset := 0 }
  | .fjob_AUTH_FAILS => { kind := .ro, bit := 288, width := 32, reset := 0, stops := true }
  | .fjob_FLOWS_FAILED => { kind := .ro, bit := 320, width := 32, reset := 0, stops := true }
  | .fjob_PEG_OPS_IN => { kind := .ro, bit := 352, width := 32, reset := 0 }
  | .kport_ENABLED => { kind := .ro, bit := 0, width := 1, reset := 0, kept := true }
  | .kport_SWITCHED => { kind := .ro, bit := 1, width := 1, reset := 0, kept := true }
  | .kport_PMD => { kind := .ro, bit := 2, width := 2, reset := 0, kept := true }
  | .kport_LINK_UP => { kind := .ro, bit := 4, width := 1, reset := 0 }
  | .kport_SPARE_ASSIGNED => { kind := .ro, bit := 5, width := 1, reset := 0, kept := true }
  | .kport_SPARE_IN_USE => { kind := .ro, bit := 6, width := 1, reset := 0 }
  | .kport_REPLACED_LANE => { kind := .ro, bit := 7, width := 3, reset := 7 }
  | .kport_VLAN_ID => { kind := .ro, bit := 32, width := 12, reset := 0, kept := true }
  | .kport_VLAN_PCP => { kind := .ro, bit := 44, width := 3, reset := 0, kept := true }
  | .kport_VLAN_EN => { kind := .ro, bit := 47, width := 1, reset := 0, kept := true }
  | .kport_PEER_DEV => { kind := .ro, bit := 48, width := 9, reset := 0 }
  | .kport_PEER_SILENT => { kind := .ro, bit := 57, width := 1, reset := 0 }
  | .kport_PEER_PORT => { kind := .ro, bit := 58, width := 3, reset := 0 }
  | .kport_TX_FRAMES => { kind := .ro, bit := 64, width := 32, reset := 0, kept := true }
  | .kport_RX_FRAMES => { kind := .ro, bit := 96, width := 32, reset := 0, kept := true }
  | .kport_RETRANSMITS => { kind := .ro, bit := 128, width := 32, reset := 0, kept := true }
  | .kport_AUTH_FAILS => { kind := .ro, bit := 160, width := 32, reset := 0, stops := true, kept := true }
  | .kport_DUPLICATES => { kind := .ro, bit := 192, width := 32, reset := 0, kept := true }
  | .kport_BAD_HEADERS => { kind := .ro, bit := 224, width := 32, reset := 0, stops := true, kept := true }
  | .kport_FORWARDED => { kind := .ro, bit := 256, width := 32, reset := 0, kept := true }
  | .kport_HOP_EXPIRED => { kind := .ro, bit := 288, width := 32, reset := 0, stops := true, kept := true }
  | .kport_UNKNOWN_JOB => { kind := .ro, bit := 320, width := 32, reset := 0, stops := true, kept := true }
  | .kport_STALE_DROPS => { kind := .ro, bit := 352, width := 32, reset := 0, stops := true, kept := true }
  | .kport_FOREIGN_FRAMES => { kind := .ro, bit := 384, width := 32, reset := 0, kept := true }
  | .kport_FCS_ERRORS => { kind := .ro, bit := 416, width := 32, reset := 0, stops := true, kept := true }
  | .kport_FEC_CORRECTED => { kind := .ro, bit := 448, width := 32, reset := 0, kept := true }
  | .kport_FEC_UNCORRECTED => { kind := .ro, bit := 480, width := 32, reset := 0, stops := true, kept := true }
  | .kport_RETRAINS => { kind := .ro, bit := 512, width := 32, reset := 0, kept := true }
  | .kport_INJECTED => { kind := .ro, bit := 544, width := 32, reset := 0, kept := true }
  | .kport_EARLY_PEG => { kind := .ro, bit := 576, width := 32, reset := 0, kept := true }
  | .kport_AUTH_SEEN => { kind := .w1c, bit := 608, width := 1, reset := 0 }
  | .kport_LINK_DOWN_SEEN => { kind := .w1c, bit := 609, width := 1, reset := 0 }
  | .kport_SPARE_SEEN => { kind := .w1c, bit := 610, width := 1, reset := 0 }
  | .kport_STALE_SEEN => { kind := .w1c, bit := 611, width := 1, reset := 0 }
  | .kport_FEC_UE_SEEN => { kind := .w1c, bit := 612, width := 1, reset := 0 }
  | .kport_RULE_REASON => { kind := .ro, bit := 33792, width := 16, reset := 0 }
  | .krule_EN => { kind := .rw, bit := 0, width := 1, reset := 0, own := true }
  | .krule_DIR => { kind := .rwl, bit := 1, width := 1, reset := 0 }
  | .krule_ACTION => { kind := .rwl, bit := 2, width := 2, reset := 0 }
  | .krule_KIND => { kind := .rwl, bit := 4, width := 4, reset := 0 }
  | .krule_ANY_FLOW => { kind := .rwl, bit := 8, width := 1, reset := 0 }
  | .krule_FLOW => { kind := .rwl, bit := 16, width := 16, reset := 0 }
  | .krule_FJOB_ID => { kind := .rwl, bit := 32, width := 32, reset := 0 }
  | .krule_EVERY_N => { kind := .rwl, bit := 64, width := 16, reset := 0 }
  | .krule_COUNT => { kind := .rwl, bit := 80, width := 16, reset := 0 }
  | .krule_CORRUPT_BIT => { kind := .rwl, bit := 96, width := 13, reset := 0 }
  | .krule_REORDER_DEPTH => { kind := .rwl, bit := 109, width := 8, reset := 0 }
  | .fab_DEV_ID => { kind := .ro, bit := 0, width := 9, reset := 0, kept := true }
  | .fab_MAC_PREFIX => { kind := .ro, bit := 32, width := 24, reset := 0, kept := true }
  | .fab_ETHERTYPE => { kind := .ro, bit := 64, width := 16, reset := 0, kept := true }
  | .fab_RTO_US => { kind := .ro, bit := 96, width := 10, reset := 0, kept := true }
  | .fab_FLOW_TIMEOUT_MS => { kind := .ro, bit := 112, width := 14, reset := 0, kept := true }
  | .fab_FLOW_RECORDS_FREE => { kind := .ro, bit := 128, width := 14, reset := 8192 }
  | .fab_ENTRIES_ENABLED => { kind := .ro, bit := 144, width := 9, reset := 0 }
  | .fab_INJECT_ALLOWED => { kind := .ro, bit := 153, width := 1, reset := 0, kept := true }
  | .fab_FLOWS_FAILED => { kind := .ro, bit := 160, width := 32, reset := 0, stops := true, kept := true }
  | .fab_PEER_ABORTS => { kind := .ro, bit := 192, width := 32, reset := 0, kept := true }
  | .fab_BARRIERS => { kind := .ro, bit := 224, width := 32, reset := 0, kept := true }
  | .fab_FLOW_FAIL_SEEN => { kind := .w1c, bit := 256, width := 1, reset := 0 }
  | .fab_ABORT_SEEN => { kind := .w1c, bit := 257, width := 1, reset := 0 }
  | .cls_VALID => { kind := .ro, bit := 0, width := 1, reset := 0, kept := true }
  | .cls_PRIO_MIN => { kind := .ro, bit := 1, width := 2, reset := 0, kept := true }
  | .cls_FABRIC_EN => { kind := .ro, bit := 3, width := 1, reset := 0, kept := true }
  | .cls_TEST_RULES_EN => { kind := .ro, bit := 4, width := 1, reset := 0, kept := true }
  | .cls_FROE_TABLES => { kind := .ro, bit := 5, width := 7, reset := 0, kept := true }
  | .cls_MAX_MEM_PAGES => { kind := .ro, bit := 32, width := 16, reset := 0, kept := true }
  | .cls_MAX_SESSIONS => { kind := .ro, bit := 48, width := 12, reset := 0, kept := true }
  | .cls_MAX_PEGS => { kind := .ro, bit := 64, width := 17, reset := 0, kept := true }
  | .cls_MAX_STREAMS => { kind := .ro, bit := 81, width := 7, reset := 0, kept := true }
  | .cls_MAX_CONTEXTS => { kind := .ro, bit := 88, width := 5, reset := 0, kept := true }
  | .cls_JOB_TIME_MS => { kind := .ro, bit := 96, width := 32, reset := 0, kept := true }
  | .cls_KV_CLASSES => { kind := .ro, bit := 128, width := 64, reset := 0, kept := true }
  | .cls_RCLASSES => { kind := .ro, bit := 192, width := 64, reset := 0, kept := true }
  | .cls_TEMPLATES => { kind := .ro, bit := 256, width := 256, reset := 0, kept := true }
  | .cls_GRAPHS => { kind := .ro, bit := 512, width := 1024, reset := 0, kept := true }
  | .ten_ENABLE => { kind := .rw, bit := 0, width := 1, reset := 0, own := true }
  | .ten_STATE => { kind := .ro, bit := 1, width := 2, reset := 0 }
  | .ten_REASON => { kind := .ro, bit := 16, width := 16, reset := 0 }
  | .ten_CLASS => { kind := .rwl, bit := 32, width := 6, reset := 0 }
  | .ten_PASID => { kind := .rwl, bit := 64, width := 20, reset := 0 }
  | .ten_Q_MEM_PAGES => { kind := .rw, bit := 96, width := 16, reset := 0, own := true }
  | .ten_Q_SESSIONS => { kind := .rw, bit := 112, width := 12, reset := 0, own := true }
  | .ten_Q_PEGS => { kind := .rw, bit := 128, width := 17, reset := 0, own := true }
  | .ten_Q_STREAMS => { kind := .rw, bit := 145, width := 7, reset := 0, own := true }
  | .ten_Q_CONTEXTS => { kind := .rw, bit := 152, width := 5, reset := 0, own := true }
  | .ten_MEM_USED => { kind := .ro, bit := 160, width := 16, reset := 0 }
  | .ten_SESSIONS_USED => { kind := .ro, bit := 176, width := 12, reset := 0 }
  | .ten_PEGS_USED => { kind := .ro, bit := 192, width := 17, reset := 0 }
  | .ten_STREAMS_USED => { kind := .ro, bit := 209, width := 7, reset := 0 }
  | .ten_CONTEXTS_USED => { kind := .ro, bit := 216, width := 5, reset := 0 }
  | .ten_FROE_USED => { kind := .ro, bit := 224, width := 7, reset := 0 }
  | .ctx_ENABLE => { kind := .rw, bit := 0, width := 1, reset := 0, own := true }
  | .ctx_STATE => { kind := .ro, bit := 1, width := 2, reset := 0 }
  | .ctx_REASON => { kind := .ro, bit := 16, width := 16, reset := 0 }
  | .ctx_TENANT => { kind := .rwl, bit := 32, width := 12, reset := 0 }
  | .ctx_PRIO => { kind := .rwl, bit := 44, width := 2, reset := 0 }
  | .ctx_HEAD => { kind := .ro, bit := 64, width := 5, reset := 0 }
  | .ctx_TAIL => { kind := .ro, bit := 72, width := 5, reset := 0 }
  | .ctx_DB_REASON => { kind := .ro, bit := 80, width := 16, reset := 0 }
  | .ctx_RESIDENT_MASK => { kind := .ro, bit := 96, width := 8, reset := 0 }
  | .ctx_JOBS_DONE => { kind := .ro, bit := 128, width := 32, reset := 0 }
  | .ctx_LAST_FAULT => { kind := .ro, bit := 160, width := 16, reset := 0 }
  | .wedge_LIFE_CYCLE => { kind := .ro, bit := 0, width := 3, reset := 0, kept := true }
  | .wedge_LC_NEXT => { kind := .ro, bit := 3, width := 3, reset := 7 }
  | .wedge_IDENT_READY => { kind := .ro, bit := 6, width := 1, reset := 0 }
  | .wedge_KEM_READY => { kind := .ro, bit := 7, width := 1, reset := 0 }
  | .wedge_CERT_READY => { kind := .ro, bit := 8, width := 1, reset := 0 }
  | .wedge_START_UP => { kind := .ro, bit := 9, width := 1, reset := 1 }
  | .wedge_QUEUE => { kind := .ro, bit := 10, width := 5, reset := 0 }
  | .wedge_KEY_BUSY => { kind := .ro, bit := 15, width := 1, reset := 0 }
  | .wedge_BOOT_ID => { kind := .ro, bit := 32, width := 32, reset := 0, kept := true }
  | .wedge_KEM_EPOCH => { kind := .ro, bit := 64, width := 32, reset := 0 }
  | .wedge_SERIAL_LO => { kind := .ro, bit := 96, width := 32, reset := 0, kept := true }
  | .wedge_SERIAL_HI => { kind := .ro, bit := 128, width := 32, reset := 0, kept := true }
  | .wedge_RETURNS_LEFT => { kind := .ro, bit := 160, width := 2, reset := 0, kept := true }
  | .wedge_ATTESTS => { kind := .ro, bit := 192, width := 32, reset := 0, kept := true }
  | .wedge_KEYS_ACCEPTED => { kind := .ro, bit := 224, width := 32, reset := 0, kept := true }
  | .wedge_KEYS_REFUSED => { kind := .ro, bit := 256, width := 32, reset := 0, stops := true, kept := true }
  | .wedge_KEY_REFUSED_SEEN => { kind := .w1c, bit := 288, width := 1, reset := 0 }
  | .wedge_ATTEST_REFUSED_SEEN => { kind := .w1c, bit := 289, width := 1, reset := 0 }
  | .wedge_KEM_ROTATED => { kind := .w1c, bit := 290, width := 1, reset := 0 }
  | .wedge_IDENT_PK => { kind := .ro, bit := 512, width := 384, reset := 0 }
  | .wedge_DEPLOYED_PK => { kind := .ro, bit := 896, width := 384, reset := 0 }
  | .wedge_BUF => { kind := .rw, bit := 2048, width := 3, reset := 0 }
  | .wedge_TENANT_VALID => { kind := .rw, bit := 2051, width := 1, reset := 0 }
  | .wedge_TENANT => { kind := .rw, bit := 2052, width := 12, reset := 0 }
  | .wedge_ATTEST_GO => { kind := .w1s, bit := 2064, width := 1, reset := 0, own := true }
  | .wedge_ATTEST_REASON => { kind := .ro, bit := 2080, width := 16, reset := 0 }
  | .wedge_NONCE => { kind := .rw, bit := 2304, width := 256, reset := 0 }
  | .wedge_KEY_GO => { kind := .w1s, bit := 4096, width := 1, reset := 0, own := true }
  | .wedge_KEY_ERASE => { kind := .w1s, bit := 4097, width := 1, reset := 0, own := true }
  | .wedge_ERASE_SLOT => { kind := .rw, bit := 4104, width := 8, reset := 0 }
  | .wedge_KEY_REASON => { kind := .ro, bit := 4112, width := 16, reset := 0 }
  | .wedge_LC_GO => { kind := .w1s, bit := 4128, width := 1, reset := 0, own := true }
  | .wedge_LC_TARGET => { kind := .rw, bit := 4129, width := 3, reset := 0 }
  | .wedge_LC_CONFIRM => { kind := .rw, bit := 4132, width := 12, reset := 0 }
  | .wedge_LC_REASON => { kind := .ro, bit := 4144, width := 16, reset := 0 }
  | .wedge_STAGED_DIGEST => { kind := .ro, bit := 18432, width := 256, reset := 0 }
  | .wedge_KEY_WINDOW => { kind := .rw, bit := 32768, width := 9600, reset := 0 }
  | .wedge_LC_TOKEN => { kind := .rw, bit := 262144, width := 130304, reset := 0 }
  | .wedge_KEM_CERT => { kind := .ro, bit := 524288, width := 295296, reset := 0 }
  | .wbuf_BUF_STATE => { kind := .ro, bit := 0, width := 2, reset := 0 }
  | .wbuf_FREE => { kind := .w1s, bit := 2, width := 1, reset := 0, own := true }
  | .wmeas_MEAS => { kind := .ro, bit := 0, width := 256, reset := 0 }
  | .wrep_REPORT => { kind := .ro, bit := 0, width := 289408, reset := 0 }
  | .wkey_SLOT_STATE => { kind := .ro, bit := 0, width := 2, reset := 0 }
  | .wkey_SLOT_TENANT => { kind := .ro, bit := 2, width := 12, reset := 0 }
  | .wkey_SLOT_FJOB_ID => { kind := .ro, bit := 32, width := 32, reset := 0 }
  | .ring_ENABLE => { kind := .rw, bit := 0, width := 1, reset := 0, own := true }
  | .ring_STATE => { kind := .ro, bit := 1, width := 2, reset := 0 }
  | .ring_REASON => { kind := .ro, bit := 16, width := 16, reset := 0 }
  | .ring_TENANT => { kind := .rwl, bit := 32, width := 12, reset := 0 }
  | .ring_LOCATION => { kind := .rwl, bit := 44, width := 1, reset := 0 }
  | .ring_SLOT_SIZE => { kind := .rwl, bit := 45, width := 2, reset := 0 }
  | .ring_SLOTS_LOG2 => { kind := .rwl, bit := 47, width := 4, reset := 0 }
  | .ring_IRQ_EN => { kind := .rwl, bit := 51, width := 1, reset := 0 }
  | .ring_VECTOR => { kind := .rwl, bit := 52, width := 11, reset := 0 }
  | .ring_HOST_ADDR => { kind := .rwl, bit := 64, width := 64, reset := 0 }
  | .ring_HEAD => { kind := .ro, bit := 128, width := 16, reset := 0 }
  | .ring_TAIL => { kind := .ro, bit := 144, width := 16, reset := 0 }
  | .ring_MBX_PAGE => { kind := .ro, bit := 160, width := 11, reset := 0 }
  | .ring_RESULTS => { kind := .ro, bit := 192, width := 32, reset := 0 }
  | .ring_DROPPED => { kind := .ro, bit := 224, width := 32, reset := 0, stops := true }
  | .ring_FULL_WAITS => { kind := .ro, bit := 256, width := 32, reset := 0 }
  | .ring_HEAD_REFUSED => { kind := .ro, bit := 288, width := 32, reset := 0 }
  | .host_DEV_STATE => { kind := .ro, bit := 0, width := 2, reset := 0 }
  | .host_REDUCED => { kind := .ro, bit := 2, width := 1, reset := 0 }
  | .host_LINK_RATE => { kind := .ro, bit := 32, width := 6, reset := 0 }
  | .host_MOD0_UP => { kind := .ro, bit := 38, width := 1, reset := 0 }
  | .host_MOD1_UP => { kind := .ro, bit := 39, width := 1, reset := 0 }
  | .host_MOD0_REPAIRED => { kind := .ro, bit := 40, width := 1, reset := 0 }
  | .host_MOD1_REPAIRED => { kind := .ro, bit := 41, width := 1, reset := 0 }
  | .host_ACCESS_ERRORS => { kind := .ro, bit := 64, width := 32, reset := 0, stops := true, kept := true }
  | .host_DOORBELL_FAULTS => { kind := .ro, bit := 96, width := 32, reset := 0, stops := true, kept := true }
  | .host_MISROUTED => { kind := .ro, bit := 128, width := 32, reset := 0, stops := true, kept := true }
  | .host_PEG_EVENTS_LOST => { kind := .ro, bit := 160, width := 32, reset := 0, stops := true, kept := true }
  | .host_LAST_DB_TENANT => { kind := .ro, bit := 192, width := 12, reset := 0 }
  | .host_ACCESS_ERROR => { kind := .w1c, bit := 224, width := 1, reset := 0 }
  | .host_DOORBELL_FAULT => { kind := .w1c, bit := 225, width := 1, reset := 0 }
  | .host_MISROUTE => { kind := .w1c, bit := 226, width := 1, reset := 0 }
  | .host_EVQ_OVERFLOW => { kind := .w1c, bit := 227, width := 1, reset := 0 }
  | .host_FOREMAN_LOST_EV => { kind := .w1c, bit := 228, width := 1, reset := 0 }
  | .host_LINK_DEGRADED => { kind := .w1c, bit := 229, width := 1, reset := 0 }
  | .host_EVENT_MASK => { kind := .rw, bit := 256, width := 6, reset := 63 }
  | .host_DEV_VECTOR => { kind := .rw, bit := 288, width := 11, reset := 0 }
  | .host_PEG_VECTOR => { kind := .rw, bit := 304, width := 11, reset := 0 }
  | .host_PEG_EVQ_HEAD => { kind := .rw, bit := 320, width := 16, reset := 0, own := true }
  | .host_PEG_EVQ_TAIL => { kind := .ro, bit := 336, width := 16, reset := 0 }
  | .start_RUN_SLOT => { kind := .ro, bit := 0, width := 1, reset := 0, kept := true }
  | .start_FALLBACK => { kind := .ro, bit := 1, width := 1, reset := 0, kept := true }
  | .start_START_FAILED => { kind := .ro, bit := 2, width := 1, reset := 0 }
  | .start_HEALTH_VALID => { kind := .ro, bit := 3, width := 1, reset := 0, kept := true }
  | .start_SELF_TESTED => { kind := .ro, bit := 4, width := 1, reset := 0, kept := true }
  | .start_FLASH_SIZE => { kind := .ro, bit := 5, width := 2, reset := 0, kept := true }
  | .start_UPDATE_STATUS => { kind := .ro, bit := 8, width := 2, reset := 0 }
  | .start_STAGED_SLOT => { kind := .ro, bit := 10, width := 1, reset := 0 }
  | .start_SLOT0_REASON => { kind := .ro, bit := 32, width := 16, reset := 0 }
  | .start_SLOT1_REASON => { kind := .ro, bit := 48, width := 16, reset := 0 }
  | .start_START_MS => { kind := .ro, bit := 64, width := 16, reset := 0, stops := true, kept := true }
  | .start_DIR_REASON => { kind := .ro, bit := 80, width := 16, reset := 0 }
  | .start_RUN_SVN => { kind := .ro, bit := 96, width := 16, reset := 0, kept := true }
  | .start_MIN_SVN => { kind := .ro, bit := 112, width := 16, reset := 0, kept := true }
  | .start_BUILD_ID_LO => { kind := .ro, bit := 128, width := 32, reset := 0, kept := true }
  | .start_BUILD_ID_HI => { kind := .ro, bit := 160, width := 32, reset := 0, kept := true }
  | .start_SVN_WRITES_LEFT => { kind := .ro, bit := 192, width := 6, reset := 0, kept := true }
  | .start_KEY_PROGRAMMED => { kind := .ro, bit := 200, width := 4, reset := 0, kept := true }
  | .start_KEY_REVOKED => { kind := .ro, bit := 204, width := 4, reset := 0, kept := true }
  | .start_RUN_KEY => { kind := .ro, bit := 208, width := 2, reset := 0, kept := true }
  | .start_START_REASON => { kind := .ro, bit := 224, width := 16, reset := 0 }
  | .start_UPD_OP => { kind := .rw, bit := 256, width := 3, reset := 0 }
  | .start_UPD_SLOT => { kind := .rw, bit := 259, width := 1, reset := 0 }
  | .start_UPD_AREA => { kind := .rw, bit := 260, width := 2, reset := 0 }
  | .start_UPD_GO => { kind := .w1s, bit := 262, width := 1, reset := 0, own := true }
  | .start_UPD_BUSY => { kind := .ro, bit := 263, width := 1, reset := 0 }
  | .start_UPD_OVERRUN => { kind := .w1c, bit := 264, width := 1, reset := 0 }
  | .start_UPD_REASON => { kind := .ro, bit := 272, width := 16, reset := 0 }
  | .start_UPD_OFFSET => { kind := .rw, bit := 288, width := 32, reset := 0 }
  | .start_UPD_BYTES => { kind := .rw, bit := 320, width := 17, reset := 0 }
  | .start_RESTART => { kind := .w1s, bit := 352, width := 1, reset := 0, own := true }
  | .start_KEYDIG_SLOT => { kind := .rw, bit := 384, width := 2, reset := 0 }
  | .start_KEYDIG_GO => { kind := .w1s, bit := 386, width := 1, reset := 0, own := true }
  | .start_KEYDIG_REASON => { kind := .ro, bit := 400, width := 16, reset := 0 }
  | .start_KEYDIG => { kind := .rw, bit := 512, width := 256, reset := 0 }
  | .start_FLASH_ERRORS => { kind := .ro, bit := 768, width := 32, reset := 0, stops := true }
  | .clk_MAIN_LOCKED => { kind := .ro, bit := 32768, width := 1, reset := 0 }
  | .clk_IO_LOCKED => { kind := .ro, bit := 32769, width := 1, reset := 0 }
  | .clk_CK_CTL_ON_REF => { kind := .ro, bit := 32770, width := 1, reset := 1 }
  | .clk_REF_OK => { kind := .ro, bit := 32771, width := 1, reset := 0 }
  | .clk_SSC_STEP => { kind := .ro, bit := 32776, width := 6, reset := 0, kept := true }
  | .clk_MAIN_RELOCKS => { kind := .ro, bit := 32800, width := 32, reset := 0, kept := true }
  | .clk_CLOCK_FAULTS => { kind := .ro, bit := 32832, width := 32, reset := 0, stops := true, kept := true }
  | .clk_DOMAINS_ON => { kind := .ro, bit := 32864, width := 8, reset := 0 }
  | .clk_DOMAINS_RET => { kind := .ro, bit := 32872, width := 8, reset := 0 }
  | .clk_DOMAINS_OFF => { kind := .ro, bit := 32880, width := 8, reset := 152 }
  | .clk_CLOCK_FAULT_SEEN => { kind := .w1c, bit := 32896, width := 1, reset := 0 }
  | .clk_WAKE_SEEN => { kind := .w1c, bit := 32897, width := 1, reset := 0 }
  | .clk_WAKE_SEQ => { kind := .ro, bit := 40960, width := 32, reset := 0, kept := true }
  | .clk_LAST_SRC => { kind := .ro, bit := 40992, width := 4, reset := 0 }
  | .clk_LAST_LEVEL => { kind := .ro, bit := 40996, width := 1, reset := 0 }
  | .clk_LAST_ARG => { kind := .ro, bit := 41008, width := 16, reset := 0 }
  | .clk_LAST_DOMAIN => { kind := .ro, bit := 41024, width := 8, reset := 0 }
  | .dom_STATE => { kind := .ro, bit := 0, width := 2, reset := 0 }
  | .dom_TARGET => { kind := .ro, bit := 2, width := 2, reset := 0 }
  | .dom_CHANGING => { kind := .ro, bit := 4, width := 1, reset := 0 }
  | .dom_ALWAYS_ON => { kind := .ro, bit := 5, width := 1, reset := 0, kept := true }
  | .dom_HELD_OFF => { kind := .ro, bit := 6, width := 1, reset := 0, kept := true }
  | .dom_TRANSITIONS => { kind := .ro, bit := 16, width := 16, reset := 0, stops := true, kept := true }
  | .wsrc_WAKES_SRC => { kind := .ro, bit := 0, width := 32, reset := 0, kept := true }
  | .pwr_CAP_HOST => { kind := .rw, bit := 65536, width := 16, reset := 0, own := true }
  | .pwr_CAP_TRAY => { kind := .ro, bit := 65568, width := 16, reset := 0 }
  | .pwr_POLICY_MAX => { kind := .ro, bit := 65584, width := 16, reset := 0, kept := true }
  | .pwr_CAP_EFFECTIVE => { kind := .ro, bit := 65600, width := 16, reset := 0, kept := true }
  | .pwr_FLOOR_W => { kind := .ro, bit := 65616, width := 16, reset := 0 }
  | .pwr_PWR_1MS => { kind := .ro, bit := 65632, width := 16, reset := 0 }
  | .pwr_PWR_10MS => { kind := .ro, bit := 65648, width := 16, reset := 0 }
  | .pwr_OP_LIMIT => { kind := .ro, bit := 65664, width := 3, reset := 0 }
  | .pwr_DUTY => { kind := .ro, bit := 65667, width := 5, reset := 16 }
  | .pwr_CAP_UNMET => { kind := .ro, bit := 65672, width := 1, reset := 0 }
  | .pwr_PARKED_CLASSES => { kind := .ro, bit := 65673, width := 4, reset := 0 }
  | .pwr_COOLANT_OK => { kind := .ro, bit := 65677, width := 1, reset := 0 }
  | .pwr_COOLANT_STOP => { kind := .ro, bit := 65678, width := 1, reset := 0 }
  | .pwr_THERMAL_TRIP => { kind := .ro, bit := 65679, width := 1, reset := 0 }
  | .pwr_TEMP_HIGH => { kind := .ro, bit := 65680, width := 1, reset := 0 }
  | .pwr_TEMP_WARN => { kind := .ro, bit := 65681, width := 1, reset := 0 }
  | .pwr_TEMP_LOW => { kind := .ro, bit := 65682, width := 1, reset := 0 }
  | .pwr_FLOOR_OVER_CAP => { kind := .ro, bit := 65683, width := 1, reset := 0 }
  | .pwr_CAP_REASON => { kind := .ro, bit := 65696, width := 16, reset := 0 }
  | .pwr_CAP_UNMET_MS => { kind := .ro, bit := 65728, width := 32, reset := 0, kept := true }
  | .pwr_PARK_EVENTS => { kind := .ro, bit := 65760, width := 32, reset := 0, kept := true }
  | .pwr_COOLANT_STOPS => { kind := .ro, bit := 65792, width := 32, reset := 0, stops := true, kept := true }
  | .pwr_THERMAL_TRIPS => { kind := .ro, bit := 65824, width := 32, reset := 0, stops := true, kept := true }
  | .pwr_CAP_UNMET_SEEN => { kind := .w1c, bit := 65856, width := 1, reset := 0 }
  | .pwr_PARK_SEEN => { kind := .w1c, bit := 65857, width := 1, reset := 0 }
  | .pwr_COOLANT_SEEN => { kind := .w1c, bit := 65858, width := 1, reset := 0 }
  | .pwr_TRIP_SEEN => { kind := .w1c, bit := 65859, width := 1, reset := 0 }
  | .pwr_TEMP_HIGH_SEEN => { kind := .w1c, bit := 65860, width := 1, reset := 0 }
  | .pwr_DROOP_SEEN => { kind := .w1c, bit := 65861, width := 1, reset := 0 }
  | .pwr_CAP_REFUSED_SEEN => { kind := .w1c, bit := 65862, width := 1, reset := 0 }
  | .pwr_TJ_MAX => { kind := .ro, bit := 65888, width := 8, reset := 0, kept := true }
  | .pwr_T_THROTTLE => { kind := .ro, bit := 65896, width := 8, reset := 0, kept := true }
  | .pwr_FILLER_MAX_US => { kind := .ro, bit := 65904, width := 11, reset := 0, kept := true }
  | .pwr_FILLER_LEVEL_MAX => { kind := .ro, bit := 65915, width := 5, reset := 0, kept := true }
  | .pwr_COOLANT_HOLD_MS => { kind := .ro, bit := 65920, width := 16, reset := 0, kept := true }
  | .pwr_DROOP_MV => { kind := .ro, bit := 65936, width := 7, reset := 0, kept := true }
  | .pwr_HOTTEST_SENSOR => { kind := .ro, bit := 65952, width := 6, reset := 0 }
  | .pwr_HOTTEST_T => { kind := .ro, bit := 65968, width := 16, reset := 0 }
  | .pwrb_PREF_OP => { kind := .ro, bit := 0, width := 3, reset := 0 }
  | .pwrb_THERM_LIMIT => { kind := .ro, bit := 3, width := 3, reset := 0 }
  | .pwrb_MAX_OP => { kind := .ro, bit := 6, width := 3, reset := 0, kept := true }
  | .pwrb_AGE_TRIM_MV => { kind := .ro, bit := 16, width := 6, reset := 0, kept := true }
  | .pwrb_DROOP_EVENTS => { kind := .ro, bit := 32, width := 32, reset := 0, kept := true }
  | .pwrb_STRETCH_CYCLES => { kind := .ro, bit := 64, width := 32, reset := 0, kept := true }
  | .pwrb_FILLER_US => { kind := .ro, bit := 96, width := 32, reset := 0, kept := true }
  | .pwrb_FILLER_LIMITS => { kind := .ro, bit := 128, width := 32, reset := 0, kept := true }
  | .pwrb_AGE_SLOW => { kind := .ro, bit := 160, width := 16, reset := 0, kept := true }
  | .temp_TEMP => { kind := .ro, bit := 0, width := 16, reset := 0 }
  | .temp_VALID => { kind := .ro, bit := 16, width := 1, reset := 0 }
  | .rec_ACTIVE_ID => { kind := .ro, bit := 0, width := 2, reset := 0, kept := true }
  | .rec_STANDBY_ID => { kind := .ro, bit := 2, width := 2, reset := 0, kept := true }
  | .rec_RECOVERING => { kind := .ro, bit := 4, width := 1, reset := 0 }
  | .rec_HEALTH_STALE => { kind := .ro, bit := 5, width := 1, reset := 0, kept := true }
  | .rec_SHUTDOWN_STATE => { kind := .ro, bit := 6, width := 2, reset := 0 }
  | .rec_BENTS_PRESENT => { kind := .ro, bit := 32, width := 4, reset := 0, kept := true }
  | .rec_ARRAYS_IN_SERVICE => { kind := .ro, bit := 36, width := 8, reset := 0, kept := true }
  | .rec_SPARE_BENT => { kind := .ro, bit := 44, width := 1, reset := 0, kept := true }
  | .rec_REDUCE_CAUSE => { kind := .ro, bit := 64, width := 10, reset := 0, kept := true }
  | .rec_TAKEOVERS => { kind := .ro, bit := 96, width := 32, reset := 0, kept := true }
  | .rec_REPLACEMENTS => { kind := .ro, bit := 128, width := 32, reset := 0, kept := true }
  | .rec_LAST_EVENT => { kind := .ro, bit := 160, width := 16, reset := 0 }
  | .rec_LAST_UNIT => { kind := .ro, bit := 176, width := 6, reset := 0 }
  | .rec_EVENT_SEQ => { kind := .ro, bit := 192, width := 32, reset := 0, kept := true }
  | .rec_TAKEOVER_SEEN => { kind := .w1c, bit := 224, width := 1, reset := 0 }
  | .rec_SUSPECT_SEEN => { kind := .w1c, bit := 225, width := 1, reset := 0 }
  | .rec_FENCE_SEEN => { kind := .w1c, bit := 226, width := 1, reset := 0 }
  | .rec_HEALTH_WRITE_FAIL => { kind := .w1c, bit := 227, width := 1, reset := 0 }
  | .rec_SHUTDOWN_GO => { kind := .w1s, bit := 256, width := 1, reset := 0, own := true }
  | .rec_SHUTDOWN_REASON => { kind := .ro, bit := 272, width := 16, reset := 0 }
  | .rec_LR_ACTED => { kind := .ro, bit := 16384, width := 1, reset := 0, kept := true }
  | .rec_LR_CAUSE => { kind := .ro, bit := 16385, width := 3, reset := 0, kept := true }
  | .rec_LR_BOOT_ID => { kind := .ro, bit := 16416, width := 32, reset := 0, kept := true }
  | .rec_TS_PROG => { kind := .rw, bit := 98304, width := 4, reset := 0 }
  | .rec_TS_GO => { kind := .w1s, bit := 98308, width := 1, reset := 0, own := true }
  | .rec_TS_BUSY => { kind := .ro, bit := 98309, width := 1, reset := 0 }
  | .rec_TS_REASON => { kind := .ro, bit := 98320, width := 16, reset := 0 }
  | .rec_TS_UNITS_LO => { kind := .rw, bit := 98368, width := 32, reset := 0 }
  | .rec_TS_UNITS_HI => { kind := .rw, bit := 98400, width := 30, reset := 0 }
  | .rec_TS_ELAPSED_MS => { kind := .ro, bit := 98432, width := 32, reset := 0 }
  | .inc_INCARNATION => { kind := .ro, bit := 0, width := 16, reset := 1 }
  | .inc_OCCUPANT => { kind := .ro, bit := 16, width := 6, reset := 0, kept := true }
  | .stale_STALE_COUNT => { kind := .ro, bit := 0, width := 32, reset := 0, stops := true, kept := true }
  | .unit_STATUS => { kind := .ro, bit := 0, width := 2, reset := 0, kept := true }
  | .unit_SUSPECT_COUNT => { kind := .ro, bit := 2, width := 2, reset := 0, kept := true }
  | .unit_FENCED => { kind := .ro, bit := 4, width := 1, reset := 0 }
  | .unit_IN_RESET => { kind := .ro, bit := 5, width := 1, reset := 0 }
  | .unit_FAIL_CODE => { kind := .ro, bit := 16, width := 16, reset := 0, kept := true }
  | .unit_TESTED_BOOT_ID => { kind := .ro, bit := 32, width := 32, reset := 0, kept := true }
  | .stage_BUFFER => { kind := .rw, bit := 0, width := 524288, reset := 0 }
  | .msix_ADDR_LO => { kind := .rw, bit := 0, width := 32, reset := 0 }
  | .msix_ADDR_HI => { kind := .rw, bit := 32, width := 32, reset := 0 }
  | .msix_DATA => { kind := .rw, bit := 64, width := 32, reset := 0 }
  | .msix_CTRL_MASK => { kind := .rw, bit := 96, width := 1, reset := 1 }
  | .pba_PENDING => { kind := .ro, bit := 0, width := 1, reset := 0 }

/-- Width of a field in bits. -/
def Reg.width (r : Reg) : Nat := r.info.width

/-- Value of field `r` at index `i` after PORST_N. BENT_ID.LOGICAL reads the bent number (Table Stations-13). -/
def Reg.resetAt (r : Reg) (i : Nat) : Nat :=
  match r with
  | .bent_LOGICAL => i % 8
  | r => r.info.reset

end Sys2Proof.Machine
end

