-- ==== Sys2Proof/Machine/RegMap.lean ====
section
/-! DEFINITION. The address map of BAR0 (Tables Map-1 to Map-3 and the register tables of each chapter): where each
register field lies, as a list of windows. -/

namespace Sys2Proof.Machine

/-- A run of equal register blocks or table entries. The entry with indices `a`, `b` lies at
`base + a * s1 + b * s2` and its fields have index `idx0 + a * m1 + b * m2`. -/
structure Window where
  base : Nat
  size : Nat
  n1 : Nat := 1
  s1 : Nat := 0
  m1 : Nat := 0
  n2 : Nat := 1
  s2 : Nat := 0
  m2 : Nat := 0
  /-- Bits to add to a field's place: the odd half-words of a route entry (Table Fabric-2). -/
  skew : Nat := 0
  idx0 : Nat := 0
  /-- The enable bit that locks the RWL fields (Table Scope-5), and the divisor from field index to its index. -/
  lock : Option Reg := none
  lockDiv : Nat := 1
  /-- Table window (Table Map-3): it reads as zero while DEV_STATE is START_UP (R529). -/
  table : Bool := false
  fields : List Reg
deriving DecidableEq, Repr

/-- Fields of the region table entry of a bent (Table Stations-3). -/
def rtFields : List Reg :=
  [.rt_VALID, .rt_SLOT, .rt_PRODUCER, .rt_NCONS, .rt_BASE_LINE, .rt_SLOT_LINES_M1, .rt_NSLOTS_M1, .rt_FULL_PEG,
    .rt_FREE_PEG]

/-- Fields of the peg entry (Table Stations-7). -/
def pegFields : List Reg :=
  [.peg_COUNT, .peg_THRESH, .peg_ENABLE, .peg_HOST_ACCESS, .peg_REMOTE_ACCESS, .peg_IRQ_EN, .peg_WAKE,
    .peg_CONTEXT, .peg_TENANT, .peg_REACHED, .peg_WAITING, .peg_REASON]

/-- Fields of the peg store control (Table Stations-8). -/
def pstoreFields : List Reg :=
  [.pstore_PEG_ACCESS_FAULTS, .pstore_PEG_STALE_DROPS, .pstore_PEG_REMOTE_IN, .pstore_PEG_REMOTE_REFUSED,
    .pstore_ACCESS_EVENT, .pstore_STALE_EVENT]

/-- Fields of the job entry (Table Stations-9). -/
def jobFields : List Reg :=
  [.job_ENABLE, .job_REASON, .job_GRAPH, .job_PEG_BASE, .job_DONE_PEG, .job_IN_LIST, .job_OUT_LIST,
    .job_RESULT_RING, .job_BENT_MASK, .job_JOB_TAG, .job_BINDING, .job_JOB_SEQ, .job_STATE, .job_FAULT]

/-- Fields of the context slot entry of a bent (Table Stations-11). -/
def slotFields : List Reg :=
  [.slot_CONTEXT, .slot_STATE, .slot_PRIO, .slot_GRAPH, .slot_PEG_BASE, .slot_LOFT_BASE, .slot_LOFT_LINES,
    .slot_JOB_SEQ, .slot_TILES]

/-- Fields of the bent control and status (Table Stations-13). -/
def bentFields : List Reg :=
  [.bent_LOGICAL, .bent_PHYSICAL, .bent_PRESENT, .bent_INCARNATION, .bent_OP, .bent_PWR, .bent_THROTTLED,
    .bent_FILLER, .bent_RESIDENT, .bent_BUSY, .bent_STALE_DROPS, .bent_TILE_COUNT, .bent_RERUN_COUNT,
    .bent_POISON_COUNT, .bent_SWITCH_COUNT, .bent_STALE_SEEN, .bent_POISON_SEEN, .bent_SLOT_WAIT,
    .bent_TIMEOUT_SEEN]

/-- Fields of the Plane (Table Numbers-5). -/
def planeFields : List Reg :=
  [.plane_SAT_COUNT, .plane_NONFINITE_IN, .plane_NAN_MADE, .plane_SAT_SEEN, .plane_NONFINITE_SEEN,
    .plane_NAN_SEEN]

/-- Fields of the Gauge clipped share (Table Numbers-6). -/
def gaugeFields : List Reg :=
  [.gauge_CHECKED, .gauge_OVER_COUNT, .gauge_CLIPPED_LO, .gauge_CLIPPED_HI, .gauge_LAST_SHARE,
    .gauge_LAST_STATION, .gauge_LAST_RERUN, .gauge_LAST_SEQ, .gauge_LAST_CONTEXT, .gauge_OVER_SEEN,
    .gauge_RERUN_CLIPPED]

/-- Fields of the Mortise (Table Convolution-5). -/
def morFields : List Reg :=
  [.mor_ARRAY_IN_SERVICE, .mor_SPARE_ARRAY, .mor_SPARE_USED, .mor_ARRAYS, .mor_PASSES, .mor_WEIGHT_BLOCKS,
    .mor_TRANSPOSED, .mor_REPEATS, .mor_ARRAY_RETIRED]

/-- Fields of the Scribe (Table Convolution-6). -/
def scribeFields : List Reg :=
  [.scribe_CUR_KH, .scribe_CUR_KW, .scribe_CUR_SH_M1, .scribe_CUR_SW_M1, .scribe_CUR_MODE, .scribe_CUR_F,
    .scribe_CUR_TRANSPOSE, .scribe_CUR_DH_M1, .scribe_CUR_DW_M1, .scribe_CUR_OUT_EXTRA, .scribe_CUR_SLOT,
    .scribe_CUR_PT, .scribe_CUR_PB, .scribe_CUR_PL, .scribe_CUR_PR, .scribe_CUR_PAD_CODE, .scribe_CUR_PAD_SCALE,
    .scribe_FETCH_LINES, .scribe_KERF_LINES, .scribe_PAD_TAPS, .scribe_KERF_DISCARDS, .scribe_DISCARD_SEEN]

/-- Fields of the Auger (Table Convolution-7). -/
def augerFields : List Reg :=
  [.auger_CUR_OH_M1, .auger_CUR_OW_M1, .auger_CUR_SAMPLE, .auger_CUR_EDGE, .auger_CUR_SLOT, .auger_CUR_BOX,
    .auger_BOXES, .auger_BAD_BOXES, .auger_OUTSIDE_SAMPLES, .auger_BAD_BOX_SEEN]

/-- Fields of the KV class record (Table Scarf-4). -/
def kvcFields : List Reg :=
  [.kvc_NLAYERS_M1, .kvc_VALID, .kvc_NKV_M1, .kvc_HD, .kvc_KVFMT, .kvc_PAGE_BYTES]

/-- Fields of the page pool entry (Table Scarf-6). -/
def poolFields : List Reg :=
  [.pool_ENABLE, .pool_STATE, .pool_REASON, .pool_KV_CLASS, .pool_BASE, .pool_PAGES, .pool_CHUNKS,
    .pool_FREE_PAGES, .pool_FREE_CHUNKS, .pool_DEFERRED, .pool_PAGE_BYTES, .pool_POOL_BYTES]

/-- Fields of the session table entry (TYPE 1) (Table Scarf-8). -/
def sesFields : List Reg :=
  [.ses_ENABLE, .ses_TYPE, .ses_STALLED, .ses_REASON, .ses_CONTEXT, .ses_ACQ, .ses_STALLED_SEQS, .ses_EVICTIONS,
    .ses_REFUSED_STEPS, .ses_EDIT_OP, .ses_EDIT_SEQ, .ses_EDIT_SRC, .ses_EDIT_GO, .ses_EDIT_ARG, .ses_EDIT_BUSY,
    .ses_EDIT_OVERRUN, .ses_EDIT_REASON, .ses_COW_COPIES, .ses_D2, .ses_D3, .ses_D4, .ses_D5, .ses_D6, .ses_D7]

/-- Fields of the Scarf (Table Scarf-14). -/
def scarfFields : List Reg :=
  [.scarf_CUR_SESSION, .scarf_CUR_SEQ, .scarf_CUR_LAYER, .scarf_CUR_DIRECT, .scarf_CUR_SLOT, .scarf_SEG_CAPABLE,
    .scarf_BLOCKS_COMPUTED, .scarf_BLOCKS_SKIPPED, .scarf_PAGES_READ, .scarf_EMPTY_ROWS, .scarf_WALK_FAULTS,
    .scarf_SEG_FAULTS, .scarf_WALK_FAULT_SEEN, .scarf_SEG_FAULT_SEEN, .scarf_EMPTY_ROW_SEEN]

/-- Fields of the recurrent class record (Table Truss-2). -/
def rclFields : List Reg :=
  [.rcl_NLAYERS_M1, .rcl_VALID, .rcl_SFMT, .rcl_ROW_BYTES, .rcl_LROW_BYTES0, .rcl_LROW_BYTES1, .rcl_LROW_BYTES2,
    .rcl_LROW_BYTES3, .rcl_LROW_BYTES4, .rcl_LROW_BYTES5, .rcl_LROW_BYTES6, .rcl_LROW_BYTES7]

/-- Fields of the session table entry (TYPE 2) (Table Truss-3). -/
def strFields : List Reg :=
  [.str_STATE_BYTES, .str_NEXT_CHUNK, .str_STEPS, .str_RESET_PENDING, .str_IN_FLIGHT, .str_SWAP_DEFERRED,
    .str_RESIDENT_MASK, .str_LAST_REASON, .str_FETCHES, .str_ABORTS]

/-- Fields of the Truss (Table Truss-5). -/
def trussFields : List Reg :=
  [.truss_CUR_SESSION, .truss_CUR_LAYER, .truss_CUR_SLOT, .truss_CUR_CELL, .truss_CUR_STEP, .truss_CACHE_LINES,
    .truss_CACHE_USED, .truss_CHUNKS_COMMITTED, .truss_CHUNKS_ABORTED, .truss_STEPS, .truss_FETCHES,
    .truss_HEAD_WAITS, .truss_SWAPOUTS, .truss_SWAP_DEFERRALS, .truss_MARKS_APPLIED, .truss_ABORT_SEEN,
    .truss_FETCH_ERROR_SEEN]

/-- Fields of the region-map entry (Table Memory-2). -/
def rgnFields : List Reg :=
  [.rgn_ENABLE, .rgn_KIND, .rgn_WRITABLE, .rgn_PROTECTED, .rgn_STATE, .rgn_ACTIVE, .rgn_RETIRE_PENDING,
    .rgn_REASON, .rgn_SRC_CONTEXT, .rgn_SRC_REGION, .rgn_SHARERS, .rgn_VA, .rgn_SIZE, .rgn_VERSION, .rgn_D6,
    .rgn_D7]

/-- Fields of the Dowel (Table Memory-8). -/
def dowelFields : List Reg :=
  [.dowel_CUR_CONTEXT, .dowel_CUR_SLOT, .dowel_GDDR6_RD_LINES, .dowel_GDDR6_WR_LINES, .dowel_HOST_RD_LINES,
    .dowel_BROADCAST_LINES, .dowel_SAVE_LINES, .dowel_RESTORE_LINES, .dowel_ACCESS_FAULTS, .dowel_POISONED_READS,
    .dowel_LOFT_CE, .dowel_LOFT_SPARE_ROWS, .dowel_WSTREAM_LINES, .dowel_ACCESS_FAULT_SEEN, .dowel_GDDR6_UE_SEEN,
    .dowel_LOFT_UE_SEEN, .dowel_HOST_FAULT_SEEN]

/-- Fields of the GDDR6 memory block (Table Memory-9). -/
def memFields : List Reg :=
  [.mem_CLAMSHELL, .mem_RATE, .mem_SELF_REFRESH, .mem_PAGES_TOTAL, .mem_PAGES_FREE, .mem_PAGES_SCRUBBING,
    .mem_RETIRED, .mem_RETIRE_PENDING, .mem_CE_TOTAL, .mem_UE_TOTAL, .mem_EDC_RETRIES, .mem_LAST_ERR_PA_LO,
    .mem_LAST_ERR_PA_HI, .mem_LAST_ERR_CH, .mem_LAST_ERR_TYPE, .mem_LAST_ERR_CONTEXT, .mem_LAST_ERR_NOCTX,
    .mem_CE_SEEN, .mem_UE_SEEN, .mem_RETIRE_SEEN, .mem_RETIRED_LIST_FULL, .mem_RETRAIN_SEEN]

/-- Fields of the GDDR6 channel (Table Memory-9). -/
def memchFields : List Reg :=
  [.memch_CH_CE, .memch_CH_UE, .memch_CH_EDC_RETRIES, .memch_CH_RETRAINS]

/-- Fields of the retired list (Table Memory-9). -/
def retFields : List Reg :=
  [.ret_RETIRED_PAGE, .ret_VALID, .ret_PERSISTED]

/-- Fields of the Froe decoder (Table Froe-4). -/
def fdecFields : List Reg :=
  [.fdec_CUR_CONTEXT, .fdec_CUR_SLOT, .fdec_CUR_TYPE, .fdec_CUR_TABLE_ID, .fdec_CUR_GEN, .fdec_BLOCKS_RAW,
    .fdec_BLOCKS_ZERO_RUN, .fdec_BLOCKS_TABLE, .fdec_BLOCKS_INLINE, .fdec_IN_LINES, .fdec_OUT_LINES,
    .fdec_NOT_RESIDENT, .fdec_SHORT_BLOCKS, .fdec_EXCESS_BLOCKS, .fdec_BAD_BLOCKS, .fdec_LAST_CODE,
    .fdec_LAST_CONTEXT, .fdec_LAST_PRODUCED, .fdec_NOT_RESIDENT_SEEN, .fdec_SHORT_SEEN, .fdec_EXCESS_SEEN,
    .fdec_BAD_SEEN]

/-- Fields of the Froe device block (Table Froe-5). -/
def froeFields : List Reg :=
  [.froe_COMP_OFF, .froe_OFF_START_UP, .froe_OFF_SELF_TEST, .froe_OFF_RECOVERY, .froe_SLOTS_VALID,
    .froe_SLOTS_SUPERSEDED, .froe_ENC_PLAIN, .froe_ENC_ZERO_RUN, .froe_ENC_TABLE, .froe_ENC_INLINE, .froe_BUILDS,
    .froe_RETIREMENTS, .froe_BUILD_REFUSED, .froe_PARTIAL_WRITES, .froe_LINES_SAVED, .froe_BUILD_REFUSED_SEEN,
    .froe_PARTIAL_WRITE_SEEN]

/-- Fields of the Froe table slot (Table Froe-5). -/
def ftabFields : List Reg :=
  [.ftab_VALID, .ftab_SUPERSEDED, .ftab_BUILDING, .ftab_TABLE_ID, .ftab_GEN, .ftab_OWNER, .ftab_REFS,
    .ftab_DECODES]

/-- Fields of the camera template (Table Ingest-3, Jointer-2). -/
def tmplFields : List Reg :=
  [.tmpl_VALID, .tmpl_NEXP_M1, .tmpl_LINE_PAD, .tmpl_FRAME_PAD, .tmpl_WIDTH_M1, .tmpl_HEIGHT_M1, .tmpl_EXP_DT0,
    .tmpl_EXP_DT1, .tmpl_EXP_DT2, .tmpl_EXP_DT3, .tmpl_PAD_VALUE, .tmpl_FPS_MAX, .tmpl_IDLE_TIMEOUT,
    .tmpl_EMB_MAX, .tmpl_MOSAIC, .tmpl_PHASE, .tmpl_REENTRY_AT, .tmpl_TAP_MASK, .tmpl_TAP_SHIFT, .tmpl_BAND_M1,
    .tmpl_LIN_TABLE, .tmpl_DPC_TABLE, .tmpl_LSC_TABLE, .tmpl_TONE_TABLE, .tmpl_RATIO1, .tmpl_RATIO2, .tmpl_RATIO3,
    .tmpl_PAIR_FLOOR, .tmpl_KNEE, .tmpl_CCM_TABLE, .tmpl_OUT_MODE, .tmpl_NVIEWS, .tmpl_VIEW0_W_M1,
    .tmpl_VIEW0_H_M1, .tmpl_VIEW1_W_M1, .tmpl_VIEW1_H_M1, .tmpl_HOLD_MASK, .tmpl_LATE_POLICY, .tmpl_FOCUS_MODE,
    .tmpl_FOCUS_TABLE] ++
  [.tmpl_LATE_US, .tmpl_GLANCE_F]

/-- Fields of the camera stream (Table Ingest-4). -/
def camFields : List Reg :=
  [.cam_ENABLE, .cam_STATE, .cam_REASON, .cam_CONTEXT, .cam_TEMPLATE, .cam_JOINTER, .cam_PORT, .cam_EMB_EN,
    .cam_EMB_VC, .cam_EXP_VC0, .cam_EXP_VC1, .cam_EXP_VC2, .cam_EXP_VC3, .cam_REC_RING, .cam_REC_SLOTS_M1,
    .cam_FRAME_PEG, .cam_FRAME_SEQ, .cam_FRAMES_FLAGGED, .cam_OVERRUNS, .cam_DISCARDED_PACKETS, .cam_BUFFER_BYTES,
    .cam_REC_NEXT]

/-- Fields of the camera port (Table Ingest-7). -/
def portFields : List Reg :=
  [.port_ENABLED, .port_CPHY, .port_LANES, .port_RATE, .port_HS_ACTIVE, .port_PACKETS, .port_HDR_CORRECTED,
    .port_HDR_DROPPED, .port_CRC_ERRORS, .port_UNBOUND_PACKETS, .port_UNSUPPORTED_DT, .port_ORPHAN_PACKETS,
    .port_HDR_DROP_SEEN, .port_CRC_SEEN, .port_UNSUPPORTED_SEEN]

/-- Fields of the loop entry (Table Jointer-5). -/
def loopFields : List Reg :=
  [.loop_ENABLE, .loop_STATE, .loop_REASON, .loop_GRAPH, .loop_BENT_MASK, .loop_PEG_BASE, .loop_BAND_PEG_BASE,
    .loop_REENTRY_PEG_BASE, .loop_VIEW_PEG, .loop_DONE_PEG, .loop_RESULT_RING, .loop_TAP_FRAMES_M1, .loop_BUS,
    .loop_CLEAT_EN, .loop_SENSOR_SLOT, .loop_LENS_SLOT, .loop_LENS_EN, .loop_ADAPT_REGION, .loop_ADAPT_VALID,
    .loop_TAP_BASE, .loop_IN_LIST, .loop_OUT_LIST, .loop_FRAME_BYTES, .loop_LOOP_JOBS, .loop_LOOPS_SKIPPED,
    .loop_CTRL_SENT, .loop_LAST_CTRL_CODE, .loop_MAX_LAT_US, .loop_LAST_CTRL_SEQ, .loop_FOCUS_FALLBACKS,
    .loop_CUR_BUF]

/-- Fields of the Jointer (Table Jointer-8). -/
def jntFields : List Reg :=
  [.jnt_PRESENT, .jnt_GLANCE_CAPABLE, .jnt_PWR, .jnt_STREAMS, .jnt_REENTRY_STREAMS, .jnt_SETS_SERVED,
    .jnt_PAD_SETS, .jnt_REENTRY_SETS, .jnt_TAP_BANDS, .jnt_DEFECTS_FIXED, .jnt_GLANCE_SRC, .jnt_GLANCE_ACTIVE,
    .jnt_GLANCE_FRAMES, .jnt_GLANCE_SKIPPED, .jnt_GLANCE_EXIT]

/-- Fields of the I3C bus (Table Jointer-9). -/
def i3cFields : List Reg :=
  [.i3c_ENABLED, .i3c_SCL_RATE, .i3c_LOOPS, .i3c_DAA_GO, .i3c_DAA_BUSY, .i3c_HOTJOIN_SEEN, .i3c_NACK_SEEN,
    .i3c_IBI_SEEN, .i3c_RECORDS_SENT, .i3c_NACKS, .i3c_IBIS, .i3c_LAST_IBI_ADDR, .i3c_LAST_IBI_MDB,
    .i3c_MAN_RECORD, .i3c_MAN_GO, .i3c_MAN_BUSY, .i3c_MAN_OVERRUN, .i3c_MAN_REASON]

/-- Fields of the I3C target slot (Table Jointer-9). -/
def i3ctFields : List Reg :=
  [.i3ct_DYN_ADDR, .i3ct_VALID, .i3ct_BCR, .i3ct_DCR, .i3ct_PID_LO, .i3ct_PID_HI]

/-- Fields of the Gauge histogram (Table Jointer-10). -/
def histFields : List Reg :=
  [.hist_CUR_BINS, .hist_CUR_LOG, .hist_CUR_ZY_M1, .hist_CUR_ZX_M1, .hist_CUR_SLOT, .hist_HIST_TILES,
    .hist_HIST_SAMPLES_LO, .hist_HIST_SAMPLES_HI, .hist_SAT_SAMPLES]

/-- Fields of the detection log entry (Table Cascade-2). -/
def detFields : List Reg :=
  [.det_DET_SEQ, .det_CLASS, .det_GLANCE, .det_SEAM, .det_REPLAY_SHORT, .det_OUTCOME, .det_CODE, .det_HIT_FRAME,
    .det_REPLAY_FIRST, .det_SCORE, .det_DECIDED_FRAME]

/-- Fields of the cascade entry (Table Cascade-3). -/
def cascFields : List Reg :=
  [.casc_ENABLE, .casc_STATE, .casc_RUNG3_ACTIVE, .casc_RELEASE, .casc_REASON, .casc_CONTEXT, .casc_RUNG3_EN,
    .casc_RUNG1_GRAPH, .casc_RUNG2_GRAPH, .casc_RUNG3_GRAPH, .casc_RUNG1_MASK, .casc_RUNG2_MASK, .casc_RUNG3_MASK,
    .casc_PEG_BASE, .casc_DONE_PEG, .casc_LP_PEG, .casc_HQ_PEG, .casc_RESULT_RING, .casc_RUNG2_SESSION,
    .casc_LP_RING, .casc_LP_SLOTS_M1, .casc_HQ_RING, .casc_HQ_SLOTS_M1, .casc_HQ_LANES_M1, .casc_IN_LIST,
    .casc_OUT_LIST, .casc_DETECTIONS, .casc_CONFIRMS, .casc_REJECTS, .casc_HITS_DROPPED]

/-- Fields of the Rasp (Table Cascade-7). -/
def raspFields : List Reg :=
  [.rasp_MODE0, .rasp_MODE1, .rasp_MODE2, .rasp_MODE3, .rasp_SETTLING, .rasp_LISTEN_GROUP, .rasp_ACTIVE_GROUPS,
    .rasp_HQ_RUNNING, .rasp_STEP_DOWN_DEFERRED, .rasp_SETTLE_MS, .rasp_SAMPLE_DLY, .rasp_AFN, .rasp_SEAM_FRAMES,
    .rasp_STEP_UPS, .rasp_STEP_DOWNS, .rasp_DEFERRALS, .rasp_LP_CLIPS, .rasp_HQ_CLIPS, .rasp_BEAM_CLIPS,
    .rasp_SEAM_SEEN, .rasp_CLIP_SEEN, .rasp_BEAM_REFUSED, .rasp_COMMIT, .rasp_PENDING, .rasp_BEAM_REASON]

/-- Fields of the Rasp channel (Table Cascade-7). -/
def raspchFields : List Reg :=
  [.raspch_GAIN, .raspch_MUTE]

/-- Fields of the high-quality lane (Table Cascade-7). -/
def rasplaneFields : List Reg :=
  [.rasplane_HQ_LANE_SRC, .rasplane_HQ_LANE_BEAM]

/-- Fields of the beam channel (Table Cascade-7). -/
def beamFields : List Reg :=
  [.beam_DELAY, .beam_BGAIN]

/-- Fields of the Plumb (Table Cascade-8). -/
def plumbFields : List Reg :=
  [.plumb_HOP_MS, .plumb_ACTIVITY, .plumb_GLANCE_IN, .plumb_HIT_PENDING, .plumb_ACT_CLASS, .plumb_HIT_CLASSES,
    .plumb_ACT_ON, .plumb_ACT_OFF, .plumb_ACT_HANG_HOPS, .plumb_RUNG2_HOLD_S, .plumb_HOPS, .plumb_HITS,
    .plumb_GLANCE_RUNS, .plumb_HIT_SEEN, .plumb_DROP_SEEN, .plumb_REPLAY_SHORT_SEEN]

/-- Fields of the Plumb class parameters (Table Cascade-8). -/
def plumbcFields : List Reg :=
  [.plumbc_THRESH, .plumbc_CONSEC, .plumbc_REFRACT_HOPS]

/-- Fields of the Plumb class score (Table Cascade-8). -/
def plumbsFields : List Reg :=
  [.plumbs_SCORE]

/-- Fields of the route entry (Table Fabric-2). -/
def routeFields : List Reg :=
  [.route_ENABLE, .route_REASON, .route_HOPS]

/-- Fields of the route half-word (Table Fabric-2). -/
def routepFields : List Reg :=
  [.routep_NEXT_DEV, .routep_NEXT_PORT, .routep_VALID]

/-- Fields of the fabric-job entry (Table Fabric-6). -/
def fjobFields : List Reg :=
  [.fjob_ENABLE, .fjob_STATE, .fjob_REASON, .fjob_FJOB_ID, .fjob_KEY_SLOT, .fjob_NMEMBERS_M1, .fjob_MY_RANK,
    .fjob_MEMBERS, .fjob_RUN, .fjob_LAST_FAULT, .fjob_RETRANSMITS, .fjob_AUTH_FAILS, .fjob_FLOWS_FAILED,
    .fjob_PEG_OPS_IN]

/-- Fields of the Kertik port (Table Fabric-7). -/
def kportFields : List Reg :=
  [.kport_ENABLED, .kport_SWITCHED, .kport_PMD, .kport_LINK_UP, .kport_SPARE_ASSIGNED, .kport_SPARE_IN_USE,
    .kport_REPLACED_LANE, .kport_VLAN_ID, .kport_VLAN_PCP, .kport_VLAN_EN, .kport_PEER_DEV, .kport_PEER_SILENT,
    .kport_PEER_PORT, .kport_TX_FRAMES, .kport_RX_FRAMES, .kport_RETRANSMITS, .kport_AUTH_FAILS,
    .kport_DUPLICATES, .kport_BAD_HEADERS, .kport_FORWARDED, .kport_HOP_EXPIRED, .kport_UNKNOWN_JOB,
    .kport_STALE_DROPS, .kport_FOREIGN_FRAMES, .kport_FCS_ERRORS, .kport_FEC_CORRECTED, .kport_FEC_UNCORRECTED,
    .kport_RETRAINS, .kport_INJECTED, .kport_EARLY_PEG, .kport_AUTH_SEEN, .kport_LINK_DOWN_SEEN,
    .kport_SPARE_SEEN, .kport_STALE_SEEN, .kport_FEC_UE_SEEN, .kport_RULE_REASON]

/-- Fields of the test rule (Table Fabric-7). -/
def kruleFields : List Reg :=
  [.krule_EN, .krule_DIR, .krule_ACTION, .krule_KIND, .krule_ANY_FLOW, .krule_FLOW, .krule_FJOB_ID,
    .krule_EVERY_N, .krule_COUNT, .krule_CORRUPT_BIT, .krule_REORDER_DEPTH]

/-- Fields of the fabric device block (Table Fabric-8). -/
def fabFields : List Reg :=
  [.fab_DEV_ID, .fab_MAC_PREFIX, .fab_ETHERTYPE, .fab_RTO_US, .fab_FLOW_TIMEOUT_MS, .fab_FLOW_RECORDS_FREE,
    .fab_ENTRIES_ENABLED, .fab_INJECT_ALLOWED, .fab_FLOWS_FAILED, .fab_PEER_ABORTS, .fab_BARRIERS,
    .fab_FLOW_FAIL_SEEN, .fab_ABORT_SEEN]

/-- Fields of the tenant class record (Table Tenants-1). -/
def clsFields : List Reg :=
  [.cls_VALID, .cls_PRIO_MIN, .cls_FABRIC_EN, .cls_TEST_RULES_EN, .cls_FROE_TABLES, .cls_MAX_MEM_PAGES,
    .cls_MAX_SESSIONS, .cls_MAX_PEGS, .cls_MAX_STREAMS, .cls_MAX_CONTEXTS, .cls_JOB_TIME_MS, .cls_KV_CLASSES,
    .cls_RCLASSES, .cls_TEMPLATES, .cls_GRAPHS]

/-- Fields of the tenant entry (Table Tenants-2). -/
def tenFields : List Reg :=
  [.ten_ENABLE, .ten_STATE, .ten_REASON, .ten_CLASS, .ten_PASID, .ten_Q_MEM_PAGES, .ten_Q_SESSIONS, .ten_Q_PEGS,
    .ten_Q_STREAMS, .ten_Q_CONTEXTS, .ten_MEM_USED, .ten_SESSIONS_USED, .ten_PEGS_USED, .ten_STREAMS_USED,
    .ten_CONTEXTS_USED, .ten_FROE_USED]

/-- Fields of the context entry (Table Tenants-3). -/
def ctxFields : List Reg :=
  [.ctx_ENABLE, .ctx_STATE, .ctx_REASON, .ctx_TENANT, .ctx_PRIO, .ctx_HEAD, .ctx_TAIL, .ctx_DB_REASON,
    .ctx_RESIDENT_MASK, .ctx_JOBS_DONE, .ctx_LAST_FAULT]

/-- Fields of the Wedge (Table Tenants-10). -/
def wedgeFields : List Reg :=
  [.wedge_LIFE_CYCLE, .wedge_LC_NEXT, .wedge_IDENT_READY, .wedge_KEM_READY, .wedge_CERT_READY, .wedge_START_UP,
    .wedge_QUEUE, .wedge_KEY_BUSY, .wedge_BOOT_ID, .wedge_KEM_EPOCH, .wedge_SERIAL_LO, .wedge_SERIAL_HI,
    .wedge_RETURNS_LEFT, .wedge_ATTESTS, .wedge_KEYS_ACCEPTED, .wedge_KEYS_REFUSED, .wedge_KEY_REFUSED_SEEN,
    .wedge_ATTEST_REFUSED_SEEN, .wedge_KEM_ROTATED, .wedge_IDENT_PK, .wedge_DEPLOYED_PK, .wedge_BUF,
    .wedge_TENANT_VALID, .wedge_TENANT, .wedge_ATTEST_GO, .wedge_ATTEST_REASON, .wedge_NONCE, .wedge_KEY_GO,
    .wedge_KEY_ERASE, .wedge_ERASE_SLOT, .wedge_KEY_REASON, .wedge_LC_GO, .wedge_LC_TARGET, .wedge_LC_CONFIRM,
    .wedge_LC_REASON, .wedge_STAGED_DIGEST, .wedge_KEY_WINDOW, .wedge_LC_TOKEN, .wedge_KEM_CERT]

/-- Fields of the report buffer (Table Tenants-10). -/
def wbufFields : List Reg :=
  [.wbuf_BUF_STATE, .wbuf_FREE]

/-- Fields of the measurement (Table Tenants-10). -/
def wmeasFields : List Reg :=
  [.wmeas_MEAS]

/-- Fields of the report (Table Tenants-10). -/
def wrepFields : List Reg :=
  [.wrep_REPORT]

/-- Fields of the key slot (Table Tenants-10). -/
def wkeyFields : List Reg :=
  [.wkey_SLOT_STATE, .wkey_SLOT_TENANT, .wkey_SLOT_FJOB_ID]

/-- Fields of the result ring entry (Table Host-4). -/
def ringFields : List Reg :=
  [.ring_ENABLE, .ring_STATE, .ring_REASON, .ring_TENANT, .ring_LOCATION, .ring_SLOT_SIZE, .ring_SLOTS_LOG2,
    .ring_IRQ_EN, .ring_VECTOR, .ring_HOST_ADDR, .ring_HEAD, .ring_TAIL, .ring_MBX_PAGE, .ring_RESULTS,
    .ring_DROPPED, .ring_FULL_WAITS, .ring_HEAD_REFUSED]

/-- Fields of the host port block (Table Host-6). -/
def hostFields : List Reg :=
  [.host_DEV_STATE, .host_REDUCED, .host_LINK_RATE, .host_MOD0_UP, .host_MOD1_UP, .host_MOD0_REPAIRED,
    .host_MOD1_REPAIRED, .host_ACCESS_ERRORS, .host_DOORBELL_FAULTS, .host_MISROUTED, .host_PEG_EVENTS_LOST,
    .host_LAST_DB_TENANT, .host_ACCESS_ERROR, .host_DOORBELL_FAULT, .host_MISROUTE, .host_EVQ_OVERFLOW,
    .host_FOREMAN_LOST_EV, .host_LINK_DEGRADED, .host_EVENT_MASK, .host_DEV_VECTOR, .host_PEG_VECTOR,
    .host_PEG_EVQ_HEAD, .host_PEG_EVQ_TAIL]

/-- Fields of the start-up block (Table Start-10). -/
def startFields : List Reg :=
  [.start_RUN_SLOT, .start_FALLBACK, .start_START_FAILED, .start_HEALTH_VALID, .start_SELF_TESTED,
    .start_FLASH_SIZE, .start_UPDATE_STATUS, .start_STAGED_SLOT, .start_SLOT0_REASON, .start_SLOT1_REASON,
    .start_START_MS, .start_DIR_REASON, .start_RUN_SVN, .start_MIN_SVN, .start_BUILD_ID_LO, .start_BUILD_ID_HI,
    .start_SVN_WRITES_LEFT, .start_KEY_PROGRAMMED, .start_KEY_REVOKED, .start_RUN_KEY, .start_START_REASON,
    .start_UPD_OP, .start_UPD_SLOT, .start_UPD_AREA, .start_UPD_GO, .start_UPD_BUSY, .start_UPD_OVERRUN,
    .start_UPD_REASON, .start_UPD_OFFSET, .start_UPD_BYTES, .start_RESTART, .start_KEYDIG_SLOT, .start_KEYDIG_GO,
    .start_KEYDIG_REASON, .start_KEYDIG, .start_FLASH_ERRORS]

/-- Fields of the clock and domain control (Table Clocks-8). -/
def clkFields : List Reg :=
  [.clk_MAIN_LOCKED, .clk_IO_LOCKED, .clk_CK_CTL_ON_REF, .clk_REF_OK, .clk_SSC_STEP, .clk_MAIN_RELOCKS,
    .clk_CLOCK_FAULTS, .clk_DOMAINS_ON, .clk_DOMAINS_RET, .clk_DOMAINS_OFF, .clk_CLOCK_FAULT_SEEN, .clk_WAKE_SEEN,
    .clk_WAKE_SEQ, .clk_LAST_SRC, .clk_LAST_LEVEL, .clk_LAST_ARG, .clk_LAST_DOMAIN]

/-- Fields of the domain (Table Clocks-8). -/
def domFields : List Reg :=
  [.dom_STATE, .dom_TARGET, .dom_CHANGING, .dom_ALWAYS_ON, .dom_HELD_OFF, .dom_TRANSITIONS]

/-- Fields of the wake source counter (Table Clocks-8). -/
def wsrcFields : List Reg :=
  [.wsrc_WAKES_SRC]

/-- Fields of the power (Table Power-7). -/
def pwrFields : List Reg :=
  [.pwr_CAP_HOST, .pwr_CAP_TRAY, .pwr_POLICY_MAX, .pwr_CAP_EFFECTIVE, .pwr_FLOOR_W, .pwr_PWR_1MS, .pwr_PWR_10MS,
    .pwr_OP_LIMIT, .pwr_DUTY, .pwr_CAP_UNMET, .pwr_PARKED_CLASSES, .pwr_COOLANT_OK, .pwr_COOLANT_STOP,
    .pwr_THERMAL_TRIP, .pwr_TEMP_HIGH, .pwr_TEMP_WARN, .pwr_TEMP_LOW, .pwr_FLOOR_OVER_CAP, .pwr_CAP_REASON,
    .pwr_CAP_UNMET_MS, .pwr_PARK_EVENTS, .pwr_COOLANT_STOPS, .pwr_THERMAL_TRIPS, .pwr_CAP_UNMET_SEEN,
    .pwr_PARK_SEEN, .pwr_COOLANT_SEEN, .pwr_TRIP_SEEN, .pwr_TEMP_HIGH_SEEN, .pwr_DROOP_SEEN,
    .pwr_CAP_REFUSED_SEEN, .pwr_TJ_MAX, .pwr_T_THROTTLE, .pwr_FILLER_MAX_US, .pwr_FILLER_LEVEL_MAX,
    .pwr_COOLANT_HOLD_MS, .pwr_DROOP_MV, .pwr_HOTTEST_SENSOR, .pwr_HOTTEST_T]

/-- Fields of the power of a bent (Table Power-8). -/
def pwrbFields : List Reg :=
  [.pwrb_PREF_OP, .pwrb_THERM_LIMIT, .pwrb_MAX_OP, .pwrb_AGE_TRIM_MV, .pwrb_DROOP_EVENTS, .pwrb_STRETCH_CYCLES,
    .pwrb_FILLER_US, .pwrb_FILLER_LIMITS, .pwrb_AGE_SLOW]

/-- Fields of the temperature sensor (Table Power-9). -/
def tempFields : List Reg :=
  [.temp_TEMP, .temp_VALID]

/-- Fields of the recovery and Try-square (Table Spares-8). -/
def recFields : List Reg :=
  [.rec_ACTIVE_ID, .rec_STANDBY_ID, .rec_RECOVERING, .rec_HEALTH_STALE, .rec_SHUTDOWN_STATE, .rec_BENTS_PRESENT,
    .rec_ARRAYS_IN_SERVICE, .rec_SPARE_BENT, .rec_REDUCE_CAUSE, .rec_TAKEOVERS, .rec_REPLACEMENTS,
    .rec_LAST_EVENT, .rec_LAST_UNIT, .rec_EVENT_SEQ, .rec_TAKEOVER_SEEN, .rec_SUSPECT_SEEN, .rec_FENCE_SEEN,
    .rec_HEALTH_WRITE_FAIL, .rec_SHUTDOWN_GO, .rec_SHUTDOWN_REASON, .rec_LR_ACTED, .rec_LR_CAUSE, .rec_LR_BOOT_ID,
    .rec_TS_PROG, .rec_TS_GO, .rec_TS_BUSY, .rec_TS_REASON, .rec_TS_UNITS_LO, .rec_TS_UNITS_HI, .rec_TS_ELAPSED_MS]

/-- Fields of the unit slot incarnation (Table Spares-8). -/
def incFields : List Reg :=
  [.inc_INCARNATION, .inc_OCCUPANT]

/-- Fields of the unit slot stale count (Table Spares-8). -/
def staleFields : List Reg :=
  [.stale_STALE_COUNT]

/-- Fields of the unit (Table Spares-8). -/
def unitFields : List Reg :=
  [.unit_STATUS, .unit_SUSPECT_COUNT, .unit_FENCED, .unit_IN_RESET, .unit_FAIL_CODE, .unit_TESTED_BOOT_ID]

/-- Fields of the staging buffer (Table Start-10). -/
def stageFields : List Reg :=
  [.stage_BUFFER]

/-- Fields of the MSI-X vector (Table Host-1). -/
def msixFields : List Reg :=
  [.msix_ADDR_LO, .msix_ADDR_HI, .msix_DATA, .msix_CTRL_MASK]

/-- Windows of BAR0, part 1. -/
def windows0 : List Window := [
  { base := 0x04000000, size := 0x20, n1 := 8, s1 := 0x400000, m1 := 1, fields := bentFields },
  { base := 0x04010000, size := 0x20, n1 := 8, s1 := 0x400000, m1 := 1, fields := morFields },
  { base := 0x04020000, size := 0x10, n1 := 8, s1 := 0x400000, m1 := 1, fields := planeFields },
  { base := 0x04030000, size := 0x40, n1 := 8, s1 := 0x400000, m1 := 1, fields := scribeFields },
  { base := 0x04040000, size := 0x20, n1 := 8, s1 := 0x400000, m1 := 1, fields := augerFields },
  { base := 0x04050000, size := 0x40, n1 := 8, s1 := 0x400000, m1 := 1, fields := scarfFields },
  { base := 0x04060000, size := 0x40, n1 := 8, s1 := 0x400000, m1 := 1, fields := trussFields },
  { base := 0x04070000, size := 0x40, n1 := 8, s1 := 0x400000, m1 := 1, fields := dowelFields },
  { base := 0x04080000, size := 0x40, n1 := 8, s1 := 0x400000, m1 := 1, fields := fdecFields },
  { base := 0x04090000, size := 0x20, n1 := 8, s1 := 0x400000, m1 := 1, fields := gaugeFields },
  { base := 0x04091000, size := 0x20, n1 := 8, s1 := 0x400000, m1 := 1, fields := histFields },
  { base := 0x040A0000, size := 0x20, n1 := 8, s1 := 0x400000, m1 := 1024, n2 := 1024, s2 := 0x20, m2 := 1, fields := rtFields } ]

/-- Windows of BAR0, part 2. -/
def windows1 : List Window := [
  { base := 0x040B0000, size := 0x40, n1 := 8, s1 := 0x400000, m1 := 64, n2 := 64, s2 := 0x40, m2 := 1, fields := slotFields },
  { base := 0x08000000, size := 0x100, n1 := 24, s1 := 0x10000, m1 := 1, fields := portFields },
  { base := 0x09000000, size := 0x100, n1 := 8, s1 := 0x40000, m1 := 1, fields := jntFields },
  { base := 0x0A000000, size := 0x300, n1 := 24, s1 := 0x1000, m1 := 1, fields := i3cFields },
  { base := 0x0A000100, size := 0x10, n1 := 24, s1 := 0x1000, m1 := 16, n2 := 16, s2 := 0x10, m2 := 1, fields := i3ctFields },
  { base := 0x0B000000, size := 0x1100, n1 := 8, s1 := 0x20000, m1 := 1, fields := kportFields },
  { base := 0x0B001000, size := 0x10, n1 := 8, s1 := 0x20000, m1 := 8, n2 := 8, s2 := 0x10, m2 := 1, lock := some .krule_EN, fields := kruleFields },
  { base := 0x0B100000, size := 0x10000, fields := fabFields },
  { base := 0x0C000000, size := 0x10, n1 := 65536, s1 := 0x10, m1 := 1, lock := some .peg_ENABLE, fields := pegFields },
  { base := 0x0C200000, size := 0x40, fields := pstoreFields },
  { base := 0x0D000100, size := 0x4, n1 := 29, s1 := 0x4, m1 := 1, fields := incFields },
  { base := 0x0D000200, size := 0x4, n1 := 29, s1 := 0x4, m1 := 1, fields := staleFields } ]

/-- Windows of BAR0, part 3. -/
def windows2 : List Window := [
  { base := 0x0D000400, size := 0x8, n1 := 62, s1 := 0x8, m1 := 1, fields := unitFields },
  { base := 0x0D001100, size := 0x4, n1 := 152, s1 := 0x4, m1 := 1, fields := domFields },
  { base := 0x0D001440, size := 0x4, n1 := 9, s1 := 0x4, m1 := 1, fields := wsrcFields },
  { base := 0x0D000000, size := 0x1440, fields := clkFields },
  { base := 0x0D000000, size := 0x2100, fields := pwrFields },
  { base := 0x0D002100, size := 0x20, n1 := 8, s1 := 0x20, m1 := 1, fields := pwrbFields },
  { base := 0x0D002200, size := 0x4, n1 := 48, s1 := 0x4, m1 := 1, fields := tempFields },
  { base := 0x0D000000, size := 0x4000, fields := recFields },
  { base := 0x0E000180, size := 0x4, n1 := 8, s1 := 0x4, m1 := 1, fields := wbufFields },
  { base := 0x0E000800, size := 0x20, n1 := 8, s1 := 0x20, m1 := 1, fields := wmeasFields },
  { base := 0x0E020000, size := 0x10000, n1 := 8, s1 := 0x10000, m1 := 1, fields := wrepFields },
  { base := 0x0E100000, size := 0x10, n1 := 256, s1 := 0x10, m1 := 1, fields := wkeyFields } ]

/-- Windows of BAR0, part 4. -/
def windows3 : List Window := [
  { base := 0x0E000000, size := 0x20000, fields := wedgeFields },
  { base := 0x0F000000, size := 0x1000, fields := memFields },
  { base := 0x0F001000, size := 0x10, n1 := 32, s1 := 0x40, m1 := 1, fields := memchFields },
  { base := 0x0F008000, size := 0x4, n1 := 1024, s1 := 0x4, m1 := 1, fields := retFields },
  { base := 0x0F010000, size := 0x1000, fields := froeFields },
  { base := 0x0F011000, size := 0x10, n1 := 64, s1 := 0x10, m1 := 1, fields := ftabFields },
  { base := 0x0F020100, size := 0x4, n1 := 32, s1 := 0x4, m1 := 1, fields := raspchFields },
  { base := 0x0F020200, size := 0x4, n1 := 16, s1 := 0x4, m1 := 1, fields := rasplaneFields },
  { base := 0x0F021000, size := 0x4, n1 := 8, s1 := 0x80, m1 := 32, n2 := 32, s2 := 0x4, m2 := 1, fields := beamFields },
  { base := 0x0F020000, size := 0x1000, fields := raspFields },
  { base := 0x0F030040, size := 0x4, n1 := 16, s1 := 0x4, m1 := 1, fields := plumbcFields },
  { base := 0x0F030080, size := 0x4, n1 := 16, s1 := 0x4, m1 := 1, fields := plumbsFields } ]

/-- Windows of BAR0, part 5. -/
def windows4 : List Window := [
  { base := 0x0F031000, size := 0x20, n1 := 32, s1 := 0x20, m1 := 1, fields := detFields },
  { base := 0x0F030000, size := 0x1000, fields := plumbFields },
  { base := 0x0F040000, size := 0x10000, fields := hostFields },
  { base := 0x0F050000, size := 0x10, n1 := 2048, s1 := 0x10, m1 := 1, fields := msixFields },
  { base := 0x0F060000, size := 0x10000, fields := startFields },
  { base := 0x0F070000, size := 0x10000, fields := stageFields },
  { base := 0x10000000, size := 0x40, n1 := 4096, s1 := 0x40, m1 := 1, lock := some .ten_ENABLE, table := true, fields := tenFields },
  { base := 0x10100000, size := 0x200, n1 := 64, s1 := 0x200, m1 := 1, table := true, fields := clsFields },
  { base := 0x11000000, size := 0x40, n1 := 16384, s1 := 0x40, m1 := 1, lock := some .ctx_ENABLE, table := true, fields := ctxFields },
  { base := 0x12000000, size := 0x20, n1 := 16384, s1 := 0x400, m1 := 32, n2 := 32, s2 := 0x20, m2 := 1, lock := some .rgn_ENABLE, table := true, fields := rgnFields },
  { base := 0x13000000, size := 0x40, n1 := 16384, s1 := 0x400, m1 := 16, n2 := 16, s2 := 0x40, m2 := 1, lock := some .job_ENABLE, table := true, fields := jobFields },
  { base := 0x14000000, size := 0x80, n1 := 3072, s1 := 0x80, m1 := 1, lock := some .ses_ENABLE, table := true, fields := sesFields } ]

/-- Windows of BAR0, part 6. -/
def windows5 : List Window := [
  { base := 0x14000000, size := 0x80, n1 := 3072, s1 := 0x80, m1 := 1, table := true, fields := strFields },
  { base := 0x14100000, size := 0x40, n1 := 16384, s1 := 0x40, m1 := 1, lock := some .pool_ENABLE, table := true, fields := poolFields },
  { base := 0x14200000, size := 0x10, n1 := 64, s1 := 0x10, m1 := 1, table := true, fields := kvcFields },
  { base := 0x14240000, size := 0x40, n1 := 64, s1 := 0x40, m1 := 1, table := true, fields := rclFields },
  { base := 0x15000000, size := 0x80, n1 := 96, s1 := 0x80, m1 := 1, lock := some .cam_ENABLE, table := true, fields := camFields },
  { base := 0x15010000, size := 0x40, n1 := 256, s1 := 0x40, m1 := 1, table := true, fields := tmplFields },
  { base := 0x15020000, size := 0x80, n1 := 96, s1 := 0x80, m1 := 1, lock := some .loop_ENABLE, table := true, fields := loopFields },
  { base := 0x16000000, size := 0x80, lock := some .casc_ENABLE, table := true, fields := cascFields },
  { base := 0x17000000, size := 0x100, n1 := 16384, s1 := 0x100, m1 := 1, lock := some .fjob_ENABLE, table := true, fields := fjobFields },
  { base := 0x17400000, size := 0x20, n1 := 512, s1 := 0x20, m1 := 1, lock := some .route_ENABLE, table := true, fields := routeFields },
  { base := 0x17400004, size := 0x4, n1 := 512, s1 := 0x20, m1 := 8, n2 := 4, s2 := 0x4, m2 := 2, lock := some .route_ENABLE, lockDiv := 8, table := true, fields := routepFields },
  { base := 0x17400004, size := 0x4, n1 := 512, s1 := 0x20, m1 := 8, n2 := 4, s2 := 0x4, m2 := 2, skew := 16, idx0 := 1, lock := some .route_ENABLE, lockDiv := 8, table := true, fields := routepFields } ]

/-- Windows of BAR0, part 7. -/
def windows6 : List Window := [
  { base := 0x18000000, size := 0x40, n1 := 4096, s1 := 0x40, m1 := 1, lock := some .ring_ENABLE, table := true, fields := ringFields } ]

/-- Every window of BAR0 that holds fields. -/
def windows : List Window := windows0 ++ windows1 ++ windows2 ++ windows3 ++ windows4 ++ windows5 ++ windows6

/-- The blocks of Table Map-1 as (base, length). The peg store and the Foreman block are given no length in Table Map-1;
they are taken up to the next block and to the end of the Try-square registers (log entry 5). -/
def blocks : List (Nat × Nat) := [
  (0x04000000, 0x02000000), (0x08000000, 0x00180000), (0x09000000, 0x00200000), (0x0A000000, 0x00018000),
  (0x0B000000, 0x00100000), (0x0B100000, 0x00010000), (0x0C000000, 0x01000000), (0x0D000000, 0x00004000),
  (0x0E000000, 0x01000000), (0x0F000000, 0x00080000) ]

/-- The table windows of Table Map-3 as (base, length). -/
def tables : List (Nat × Nat) := [
  (0x10000000, 0x40000), (0x10100000, 0x8000), (0x11000000, 0x100000), (0x12000000, 0x1000000),
  (0x13000000, 0x1000000), (0x14000000, 0x60000), (0x14100000, 0x100000), (0x14200000, 0x400),
  (0x14240000, 0x1000), (0x15000000, 0x3000), (0x15010000, 0x4000), (0x15020000, 0x3000), (0x16000000, 0x80),
  (0x17000000, 0x400000), (0x17400000, 0x4000), (0x18000000, 0x40000) ]

end Sys2Proof.Machine
end

