-- ==== Sys2Proof/Machine/Units.lean ====
section
/-! DEFINITION. The parts of the state outside the compute path that are no register: Wedge (12), the flash and start-up (14), domains
(15), power (16), recovery and self-test (17), the tray's pins (18). -/

namespace Sys2Proof.Machine

/-! ## Wedge (12 R375 to R389) -/

/-- Wedge's OTP. State.reset holds a part as it leaves the fab: BLANK. -/
structure Otp where
  lifeCycle : Nat := 0
  /-- DEVICE_SECRET, empty before it is drawn (R375). -/
  secret : List Byte := []
  returns : Nat := 3
  /-- Image-key digests by slot (14 R424). -/
  keys : List (Nat × List Byte) := []
  revoked : List Nat := []
  minSvn : Nat := 0
  svnWrites : Nat := 32
deriving DecidableEq, Repr

/-- What waits for a signature (R383, R384). -/
inductive SignItem where
  | report (buf : Nat) (nonce : List Byte) (tenant : Option Nat)
  | cert
deriving DecidableEq, Repr

/-- Wedge. -/
structure Wedge where
  otp : Otp := {}
  /-- The seeds of the identity key, SK.seed, SK.prf and PK.seed; empty without an identity (R376). -/
  identity : List Byte := []
  /-- The ML-KEM key pair of the current epoch (R378). -/
  dk : List Byte := []
  ek : List Byte := []
  /-- Fingerprints of the keys accepted under it (R381). -/
  fingerprints : List (List Byte) := []
  /-- Items that wait for their signature, oldest first. -/
  queue : List SignItem := []
  /-- The item that is being signed, with the body or header that it signs (R385). -/
  signing : Option (SignItem × List Byte) := none
  /-- STAGED_SVN (14 R435). -/
  stagedSvn : Nat := 0
  /-- FAULT_INJECT_EN of the running image (11 R359). -/
  faultInject : Bool := false
deriving DecidableEq, Repr

/-! ## Flash and start-up (14) -/

/-- The flash (R419): what its areas hold. An unlisted byte of a slot is erased, 0xFF; an empty list is an erased copy. -/
structure Flash where
  /-- Size code of Table Start-10. -/
  size : Nat := 0
  directory : List (List Byte) := [[], []]
  health : List (List Byte) := [[], []]
  /-- Start records by place in the record area, and the number of the next one (R437). -/
  records : List (Nat × List Byte) := []
  nextRecord : Nat := 0
  slot0 : Mem := []
  slot1 : Mem := []
deriving DecidableEq, Repr

/-- Where start-up stands. -/
inductive Phase where
  /-- PORST_N is low, or WARM_RST_N is. -/
  | reset | warm
  /-- BLANK or DECOMMISSIONED (R430). -/
  | halted
  /-- START_FAILED (R429). -/
  | failed
  /-- Steps 1 to 10 of Table Start-6 are done; step 11 is START_UP_COMPLETE. -/
  | ready
  | running
deriving DecidableEq, Repr

/-- An update operation in progress (R434), with its operands as they stood at UPD_GO. -/
structure Update where
  op : Nat
  slot : Nat
  area : Nat
  offset : Nat
  bytes : Nat
deriving DecidableEq, Repr

/-- Start-up. -/
structure Boot where
  phase : Phase := .reset
  /-- Time of the release (START_MS). -/
  since : Nat := 0
  /-- The update operation in progress (R434). -/
  update : Option Update := none
  /-- The last-resort sequence has acted since the last reset (17 R494). -/
  lastResort : Bool := false
  /-- The Sill control domain counts as lost (15 R460). -/
  sillLost : Bool := false
  /-- REVOKE and SVN_LOCK of the running image's header. -/
  revoke : Nat := 0
  svnLock : Bool := false
  /-- Code that the device records of the health map (R428): no register shows it. -/
  healthCode : Nat := 0
  /-- Statuses of the units and working arrays as the start-up counted them (14 R432), by unit. -/
  units : List (Nat × Nat) := []
  good : List (Nat × Nat) := []
  /-- Subsystem Vendor ID and Subsystem ID of the running image, 0 before one runs (13 Table Host-1, 14 R430). -/
  subVendor : Nat := 0
  subId : Nat := 0
deriving DecidableEq, Repr

/-- What the health map holds beside the unit registers (17 Table Spares-7): ARRAY_GOOD and AGE_SLOW by unit, spare rows in use as
(bent * 256 + bank * 8 + spare row, bank row), SILL_AGE_SLOW, and which copy is in force. -/
structure Health where
  /-- Content of the map: ARRAY_GOOD, AGE_SLOW, spare rows in use, SILL_AGE_SLOW. -/
  good : List (Nat × Nat) := []
  age : List (Nat × Nat) := []
  rows : List (Nat × Nat) := []
  sillAge : Nat := 0
  /-- A run-time update is due (R498). -/
  due : Bool := false
  /-- Copy in force, 2 when none is, and its SEQ. -/
  copy : Nat := 2
  seq : Nat := 0
deriving DecidableEq, Repr

/-! ## The configuration space (13 R395, R396, R410) -/

/-- Fields of the configuration space beside Bus Master Enable and the power state, at the reset values of PCIe. -/
structure ConfigSpace where
  memorySpace : Bool := false
  /-- MSI-X Enable and Function Mask. -/
  msixEnable : Bool := false
  functionMask : Bool := false
  /-- PASID Enable. -/
  pasidEnable : Bool := false
  bar0 : Nat := 0
  bar2 : Nat := 0
  bar4 : Nat := 0
deriving DecidableEq, Repr

/-! ## Domains and power (15, 16) -/

/-- Clocks and domains. -/
structure Clocks where
  /-- Domains whose entry has passed step 3 of Table Clocks-4, with the time of step 3. -/
  isolated : List (Nat × Nat) := []
  /-- Domains for which a wake was latched after that (R455). -/
  latched : List Nat := []
  /-- The spread clocks are stopped by a clock fault (R460). -/
  stopped : Bool := false
  /-- Time of the last wake, and the lowest code recorded then (R459). -/
  lastWake : Option (Nat × Nat) := none
deriving DecidableEq, Repr

/-- Filler on a bent (11 R357, 16 R474): its start, its level in sixteenths, the barrier waits it bridges by peg and target, and when its
ramp began. -/
structure Filler where
  bent : Nat
  since : Nat
  level : Nat
  waits : List (Nat × Nat) := []
  ramp : Option Nat := none
deriving DecidableEq, Repr

/-- Filler time in microseconds that a barrier wait has used on a bent (16 R474). -/
structure FillerUse where
  bent : Nat
  wait : Nat × Nat
  us : Nat
deriving DecidableEq, Repr

/-- Power control. -/
structure Power where
  /-- Samples of R468, newest first, at most 100. -/
  samples : List Nat := []
  /-- Control periods since the last cap action. -/
  quiet : Nat := 10
  /-- Consecutive periods with CAP_UNMET, and with PWR_1MS below 0.9 of the cap. -/
  unmet : Nat := 0
  calm : Nat := 0
  /-- Operating-point changes in progress: (bent, new operating point). -/
  changing : List (Nat × Nat) := []
  /-- Filler in progress (R474). -/
  fillers : List Filler := []
  /-- Filler time that each barrier wait has used on a bent (R474). -/
  fillerUsed : List FillerUse := []
  /-- When each bent's Mortise took its last tile, plus one (16 R474). -/
  mortiseTiles : List (Nat × Nat) := []
  /-- Bents whose clock is stretched (R473), and the doubled cycles that ended of late: (bent, time, cycles). -/
  stretched : List Nat := []
  stretches : List (Nat × Nat × Nat) := []
  /-- Consecutive cool samples of each bent (Table Power-4). -/
  cool : List (Nat × Nat) := []
  /-- POWER_EVENT wakes that have not reached Foreman, by argument (Table Power-10). -/
  events : List Nat := []
  /-- CAP_REASON of the last SMBus cap write, and the last job fault code of a stop (Table Power-6). -/
  smbReason : Nat := 0
  smbFault : Nat := 0
deriving DecidableEq, Repr

/-- Level of COOLANT_OK, and the SMBus address straps (18). -/
structure Pins where
  coolant : Bool := false
  smbAddr : Nat := 0
deriving DecidableEq, Repr

/-! ## Recovery and self-test (17) -/

/-- A Try-square program in progress. -/
structure SelfTest where
  prog : Nat
  units : List Nat
deriving DecidableEq, Repr

/-- Recovery. -/
structure Recovery where
  /-- Units that missed the last poll (R488). -/
  silent : List Nat := []
  /-- Spare bents that come in: (logical, physical) (R490). -/
  bringIns : List (Nat × Nat) := []
  /-- Units that a declaration has put OFF (R489). -/
  off : List Nat := []
  /-- Heartbeat last seen on pegs 0 and 1, and the samples since it advanced (R493). -/
  beat0 : Nat := 0
  stall0 : Nat := 0
  beat1 : Nat := 0
  stall1 : Nat := 0
  /-- The cold spare Foreman that loads its firmware. -/
  cold : Option Nat := none
  /-- The Try-square program in progress (R496, R497). -/
  test : Option SelfTest := none
deriving DecidableEq, Repr

end Sys2Proof.Machine
end

