-- ==== Sys2Proof/Machine/State.lean ====
section
/-! DEFINITION. The state of the QX-8640 as plain data, its value after PORST_N, and the reasons a step can stop. -/

namespace Sys2Proof.Machine

/-- Reasons for a fault. -/
inductive Fault where
  /-- Raised by REGISTER_WRITE and by no other command: the offset lies beyond the BAR (13 R395), so no access of the block
  is addressed. Safe: the model stops where the command names nothing. -/
  | outsideBar
deriving DecidableEq, Repr

/-- Reasons for a refusal. -/
inductive Refusal where
  /-- Raised by the dispatch for a command that has no meaning in the model. Safe: no effect is claimed. -/
  | notModelled (mnemonic : String)
deriving DecidableEq, Repr

/-- The state of the device. -/
structure State where
  /-- Commands that wait, first in, first out. -/
  pending : List Instr := []
  /-- Every register field: key (field, index), see State.get. -/
  regs : List (Nat × Nat) := []
  /-- The register fields as they stood when the present cycle of CK_CTL began (00 R10, log entry 121). -/
  before : List (Nat × Nat) := []
  /-- Time since PORST_N in periods of 1/614.4 MHz (log entry 10). -/
  now : Nat := 0
  /-- The model's own counter for free values (log entry 11): no field of the device. -/
  free : Nat := 0
  /-- Graphs of the running image. -/
  graphs : List Graph := []
  /-- Started jobs (01 R50). -/
  jobs : List Job := []
  /-- Job entries, by index, at which the queue of their context stops until a doorbell finds them enabled (01 R49, R53). -/
  stopped : List Nat := []
  /-- Result rings whose zeroing writes are not yet visible (13 R404). -/
  ringsOpening : List Nat := []
  /-- JOB_SEQ that the next job of a context takes (12 R370). -/
  jobSeq : List (Nat × Nat) := []
  /-- Job keys in Wedge's key slots (12 R382). -/
  jobKeys : List (Nat × List Byte) := []
  /-- Pending WAITs (01 R32). -/
  waits : List PegWait := []
  memory : Memory := {}
  refresh : Refresh := .active
  /-- The staging buffer (14 R438); an unlisted byte is zero. -/
  staging : Mem := []
  /-- Upper halves of CLIPPED and HIST_SAMPLES of each bent, which a read of the lower half latches (02 R90, 09 R296). -/
  clippedHigh : List (Nat × Nat) := []
  histHigh : List (Nat × Nat) := []
  /-- Domains for which a demand has not yet reached Foreman (15 Table Clocks-7). -/
  demands : List Nat := []
  /-- Host writes that wait for their domain. -/
  deferred : List (Nat × DeferredWrite) := []
  saves : List Save := []
  fabric : Fabric := {}
  policy : PowerPolicy := {}
  /-- A SHUTDOWN_GO that waits for a bring-in, a takeover or an update operation (17 R497). -/
  shutdownHeld : Bool := false
  /-- Parts in the Truss state caches. -/
  parts : List TrussPart := []
  lofts : Lofts := {}
  kerf : List KerfHalf := []
  residents : List Resident := []
  /-- Blocks in the weight-stream rings, oldest first. -/
  wring : List RingBlock := []
  /-- Deferred-reclaim queues of the page pools, oldest first. -/
  reclaim : List Deferred := []
  /-- Edits of page lists in progress (04 R166). -/
  edits : List PendingEdit := []
  /-- Context slot that a station served last, plus one: key bent * 16 + kind code (01 R57). -/
  lastServed : List (Nat × Nat) := []
  /-- Context that a station served last, plus one, by the same key (Table Stations-13, SWITCH_COUNT). -/
  lastContext : List (Nat × Nat) := []
  /-- Code lengths of the table in each Froe slot, and the last generation that a context built of a table id: key
  context * 256 + id (07 R237, R243). -/
  froeTables : List (Nat × List Nat) := []
  froeGen : List (Nat × Nat) := []
  /-- Tenant whose quota counts each Froe slot, by slot (07 R243, 12 R366). -/
  froeTenant : List (Nat × Nat) := []
  /-- Blocks in the queues of the decoders, oldest first. -/
  froeQueue : List QueuedBlock := []
  /-- Table builds in progress. -/
  froeBuilds : List FroeBuild := []
  /-- Scheduling decisions taken so far (01 R55, R57). -/
  decisions : Nat := 0
  /-- Deferred swap-outs: (stream, bent) (05 R194). -/
  swaps : List (Nat × Nat) := []
  /-- Last write of RESET_PENDING of a stream: the stream, the time, and the value before (05 R184). -/
  resets : List (Nat × Nat × Bool) := []
  camera : Camera := {}
  audio : Audio := {}
  wedge : Wedge := {}
  flash : Flash := {}
  boot : Boot := {}
  health : Health := {}
  clocks : Clocks := {}
  power : Power := {}
  pins : Pins := {}
  recovery : Recovery := {}
  /-- CE_RETIRE of the running image (06 R223). -/
  ceRetire : Nat := 16
  /-- LOFT_ROW_CE of the running image (06 R213). -/
  loftRowCE : Nat := 4
  /-- PATROL_HOURS of the running image (06 R222). -/
  patrolHours : Nat := 24
  /-- Bus Master Enable of the configuration space (13 R396); its PCIe reset value is 0. -/
  busMaster : Bool := false
  /-- The function is in D3hot (13 R396). -/
  d3hot : Bool := false
  /-- The rest of the configuration space (13 R395, R396). -/
  config : ConfigSpace := {}
  /-- The model's own record of outcomes that standards decide (log entry 12): no field of the device. -/
  known : Known := {}
  /-- What left the block, oldest first. -/
  outbox : List Out := []
deriving DecidableEq, Repr

/-- The device after PORST_N (Table Scope-5, Reset column). -/
def State.reset : State := {}

end Sys2Proof.Machine
end

