-- ==== Sys2Proof/Machine/Ops.lean ====
section
/-! DEFINITION. The named operations on the state that the meanings share: register fields, counters, free values, device
events, messages, pegs. -/

namespace Sys2Proof.Machine

/-! ## Register fields -/

/-- Key of field `r` at index `i` in the store. -/
def regKey (r : Reg) (i : Nat) : Nat := r.ctorIdx + 1024 * i

/-- Value of field `r` at index `i`. An entry that nothing has written holds its Reset value (00 R8). -/
def State.get (s : State) (r : Reg) (i : Nat := 0) : Nat := Store.get (r.resetAt i) s.regs (regKey r i)

/-- The field is not zero. -/
def State.on (s : State) (r : Reg) (i : Nat := 0) : Bool := s.get r i != 0

/-- Give field `r` at index `i` the low bits of `v`. -/
def State.set (s : State) (r : Reg) (i : Nat) (v : Nat) : State :=
  { s with regs := Store.put (r.resetAt i) s.regs (regKey r i) (v % 2 ^ r.width) }

/-- Fields of one entry set together. -/
def State.setAll (s : State) (i : Nat) (l : List (Reg × Nat)) : State := l.foldl (fun s p => s.set p.1 i p.2) s

/-- Return fields of an entry to their Reset values. -/
def State.resetFields (s : State) (i : Nat) (l : List Reg) : State := l.foldl (fun s r => s.set r i (r.resetAt i)) s

/-- A counter goes up by `n`: it stops at its largest value or wraps, as its Meaning says. -/
def State.bump (s : State) (r : Reg) (i : Nat := 0) (n : Nat := 1) : State :=
  let v := s.get r i + n
  s.set r i (if r.info.stops then min v (2 ^ r.width - 1) else v)

/-- A count goes down by `n`, not below zero. -/
def State.drop (s : State) (r : Reg) (i : Nat := 0) (n : Nat := 1) : State := s.set r i (s.get r i - n)

/-- Indices at which field `r`, whose Reset value is 0, is not zero: the enabled entries of a table. -/
def State.indices (s : State) (r : Reg) : List Nat :=
  s.regs.filterMap (fun p => if p.1 % 1024 = r.ctorIdx ∧ p.2 ≠ 0 then some (p.1 / 1024) else none)

/-- Refuse a checked write: REASON takes the code (00 R533). -/
def State.refuse (s : State) (reason : Reg) (i code : Nat) : State := s.set reason i code

/-- The first code whose condition holds, 0 when none does: the form of every check of the manual. -/
def firstCode : List (Nat × Bool) → Nat
  | [] => 0
  | (c, b) :: l => if b then c else firstCode l

/-! ## Free values -/

/-- A free value, and the state whose next draw differs (log entry 11). -/
def State.draw (s : State) (which : Nat) : Nat × State :=
  (Config.freeValue s.free which, { s with free := s.free + 1 })

/-! ## Power domains (15) -/

/-- State of domain `d` is ON. -/
def State.domainOn (s : State) (d : Nat) : Bool := s.get .dom_STATE d == 2

/-- The domain takes new work: it is ON and no entry has begun (15 R453 step 1). -/
def State.takesWork (s : State) (d : Nat) : Bool := s.domainOn d && !s.on .dom_CHANGING d

/-- Raise a demand for a domain (15 R452, R455, Table Clocks-7): Foreman sees it at WAKE_DEMAND. -/
def State.demand (s : State) (d : Nat) : State :=
  if s.takesWork d || s.demands.contains d then s else { s with demands := s.demands ++ [d] }

/-- Logical bent that physical bent `p` serves. -/
def State.logicalOf (s : State) (p : Nat) : Option Nat :=
  (List.range 8).find? (fun n => s.on .bent_PRESENT n && s.get .bent_PHYSICAL n == p)

/-- Counter of the domains in a state (15 Table Clocks-8). -/
def domCount : Nat → Reg
  | 0 => .clk_DOMAINS_OFF
  | 1 => .clk_DOMAINS_RET
  | _ => .clk_DOMAINS_ON

/-- Domain `d` is in state `st` (0 OFF, 1 RETENTION, 2 ON) at the end of a transition (15 R453, R454): the counts of Table Clocks-8, the
PWR field of the bent or Jointer, and for CLK_MAIN the source of CK_CTL (R442). -/
def State.setDom (s : State) (d st : Nat) : State :=
  let old := s.get .dom_STATE d
  let s := s.setAll d [(.dom_STATE, st), (.dom_TARGET, st), (.dom_CHANGING, 0)]
  if old = st then s
  else
    let s := ((s.bump .dom_TRANSITIONS d).drop (domCount old)).bump (domCount st)
    let s := if 69 ≤ d ∧ d < 77 then s.set .jnt_PWR (d - 69) st else s
    let s := if d = 150 then
        s.setAll 0 [(.clk_MAIN_LOCKED, b2n (st == 2)), (.clk_IO_LOCKED, b2n (st == 2)), (.clk_CK_CTL_ON_REF, b2n (st != 2))]
      else s
    match (if d < 9 then s.logicalOf d else none) with
    | some n => s.set .bent_PWR n st
    | none => s

/-- Several domains at once. -/
def State.setDoms (s : State) (ds : List Nat) (st : Nat) : State := ds.foldl (fun s d => s.setDom d st) s

/-- An exit from self-refresh is requested (Table Memory-7, Exit 1): a waiting access, or Foreman. During an entry before its
step 4 it cancels the entry. After the last-resort sequence accesses wait and are never served (17 Table Spares-5). -/
def State.exitSelfRefresh (s : State) : State :=
  if s.boot.lastResort then s
  else if s.refresh = .entering then { s with refresh := .active }
  else if s.refresh = .asleep then { s with refresh := .exiting } else s

/-- An access to GDDR6: it waits while accesses are not admitted, and requests the exit from self-refresh (06 R224). -/
def State.awaken (s : State) (f : State → State) : State := if s.refresh = .active then f s else s.exitSelfRefresh

/-- An access that no later command repeats: it is kept until the exit from self-refresh serves it (06 R224). -/
def State.whenAdmitted (s : State) (w : Waiting) (f : State → State) : State :=
  let t := s.exitSelfRefresh
  if t.refresh = .active then f t else { t with memory := { t.memory with waiting := t.memory.waiting ++ [w] } }

/-! ## Reduced capacity -/

/-- A bit of REDUCE_CAUSE is set, and with it REDUCED (17 R500). -/
def State.reduce (s : State) (b : Nat) : State :=
  (s.set .rec_REDUCE_CAUSE 0 (s.get .rec_REDUCE_CAUSE ||| 2 ^ b)).set .host_REDUCED 0 1

/-! ## Messages to the host -/

/-- A message on vector `v` waits in the PBA (13 R396, R410): its vector or the function is masked, MSI-X is not enabled, or the device may
issue no request. -/
def State.messageHeld (s : State) (v : Nat) : Bool :=
  s.on .msix_CTRL_MASK v || s.config.functionMask || !s.config.msixEnable || !s.busMaster || s.d3hot

/-- Send one MSI-X message on a vector (13 R410), which carries no PASID (13 R414). -/
def State.message (s : State) (v : Nat) : State :=
  if s.messageHeld v then s.set .pba_PENDING v 1
  else
    let a := s.get .msix_ADDR_LO v + 2 ^ 32 * s.get .msix_ADDR_HI v
    { s with
      outbox := s.outbox ++ [.msix v a (s.get .msix_DATA v)]
      memory := { s.memory with host := Mem.writeNum 0 s.memory.host a 4 (s.get .msix_DATA v) } }

/-- Send what waits in the PBA on vector `v`, once nothing holds it (13 R410). -/
def State.flushVector (v : Nat) (s : State) : State :=
  if s.on .pba_PENDING v && !s.messageHeld v then
    State.message (s.set .pba_PENDING v 0) v
  else s

/-- Set an EVENT bit of the host port; a bit that becomes set sends a message unless it is masked (13 R413). -/
def State.event (s : State) (r : Reg) : State :=
  let rises := !s.on r
  let s := s.set r 0 1
  let b := r.info.bit - Reg.host_ACCESS_ERROR.info.bit
  if rises && !bit (s.get .host_EVENT_MASK) b then s.message (s.get .host_DEV_VECTOR) else s

/-- Count a discarded access (00 R7, 13 R398, R415). -/
def State.accessError (s : State) : State := (s.bump .host_ACCESS_ERRORS).event .host_ACCESS_ERROR

/-! ## Pegs -/

/-- REACHED of a peg (01 R34). -/
def State.reached (s : State) (i : Nat) : Bool :=
  s.on .peg_ENABLE i && hasReached 32 (s.get .peg_COUNT i) (s.get .peg_THRESH i)

/-- WAITING of a peg (Table Stations-7). -/
def State.waiting (s : State) (i : Nat) : Bool := s.waits.any (fun w => w.peg == i)

/-- Write an entry of the peg event queue and send its message, or drop it when the queue is full (13 R412). -/
def State.pegEvent (s : State) (i : Nat) : State :=
  let t := s.get .host_PEG_EVQ_TAIL
  if (t + 2 ^ 16 - s.get .host_PEG_EVQ_HEAD) % 2 ^ 16 < 4096 then
    let a := 0x800000 + t % 4096 * 8
    let dw1 := i + s.get .peg_TENANT i * 2 ^ 16
    let m := Mem.writeNum 0 (Mem.writeNum 0 s.memory.bar4 (a + 4) 4 dw1) a 4 (b2n (t / 4096 % 2 == 0))
    (({ s with memory := { s.memory with bar4 := m } } : State).set .host_PEG_EVQ_TAIL 0 (t + 1)).message
      (s.get .host_PEG_VECTOR)
  else (s.bump .host_PEG_EVENTS_LOST).event .host_EVQ_OVERFLOW

/-- Causes of a rung's jobs take their place in the order (10 R318). -/
def State.cause (s : State) (rung n : Nat) : State :=
  if n = 0 then s else { s with audio := { s.audio with causes := s.audio.causes ++ [(rung, n)] } }

/-- What follows a change of a peg: REACHED that goes from 0 to 1 with IRQ_EN sends a message (01 R34). The level of a WAKE
peg is read from REACHED when Foreman looks (WAKE_PEG). A request on RUNG3_PEG makes RUNG3_ACTIVE 1 (10 Table Cascade-3). -/
def State.afterPeg (old s : State) (i : Nat) : State :=
  let s := if i = 66 && s.reached 66 && s.on .casc_ENABLE && s.on .casc_RUNG3_EN then
      (s.set .casc_RUNG3_ACTIVE 0 1).cause 3 ((s.get .peg_COUNT 66 + 2 ^ 32 - old.get .peg_COUNT 66) % 2 ^ 32)
    else s
  if !old.reached i && s.reached i && s.on .peg_IRQ_EN i then s.pegEvent i else s

/-- ADD v (Table Stations-5). -/
def State.pegAdd (s : State) (i v : Nat) : State :=
  State.afterPeg s (s.set .peg_COUNT i (s.get .peg_COUNT i + v)) i

/-- SET v (Table Stations-5). -/
def State.pegSet (s : State) (i v : Nat) : State := State.afterPeg s (s.set .peg_COUNT i v) i

/-- SET_THRESHOLD t (Table Stations-5). -/
def State.pegThresh (s : State) (i t : Nat) : State := State.afterPeg s (s.set .peg_THRESH i t) i

/-- Count a peg operation that is discarded (01 R39, R41, R42). -/
def State.pegFault (s : State) : State := (s.bump .pstore_PEG_ACCESS_FAULTS).set .pstore_ACCESS_EVENT 0 1

/-- Count a peg operation with a stale incarnation (01 R43). -/
def State.pegStale (s : State) : State := (s.bump .pstore_PEG_STALE_DROPS).set .pstore_STALE_EVENT 0 1

/-- A transaction whose incarnation differs from the slot's current value is discarded (01 R43, 17 R487): it counts with its receiver and
in STALE_COUNT of its slot. One with the current incarnation is an ordinary transaction of a command of its own. -/
def State.dropLate (s : State) (l : Late) : State :=
  if l.inc.toNat = s.get .inc_INCARNATION l.slot.val then s
  else
    let s := s.bump .stale_STALE_COUNT l.slot.val
    match l.receiver with
    | .station n => (s.bump .bent_STALE_DROPS n.val).set .bent_STALE_SEEN n.val 1
    | .dowel n => (s.bump .bent_STALE_DROPS n.val).set .bent_STALE_SEEN n.val 1
    | .pegStore => s.pegStale
    | .port k => (s.bump .kport_STALE_DROPS k.val).set .kport_STALE_SEEN k.val 1
    | .loft => s

/-- Several late transactions, in the order of their arrival. -/
def State.dropAll (s : State) (l : List Late) : State := l.foldl State.dropLate s

/-- The peg is enabled and owned by the context (01 R41). Pegs 0 to 1,023 are owned by the device (R42), but 64 to 66 by the context
of the enabled cascade (10 R317). -/
def State.pegOwned (s : State) (i c : Nat) : Bool :=
  s.on .peg_ENABLE i && s.get .peg_CONTEXT i == c && (1024 ≤ i || (64 ≤ i && i ≤ 66 && s.on .casc_ENABLE))

/-- Set COUNT and THRESH of the pegs of a block to 0 (01 R28, R50). Both change together, so REACHED is 1 afterwards. -/
def State.resetPegs (s : State) (base n : Nat) : State :=
  forEach (rangeFrom base n) (fun i s =>
    State.afterPeg s ((s.set .peg_COUNT i 0).set .peg_THRESH i 0) i) s

/-! ## Graphs and jobs -/

/-- Graph `g` of the running image. -/
def State.graph (s : State) (g : Nat) : Option Graph := s.graphs.find? (fun x => x.id == g)

/-- The started job with this name. -/
def State.job (s : State) (j : JobId) : Option Job := s.jobs.find? (fun x => x.id == j)

/-- Change a started job. -/
def State.updJob (s : State) (j : JobId) (f : Job → Job) : State := { s with jobs := mapWhere (fun x => x.id == j) f s.jobs }

/-- Tenant of a context. -/
def State.tenantOf (s : State) (c : Nat) : Nat := s.get .ctx_TENANT c

/-- Class of the tenant of a context. -/
def State.classOf (s : State) (c : Nat) : Nat := s.get .ten_CLASS (s.tenantOf c)

/-- Contexts that a tenant owns and has enabled. -/
def State.enabledContext (s : State) (c : Nat) : Bool := c < 16384 && s.on .ctx_ENABLE c

end Sys2Proof.Machine
end

