-- ==== Sys2Proof/Machine/Froe.lean ====
section
/-! DEFINITION. Froe's table store and the decoder of a bent with its queue of 32 blocks (07 R242 to R249). -/

namespace Sys2Proof.Machine

/-- A byte as a number. -/
def byteNats (bs : List Byte) : List Nat := bs.map (·.toNat)

/-- Numbers as bytes. -/
def natBytes (l : List Nat) : List Byte := l.map (BitVec.ofNat 8)

/-- Slot of a context's table of this id and generation (R242). -/
def State.tableSlot (s : State) (c id gen : Nat) : Option Nat :=
  (List.range 64).find? (fun k =>
    s.on .ftab_VALID k && s.get .ftab_OWNER k == c && s.get .ftab_TABLE_ID k == id && s.get .ftab_GEN k == gen)

/-- The VALID slot of a context's table id that no newer generation replaces. -/
def State.currentTable (s : State) (c id : Nat) : Option Nat :=
  (List.range 64).find? (fun k =>
    s.on .ftab_VALID k && !s.on .ftab_SUPERSEDED k && s.get .ftab_OWNER k == c && s.get .ftab_TABLE_ID k == id)

/-- Code lengths of the table in a slot. -/
def State.tableLengths (s : State) (k : Nat) : List Nat :=
  match s.froeTables.find? (fun p => p.1 == k) with
  | some p => p.2
  | none => []

/-- Free a slot (R244), for the quota of the tenant that took it; DECODES counts on (R250). -/
def State.freeTable (s : State) (k : Nat) : State :=
  let t := Store.get 0 s.froeTenant k
  let sup := s.on .ftab_SUPERSEDED k
  let s := s.resetFields k [.ftab_VALID, .ftab_SUPERSEDED, .ftab_BUILDING, .ftab_TABLE_ID, .ftab_GEN, .ftab_OWNER, .ftab_REFS]
  let s := if sup then s.drop .froe_SLOTS_SUPERSEDED else s
  { s.drop .ten_FROE_USED t with froeTables := s.froeTables.filter (fun p => p.1 != k), froeTenant := Store.erase s.froeTenant k }

/-- The table builds of a job that faults are dropped with the blocks that they hold, and their slots freed (01 R52). -/
def State.dropBuilds (s : State) (j : JobId) : State :=
  let s := forEach (s.froeBuilds.filter (fun b => b.job == j)) (fun b s => s.freeTable b.slot) s
  { s with froeBuilds := s.froeBuilds.filter (fun b => b.job != j) }

/-! ## Decoding (07 R244, R248, R249) -/

/-- A block's outcome: the delivered bytes, 0 or its code, and whether it poisons. -/
structure Decoded where
  bytes : List Byte
  code : Nat := 0
  poison : Bool := false
deriving DecidableEq, Repr

/-- Table slot that a block of context `c` names, by its first line (R242). -/
def State.slotFor (s : State) (c : Nat) (lines : List Byte) : Option Nat :=
  let h := BlockHeader.decode (ofBytes (lines.take 16))
  if h.type = 2 then s.tableSlot c h.tableId h.gen else none

/-- Enqueue a block (R244): REFS of the slot that it names goes up by 1. -/
def State.enqueue (s : State) (q : QueuedBlock) : State :=
  let s : State := { s with froeQueue := s.froeQueue ++ [q] }
  match q.slot with | some k => s.bump .ftab_REFS k | none => s

/-- Count a decoded block by its type. -/
def typeCounter : Nat → Reg
  | 0 => .fdec_BLOCKS_RAW
  | 1 => .fdec_BLOCKS_ZERO_RUN
  | 2 => .fdec_BLOCKS_TABLE
  | _ => .fdec_BLOCKS_INLINE

/-- What a block gives: `lines` are its lines with the header in the first 16 bytes (Table Froe-3). -/
def State.decodeBytes (s : State) (q : QueuedBlock) : DecodeOut :=
  decodeBlock (ofBytes (q.lines.take 16)) q.stored (q.slot.map s.tableLengths) (byteNats (q.lines.drop 16))

/-- The decoder of a bent decodes a block, which has left its queue (R248, Table Froe-4). -/
def State.decodeOne (s : State) (q : QueuedBlock) : State × Decoded :=
  let n := q.bent
  let hd := ofBytes (q.lines.take 16)
  let h := BlockHeader.decode hd
  let out := s.decodeBytes q
  let bad := badHeader hd q.stored
  let s := if bad then s else s.bump (typeCounter h.type) n
  let s := s.bump .fdec_IN_LINES n (cdiv q.lines.length 64)
  let s := match q.slot with | some k => (if bad then s else s.bump .ftab_DECODES k).drop .ftab_REFS k | none => s
  let bs := out.bytes.getD []
  let s := s.bump .fdec_OUT_LINES n (cdiv bs.length 64)
  let s := match out.code with
    | 0 => s
    | 0x0B01 => (s.bump .fdec_NOT_RESIDENT n).set .fdec_NOT_RESIDENT_SEEN n 1
    | 0x0B02 => (s.bump .fdec_SHORT_BLOCKS n).set .fdec_SHORT_SEEN n 1
    | 0x0B03 => (s.bump .fdec_EXCESS_BLOCKS n).set .fdec_EXCESS_SEEN n 1
    | _ => (s.bump .fdec_BAD_BLOCKS n).set .fdec_BAD_SEEN n 1
  let s := if out.code = 0 then s
    else s.setAll n [(.fdec_LAST_CODE, out.code), (.fdec_LAST_CONTEXT, q.ctx), (.fdec_LAST_PRODUCED, out.produced)]
  (s, { bytes := natBytes bs, code := out.code, poison := out.bytes.isNone })

/-- The decoder of bent `n` takes the block at the head of its queue. -/
def State.decodeHead (s : State) (n : Nat) : State × Option Decoded :=
  match s.froeQueue.find? (fun q => q.bent == n) with
  | none => (s, none)
  | some q =>
    let (s, d) := ({ s with froeQueue := s.froeQueue.erase q } : State).decodeOne q
    (s, some d)

/-- The decoder empties its queue, `k` blocks at most. -/
def State.drainQueue (n : Nat) : Nat → State → State × List Decoded
  | 0, s => (s, [])
  | k + 1, s =>
    match s.decodeHead n with
    | (s, none) => (s, [])
    | (s, some d) => let (s, l) := State.drainQueue n k s; (s, d :: l)

/-- Blocks that the queue of a decoder holds (R249). -/
def queueDepth : Nat := 32

/-- Blocks pass through the decoder of bent `n`, as many at a time as its queue holds. -/
def State.decodeAll (s : State) (n : Nat) (qs : List QueuedBlock) : State × List Decoded :=
  (runsOf queueDepth qs.length qs).foldl (fun (acc : State × List Decoded) run =>
    let (s, l) := State.drainQueue n queueDepth (forEach run (fun q s => s.enqueue q) acc.1)
    (s, acc.2 ++ l)) (s, [])

/-- First code that poisons and first warning among decoded blocks. -/
def decodeCodes (l : List Decoded) : Nat × Nat :=
  (((l.find? (·.poison)).map (·.code)).getD 0, ((l.find? (fun d => !d.poison && d.code != 0)).map (·.code)).getD 0)

end Sys2Proof.Machine
end

