-- ==== Sys2Proof/Machine/ReedSolomon.lean ====
section
/-! DEFINITION. RS(68,64) over GF(2^8) and the GDDR6 address map (06 R219 to R221). -/

namespace Sys2Proof.Machine

/-- Multiply by α = 0x02 modulo x^8 + x^4 + x^3 + x^2 + 1 (R220). -/
def gfDouble (a : Nat) : Nat := if 128 ≤ a then (2 * a) ^^^ 0x11D else 2 * a

/-- Product in GF(2^8): `k` bits of `b`, lowest first. -/
def gfMulBits : Nat → Nat → Nat → Nat
  | 0, _, _ => 0
  | k + 1, a, b => (if b % 2 = 1 then a else 0) ^^^ gfMulBits k (gfDouble a) (b / 2)

def gfMul (a b : Nat) : Nat := gfMulBits 8 a b

/-- α^k. -/
def gfPow : Nat → Nat
  | 0 => 1
  | k + 1 => gfDouble (gfPow k)

/-- Coefficients g3, g2, g1, g0 of (x + α^0)(x + α^1)(x + α^2)(x + α^3), below x^4. -/
def rsGen : List Nat := [15, 54, 120, 64]

/-- One step of the division by the generator: the remainder register r3..r0 takes the next data symbol. -/
def rsStep (r : List Nat) (d : Nat) : List Nat :=
  let f := r.getD 0 0 ^^^ d
  (List.range 4).map (fun i => gfMul f (rsGen.getD i 0) ^^^ r.getD (i + 1) 0)

/-- Check symbols p0 to p3 of a data block: the coefficients of x^3 to x^0 (R220). -/
def rsCheck (d : List Nat) : List Nat := d.foldl rsStep [0, 0, 0, 0]

/-- Syndrome j of a codeword: its value at α^j. -/
def rsSyndrome (w : List Nat) (j : Nat) : Nat := w.foldl (fun a c => gfMul a (gfPow j) ^^^ c) 0

/-- A word of the code: every syndrome is zero. -/
def rsValid (w : List Nat) : Bool := (List.range 4).all (fun j => rsSyndrome w j == 0)

/-- Channel of a physical address (R219). -/
def paChannel (pa : Nat) : Nat :=
  let g := pa / 256
  (g ^^^ g / 2 ^ 5 ^^^ g / 2 ^ 10 ^^^ g / 2 ^ 15 ^^^ g / 2 ^ 20 ^^^ g / 2 ^ 25) % 32

/-- Frame of a physical address in its channel, granule in the frame. -/
def paFrame (pa : Nat) : Nat × Nat := let x := pa / 256 / 32; (x / 15, x % 15)

/-- Channel-local address (R219). -/
def paLocal (pa : Nat) : Nat := let (f, s) := paFrame pa; f * 4096 + s * 256 + pa % 256

/-- Data block in the frame, 0 to 59 (R219). -/
def paBlock (pa : Nat) : Nat := let (_, s) := paFrame pa; 4 * s + pa % 256 / 64

/-- Channel-local address of the check block that covers a physical address, and the first of its four check bytes. -/
def paCheck (pa : Nat) : Nat × Nat :=
  let (f, _) := paFrame pa; let k := paBlock pa
  (f * 4096 + 3840 + 64 * (k / 15), 4 * (k % 15))

end Sys2Proof.Machine
end

