-- ==== Sys2Proof/Machine/Memory.lean ====
section
/-! DEFINITION. Region maps, GDDR6 pages, error outcomes and the host tier (06): resolving an access, the stored bytes with
their check symbols, coded blocks (07), taking and scrubbing pages, counting errors, and the reads of Dowel. -/

namespace Sys2Proof.Machine

/-! ## Region map entries -/

/-- Index of region entry `r` of context `c`. -/
def rgnIdx (c r : Nat) : Nat := c * 32 + r

/-- HOST_ADDR of an entry (Table Memory-2, DW6 and DW7). -/
def State.rgnHostAddr (s : State) (k : Nat) : Nat := s.get .rgn_D6 k + 2 ^ 32 * s.get .rgn_D7 k

/-- PUBLISH_PEG of an entry (DW6 [15:0]). -/
def State.rgnPublish (s : State) (k : Nat) : Nat := s.get .rgn_D6 k % 2 ^ 16

/-- Bytes of device-virtual space that an entry covers (R203). -/
def State.rgnSpan (s : State) (k : Nat) : Nat :=
  if s.get .rgn_KIND k = 4 then 2 * s.get .rgn_SIZE k else s.get .rgn_SIZE k

/-- Region entry of context `c` that holds address `a`, with the byte offset in it (R203). -/
def State.resolve (s : State) (c a : Nat) : Option (Nat × Nat) :=
  ((List.range 32).find? (fun r =>
    let k := rgnIdx c r
    s.on .rgn_ENABLE k && s.get .rgn_VA k ≤ a && a < s.get .rgn_VA k + s.rgnSpan k)).map
    (fun r => (rgnIdx c r, a - s.get .rgn_VA (rgnIdx c r)))

/-- Index of the entry whose pages an entry reads: its source under KIND SHARE (R203). -/
def State.rgnHome (s : State) (k : Nat) : Nat :=
  if s.get .rgn_KIND k = 2 then rgnIdx (s.get .rgn_SRC_CONTEXT k) (s.get .rgn_SRC_REGION k) else k

/-- Pages of a region. -/
def State.rgnPages (s : State) (k : Nat) : List Nat :=
  match s.memory.pages.find? (fun p => p.key == k) with
  | some p => p.pages
  | none => []

/-- Offset within the pages of a VERSIONED region: the read view reads the half named by ACTIVE, the write view the other
half (R208). -/
def State.rgnOffset (s : State) (k o : Nat) : Nat :=
  if s.get .rgn_KIND k = 4 then
    let size := s.get .rgn_SIZE k
    let half := if o < size then s.get .rgn_ACTIVE k else 1 - s.get .rgn_ACTIVE k
    half * size + o % size
  else o

/-- Place of an address of a PASID in the model's host memory: each PASID has an address space of its own; requests without one, as
PASID 0 (13 R414, log entry 120). -/
def hostKey (pasid addr : Nat) : Nat := pasid * 2 ^ 64 + addr % 2 ^ 64

/-- PASID of a context's tenant (12 R373). -/
def State.pasidOf (s : State) (c : Nat) : Nat := s.get .ten_PASID (s.tenantOf c)

/-- Where a device-virtual address lies; in the host tier, by `hostKey`. -/
inductive Place where
  | gddr6 (pa : Nat)
  | host (addr : Nat)
deriving DecidableEq, Repr

/-- Place of offset `o` of entry `k` (R203). -/
def State.rgnPlace (s : State) (k o : Nat) : Place :=
  if s.get .rgn_KIND k = 3 then .host (hostKey (s.pasidOf (k / 32)) (s.rgnHostAddr k + o))
  else
    let o := s.rgnOffset k o
    .gddr6 ((s.rgnPages (s.rgnHome k)).getD (o / 2 ^ 21) 0 * 2 ^ 21 + o % 2 ^ 21)

/-- Place of a device-virtual address of context `c`, none where no enabled entry holds it. -/
def State.place (s : State) (c a : Nat) : Option Place := (s.resolve c a).map (fun p => s.rgnPlace p.1 p.2)

/-- A job of context `c` may read the `n` bytes at `a`: one enabled entry holds them all (R203, R206). -/
def State.mayRead (s : State) (c a n : Nat) : Bool :=
  match s.resolve c a with
  | some (k, o) => o + n ≤ s.rgnSpan k
  | none => false

/-- A job of context `c` may write the `n` bytes at `a` (R206): a PRIVATE region with WRITABLE 1 and SHARERS 0, or the write
view of a VERSIONED region. -/
def State.mayWrite (s : State) (c a n : Nat) : Bool :=
  match s.resolve c a with
  | some (k, o) =>
    o + n ≤ s.rgnSpan k &&
      ((s.get .rgn_KIND k == 1 && s.on .rgn_WRITABLE k && s.get .rgn_SHARERS k == 0) ||
        (s.get .rgn_KIND k == 4 && s.get .rgn_SIZE k ≤ o))
  | none => false

/-- "writable context-private region" (R201): the `n` bytes at `a` lie in one PRIVATE region of context `c` with WRITABLE 1
and SHARERS 0, in STATE 2. -/
def State.inPrivate (s : State) (c a n : Nat) : Bool :=
  match s.resolve c a with
  | some (k, o) =>
    o + n ≤ s.get .rgn_SIZE k && s.get .rgn_KIND k == 1 && s.on .rgn_WRITABLE k && s.get .rgn_SHARERS k == 0
  | none => false

/-! ## Stored bytes (06 R220, 07 R233) -/

/-- Parts of the range of `len` addresses from `a` that lie between multiples of `g`: address and length. -/
def partsBy (g a len : Nat) : List (Nat × Nat) :=
  if len = 0 then []
  else (rangeFrom (a / g) ((a + len - 1) / g - a / g + 1)).map (fun b =>
    let lo := max a (b * g)
    (lo, min (a + len) (b * g + g) - lo))

/-- Blocks of 64 bytes that the `n` bytes at `a` touch. -/
def blocksOf (a n : Nat) : List Nat := if n = 0 then [] else rangeFrom (a / 64) ((a + n - 1) / 64 - a / 64 + 1)

/-- The 64 bytes of a data block. -/
def Memory.block (m : Memory) (b : Nat) : List Byte := Mem.readBytes 0 m.ddr (b * 64) 64

/-- The check symbols of a data block as one number, p0 lowest (R220). -/
def checkWord (l : List Byte) : Nat := packNats (rsCheck (byteNats l))
where
  packNats : List Nat → Nat
    | [] => 0
    | x :: xs => x + 256 * packNats xs

/-- Bytes of one data block change, with fresh check symbols of the whole block (R220); a block written whole reads correctly again
(R221). -/
def Memory.change (m : Memory) (pa : Nat) (bs : List Byte) : Memory :=
  let b := pa / 64
  let m := { m with ddr := Mem.writeBytes 0 m.ddr pa bs }
  { m with
    check := Store.put 0 m.check b (checkWord (m.block b))
    bad := if bs.length = 64 then m.bad.filter (· != b) else m.bad }

/-- A write of one data block: less than a whole block is a read-modify-write (R220). -/
def Memory.store (m : Memory) (pa : Nat) (bs : List Byte) : Memory :=
  let m := m.change pa bs
  { m with wrote := m.wrote.map (fun l => l ++ [(pa / 64, bs.length != 64)]) }

/-- The 64 bytes of a check block that covers 15 data blocks: their check symbols, and p0 to p3 of its own 60 content bytes (R220). -/
def Memory.checkBlock (m : Memory) (covered : List Nat) : List Nat :=
  let content := covered.flatMap (fun b => let v := Store.get 0 m.check b; (List.range 4).map (fun i => v / 256 ^ i % 256))
  content ++ rsCheck content

/-- Write bytes at a device-virtual address of a context in GDDR6, whatever is stored there. Nothing is written to the host tier. -/
def State.putVA (s : State) (c a : Nat) (bs : List Byte) : State :=
  forEach (partsBy 64 a bs.length) (fun p s =>
    match s.place c p.1 with
    | some (.gddr6 pa) => { s with memory := s.memory.store pa ((bs.drop (p.1 - a)).take p.2) }
    | _ => s) s

/-- Physical home of the 4 KiB block at a device-virtual address, as a block number (07 R233). -/
def State.homeOf (s : State) (c a : Nat) : Option Nat :=
  match s.place c (a / 4096 * 4096) with
  | some (.gddr6 pa) => some (pa / 4096)
  | _ => none

/-- The block at this address holds a coded form. -/
def State.storedAt (s : State) (c a : Nat) : Bool :=
  match s.homeOf c a with
  | some b => s.memory.stored.contains b
  | none => false

/-- A write of these bytes would change a part of a block that holds a coded form (07 R241). -/
def State.partialWrite (s : State) (c a len : Nat) : Bool := (partsBy 4096 a len).any (fun p => s.storedAt c p.1 && p.2 != 4096)

/-- Write bytes at a device-virtual address of a context in GDDR6 (07 R241): a part of a block that holds a coded form is not written and
is counted; a whole block clears the STORED bit. -/
def State.writeVA (s : State) (c a : Nat) (bs : List Byte) : State :=
  forEach (partsBy 4096 a bs.length) (fun p s =>
    let part := (bs.drop (p.1 - a)).take p.2
    match s.homeOf c p.1 with
    | some b =>
      if !s.memory.stored.contains b then s.putVA c p.1 part
      else if p.2 = 4096 then
        ({ s with memory := { s.memory with stored := s.memory.stored.filter (· != b) } } : State).putVA c p.1 part
      else (s.bump .froe_PARTIAL_WRITES).set .froe_PARTIAL_WRITE_SEEN 0 1
    | none => s) s

/-- Write a little-endian number at a device-virtual address of a context. -/
def State.writeNumVA (s : State) (c a n v : Nat) : State := s.writeVA c a (toBytes n v)

/-- Lines of a block that holds a coded form (07 R233, R247). -/
def State.codedLines (s : State) (b : Nat) : Nat :=
  min 64 (storedLines (BlockHeader.decode (ofBytes (Mem.readBytes 0 s.memory.ddr (b * 4096) 16))).codedBytes)

/-- A coded block as Dowel of bent `n` hands it to the decoder for context `c`. -/
def State.codedBlock (s : State) (n c b : Nat) : QueuedBlock :=
  let lines := Mem.readBytes 0 s.memory.ddr (b * 4096) (s.codedLines b * 64)
  { bent := n, ctx := c, slot := s.slotFor c lines, stored := true, lines := lines }

/-- Bytes of a device-virtual range of context `c` as a job reads them: coded blocks decoded (07 R247). An address that no region holds
reads as zeros here; the meanings test it first. -/
def State.readVA (s : State) (c a n : Nat) : List Byte :=
  (partsBy 4096 a n).flatMap (fun p =>
    if s.storedAt c p.1 then
      let bs := natBytes ((s.decodeBytes (s.codedBlock 0 c ((s.homeOf c p.1).getD 0))).bytes.getD [])
      ((bs ++ List.replicate (4096 - bs.length) 0).drop (p.1 % 4096)).take p.2
    else (rangeFrom p.1 p.2).map (fun a =>
      match s.place c a with
      | some (.gddr6 pa) => Mem.read 0 s.memory.ddr pa
      | some (.host h) => Mem.read 0 s.memory.host h
      | none => 0))

/-- A little-endian number at a device-virtual address. -/
def State.readNumVA (s : State) (c a n : Nat) : Nat := ofBytes (s.readVA c a n)

/-! ## Pages -/

/-- Allocatable pages of the configuration (Table Memory-5). -/
def State.allocatable (s : State) : Nat := if s.on .mem_CLAMSHELL then 30464 else 15104

/-- Pages of the retired list. -/
def State.retiredPages (s : State) : List Nat :=
  ((List.range 1024).filter (fun i => s.on .ret_VALID i)).map (fun i => s.get .ret_RETIRED_PAGE i)

/-- Pages that are not in the free pool. -/
def State.usedPages (s : State) : List Nat :=
  s.memory.pages.flatMap (·.pages) ++ s.memory.scrub.map (·.page) ++ s.saves.flatMap (·.pages) ++ s.retiredPages ++
    s.memory.withheld

/-- The free pool (R205, R223). -/
def State.freePages (s : State) : List Nat :=
  let used := s.usedPages
  (List.range s.allocatable).filter (fun p => !used.contains p)

/-- Take `n` of the listed pages, in an order the device does not specify (R205): each choice is a free value. -/
def pickPages (seed : Nat) : Nat → List Nat → List Nat
  | 0, _ => []
  | n + 1, free =>
    match pluck free (Config.freeValue seed n % max 1 free.length) with
    | some (p, rest) => p :: pickPages seed n rest
    | none => []

/-- Take `n` pages out of the free pool. When exactly the free pages are needed, the order alone is free. -/
def State.takePages (s : State) (n : Nat) : List Nat × State :=
  let ps := pickPages s.free n s.freePages
  (ps, { s.drop .mem_PAGES_FREE 0 n with free := s.free + 1 })

/-- Queue pages for their scrub (R207). -/
def State.scrubPages (s : State) (ps : List Nat) (region : Option Nat) : State :=
  { s.bump .mem_PAGES_SCRUBBING 0 ps.length with
    memory := { s.memory with scrub := s.memory.scrub ++ ps.map (fun p => ⟨p, region⟩) } }

/-! ## Errors -/

/-- Context whose region holds page `p`: the owner's, none for a free page or the device reserve. -/
def State.pageOwner (s : State) (p : Nat) : Option Nat :=
  (s.memory.pages.find? (fun r => r.pages.contains p)).map (·.key)

/-- A page becomes retire-pending (R223). -/
def State.retirePending (s : State) (p : Nat) : State :=
  if s.memory.pending.contains p || s.allocatable ≤ p then s
  else
    let s := { s with memory := { s.memory with pending := s.memory.pending ++ [p] } }
    let s := s.set .mem_RETIRE_SEEN 0 1
    match s.pageOwner p with
    | some k => (s.bump .mem_RETIRE_PENDING).set .rgn_RETIRE_PENDING k 1
    | none => s

/-- A corrected read (Table Memory-6). -/
def State.correctable (s : State) (pa : Nat) : State :=
  let s := ((s.bump .mem_CE_TOTAL).bump .memch_CH_CE (paChannel pa)).set .mem_CE_SEEN 0 1
  let p := pa / 2 ^ 21
  let n := Store.get 0 s.memory.pageCE p + 1
  let s := { s with memory := { s.memory with pageCE := Store.put 0 s.memory.pageCE p n } }
  if n = s.ceRetire then s.retirePending p else s

/-- An uncorrectable event of type 0 job read, 1 patrol, 2 failed write, 3 check block (Table Memory-9). -/
def State.uncorrectable (s : State) (pa typ : Nat) : State :=
  let s := ((s.bump .mem_UE_TOTAL).bump .memch_CH_UE (paChannel pa)).set .mem_UE_SEEN 0 1
  let own := s.pageOwner (pa / 2 ^ 21)
  let s := s.setAll 0
    [(.mem_LAST_ERR_PA_LO, pa), (.mem_LAST_ERR_PA_HI, pa / 2 ^ 32), (.mem_LAST_ERR_CH, paChannel pa),
      (.mem_LAST_ERR_TYPE, typ), (.mem_LAST_ERR_CONTEXT, (own.getD 0) / 32), (.mem_LAST_ERR_NOCTX, b2n own.isNone)]
  s.retirePending (pa / 2 ^ 21)

/-- Physical address of data block `k` of channel frame `f` of channel `ch`: the inverse of R219. -/
def blockPA (ch f k : Nat) : Nat :=
  let x := f * 15 + k / 4
  let low := (ch ^^^ x ^^^ x / 2 ^ 5 ^^^ x / 2 ^ 10 ^^^ x / 2 ^ 15 ^^^ x / 2 ^ 20) % 32
  (x * 32 + low) * 256 + k % 4 * 64

/-- The 15 data blocks that check block `q` of a channel frame covers (R219, R221), as block numbers. -/
def coveredBy (ch f q : Nat) : List Nat := (rangeFrom (15 * q) 15).map (fun k => blockPA ch f k / 64)

/-- The 15 data blocks that the check block of `pa` covers. -/
def coveredBlocks (pa : Nat) : List Nat := coveredBy (paChannel pa) (paFrame pa).1 (paBlock pa / 15)

/-- Repeats of a burst (R222). -/
def State.edcRetries (s : State) (pa n : Nat) : State :=
  (s.bump .mem_EDC_RETRIES 0 n).bump .memch_CH_EDC_RETRIES (paChannel pa) n

/-- A channel retrains (R222). -/
def State.retrain (s : State) (ch : Nat) : State := (s.bump .memch_CH_RETRAINS ch).set .mem_RETRAIN_SEEN 0 1

/-- What a read of the listed 64-byte blocks meets (R221, R222): the new state, and false when the data is not delivered. A check block is
read with the blocks that it covers. `typ` is the LAST_ERR type of the reader, 0 for a job and 1 for the patrol. An outcome at a block
outside the list does not concern the read. -/
def State.readBlocks (s : State) (blocks : List Nat) (o : ReadOutcome) (typ : Nat) : State × Bool :=
  match blocks.find? (fun b => s.memory.bad.contains b) with
  | some b => (s.uncorrectable (b * 64) typ, false)
  | none =>
    match o with
    | .clean => (s, true)
    | .corrected pa => if blocks.contains (pa / 64) then (s.correctable pa, true) else (s, true)
    | .miscorrected pa bs =>
      if blocks.contains (pa / 64) then
        (({ s with memory := s.memory.change (pa / 64 * 64) ((bs ++ List.replicate 64 0).take 64) } : State).correctable pa, true)
      else (s, true)
    | .uncorrectable pa check =>
      if blocks.contains (pa / 64) then
        let bad := if check then coveredBlocks pa else [pa / 64]
        let s := { s with memory := { s.memory with bad := s.memory.bad ++ bad.filter (fun b => !s.memory.bad.contains b) } }
        (s.uncorrectable pa (if check then 3 else typ), false)
      else (s, true)
    | .edcRepeats n pa => if blocks.contains (pa / 64) then (s.edcRetries pa (n.val + 1), true) else (s, true)
    | .retrained pa => if blocks.contains (pa / 64) then ((s.edcRetries pa 8).retrain (paChannel pa), true) else (s, true)
    | .retrainFailed pa =>
      if blocks.contains (pa / 64) then
        (((s.edcRetries pa 8).retrain (paChannel pa)).uncorrectable pa typ, false)
      else (s, true)

/-- Physical 64-byte blocks that a device-virtual range of a context lies on. -/
def State.blocksVA (s : State) (c a n : Nat) : List Nat :=
  (blocksOf a n).filterMap (fun b =>
    match s.place c (max a (b * 64)) with
    | some (.gddr6 pa) => some (pa / 64)
    | _ => none)

/-- A write burst that failed for good (R222): its page becomes retire-pending, and what its block holds is left open. -/
def State.writeFailed (s : State) (pa : Nat) : State :=
  let bs := (List.range 64).map (fun i => BitVec.ofNat 8 (Config.freeValue s.free i))
  ({ s with memory := s.memory.change (pa / 64 * 64) bs, free := s.free + 1 } : State).uncorrectable pa 2

/-- How the bursts of a write of the listed 64-byte blocks went (R222): the new state, and false when one failed for good. -/
def State.writeBursts (s : State) (blocks : List Nat) (o : WriteOutcome) : State × Bool :=
  match o with
  | .clean => (s, true)
  | .edcRepeats n pa => if blocks.contains (pa / 64) then (s.edcRetries pa (n.val + 1), true) else (s, true)
  | .retrained pa => if blocks.contains (pa / 64) then ((s.edcRetries pa 8).retrain (paChannel pa), true) else (s, true)
  | .failed pa =>
    if blocks.contains (pa / 64) then (((s.edcRetries pa 8).retrain (paChannel pa)).writeFailed pa, false) else (s, true)

/-- What runs, with the blocks that it writes. -/
def State.noted {α : Type} (s : State) (f : State → State × α) : State × α × List (Nat × Bool) :=
  let outer := s.memory.wrote
  let (s, x) := f { s with memory := { s.memory with wrote := some [] } }
  let l := s.memory.wrote.getD []
  ({ s with memory := { s.memory with wrote := outer } }, x, l)

/-! ## The reads of Dowel (06 R206, R221, R225; 07 R247) -/

/-- What a read of memory gives: bytes, 0 or the code of a failure, and the first warning of a decoder. -/
structure MemRead where
  bytes : List Byte := []
  code : Nat := 0
  warning : Nat := 0
deriving DecidableEq, Repr

/-- Blocks with a coded form that ranges of a context lie on, each once. -/
def State.codedIn (s : State) (c : Nat) (rs : List (Nat × Nat)) : List Nat :=
  ((rs.flatMap (fun r => partsBy 4096 r.1 r.2)).filterMap (fun p => if s.storedAt c p.1 then s.homeOf c p.1 else none)).eraseDups

/-- 64-byte blocks that a read of these ranges takes: those of the ranges, and the lines of coded blocks, each once. -/
def State.linesFor (s : State) (c : Nat) (rs : List (Nat × Nat)) : List Nat :=
  ((rs.flatMap (fun r => partsBy 4096 r.1 r.2)).flatMap (fun p => if s.storedAt c p.1 then [] else s.blocksVA c p.1 p.2)).eraseDups ++
    (s.codedIn c rs).flatMap (fun b => rangeFrom (b * 64) (s.codedLines b))

/-- Dowel of bent `n` takes ranges of GDDR6 for context `c`: the lines arrive or not, and coded blocks pass through the decoder. -/
def State.takeRanges (s : State) (n c : Nat) (rs : List (Nat × Nat)) (mem : ReadOutcome) : State × MemRead :=
  let lines := s.linesFor c rs
  let (s, ok) := s.readBlocks lines mem 0
  if !ok then (s.set .dowel_GDDR6_UE_SEEN n 1, { code := 0x032B })
  else
    let (s, ds) := (s.bump .dowel_GDDR6_RD_LINES n lines.length).decodeAll n ((s.codedIn c rs).map (s.codedBlock n c))
    let (poison, warning) := decodeCodes ds
    (s, { code := poison, warning := warning })

/-- The same for a reader that reports 0x032B, which POISONED_READS counts. Page walks and state fetches report codes of their own (Table
Memory-6). -/
def State.readRanges (s : State) (n c : Nat) (rs : List (Nat × Nat)) (mem : ReadOutcome) : State × MemRead :=
  let (s, m) := s.takeRanges n c rs mem
  (if m.code = 0x032B then s.bump .dowel_POISONED_READS n else s, m)

/-- A host-tier read that fails (R225). -/
def State.hostFault (s : State) (n : Nat) : State × MemRead :=
  ((s.bump .dowel_POISONED_READS n).set .dowel_HOST_FAULT_SEEN n 1, { code := 0x032C })

/-- The read requests of ranges of the host tier, with the PASID of the context's tenant (12 R373), each within 512 bytes (13 R414, log
entry 116). -/
def State.askHost (s : State) (c : Nat) (rs : List (Nat × Nat)) : State :=
  { s with outbox := s.outbox ++ rs.flatMap (fun r =>
      match s.place c r.1 with
      | some (.host h) => (partsBy 512 (h % 2 ^ 64) r.2).map (fun p => .hostRead (s.pasidOf c) p.1 p.2)
      | _ => []) }

/-- The device may issue requests (13 R396). -/
def State.mayAsk (s : State) : Bool := s.busMaster && !s.d3hot

/-- Posted writes of tenant `t` into host memory, in order, each within 512 bytes (13 R408, R414). -/
def State.postHost (s : State) (t a : Nat) (bs : List Byte) : State :=
  let p := s.get .ten_PASID t
  { s with
    outbox := s.outbox ++ (partsBy 512 a bs.length).map (fun x => .hostWrite p x.1 ((bs.drop (x.1 - a)).take x.2))
    memory := { s.memory with host := Mem.writeBytes 0 s.memory.host (hostKey p a) bs } }

/-- Dowel of bent `n` reads ranges of one region through the region map of context `c`: the code is 0 for data delivered, 0x032A where
R206 refuses it, 0x032C where the host tier fails it (R225), 0x032B on an uncorrectable read (R221), or what the decoder raised. -/
def State.dowelGather (s : State) (n c : Nat) (rs : List (Nat × Nat)) (mem : ReadOutcome) (host : HostOutcome) : State × MemRead :=
  if !rs.all (fun r => s.mayRead c r.1 r.2) then ((s.bump .dowel_ACCESS_FAULTS n).set .dowel_ACCESS_FAULT_SEEN n 1, { code := 0x032A })
  else
    match s.place c ((rs.map (·.1)).headD 0) with
    | some (.host _) =>
      if !s.mayAsk then s.hostFault n
      else
        let s := s.askHost c rs
        match host with
        | .data bs =>
          let s := s.bump .dowel_HOST_RD_LINES n (rs.map (fun r => cdiv r.2 64)).sum
          let (m, _) := rs.foldl (fun (acc : Mem × List Byte) r =>
            match s.place c r.1 with
            | some (.host h) => (Mem.writeBytes 0 acc.1 h (acc.2.take r.2), acc.2.drop r.2)
            | _ => acc) (s.memory.host, bs)
          let s : State := { s with memory := { s.memory with host := m } }
          (s, { bytes := rs.flatMap (fun r => s.readVA c r.1 r.2) })
        | _ => s.hostFault n
    | _ =>
      let (s, m) := s.readRanges n c rs mem
      (s, { m with bytes := if m.code = 0 then rs.flatMap (fun r => s.readVA c r.1 r.2) else [] })

/-- Dowel reads `len` bytes at `a`. Addresses from 2^64 on stand for the fixed focus windows of the running image (09 R287). -/
def State.dowelRead (s : State) (n c a len : Nat) (mem : ReadOutcome) (host : HostOutcome) : State × MemRead :=
  if 2 ^ 64 ≤ a then
    let bs := ((s.camera.tables.focus.find? (fun p => p.1 == (a - 2 ^ 64) / 4096)).map (·.2)).getD []
    (s, { bytes := ((bs ++ List.replicate (a % 4096 + len) 0).drop (a % 4096)).take len })
  else s.dowelGather n c [(a, len)] mem host

/-- Dowel reads some of the `k` lines at `a`; the bytes of the others stand as zeros (03 R122). -/
def State.dowelLines (s : State) (n c a k : Nat) (lines : List Nat) (mem : ReadOutcome) (host : HostOutcome) : State × MemRead :=
  let rs := lines.map (fun x => (a + 64 * x, 64))
  let (s, m) := s.dowelGather n c rs mem host
  (s, { m with bytes := (List.range k).flatMap (fun x =>
    match lines.idxOf? x with
    | some i => (m.bytes.drop (64 * i)).take 64
    | none => List.replicate 64 0) })

end Sys2Proof.Machine
end

