-- ==== Sys2Proof/Machine/FabricOps.lean ====
section
/-! DEFINITION. The transport of the Kertik fabric (11 R334 to R354): headers, the choice of a port, encryption, test rules,
control flows. -/

namespace Sys2Proof.Machine

/-- Header of Table Fabric-4. -/
def frameHeader (b : FrameBody) (retx : Bool) (hops srcDev srcPort dstDev flow fjob psn txc : Nat) : Nat :=
  let dw0 := 1 + b.kind * 2 ^ 4 + b2n b.first * 2 ^ 8 + b2n b.last * 2 ^ 9 + b2n retx * 2 ^ 10 + b2n b.runb * 2 ^ 11
    + hops % 16 * 2 ^ 12 + srcDev % 512 * 2 ^ 16 + srcPort % 8 * 2 ^ 25
  let dw1 := dstDev % 512 + flow % 2 ^ 16 * 2 ^ 16
  let dw4 := b.run % 2 ^ 16 + b.block % 2 ^ 16 * 2 ^ 16
  dw0 + dw1 * 2 ^ 32 + fjob % 2 ^ 32 * 2 ^ 64 + psn % 2 ^ 32 * 2 ^ 96 + dw4 * 2 ^ 128 + b.tile % 2 ^ 32 * 2 ^ 160
    + txc % 2 ^ 64 * 2 ^ 192

/-- KIND of a header. -/
def hdrKind (h : Nat) : Nat := bits h 4 4
/-- HOPS of a header. -/
def hdrHops (h : Nat) : Nat := bits h 12 4
/-- SRC_DEV of a header. -/
def hdrSrcDev (h : Nat) : Nat := bits h 16 9
/-- SRC_PORT of a header. -/
def hdrSrcPort (h : Nat) : Nat := bits h 25 3
/-- DST_DEV of a header. -/
def hdrDstDev (h : Nat) : Nat := bits h 32 9
/-- FLOW of a header. -/
def hdrFlow (h : Nat) : Nat := bits h 48 16
/-- FJOB_ID of a header. -/
def hdrFjob (h : Nat) : Nat := bits h 64 32
/-- PSN of a header. -/
def hdrPsn (h : Nat) : Nat := bits h 96 32
/-- RUN of a header. -/
def hdrRun (h : Nat) : Nat := bits h 128 16

/-- A reserved field of the header is not zero (R342 row 3). -/
def hdrReserved (h : Nat) : Bool := bits h 28 4 != 0 || bits h 41 7 != 0

/-- Header fields as the body that they describe. -/
def hdrBody (h : Nat) (payload : List Byte) : FrameBody :=
  { kind := hdrKind h, first := bit h 8, last := bit h 9, runb := bit h 11, run := hdrRun h, block := bits h 144 16,
    tile := bits h 160 32, payload := payload }

/-- Ports that may carry frames to device `d` and are up, in increasing order (R337). -/
def State.livePorts (s : State) (d : Nat) : List Nat :=
  if s.on .route_ENABLE d then
    (List.range 8).filter (fun p => s.on .routep_VALID (d * 8 + p) && s.on .kport_LINK_UP p)
  else []

/-- Egress port of a flow to device `d`: the i-th live port, i = (FJOB_ID + FLOW + DEV_ID) mod n (R337). -/
def State.egress (s : State) (d fjob flow : Nat) : Option Nat :=
  let ps := s.livePorts d
  if ps.isEmpty then none else ps[(fjob + flow + s.get .fab_DEV_ID) % ps.length]?

/-- The payload as a port protects it, and its tag of 16 bytes (Table Fabric-3): AES-256-GCM over the payload, IV and additional data of
R346. The bytes are a free value of the primitive. -/
def protect (key : List Byte) (hdr : Nat) (payload : List Byte) : List Byte :=
  let iv := toBytes 2 (hdrSrcDev hdr + hdrSrcPort hdr * 2 ^ 9) ++ [0, 0] ++ toBytes 8 (bits hdr 192 64)
  let n := payload.length + 16
  let out := (Config.crypto "AES-256-GCM" [key, iv, toBytes 32 (setBits hdr 12 4 0), payload]).take n
  out ++ List.replicate (n - out.length) 0

/-- One bit of the CRC of IEEE 802.3. -/
def crcBit (c : Nat) : Nat := if c % 2 = 1 then (c / 2) ^^^ 0xEDB88320 else c / 2

/-- FCS of a frame (R339): the CRC of IEEE 802.3 over everything before it (log entry 118). -/
def frameCheck (bs : List Byte) : Nat :=
  (bs.foldl (fun c b => crcBit (crcBit (crcBit (crcBit (crcBit (crcBit (crcBit (crcBit (c ^^^ b.toNat))))))))) 0xFFFFFFFF) ^^^ 0xFFFFFFFF

/-- Bit `n`, counted from bit 0 of the first byte of the Kertik header, is inverted (R360); a bit beyond the frame's end is none of its
bits. -/
def flipBit (hdr : Nat) (payload : List Byte) (n : Nat) : Nat × List Byte :=
  if n < 256 then (hdr ^^^ 2 ^ n, payload)
  else (hdr, payload.modify ((n - 256) / 8) (fun b => b ^^^ BitVec.ofNat 8 (2 ^ (n % 8))))

/-- Test rule `i` of port `p` matches a frame in direction `dir` (R360). -/
def State.ruleMatches (s : State) (p i dir hdr : Nat) : Bool :=
  let k := p * 8 + i
  s.on .krule_EN k && s.get .krule_DIR k == dir &&
    (s.get .krule_KIND k == 0xF || s.get .krule_KIND k == hdrKind hdr) &&
    (s.on .krule_ANY_FLOW k || s.get .krule_FLOW k == hdrFlow hdr) &&
    (s.get .krule_FJOB_ID k == 0 || s.get .krule_FJOB_ID k == hdrFjob hdr)

/-- Matches of rule `k` since it last came to its EVERY_N-th, this one included. -/
def State.matchCount (s : State) (k : Nat) : Nat := Store.get 0 s.fabric.matched k + 1

/-- What the test rules of port `p` do to a frame (R360): each rule that matches counts the match, and the lowest-numbered of them acts
when it is its EVERY_N-th. Answers the acting rule, none when no rule acts. -/
def State.testRules (s : State) (p dir hdr : Nat) : Option Nat × State :=
  let hit := (List.range 8).filter (fun i => s.ruleMatches p i dir hdr)
  let due := fun (k : Nat) => decide (max 1 (s.get .krule_EVERY_N k) ≤ s.matchCount k)
  let m := hit.foldl (fun m i => let k := p * 8 + i; Store.put 0 m k (if due k then 0 else s.matchCount k)) s.fabric.matched
  let t : State := { s with fabric := { s.fabric with matched := m } }
  match hit with
  | [] => (none, s)
  | i :: _ =>
    let k := p * 8 + i
    if !due k then (none, t)
    else
      let s := t.bump .kport_INJECTED p
      let left := s.get .krule_COUNT k
      let s := if left = 0 then s else s.set .krule_COUNT k (left - 1)
      (some k, if left = 1 then s.set .krule_EN k 0 else s)

/-- The 6 bytes of the MAC address of device-port number `n` (R334): MAC_PREFIX and `n`, each most significant byte first, as
IEEE 802.3 orders them (00 R6). -/
def State.macAddr (s : State) (n : Nat) : List Byte := (toBytes 3 (s.get .fab_MAC_PREFIX)).reverse ++ (toBytes 3 n).reverse

/-- The 802.3 header of a frame that leaves port `p` (R334, R335, Table Fabric-1): destination, the port's own address, the 802.1Q
tag under VLAN_EN, and ETHERTYPE; its fields keep the byte order of 802.3 (00 R6). -/
def State.macHeader (s : State) (p : Nat) (dst : Option Nat) : List Byte :=
  (match dst with | some n => s.macAddr n | none => List.replicate 6 0xFF) ++ s.macAddr (s.get .fab_DEV_ID * 8 + p) ++
    (if s.on .kport_VLAN_EN p then [0x81, 0x00] ++ (toBytes 2 (s.get .kport_VLAN_ID p + s.get .kport_VLAN_PCP p * 2 ^ 13)).reverse else []) ++
    (toBytes 2 (s.get .fab_ETHERTYPE)).reverse

/-- Put a frame on the wire of port `p`. -/
def State.wire (s : State) (p : Nat) (dst : Option Nat) (hdr : Nat) (payload : List Byte) : State :=
  let mac := s.macHeader p dst
  { s.bump .kport_TX_FRAMES p with
    outbox := s.outbox ++ [.frame p dst mac hdr payload (frameCheck (mac ++ toBytes 32 hdr ++ payload))] }

/-- MAC destination of a frame that leaves on port `p` to device `d`: the next hop of the route (R335). -/
def State.nextHop (s : State) (p d : Nat) : Nat :=
  s.get .routep_NEXT_DEV (d * 8 + p) * 8 + s.get .routep_NEXT_PORT (d * 8 + p)

/-- One more frame has passed port `p` in a direction: frames that a REORDER rule holds come nearer to their release. Answers
those that are due. -/
def passHeld (held : List HeldFrame) (p : Nat) (rx : Bool) : List HeldFrame × List HeldFrame :=
  let held := mapWhere (fun h => h.port == p && h.rx == rx) (fun h => { h with left := h.left - 1 }) held
  held.partition (fun h => h.port == p && h.rx == rx && h.left == 0)

/-- Send a protected frame on port `p` under the send rules of R360. -/
def State.txRaw (s : State) (p : Nat) (dst : Option Nat) (hdr : Nat) (payload : List Byte) : State :=
  let (act, s) := s.testRules p 0 hdr
  let (due, rest) := passHeld s.fabric.held p false
  let s : State := { s with fabric := { s.fabric with held := rest } }
  let s :=
    match act with
    | none => s.wire p dst hdr payload
    | some k =>
      match s.get .krule_ACTION k with
      | 1 => let x := flipBit hdr payload (s.get .krule_CORRUPT_BIT k); s.wire p dst x.1 x.2
      | 2 =>
        { s with fabric := { s.fabric with held := s.fabric.held ++
            [{ port := p, rx := false, left := s.get .krule_REORDER_DEPTH k, hdr := hdr, payload := payload, dst := dst }] } }
      | _ => s
  forEach due (fun h s => s.wire p h.dst h.hdr h.payload) s

/-- Blocks in a DATA payload, as (Froe header and payload) byte strings (R341). -/
def splitBlocks : Nat → List Byte → List (List Byte)
  | 0, _ => []
  | fuel + 1, bs =>
    if bs.length < 16 then []
    else
      let n := 16 + (BlockHeader.decode (ofBytes (bs.take 16))).codedBytes
      bs.take n :: splitBlocks fuel (bs.drop (cdiv n 16 * 16))

/-- Count the forms of the blocks of a DATA frame that a send encoder emits, a retransmission's again, since it codes them again
(R351; 07 Table Froe-5). -/
def State.countForms (s : State) (b : FrameBody) : State :=
  if b.kind = 0 then
    forEach (splitBlocks 260 (if b.first then b.payload.drop 32 else b.payload)) (fun x s =>
      match (BlockHeader.decode (ofBytes (x.take 16))).type with
      | 1 => s.bump .froe_ENC_ZERO_RUN
      | 3 => s.bump .froe_ENC_INLINE
      | _ => s.bump .froe_ENC_PLAIN) s
  else s

/-- Job key of the entry of context `c` in the ports' key store (R345). -/
def State.fabricKey (s : State) (c : Nat) : List Byte := ((s.fabric.keys.find? (fun k => k.1 == c)).map (·.2)).getD []

/-- Protect and send the frame with number `psn` of a flow of context `c` to device `d` (R337, R340, R346). Answers false
when no port is up and the frame waits. -/
def State.txFrame (s : State) (c flow d psn : Nat) (b : FrameBody) (retx : Bool) : State × Bool :=
  let fjob := s.get .fjob_FJOB_ID c
  match s.egress d fjob flow with
  | none => (s, false)
  | some p =>
    let txc := Store.get 0 s.fabric.txc (c * 8 + p)
    let hdr := frameHeader b retx (s.get .route_HOPS d) (s.get .fab_DEV_ID) p d flow fjob psn txc
    let s : State := { s with fabric := { s.fabric with txc := Store.put 0 s.fabric.txc (c * 8 + p) (txc + 1) } }
    let key := s.fabricKey c
    let s := if retx then (s.bump .kport_RETRANSMITS p).bump .fjob_RETRANSMITS c else s
    ((s.countForms b).txRaw p (some (s.nextHop p d)) hdr (protect key hdr b.payload), true)

/-- The flow record of context `c` with this number, peer and direction. -/
def Flow.is (f : Flow) (c flow peer : Nat) (send : Bool) : Bool :=
  f.ctx == c && f.flow == flow && f.peer == peer && f.send == send

/-- Change a flow record. -/
def State.updFlow (s : State) (c flow peer : Nat) (send : Bool) (g : Flow → Flow) : State :=
  { s with fabric := { s.fabric with flows := mapWhere (fun f => f.is c flow peer send) g s.fabric.flows } }

/-- A flow record. -/
def State.flow (s : State) (c flow peer : Nat) (send : Bool) : Option Flow :=
  s.fabric.flows.find? (fun f => f.is c flow peer send)

/-- Send the next frame of a send flow and keep it until it is acknowledged (R350, R351). -/
def State.sendOn (s : State) (c flow peer : Nat) (b : FrameBody) : State :=
  match s.flow c flow peer true with
  | none => s
  | some f =>
    let (s, sent) := if 256 ≤ f.unacked.length then (s, false) else s.txFrame c flow peer f.psn b false
    s.updFlow c flow peer true (fun f =>
      { f with
        psn := (f.psn + 1) % 2 ^ 32
        advanced := if f.unacked.isEmpty then s.now else f.advanced
        unacked := f.unacked ++ [{ psn := f.psn, body := b, sent := sent, once := sent, time := s.now }] })

/-- Send a frame of a flow again, or for the first time when it has not gone out yet (R337, R351): its PSN and payload stay, RETX is 1 on
a retransmission, and the TXC is new. -/
def State.resend (s : State) (c flow peer : Nat) (u : SentFrame) : State :=
  let (s, ok) := s.txFrame c flow peer u.psn u.body u.once
  s.updFlow c flow peer true (fun f =>
    let renew := fun (x : SentFrame) => { x with sent := ok, once := x.once || ok, time := s.now }
    { f with unacked := mapWhere (fun x => x.psn == u.psn) renew f.unacked })

/-- Frames of a send flow that wait go out, while at most 256 are unacknowledged (R337, R350). -/
def State.sendWaitingOf (s : State) (c flow peer : Nat) : State :=
  match s.flow c flow peer true with
  | none => s
  | some f => forEach ((f.unacked.take 256).filter (fun u => !u.sent)) (fun u s => s.resend c flow peer u) s

/-- Members of the fabric job of context `c`. -/
def State.members (s : State) (c : Nat) : List Nat :=
  ((s.fabric.members.find? (fun m => m.1 == c)).map (·.2)).getD []

/-- Every other member of the fabric job of context `c`. -/
def State.others (s : State) (c : Nat) : List Nat := (s.members c).filter (· != s.get .fab_DEV_ID)

/-- Send an ABORT with the code and the run to every other member (R353). -/
def State.sendAborts (s : State) (c code : Nat) : State :=
  forEach (s.others c) (fun d s =>
    s.sendOn c 0xFFFF d { kind := 4, run := s.get .fjob_RUN c, payload := toBytes 16 (code % 2 ^ 16) }) s

/-- Device at the other end of a channel (R349). -/
def State.channelPeer (s : State) (c : Nat) (ch : Channel) : Nat :=
  let ms := s.members c
  match ch.peer with
  | .rank r => ms.getD r 0
  | .offset o => ms.getD ((s.get .fjob_MY_RANK c + o) % max 1 ms.length) 0

/-- Channels of the graph of a job. -/
def State.channels (s : State) (j : Job) : List Channel :=
  match (s.graph j.graph).bind (·.fabric) with
  | some f => f.channels
  | none => []

/-- Flow on which a remote peg operation to device `d` travels (R354): the channel that the graph names, when its peer is the peg's
device, else the control flow. -/
def State.pegFlow (s : State) (j : Job) (chan : Option Nat) (d : Nat) : Nat :=
  match chan.bind (fun n => (s.channels j).find? (fun ch => ch.num == n && ch.send)) with
  | some ch => if s.channelPeer j.ctx ch = d then ch.num else 0xFFFF
  | none => 0xFFFF

/-- Send a peg operation on a flow to device `d` (R354, R355). -/
def State.sendPeg (s : State) (c flow d peg : Nat) (isSet runb : Bool) (v : Nat) : State :=
  s.sendOn c flow d
    { kind := 2, runb := runb, run := s.get .fjob_RUN c, payload := toBytes 4 (peg + b2n isSet * 2 ^ 16) ++ toBytes 4 v }

/-- The running fabric job of context `c`. -/
def State.fabricJob (s : State) (c : Nat) : Option Job :=
  s.jobs.find? (fun j => j.ctx == c && ((s.graph j.graph).bind (·.fabric)).isSome)

/-- CREDIT of a RECEIVE channel (R352): floor(FREE_PEG / k) + N over its region, 0 until the job of the run exists. -/
def State.creditOf (s : State) (c flow : Nat) : Nat :=
  match s.fabricJob c with
  | none => 0
  | some j =>
    match (s.channels j).find? (fun ch => ch.num == flow && !ch.send) with
    | none => 0
    | some ch =>
      match (s.graph j.graph).bind (fun g => g.region ch.region) with
      | none => 0
      | some d => s.get .peg_COUNT (j.pegBase + d.freePeg) / max 1 d.ncons + d.nslots

/-- Bits of the SACK bitmap (R341): PSN cum + 1 + i has been received. -/
def sackBits (f : Flow) : Nat :=
  listMask ((List.range 64).filter (fun i => f.early.any (fun e => e.1 == (f.psn + 1 + i) % 2 ^ 32)))

/-- Send an ACK on a flow (R341, R350): its PSN is the cumulative point. With no port up it waits (R337). -/
def State.sendAck (s : State) (c flow peer : Nat) (runStart : Bool) : State :=
  match s.flow c flow peer false with
  | none => s
  | some f =>
    let credit := if flow = 0xFFFF then 0 else s.creditOf c flow
    let dw3 := s.get .fjob_RUN c % 2 ^ 16 + b2n runStart * 2 ^ 16
    let body : FrameBody :=
      { kind := 1, run := s.get .fjob_RUN c, payload := toBytes 8 (sackBits f) ++ toBytes 4 credit ++ toBytes 4 dw3 }
    let (s, sent) := s.txFrame c flow peer f.psn body false
    s.updFlow c flow peer false (fun f =>
      if sent then { f with unackedRx := 0, creditSent := credit, ackOwed := none }
      else { f with ackOwed := some (runStart || f.ackOwed == some true) })

/-- Acknowledge at once every RECEIVE channel whose CREDIT has risen (R350). -/
def State.creditAcks (s : State) (c : Nat) : State :=
  forEach (s.fabric.flows.filter (fun f => f.ctx == c && !f.send && f.flow != 0xFFFF)) (fun f s =>
    if f.creditSent < s.creditOf c f.flow then s.sendAck c f.flow f.peer false else s) s

end Sys2Proof.Machine
end

