-- ==== Sys2Proof/Machine/JobOps.lean ====
section
/-! DEFINITION. What happens to jobs whatever their kind: faults, aborted chunks, who uses what, and a job's accesses to GDDR6 (01 R40, R52; 05 R186; 06 R206, R222; 07 R241). -/

namespace Sys2Proof.Machine

/-! ## Table entries -/

/-- Index of job entry `e` of context `c`. -/
def jobIdx (c e : Nat) : Nat := c * 16 + e

/-- Entries of the job ring of context `c` between head and tail, in ring order (R48). -/
def State.ringEntries (s : State) (c : Nat) : List Nat :=
  let h := s.get .ctx_HEAD c
  (List.range ((s.get .ctx_TAIL c + 32 - h) % 32)).map (fun i => (h + i) % 16)

/-- Entry `e` of context `c` lies between head and tail. -/
def State.handed (s : State) (c e : Nat) : Bool := (s.ringEntries c).contains e

/-- Ring entries of context `c` whose job is queued or running: STATE 2 to 4. -/
def State.busyEntries (s : State) (c : Nat) : List Nat :=
  (List.range 16).filter (fun e => 2 ≤ s.get .job_STATE (jobIdx c e))

/-- A job of the context, of any kind, is queued or running. -/
def State.contextBusy (s : State) (c : Nat) : Bool :=
  !(s.busyEntries c).isEmpty || s.jobs.any (fun j => j.ctx == c) || s.camera.waiting.any (fun w => s.get .cam_CONTEXT w.stream == c)

/-- Contexts whose job table holds a job that is queued or running. -/
def State.busyContexts (s : State) : List Nat := (s.indices .job_STATE).map (· / 16) |>.eraseDups

/-- Pegs that a job of graph `g` with peg block at `base` and this DONE_PEG names (R40). -/
def State.jobNames (s : State) (g base done i : Nat) : Bool :=
  done % 2 ^ 16 == i ||
    (match s.graph g with
    | some gr => base ≤ i && i < base + gr.pegCount
    | none => false)

/-- A queued or running job of context `c` names peg `i` in its peg block or as its DONE_PEG (R40). -/
def State.jobsNamePeg (s : State) (c i : Nat) : Bool :=
  (s.busyEntries c).any (fun e =>
    let k := jobIdx c e
    s.jobNames (s.get .job_GRAPH k) (s.get .job_PEG_BASE k) (s.get .job_DONE_PEG k) i) ||
    s.jobs.any (fun j => j.ctx == c && s.jobNames j.graph j.pegBase j.donePeg i)

/-- PEG_COUNT of a graph, 0 for an unknown one. -/
def State.pegCount (s : State) (g : Nat) : Nat := ((s.graph g).map Graph.pegCount).getD 0

/-- TAP_FRAMES of a loop entry (09 Table Jointer-5). -/
def State.tapFrames (s : State) (k : Nat) : Nat := s.get .loop_TAP_FRAMES_M1 k + 1

/-- Pegs of a loop entry's peg block. -/
def State.loopBlock (s : State) (k : Nat) : List Nat :=
  rangeFrom (s.get .loop_PEG_BASE k) (s.pegCount (s.get .loop_GRAPH k))

/-- Band, re-entry and view pegs of a loop entry (09 R284 step 4). -/
def State.loopSidePegs (s : State) (k : Nat) : List Nat :=
  rangeFrom (s.get .loop_BAND_PEG_BASE k) (s.tapFrames k) ++
    (if s.on .tmpl_REENTRY_AT (s.get .cam_TEMPLATE k) then rangeFrom (s.get .loop_REENTRY_PEG_BASE k) (s.tapFrames k) else []) ++
    [s.get .loop_VIEW_PEG k]

/-- Every peg that a loop entry names (R40). -/
def State.loopPegs (s : State) (k : Nat) : List Nat := s.loopBlock k ++ s.loopSidePegs k ++ [s.get .loop_DONE_PEG k]

/-- Largest PEG_COUNT among the rung graphs (10 R315). -/
def State.rungPegCount (s : State) : Nat :=
  max (max (s.pegCount (s.get .casc_RUNG1_GRAPH)) (s.pegCount (s.get .casc_RUNG2_GRAPH)))
    (if s.on .casc_RUNG3_EN then s.pegCount (s.get .casc_RUNG3_GRAPH) else 0)

/-- Pegs of the cascade's peg block. -/
def State.cascadeBlock (s : State) : List Nat := rangeFrom (s.get .casc_PEG_BASE) s.rungPegCount

/-- Every peg that the cascade entry names (R40). -/
def State.cascadePegs (s : State) : List Nat :=
  s.cascadeBlock ++ [s.get .casc_DONE_PEG, s.get .casc_LP_PEG, s.get .casc_HQ_PEG]

/-! ## What the device writes for enabled work -/

/-- Bytes of a frame-record ring (08 R257, R268): slots of 64 + EMB_MAX bytes. -/
def State.recordRing (s : State) (k : Nat) : Nat × Nat × Nat :=
  (s.get .cam_CONTEXT k, s.get .cam_REC_RING k,
    (s.get .cam_REC_SLOTS_M1 k + 1) * (64 + s.get .tmpl_EMB_MAX (s.get .cam_TEMPLATE k)))

/-- Frame buffers of a loop entry (09 R278). -/
def State.frameBuffers (s : State) (k : Nat) : Nat × Nat × Nat :=
  (s.get .cam_CONTEXT k, s.get .loop_TAP_BASE k, s.tapFrames k * s.get .loop_FRAME_BYTES k)

/-- Audio rings of the cascade (10 R315, R321): low-power blocks of 4,160 bytes, high-quality blocks of
64 + 1,536 x HQ_LANES bytes. -/
def State.audioRings (s : State) : List (Nat × Nat × Nat) :=
  let c := s.get .casc_CONTEXT
  [(c, s.get .casc_LP_RING, (s.get .casc_LP_SLOTS_M1 + 1) * 4160),
    (c, s.get .casc_HQ_RING, (s.get .casc_HQ_SLOTS_M1 + 1) * (64 + 1536 * (s.get .casc_HQ_LANES_M1 + 1)))]

/-- Rings and buffers that the device writes for enabled work (06 R204 step 8): context, address, length. -/
def State.deviceBuffers (s : State) : List (Nat × Nat × Nat) :=
  (s.indices .cam_ENABLE).map s.recordRing ++ (s.indices .loop_ENABLE).map s.frameBuffers ++
    (if s.on .casc_ENABLE then s.audioRings else [])

/-- SEQ_BASE of an attention session (04 Table Scarf-8, DW5 and DW6). -/
def State.seqBase (s : State) (k : Nat) : Nat := s.get .ses_D5 k + 2 ^ 32 * s.get .ses_D6 k

/-- STATE_ADDR of a stream (05 Table Truss-3, DW4 and DW5). -/
def State.stateAddr (s : State) (k : Nat) : Nat := s.get .ses_D4 k + 2 ^ 32 * s.get .ses_D5 k

/-- Enabled page pools, session sequence arrays and stream state records (06 R204 step 7): context, address, length. -/
def State.tableRecords (s : State) : List (Nat × Nat × Nat) :=
  (s.indices .pool_ENABLE).map (fun c => (c, s.get .pool_BASE c, s.get .pool_POOL_BYTES c)) ++
    (s.indices .ses_ENABLE).map (fun k =>
      if s.get .ses_TYPE k = 1 then (s.get .ses_CONTEXT k, s.seqBase k, (s.get .ses_D4 k % 256 + 1) * 128)
      else (s.get .ses_CONTEXT k, s.stateAddr k, s.get .str_STATE_BYTES k))

/-- One of the ranges lies in region entry `k`. -/
def State.rangeIn (s : State) (k : Nat) (l : List (Nat × Nat × Nat)) : Bool :=
  l.any (fun (c, a, n) => c == k / 32 && a < s.get .rgn_VA k + s.rgnSpan k && s.get .rgn_VA k < a + n)

/-! ## Result rings -/

/-- Slot size SB of a ring in bytes (13 Table Host-4). -/
def State.ringSB (s : State) (r : Nat) : Nat := 64 * 4 ^ s.get .ring_SLOT_SIZE r

/-- Number of slots N of a ring. -/
def State.ringN (s : State) (r : Nat) : Nat := 2 ^ s.get .ring_SLOTS_LOG2 r

/-- N x SB. -/
def State.ringBytes (s : State) (r : Nat) : Nat := s.ringN r * s.ringSB r

/-! ## Chunks -/

/-- Truss parts of a stream leave the caches: their lines no longer count in CACHE_USED (05 R186, R191). -/
def State.dropParts (s : State) (p : TrussPart → Bool) : State :=
  let gone := s.parts.filter p
  let s := forEach gone (fun t s => s.drop .truss_CACHE_USED t.bent t.lines) s
  let s := forEach gone (fun t s =>
    s.set .str_RESIDENT_MASK t.stream
      (listMask (((s.parts.filter (fun q => !p q && q.stream == t.stream)).map (·.bent))))) s
  { s with parts := s.parts.filter (fun q => !p q) }

/-- Parts are lost with the power or the bent that holds them: a layer of a chunk that has not read its part yet fetches it again (05
R191). -/
def State.loseParts (s : State) (p : TrussPart → Bool) : State :=
  let gone := s.parts.filter p
  let again := fun (st : Nat) (y : ChunkLayer) => y.rows == 0 && gone.any (fun q => q.stream == st && q.layer == y.layer && q.bent == y.bent)
  let s := s.dropParts p
  { s with jobs := s.jobs.map (fun j => { j with
      chunk := j.chunk.map (fun ch => { ch with layers := mapWhere (again ch.stream) (fun y => { y with ready := false, waited := false }) ch.layers }) }) }

/-- A swap-out that was deferred takes effect once no chunk is in flight (05 R194). -/
def State.swapDeferred (s : State) (st : Nat) : State :=
  if s.on .str_SWAP_DEFERRED st then
    let ns := ((s.swaps.filter (fun w => w.1 == st)).map (·.2)).eraseDups
    let s := forEach ns (fun n s =>
      let k := (s.parts.filter (fun q => q.stream == st && q.bent == n)).length
      (s.bump .truss_SWAPOUTS n k).dropParts (fun q => q.stream == st && q.bent == n)) s
    { s.set .str_SWAP_DEFERRED st 0 with swaps := s.swaps.filter (fun w => w.1 != st) }
  else s

/-- The chunk of a job aborts with this reason (05 R186). Without a chunk in flight nothing happens. -/
def State.chunkAbort (s : State) (j : JobId) (code : Nat) : State :=
  match (s.job j).bind Job.inFlight with
  | none => s
  | some ch =>
    let st := ch.stream
    let s := s.dropParts (fun q => q.stream == st)
    let s := s.setAll st [(.str_RESET_PENDING, b2n ch.sampled), (.str_LAST_REASON, code), (.str_IN_FLIGHT, 0)]
    let s := s.bump .str_ABORTS st
    let s := forEach ch.layers (fun l s => (s.bump .truss_CHUNKS_ABORTED l.bent).set .truss_ABORT_SEEN l.bent 1) s
    (s.updJob j (fun x => { x with chunk := some { ch with aborted := code } })).swapDeferred st

/-! ## Filler (11 R357, 16 R474) -/

/-- Microseconds between two times. -/
def microseconds (a b : Nat) : Nat := (b - a) * 10 / 6144

/-- BARRIERs of the graph of a job (11 R356). -/
def State.jobBarriers (s : State) (j : Job) : List BarrierDef := (((s.graph j.graph).bind (·.fabric)).map (·.barriers)).getD []

/-- Instances of BARRIER `k` that the job has issued. -/
def Job.issued (j : Job) (k : Nat) : Nat := Store.get 0 j.barriers k

/-- RELEASE of the last instance of BARRIER `k` that the job issued has not come. -/
def State.awaitsRelease (s : State) (j : Job) (k : Nat) : Bool :=
  s.waits.any (fun w => w.job == some j.id && (match w.who with | .release b _ => b == k | _ => false))

/-- The job stands before its next instance of BARRIER `k`: what comes before it in the graph is done. -/
def State.atBarrier (s : State) (j : Job) (b : BarrierDef) (k : Nat) : Bool :=
  !j.finished && !s.awaitsRelease j k &&
    (match b.after[j.issued k]? with | some ops => ops.all (fun o => decide (o.2 ≤ j.tilesDone o.1)) | none => false)

/-- A BARRIER of the job holds tile `q` of operator `o` at position `pos`: a station of its bent takes no tile that comes after an
instance whose RELEASE has not come (11 R356, log entry 112). -/
def State.barrierHolds (s : State) (j : Job) (o pos q : Nat) : Bool :=
  (s.jobBarriers j).zipIdx.any (fun (b, k) =>
    b.pos == pos && (b.after.drop (j.issued k - b2n (s.awaitsRelease j k))).any (fun ops =>
      decide (((ops.find? (fun x => x.1 == o)).map (·.2)).getD 0 ≤ q)))

/-- Barrier instances that hold a station of bent `n`, each by its RELEASE peg and its number: those of the jobs resident there that wait
for acknowledgements, for RELEASE or on rank 0 for ARRIVE (11 R356, R357). -/
def State.barrierWaits (s : State) (n : Nat) : List (Nat × Nat) :=
  (s.jobs.filter (fun j => s.residents.any (fun x => x.bent == n && x.job == j.id))).flatMap (fun j =>
    (s.jobBarriers j).zipIdx.filterMap (fun (b, k) =>
      if j.bents[b.pos]? != some n then none
      else if s.awaitsRelease j k then some (j.pegBase + b.release, j.issued k)
      else if s.atBarrier j b k then some (j.pegBase + b.release, j.issued k + 1)
      else none))

/-- Microseconds of a run of filler that have passed: FILLER_MAX_US at most before its ramp, and then 20 µs at most (R474). -/
def State.fillerTime (s : State) (f : Filler) : Nat :=
  match f.ramp with
  | none => min (microseconds f.since s.now) (s.get .pwr_FILLER_MAX_US)
  | some t => s.get .pwr_FILLER_MAX_US + min (microseconds t s.now) 20

/-- Level of a run: its 16 equal steps of 1.25 µs have it fall to 0 (R474). -/
def State.fillerLevel (s : State) (f : Filler) : Nat :=
  match f.ramp with
  | none => f.level
  | some t => f.level * (16 - min 16 (microseconds t s.now * 4 / 5)) / 16

/-- Filler runs: it has not come to the end of its ramp. -/
def State.fills (s : State) (f : Filler) : Bool :=
  match f.ramp with
  | none => true
  | some t => decide (microseconds t s.now < 20)

/-- Filler on bent `n` ends: a tile is taken, no BARRIER holds a station there any more, or TEMP_HIGH stops it. FILLER_US counts it, and its
barrier waits keep the time that they have used. -/
def State.fillerStop (s : State) (n : Nat) : State :=
  match s.power.fillers.find? (fun f => f.bent == n) with
  | none => s
  | some f =>
    let t := s.fillerTime f
    let mine := fun (u : FillerUse) => u.bent == n && f.waits.contains u.wait
    let used := f.waits.map (fun w => ({ bent := n, wait := w
                                         us := t + ((s.power.fillerUsed.find? (fun u => u.bent == n && u.wait == w)).map (·.us)).getD 0 } : FillerUse))
    { s.bump .pwrb_FILLER_US n t with power := { s.power with
      fillers := s.power.fillers.filter (fun f => f.bent != n), fillerUsed := s.power.fillerUsed.filter (fun u => !mine u) ++ used } }

/-- Filler of bents that no BARRIER holds any more ends, and the times of barrier waits that are over are forgotten. -/
def State.fillersEnd (s : State) : State :=
  let s := forEach (s.power.fillers.filter (fun f => !f.waits.any (fun w => (s.barrierWaits f.bent).contains w))) (fun f s => s.fillerStop f.bent) s
  { s with power := { s.power with fillerUsed := s.power.fillerUsed.filter (fun u => (s.barrierWaits u.bent).contains u.wait) } }

/-! ## Faults -/

/-- Job entry of a ring job, none for loop and rung jobs. -/
def Job.ringEntry (j : Job) : Option Nat :=
  match j.id with
  | .ring c => some (jobIdx c.val j.entry)
  | _ => none

/-- A started job faults (01 R52): the first fault stays, its stations stop, output not yet written is discarded, and it
heads for completion. A chunk that it carries aborts (05 R186); a fabric-graph job sends ABORT frames (11 R353). -/
def State.faultJob (s : State) (j : JobId) (code : Nat) : State :=
  match s.job j with
  | none => s
  | some x =>
    if x.fault != 0 || x.finished then s
    else
      let s := s.updJob j (fun x => { x with fault := code, finished := true })
      let s := s.set .ctx_LAST_FAULT x.ctx code
      let s :=
        match x.ringEntry with
        | some k => (s.set .job_FAULT k code).set .job_STATE k 4
        | none => s
      let s := (s.chunkAbort j code).dropBuilds j
      let s := ({ s with waits := s.waits.filter (fun w => w.job != some j) } : State).fillersEnd
      match (s.graph x.graph).bind (·.fabric) with
      | some _ => (s.set .fjob_LAST_FAULT x.ctx code).sendAborts x.ctx code
      | none => s

/-- What a peg operation of a station of job `j` does to a peg of its context (Table Stations-5); READ hands COUNT to the stations of
the job. -/
def State.pegAct (s : State) (j : JobId) (i : Nat) (a : PegAct) (v : Nat) : State :=
  match a with
  | .add => s.pegAdd i v
  | .set => s.pegSet i v
  | .thresh => s.pegThresh i v
  | .read => s.updJob j (fun x => { x with pegRead := s.get .peg_COUNT i })

/-- A peg operation that a station issues for a job (01 R41): carried out when the peg is enabled and owned by the job's
context, otherwise discarded and counted, and the job faults with PEG_RANGE. A CREDIT that it raises is told at once (11 R350). -/
def State.jobPeg (s : State) (j : JobId) (i : Nat) (a : PegAct) (v : Nat) : State :=
  match s.job j with
  | none => s
  | some x =>
    if i < 65536 && s.pegOwned i x.ctx then (s.pegAct j i a v).creditAcks x.ctx else s.pegFault.faultJob j 0x0304

/-- A peg operation through a peg reference (01 R44, R45; 11 R354): a reference with REMOTE that names another member goes out
on a channel flow or on the control flow; one that names no member faults the job with PEG_TARGET. SET_THRESHOLD and READ act on local
pegs only. -/
def State.jobPegRef (s : State) (j : JobId) (ref : Nat) (a : PegAct) (v : Nat) (runb : Bool) (chan : Option Nat) : State :=
  match s.job j with
  | none => s
  | some x =>
    let d := bits ref 16 9
    if !bit ref 25 || d == s.get .fab_DEV_ID || a == .thresh || a == .read then s.jobPeg j (ref % 2 ^ 16) a v
    else if (s.members x.ctx).contains d then s.sendPeg x.ctx (s.pegFlow x chan d) d (ref % 2 ^ 16) (a == .set) runb v
    else s.faultJob j 0x0811

/-! ## Reads and writes of GDDR6 for a job -/

/-- Record the first warning of a job (13 Table Host-5). -/
def State.warn (s : State) (j : JobId) (code : Nat) : State :=
  if code = 0 then s else s.updJob j (fun x => if x.warning = 0 then { x with warning := code } else x)

/-- Fault or poison that a failed read gives: an access violation faults the job. -/
def State.readFailed (s : State) (j : JobId) (code : Nat) : State := if code = 0x032A then s.faultJob j code else s

/-- A job write that is refused faults its job (06 R206, 07 R241): 0x032A, 0x0B0A for a part of a block that holds a coded form, or 0. -/
def State.writeRefused (s : State) (n : Nat) (j : JobId) (c a len : Nat) : State × Bool :=
  if !s.mayWrite c a len then
    (((s.bump .dowel_ACCESS_FAULTS n).set .dowel_ACCESS_FAULT_SEEN n 1).faultJob j 0x032A, true)
  else if s.partialWrite c a len then
    (((s.bump .froe_PARTIAL_WRITES).set .froe_PARTIAL_WRITE_SEEN 0 1).faultJob j 0x0B0A, true)
  else (s, false)

/-- The writes of what runs as they go at the pins (06 R220 to R222): a block that it writes in part is read first with outcome `rd`, and
the bursts go with outcome `wr`. A burst that fails for good faults the job that writes, if there is one. -/
def State.written {α : Type} (s : State) (job : Option JobId) (rd : ReadOutcome) (wr : WriteOutcome) (f : State → State × α) : State × α :=
  let parts := (((s.noted f).2.2.filter (·.2)).map (·.1)).eraseDups
  let (s, _) := s.readBlocks parts rd 0
  let (s, x, l) := s.noted f
  let (s, ok) := s.writeBursts ((l.map (·.1)).eraseDups) wr
  (match ok, job with | false, some j => s.faultJob j 0x032B | _, _ => s, x)

/-- The same of what gives no result. -/
def State.writes (s : State) (job : Option JobId) (rd : ReadOutcome) (wr : WriteOutcome) (f : State → State) : State :=
  (s.written job rd wr (fun s => (f s, ()))).1

/-- Dowel of bent `n` writes plain bytes for a job, outside every store operand. -/
def State.jobWrite (s : State) (n : Nat) (j : JobId) (c a : Nat) (bs : List Byte) : State :=
  let (s, no) := s.writeRefused n j c a bs.length
  if no then s else (s.writeVA c a bs).bump .dowel_GDDR6_WR_LINES n (blocksOf a bs.length).length

/-- What runs for a job finds ACTIVE of VERSIONED regions as it stood at the job's start, which holds for the whole job (06 R209). -/
def State.withHalves {α : Type} (s : State) (j : JobId) (f : State → State × α) : State × α :=
  let hs := ((s.job j).map (·.halves)).getD []
  let live := hs.map (fun h => (h.1, s.get .rgn_ACTIVE h.1))
  let put := fun (l : List (Nat × Nat)) (s : State) => forEach l (fun h s => s.set .rgn_ACTIVE h.1 h.2) s
  let (s, x) := f (put hs s)
  (put live s, x)

/-- What runs for job `j` and writes plain bytes: where it meets a part of a block that holds a coded form, the job faults (07 R241). -/
def State.catchPartial {α : Type} (s : State) (j : JobId) (f : State → State × α) : State × α :=
  let n := s.get .froe_PARTIAL_WRITES
  let (s, x) := f (s.set .froe_PARTIAL_WRITES 0 0)
  let k := s.get .froe_PARTIAL_WRITES
  let s := s.set .froe_PARTIAL_WRITES 0 (min (2 ^ 32 - 1) (n + k))
  (if k = 0 then s else s.faultJob j 0x0B0A, x)

/-- Lines that Dowel of bent `n` writes to these ranges, each counted once. -/
def State.countWrites (s : State) (n : Nat) (rs : List (Nat × Nat)) : State :=
  s.bump .dowel_GDDR6_WR_LINES n ((rs.flatMap (fun r => blocksOf r.1 r.2)).eraseDups).length

/-! ## Marks of written ranges -/

/-- Tile flags of the line sets that were written to a range (08 R270). -/
def State.lineFlags (s : State) (c a len : Nat) : Flags :=
  (s.camera.marks.filter (fun m => m.ctx == c && decide (m.addr < a + len ∧ a < m.addr + m.len))).foldl (fun f m => f.or m.flags) {}

/-- Reason with which a range poisons (07 R247), 0 for none. -/
def State.linePoison (s : State) (c a len : Nat) : Nat :=
  ((s.camera.marks.find? (fun m => m.poison != 0 && m.ctx == c && decide (m.addr < a + len ∧ a < m.addr + m.len))).map (·.poison)).getD 0

/-- What is written to a range carries these tile flags and this reason of poison, 0 for none (08 R270; 07 R247). -/
def State.markLines (s : State) (c a n : Nat) (f : Flags) (poison : Nat) : State :=
  let l := s.camera.marks.filter (fun m => !(m.ctx == c && decide (m.addr < a + n ∧ a < m.addr + m.len)))
  let m : LineMark := { ctx := c, addr := a, len := n, flags := f, poison := poison }
  { s with camera := { s.camera with marks := if f = {} ∧ poison = 0 then l else l ++ [m] } }

end Sys2Proof.Machine
end

