-- ==== Sys2Proof/Machine/PowerOps.lean ====
section
/-! DEFINITION. Which domains the enabled work needs, the power floor, and the gate that host writes pass (13 R415; 14 R427;
15 R448; 16 R471, R477; 17 R497). -/

namespace Sys2Proof.Machine

/-! ## The tree of domains (15 R446, Table Clocks-2) -/

/-- Parents of a domain. -/
def domParents (d : Nat) : List Nat :=
  if d < 9 then [54, 150] else if d < 18 then [d - 9] else if d < 54 then [(d - 18) / 4]
  else if d = 54 then [150, 140] else if d < 59 then [54] else if d < 67 then [55 + (d - 59) / 2]
  else if d < 69 then [54] else if d < 77 then [109, 150] else if d < 85 then [d - 8]
  else if d < 109 then [109] else if d = 109 then [140, 150] else if d = 110 then [140]
  else if d < 115 then [110] else if d < 120 then [120] else if d = 120 then [151]
  else if d = 121 then [120] else if d < 130 then [140, 150] else if d < 138 then [d - 8]
  else if d < 140 then [140] else if d = 140 then [151] else if d < 144 then [140]
  else if d = 144 then [] else if d < 147 then [140] else if d < 149 then [149]
  else if d = 149 then [140] else if d = 150 then [151] else []

/-- Children of a domain. -/
def domChildren (d : Nat) : List Nat := (List.range 152).filter (fun c => (domParents c).contains d)

/-- Parents of parents and so on; the tree has five levels. -/
def domAncestors : Nat → Nat → List Nat
  | 0, _ => []
  | n + 1, d => domParents d ++ (domParents d).flatMap (domAncestors n)

/-- Levels above a domain. -/
def domDepth : Nat → Nat → Nat
  | 0, _ => 0
  | n + 1, d => ((domParents d).map (fun p => domDepth n p + 1)).foldl max 0

/-! ## Enabled work -/

/-- Domains of physical bent `p` (Table Clocks-2). -/
def bentDomains (p : Nat) : List Nat := [p, 9 + p] ++ rangeFrom (18 + 4 * p) 4

/-- The domains of R448. -/
def State.alwaysOn (s : State) : List Nat :=
  [151, 140, 120, 144, 141 + s.get .rec_ACTIVE_ID, 141 + s.get .rec_STANDBY_ID]

/-- A domain and those that must be ON for it (15 R446). -/
def withParents (ds : List Nat) : List Nat := (ds.flatMap (fun d => d :: domAncestors 5 d)).eraseDups

/-- Domains that serve enabled camera streams, loop entries, the cascade and fabric-job entries (R471), with the spare lane positions that a
port uses (11 R331). -/
def State.servingDomains (s : State) : List Nat :=
  let cams := (s.indices .cam_ENABLE).flatMap (fun k =>
    [109, 69 + s.get .cam_JOINTER k, 85 + s.get .cam_PORT k])
  let loops := (s.indices .loop_ENABLE).flatMap (fun k =>
    [77 + s.get .cam_JOINTER k] ++ (if s.on .loop_CLEAT_EN k then [110, 111 + s.get .loop_BUS k / 6] else []))
  let casc := if s.on .casc_ENABLE then [121, 115 + s.get .rasp_LISTEN_GROUP] ++
    (if s.on .rasp_HQ_RUNNING then [119] else []) else []
  let fab := (s.indices .fjob_ENABLE).flatMap (fun c =>
    (s.others c).flatMap (fun d =>
      ((List.range 8).filter (fun p => s.on .routep_VALID (d * 8 + p))).flatMap (fun p => [122 + p, 130 + p] ++ (if s.on .kport_SPARE_ASSIGNED p then [138 + p / 4] else []))))
  withParents (cams ++ loops ++ casc ++ fab)

/-- Domains that the enabled work needs (R471). -/
def State.neededDomains (s : State) : List Nat :=
  let mem := if (s.indices .ctx_ENABLE).isEmpty then [] else withParents (rangeFrom 55 12)
  (s.alwaysOn ++ mem ++ s.servingDomains).eraseDups

/-- Graph of the rung that the cascade runs in STATE 2 or 3. -/
def State.runningRung (s : State) : List Nat :=
  if !s.on .casc_ENABLE then []
  else if s.get .casc_STATE = 2 then [s.get .casc_RUNG1_GRAPH]
  else if s.get .casc_STATE = 3 then [s.get .casc_RUNG2_GRAPH]
  else []

/-- Largest BENTS_NEEDED among the graphs of enabled loop entries and of the running rung (R471). -/
def State.floorBents (s : State) : Nat :=
  (((s.indices .loop_ENABLE).map (fun k => s.get .loop_GRAPH k) ++ s.runningRung).filterMap
    (fun g => (s.graph g).map Graph.bentsNeeded)).foldl max 0

/-- Table Power-1: divider of the main PLL, nominal voltage in mV, power of a busy bent and of its leakage in mW, by operating point. -/
def opTable : List (Nat × Nat × Nat × Nat) :=
  [(8, 850, 46000, 4000), (10, 800, 33000, 3600), (12, 760, 26000, 3400), (16, 700, 17000, 3100), (20, 670, 13000, 3000), (32, 620, 8000, 2700)]

/-- Row of an operating point. -/
def opRow (op : Nat) : Nat × Nat × Nat × Nat := opTable.getD op (32, 620, 8000, 2700)

/-- Divider of the main PLL at an operating point. -/
def opDivider (op : Nat) : Nat := (opRow op).1

/-- The most that a bent draws at an operating point and DUTY, in 0.1 mW: its leakage, and DUTY / 16 of the rest (R463, R469). -/
def bentPower (op duty : Nat) : Nat :=
  let (_, _, busy, leak) := opRow op
  leak * 10 + (busy - leak) * 10 * duty / 16

/-- FLOOR_W: the sum of R471 in milliwatts, rounded up to whole watts (log entry 13). Each bent counts at OP5 with DUTY 2. -/
def State.floorWatts (s : State) : Nat :=
  let mw := fun d => ((s.policy.minMw.find? (fun p => p.1 == d)).map (·.2)).getD 0
  cdiv (((s.neededDomains.map mw).sum * 10) + s.floorBents * bentPower 5 2) 10000

/-- A cap is in force: where every source sets 0, CAP_EFFECTIVE is 0 and there is no cap (16 R467). -/
def State.capped (s : State) : Bool := s.get .pwr_CAP_EFFECTIVE != 0

/-- FLOOR_OVER_CAP follows FLOOR_W and CAP_EFFECTIVE. -/
def State.floorOverCap (s : State) : State :=
  s.set .pwr_FLOOR_OVER_CAP 0 (b2n (s.capped && decide (s.get .pwr_CAP_EFFECTIVE < s.get .pwr_FLOOR_W)))

/-- Foreman recomputes FLOOR_W after an accepted enable or disable (R471). -/
def State.floorRecompute (s : State) : State := (s.set .pwr_FLOOR_W 0 s.floorWatts).floorOverCap

/-! ## The gate of host writes -/

/-- The parts of the device between which the gate distinguishes. -/
inductive Target where
  | wedge | startUp | staging | foreman | power | other
deriving DecidableEq, Repr

/-- A host write to a part of the device. In BLANK only Wedge takes writes, in DECOMMISSIONED nothing does (14 R430). While DEV_STATE is
START_UP only Wedge, the start-up block and the staging buffer take writes (14 R427); in FOREMAN_LOST only Wedge (13 R415); from SHUTDOWN_GO
on only Wedge, the start-up block, the Foreman block and the power block (17 R497): every other write is discarded and counted. During a
coolant stop only writes of the power block have effect (16 Table Power-5). -/
def State.hostWrite (s : State) (t : Target) (f : State → State) : State :=
  if s.boot.phase = .halted ∧ (s.get .wedge_LIFE_CYCLE = 4 ∨ t ≠ .wedge) then s.accessError
  else if s.get .host_DEV_STATE = 0 then
    if t = .wedge ∨ t = .startUp ∨ t = .staging then f s else s.accessError
  else if s.get .host_DEV_STATE = 2 then if t = .wedge then f s else s.accessError
  else if s.get .rec_SHUTDOWN_STATE ≠ 0 ∨ s.shutdownHeld then
    if t = .wedge ∨ t = .startUp ∨ t = .foreman ∨ t = .power then f s else s.accessError
  else if s.on .pwr_COOLANT_STOP then if t = .power then f s else s
  else f s

end Sys2Proof.Machine
end

