-- ==== Sys2Proof/Machine/Pegs.lean ====
section
/-! DEFINITION. The peg store window: enables, disables and host operations (01 R38 to R42), and the completion of WAITs. -/

namespace Sys2Proof.Machine

/-- The peg check for pegs 1,024 to 65,535 (R40). -/
def State.pegCheck (s : State) (i : Nat) : Nat :=
  let t := s.get .peg_TENANT i
  let c := s.get .peg_CONTEXT i
  firstCode
    [(0x030C, !(s.on .ctx_ENABLE c && s.get .ctx_TENANT c == t)), (0x030D, s.on .peg_WAKE i),
      (0x030E, s.get .ten_Q_PEGS t ≤ s.get .ten_PEGS_USED t)]

/-- A host attempt to enable, disable or change the owner of a peg from 0 to 1,023 (R40 step 1, R42): refused and counted. -/
def State.pegReserved (s : State) (i : Nat) : State := (s.refuse .peg_REASON i 0x030B).pegFault

/-- The RWL fields of DW2 of a peg entry (Table Stations-7). -/
def pegRwl : List Reg := [.peg_HOST_ACCESS, .peg_REMOTE_ACCESS, .peg_IRQ_EN, .peg_WAKE, .peg_CONTEXT]

/-- Store the RWL fields that a write of a DW carries (00 R11). -/
def State.storeFields (s : State) (i dw value : Nat) (l : List Reg) : State :=
  l.foldl (fun s r => if r.info.bit / 32 = dw then s.set r i (bits value (r.info.bit % 32) r.width) else s) s

/-- PEG_ENABLE (R40): the fields of the write are stored first, then the check runs on them (00 R11). -/
def State.pegEnable (s : State) (i value : Nat) : State :=
  if i < 1024 then s.pegReserved i
  else if s.on .peg_ENABLE i then s
  else
    let s := s.storeFields i 2 value pegRwl
    match s.pegCheck i with
    | 0 =>
      let t := s.setAll i [(.peg_ENABLE, 1), (.peg_REASON, 0)]
      State.afterPeg s (t.bump .ten_PEGS_USED (t.get .peg_TENANT i)) i
    | code => s.refuse .peg_REASON i code

/-- Meaning of PEG_ENABLE. -/
def execPegEnable (i : Fin 65536) (value : Word) (s : State) : Host.Outcome State Fault Refusal :=
  .next (s.hostWrite .other (fun s => s.pegEnable i.val value.toNat))

/-- An enabled entry names peg `i` in one of the roles of R40. -/
def State.entryNamesPeg (s : State) (i : Nat) : Bool :=
  (s.indices .ses_ENABLE).any (fun k => s.get .ses_TYPE k == 1 && s.get .ses_D7 k % 2 ^ 16 == i) ||
    (s.indices .rgn_ENABLE).any (fun k => s.get .rgn_KIND k == 4 && s.rgnPublish k == i) ||
    (s.indices .cam_ENABLE).any (fun k => s.get .cam_FRAME_PEG k == i) ||
    (s.indices .loop_ENABLE).any (fun k => (s.loopPegs k).contains i) ||
    (s.on .casc_ENABLE && s.cascadePegs.contains i)

/-- PEG_DISABLE (R40): refused with PEG_IN_USE while a queued or running job of the owning context or an enabled entry names
the peg. An accepted clear sets COUNT and THRESH to 0 (12 Table Tenants-4). -/
def State.pegDisable (s : State) (i : Nat) : State :=
  if i < 1024 then s.pegReserved i
  else if !s.on .peg_ENABLE i then s
  else if s.jobsNamePeg (s.get .peg_CONTEXT i) i || s.entryNamesPeg i then s.refuse .peg_REASON i 0x030F
  else
    let s := s.setAll i [(.peg_ENABLE, 0), (.peg_REASON, 0), (.peg_COUNT, 0), (.peg_THRESH, 0)]
    s.drop .ten_PEGS_USED (s.get .peg_TENANT i)

/-- Meaning of PEG_DISABLE. -/
def execPegDisable (i : Fin 65536) (s : State) : Host.Outcome State Fault Refusal :=
  .next (s.hostWrite .other (fun s => s.pegDisable i.val))

/-- The host may write COUNT, THRESH and the ADD alias of a peg (R39, R42). -/
def State.pegHost (s : State) (i : Nat) : Bool := 1024 ≤ i && s.on .peg_ENABLE i && s.on .peg_HOST_ACCESS i

/-- A host operation on a peg: discarded and counted unless the host may write it. A CREDIT that it raises is told at once (11 R350). -/
def State.hostPeg (s : State) (i : Nat) (f : State → State) : State :=
  if s.pegHost i then (f s).creditAcks (s.get .peg_CONTEXT i) else s.pegFault

/-- Meaning of PEG_COUNT_WRITE: SET (R39). -/
def execPegCountWrite (i : Fin 65536) (value : Word) (s : State) : Host.Outcome State Fault Refusal :=
  .next (s.hostWrite .other (fun s => s.hostPeg i.val (fun s => s.pegSet i.val value.toNat)))

/-- Meaning of PEG_THRESH_WRITE: SET_THRESHOLD (R39). -/
def execPegThreshWrite (i : Fin 65536) (value : Word) (s : State) : Host.Outcome State Fault Refusal :=
  .next (s.hostWrite .other (fun s => s.hostPeg i.val (fun s => s.pegThresh i.val value.toNat)))

/-- Meaning of PEG_ADD_ALIAS_WRITE: ADD (R38, R39). -/
def execPegAddAliasWrite (i : Fin 65536) (value : Word) (s : State) : Host.Outcome State Fault Refusal :=
  .next (s.hostWrite .other (fun s => s.hostPeg i.val (fun s => s.pegAdd i.val value.toNat)))

/-- Meaning of PEG_EVQ_HEAD_WRITE (13 R412): accepted under the rule of 13 R402; otherwise PEG_EVQ_HEAD keeps its value. -/
def execPegEvqHeadWrite (h : BitVec 16) (s : State) : Host.Outcome State Fault Refusal :=
  .next (s.hostWrite .other (fun s =>
    let head := s.get .host_PEG_EVQ_HEAD
    if (h.toNat + 2 ^ 16 - head) % 2 ^ 16 ≤ (s.get .host_PEG_EVQ_TAIL + 2 ^ 16 - head) % 2 ^ 16 then
      s.set .host_PEG_EVQ_HEAD 0 h.toNat
    else s))

end Sys2Proof.Machine
end

