-- ==== Sys2Proof/Machine/Tenants.lean ====
section
/-! DEFINITION. Tenants, contexts and their quotas (12 R363 to R371). -/

namespace Sys2Proof.Machine

/-- A quota of the tenant entry with its usage field and its class maximum (Tables Tenants-1 and Tenants-2). -/
def quotas : List (Reg × Reg × Reg) :=
  [(.ten_Q_MEM_PAGES, .ten_MEM_USED, .cls_MAX_MEM_PAGES), (.ten_Q_SESSIONS, .ten_SESSIONS_USED, .cls_MAX_SESSIONS),
    (.ten_Q_PEGS, .ten_PEGS_USED, .cls_MAX_PEGS), (.ten_Q_STREAMS, .ten_STREAMS_USED, .cls_MAX_STREAMS),
    (.ten_Q_CONTEXTS, .ten_CONTEXTS_USED, .cls_MAX_CONTEXTS)]

/-- Usage fields of the tenant entry. -/
def usageFields : List Reg :=
  [.ten_MEM_USED, .ten_SESSIONS_USED, .ten_PEGS_USED, .ten_STREAMS_USED, .ten_CONTEXTS_USED, .ten_FROE_USED]

/-- Another tenant in STATE 1 or 2 has the same PASID (R365). -/
def State.pasidInUse (s : State) (t : Nat) : Bool :=
  (s.indices .ten_STATE).any (fun u => u != t && s.get .ten_PASID u == s.get .ten_PASID t)

/-- The tenant check (R365). -/
def State.tenantCheck (s : State) (t : Nat) : Nat :=
  let k := s.get .ten_CLASS t
  firstCode
    [(0x0207, s.get .ten_STATE t == 2), (0x0201, !s.on .cls_VALID k), (0x0202, s.get .ten_PASID t == 0),
      (0x0203, s.pasidInUse t), (0x0204, quotas.any (fun q => s.get q.2.2 k < s.get q.1 t))]

/-- TENANT_ENABLE: a host write of 1 to ENABLE of a tenant entry that is clear runs the tenant check (R365). -/
def State.tenantEnable (s : State) (t : Nat) : State :=
  if s.on .ten_ENABLE t then s
  else
    match s.tenantCheck t with
    | 0 => (s.resetFields t usageFields).setAll t [(.ten_ENABLE, 1), (.ten_STATE, 1), (.ten_REASON, 0)]
    | code => s.refuse .ten_REASON t code

/-- Meaning of TENANT_ENABLE. -/
def execTenantEnable (t : Fin 4096) (s : State) : Host.Outcome State Fault Refusal :=
  .next (s.hostWrite .other (fun s => s.tenantEnable t.val))

/-- One quota of a write to an enabled tenant (R366): it takes effect only within its usage and its class maximum. -/
def State.quotaField (s : State) (t v : Nat) (q : Reg × Reg × Reg) : Nat × State :=
  let (r, used, top) := q
  if v < s.get used t then (0x0206, s)
  else if s.get top (s.get .ten_CLASS t) < v then (0x0204, s)
  else (0, s.set r t v)

/-- The quotas that lie in DW3 or DW4 of a tenant entry. -/
def quotasOf (dw4 : Bool) : List (Reg × Reg × Reg) := if dw4 then quotas.drop 2 else quotas.take 2

/-- A quota write (R366). While ENABLE is 0 it is stored as written. While ENABLE is 1 each field is checked on its own, and
REASON takes the first refusal, or 0 when none is refused (00 R533). -/
def State.quotaWrite (s : State) (t : Nat) (dw4 : Bool) (value : Nat) : State :=
  let field := fun (r : Reg) => bits value (r.info.bit % 32) r.width
  if !s.on .ten_ENABLE t then (quotasOf dw4).foldl (fun s q => s.set q.1 t (field q.1)) s
  else
    let (code, s) := (quotasOf dw4).foldl (fun (p : Nat × State) q =>
      let (c, s) := p.2.quotaField t (field q.1) q
      (if p.1 = 0 then c else p.1, s)) (0, s)
    s.set .ten_REASON t code

/-- Meaning of QUOTA_WRITE. -/
def execQuotaWrite (t : Fin 4096) (dw4 : Bool) (value : Word) (s : State) : Host.Outcome State Fault Refusal :=
  .next (s.hostWrite .other (fun s => s.quotaWrite t.val dw4 value.toNat))

/-- A closing tenant reaches STATE 0 and frees its PASID once MEM_USED is 0 (R367). -/
def State.tenantClosed (s : State) (t : Nat) : State :=
  if s.get .ten_STATE t = 2 ∧ s.get .ten_MEM_USED t = 0 then s.set .ten_STATE t 0 else s

/-- Erase a key slot of Wedge (R382). -/
def State.eraseKey (s : State) (k : Nat) : State :=
  { s.setAll k [(.wkey_SLOT_STATE, 0), (.wkey_SLOT_TENANT, 0), (.wkey_SLOT_FJOB_ID, 0)] with
    jobKeys := s.jobKeys.filter (fun x => x.1 != k) }

/-- Zero and free the mailbox pages of a ring (13 R405). -/
def State.freeMailbox (s : State) (r : Nat) : State :=
  if s.on .ring_LOCATION r then s
  else
    let n := s.ringBytes r
    let a := s.get .ring_MBX_PAGE r * 4096
    { s with memory := { s.memory with bar4 := Mem.clear s.memory.bar4 a n } }

/-- An accepted disable of a result ring (13 R405): STATE 2, its mailbox pages zeroed and freed, then STATE 0. -/
def State.ringOff (s : State) (r : Nat) : State :=
  let s := (s.freeMailbox r).setAll r [(.ring_ENABLE, 0), (.ring_STATE, 0), (.ring_REASON, 0)]
  { s with ringsOpening := s.ringsOpening.filter (· != r) }

/-- Enabled rings of a tenant. -/
def State.ringsOf (s : State) (t : Nat) : List Nat := (s.indices .ring_ENABLE).filter (fun r => s.get .ring_TENANT r == t)

/-- TENANT_DISABLE (R367): refused while CONTEXTS_USED is above 0. An accepted clear erases every LOADED key slot of the
tenant, disables each of its rings (13 R405) and enters STATE 2. -/
def State.tenantDisable (s : State) (t : Nat) : State :=
  if !s.on .ten_ENABLE t then s
  else if s.on .ten_CONTEXTS_USED t then s.refuse .ten_REASON t 0x0205
  else
    let ks := (List.range 256).filter (fun k => s.get .wkey_SLOT_STATE k == 1 && s.get .wkey_SLOT_TENANT k == t)
    let s := forEach ks (fun k s => s.eraseKey k) s
    let s := forEach (s.ringsOf t) (fun r s => s.ringOff r) s
    (s.setAll t [(.ten_ENABLE, 0), (.ten_STATE, 2), (.ten_REASON, 0)]).tenantClosed t

/-- Meaning of TENANT_DISABLE. -/
def execTenantDisable (t : Fin 4096) (s : State) : Host.Outcome State Fault Refusal :=
  .next (s.hostWrite .other (fun s => s.tenantDisable t.val))

/-! ## Contexts -/

/-- The context check (R370). -/
def State.contextCheck (s : State) (c : Nat) : Nat :=
  let t := s.get .ctx_TENANT c
  firstCode
    [(0x0313, s.get .ctx_STATE c == 2), (0x0310, s.get .ten_STATE t != 1),
      (0x0312, s.get .ctx_PRIO c < s.get .cls_PRIO_MIN (s.get .ten_CLASS t)),
      (0x0311, s.get .ten_CONTEXTS_USED t == s.get .ten_Q_CONTEXTS t)]

/-- RO fields of the context entry (Table Tenants-3). -/
def ctxReadOnly : List Reg :=
  [.ctx_STATE, .ctx_REASON, .ctx_HEAD, .ctx_TAIL, .ctx_DB_REASON, .ctx_RESIDENT_MASK, .ctx_JOBS_DONE, .ctx_LAST_FAULT]

/-- CONTEXT_ENABLE (R370): on acceptance every RO field of the entry and every field of its 16 job entries takes its Reset
value, the next job takes JOB_SEQ 0, and STATE becomes 1. -/
def State.contextEnable (s : State) (c : Nat) : State :=
  if s.on .ctx_ENABLE c then s
  else
    match s.contextCheck c with
    | 0 =>
      let s := s.resetFields c ctxReadOnly
      let s := forEach (List.range 16) (fun e s => s.resetFields (c * 16 + e) jobFields) s
      let s : State := { s with
        stopped := s.stopped.filter (fun k => k / 16 != c), jobSeq := Store.put 0 s.jobSeq c 0 }
      let s := s.setAll c [(.ctx_ENABLE, 1), (.ctx_STATE, 1)]
      (s.bump .ten_CONTEXTS_USED (s.get .ctx_TENANT c)).floorRecompute
    | code => s.refuse .ctx_REASON c code

/-- Meaning of CONTEXT_ENABLE. -/
def execContextEnable (c : Fin 16384) (s : State) : Host.Outcome State Fault Refusal :=
  .next (s.hostWrite .other (fun s => s.contextEnable c.val))

/-- The context still has something that R371 names; the pegs below 1,024 are the device's own (01 R40). -/
def State.contextInUse (s : State) (c : Nat) : Bool :=
  s.contextBusy c || (List.range 32).any (fun r => s.on .rgn_ENABLE (c * 32 + r)) ||
    (s.indices .peg_ENABLE).any (fun i => 1024 ≤ i && s.get .peg_CONTEXT i == c) || s.on .pool_ENABLE c ||
    (s.indices .ses_ENABLE).any (fun k => s.get .ses_CONTEXT k == c) ||
    (s.indices .cam_ENABLE).any (fun k => s.get .cam_CONTEXT k == c) ||
    (s.indices .loop_ENABLE).any (fun k => s.get .cam_CONTEXT k == c) ||
    (s.on .casc_ENABLE && s.get .casc_CONTEXT == c) || s.on .fjob_ENABLE c

/-- Froe slots of a context become SUPERSEDED (07 R245). -/
def State.supersedeContext (s : State) (c : Nat) : State :=
  forEach ((List.range 64).filter (fun k =>
    (s.on .ftab_VALID k || s.on .ftab_BUILDING k) && !s.on .ftab_SUPERSEDED k && s.get .ftab_OWNER k == c)) (fun k s =>
    let s := if s.on .ftab_VALID k then s.drop .froe_SLOTS_VALID else s
    (s.set .ftab_SUPERSEDED k 1).bump .froe_SLOTS_SUPERSEDED) s

/-- CONTEXT_DISABLE (R371). An accepted clear passes through STATE 2: the context's Froe slots become SUPERSEDED and its
context record is zeroed; then STATE is 0. -/
def State.contextDisable (s : State) (c : Nat) : State :=
  if !s.on .ctx_ENABLE c then s
  else if s.contextInUse c then s.refuse .ctx_REASON c 0x0314
  else
    let s := s.supersedeContext c
    let s := s.setAll c [(.ctx_ENABLE, 0), (.ctx_STATE, 0), (.ctx_REASON, 0)]
    (s.drop .ten_CONTEXTS_USED (s.get .ctx_TENANT c)).floorRecompute

/-- Meaning of CONTEXT_DISABLE. -/
def execContextDisable (c : Fin 16384) (s : State) : Host.Outcome State Fault Refusal :=
  .next (s.hostWrite .other (fun s => s.contextDisable c.val))

end Sys2Proof.Machine
end

