-- ==== Sys2Proof/Machine/Regions.lean ====
section
/-! DEFINITION. The commands of region maps and of GDDR6: enables, scrubs, the patrol, retraining, self-refresh (06 R204 to
R209, R222 to R224). -/

namespace Sys2Proof.Machine

/-- Pages of 2 MiB that an enable of region entry `k` needs (R205): none for SHARE and HOST. -/
def State.pagesNeeded (s : State) (k : Nat) : Nat :=
  match s.get .rgn_KIND k with
  | 1 => s.get .rgn_SIZE k / 2 ^ 21
  | 4 => 2 * (s.get .rgn_SIZE k / 2 ^ 21)
  | _ => 0

/-- Source entry of a SHARE entry. -/
def State.shareSource (s : State) (k : Nat) : Nat := rgnIdx (s.get .rgn_SRC_CONTEXT k) (s.get .rgn_SRC_REGION k)

/-- R204 step 4. -/
def State.regionMisaligned (s : State) (k : Nat) : Bool :=
  let size := s.get .rgn_SIZE k
  let kind := s.get .rgn_KIND k
  s.get .rgn_VA k % 2 ^ 21 != 0 || size == 0 || ((kind == 1 || kind == 4) && size % 2 ^ 21 != 0) ||
    (kind == 3 && size % 2 ^ 12 != 0) || 2 ^ 48 < s.get .rgn_VA k + s.rgnSpan k ||
    (kind == 3 && s.rgnHostAddr k % 2 ^ 12 != 0)

/-- The range overlaps that of another enabled entry of the context (R204 step 5). -/
def State.regionOverlaps (s : State) (c r : Nat) : Bool :=
  let k := rgnIdx c r
  (List.range 32).any (fun q =>
    let j := rgnIdx c q
    q != r && s.on .rgn_ENABLE j && s.get .rgn_VA k < s.get .rgn_VA j + s.rgnSpan j &&
      s.get .rgn_VA j < s.get .rgn_VA k + s.rgnSpan k)

/-- The region check (R204). -/
def State.regionCheck (s : State) (c r : Nat) : Nat :=
  let k := rgnIdx c r
  let kind := s.get .rgn_KIND k
  let src := s.shareSource k
  let sc := s.get .rgn_SRC_CONTEXT k
  let t := s.tenantOf c
  let p := s.rgnPublish k
  firstCode
    [(0x0303, !s.on .ctx_ENABLE c), (0x0329, s.get .rgn_STATE k == 3),
      (0x0320, kind < 1 || 4 < kind || (s.on .rgn_WRITABLE k && kind != 1)), (0x0321, s.regionMisaligned k),
      (0x0322, s.regionOverlaps c r),
      (0x0323, kind == 2 && (!s.on .rgn_ENABLE src || s.get .rgn_KIND src != 1 || sc == c || s.tenantOf sc != t ||
        s.get .rgn_SIZE src != s.get .rgn_SIZE k)),
      (0x0324, kind == 2 && ((s.on .rgn_WRITABLE src && s.contextBusy sc) || s.rangeIn src s.tableRecords ||
        s.get .rgn_SHARERS src == 4095)),
      (0x0328, kind == 2 && s.rangeIn src s.deviceBuffers),
      (0x0325, kind == 4 && (!s.pegOwned p c || s.on .peg_HOST_ACCESS p || s.on .peg_REMOTE_ACCESS p)),
      (0x0326, s.get .ten_Q_MEM_PAGES t < s.get .ten_MEM_USED t + s.pagesNeeded k),
      (0x0327, s.get .mem_PAGES_FREE < s.pagesNeeded k)]

/-- RWL fields of DW0 of a region entry. -/
def rgnRwl : List Reg := [.rgn_KIND, .rgn_WRITABLE, .rgn_PROTECTED]

/-- REGION_ENABLE (R204, R205): the fields of the write are stored first (00 R11). An accepted PRIVATE or VERSIONED enable takes its pages,
retire-pending ones among them (R223), and is in STATE 1 until REGION_READY; SHARE and HOST enter STATE 2 at once. An enable triggers an
exit from self-refresh (R224). -/
def State.regionEnable (s : State) (c r value : Nat) : State :=
  let k := rgnIdx c r
  if s.on .rgn_ENABLE k then s
  else
    let s := s.storeFields k 0 value rgnRwl
    match s.regionCheck c r with
    | 0 =>
      let n := s.pagesNeeded k
      let s := s.setAll k [(.rgn_ENABLE, 1), (.rgn_REASON, 0), (.rgn_ACTIVE, 0), (.rgn_RETIRE_PENDING, 0), (.rgn_SHARERS, 0),
        (.rgn_VERSION, 0)]
      let s := s.exitSelfRefresh
      match s.get .rgn_KIND k with
      | 2 => (s.set .rgn_STATE k 2).bump .rgn_SHARERS (s.shareSource k)
      | 3 => s.set .rgn_STATE k 2
      | _ =>
        let (ps, s) := s.takePages n
        let bad := ps.filter (fun p => s.memory.pending.contains p)
        let s : State := { s with memory := { s.memory with pages := s.memory.pages ++ [⟨k, ps⟩] } }
        let s := (s.bump .mem_RETIRE_PENDING 0 bad.length).set .rgn_RETIRE_PENDING k (b2n !bad.isEmpty)
        (s.set .rgn_STATE k 1).bump .ten_MEM_USED (s.tenantOf c) n
    | code => s.refuse .rgn_REASON k code

/-- Meaning of REGION_ENABLE. -/
def execRegionEnable (c : Fin 16384) (r : Fin 32) (value : Word) (s : State) : Host.Outcome State Fault Refusal :=
  .next (s.hostWrite .other (fun s => s.regionEnable c.val r.val value.toNat))

/-- REGION_READY (R205): the translation is written, which waits while GDDR6 is in self-refresh (R224). -/
def State.regionReady (s : State) (c r : Nat) : State :=
  let k := rgnIdx c r
  if s.get .rgn_STATE k = 1 ∧ s.refresh = .active then s.set .rgn_STATE k 2 else s

/-- Meaning of REGION_READY. -/
def execRegionReady (c : Fin 16384) (r : Fin 32) (s : State) : Host.Outcome State Fault Refusal :=
  .next (s.regionReady c.val r.val)

/-- REGION_IN_USE (R207). -/
def State.regionInUse (s : State) (c r : Nat) : Bool :=
  let k := rgnIdx c r
  s.contextBusy c || s.on .rgn_SHARERS k || s.rangeIn k s.tableRecords || s.rangeIn k s.deviceBuffers

/-- REGION_DISABLE (R207): a SHARE entry releases its source; a PRIVATE or VERSIONED entry enters STATE 3 and its pages enter
scrubbing. -/
def State.regionDisable (s : State) (c r : Nat) : State :=
  let k := rgnIdx c r
  if !s.on .rgn_ENABLE k then s
  else if s.regionInUse c r then s.refuse .rgn_REASON k 0x0328
  else
    let s := s.setAll k [(.rgn_ENABLE, 0), (.rgn_REASON, 0)]
    match s.get .rgn_KIND k with
    | 2 => (s.set .rgn_STATE k 0).drop .rgn_SHARERS (s.shareSource k)
    | 3 => s.set .rgn_STATE k 0
    | _ =>
      let ps := s.rgnPages k
      let s := s.drop .mem_RETIRE_PENDING 0 (ps.filter (fun p => s.memory.pending.contains p)).length
      let s : State := { s with memory := { s.memory with pages := s.memory.pages.filter (fun p => p.key != k) } }
      let s : State := { s with memory := { s.memory with leaving := s.memory.leaving ++ [(k, ps.length, s.tenantOf c)] } }
      (s.setAll k [(.rgn_STATE, 3), (.rgn_RETIRE_PENDING, 0)]).scrubPages ps (some k)

/-- Meaning of REGION_DISABLE. -/
def execRegionDisable (c : Fin 16384) (r : Fin 32) (s : State) : Host.Outcome State Fault Refusal :=
  .next (s.hostWrite .other (fun s => s.regionDisable c.val r.val))

/-! ## Scrubbing and retiring -/

/-- First free entry of the retired list. -/
def State.retiredSlot (s : State) : Option Nat := (List.range 1024).find? (fun i => !s.on .ret_VALID i)

/-- A scrubbed page goes to the free pool, or when it is retire-pending to the retired list, or, the list being full, it is
withheld until the next start-up (R207, R223). -/
def State.releasePage (s : State) (p : Nat) : State :=
  if s.memory.pending.contains p then
    let s : State := { s with memory := { s.memory with pending := s.memory.pending.filter (· != p) } }
    let s := s.drop .mem_PAGES_TOTAL
    match s.retiredSlot with
    | some i => (s.setAll i [(.ret_RETIRED_PAGE, p), (.ret_VALID, 1), (.ret_PERSISTED, 0)]).bump .mem_RETIRED
    | none =>
      { s.set .mem_RETIRED_LIST_FULL 0 1 with memory := { s.memory with withheld := s.memory.withheld ++ [p] } }
  else s.bump .mem_PAGES_FREE

/-- SCRUB_PAGE_DONE (R207): every block of the page at the front is zero with fresh check symbols. When the last page of a
region is done its STATE becomes 0, and the quota of the tenant that the pages counted for is released; when it is closing it may then
close (12 R367). -/
def State.scrubDone (s : State) : State :=
  match s.memory.scrub with
  | [] => s
  | f :: rest =>
    if s.refresh ≠ .active then s
    else
      let m := s.memory
      let m := { m with
        scrub := rest, ddr := Mem.clear m.ddr (f.page * 2 ^ 21) (2 ^ 21),
        check := m.check.filter (fun p => p.1 / 2 ^ 15 != f.page), bad := m.bad.filter (fun b => b / 2 ^ 15 != f.page)
        stored := m.stored.filter (fun b => b / 2 ^ 9 != f.page) }
      let s : State := { s with memory := m }
      let s := (s.drop .mem_PAGES_SCRUBBING).releasePage f.page
      match f.region with
      | none => s
      | some k =>
        if rest.any (fun x => x.region == some k) then s
        else
          let (n, t) := ((s.memory.leaving.find? (fun p => p.1 == k)).map (·.2)).getD (0, s.tenantOf (k / 32))
          let s : State := { s with memory := { s.memory with leaving := s.memory.leaving.filter (fun p => p.1 != k) } }
          ((s.set .rgn_STATE k 0).drop .ten_MEM_USED t n).tenantClosed t

/-- Meaning of SCRUB_PAGE_DONE. -/
def execScrubPageDone (s : State) : Host.Outcome State Fault Refusal := .next s.scrubDone

/-- Data blocks, and with them the places of the patrol: 15 data blocks and their check block take 16 (Table Memory-5). -/
def State.patrolPlaces (s : State) : Nat := (if s.on .mem_CLAMSHELL then 60 else 30) * 2 ^ 24 / 15 * 16

/-- The data blocks that check block `g` covers: channel g mod 32, then the quarter of the frame, then the frame (R219). -/
def patrolGroup (g : Nat) : List Nat := coveredBy (g % 32) (g / 128) (g / 32 % 4)

/-- Data blocks at place `x` of the patrol's order: one block, or for a check block those that it covers. -/
def patrolBlocks (x : Nat) : List Nat :=
  let l := patrolGroup (x / 16)
  if x % 16 = 15 then l else [l.getD (x % 16) 0]

/-- The patrol reads a check block that covers these data blocks. An uncorrectable one makes the data blocks read as uncorrectable until
each is rewritten (Table Memory-6). -/
def State.patrolCheck (s : State) (blocks : List Nat) (o : ReadOutcome) : State :=
  match o with
  | .uncorrectable pa _ => (s.readBlocks (blocks.filter (fun b => !s.memory.bad.contains b)) (.uncorrectable pa true) 1).1
  | o => (s.readBlocks (blocks.filter (fun b => !s.memory.bad.contains b)) o 1).1

/-- PATROL_READ (R222): the patrol reads the data or check block at its pointer with this outcome, in an order of its own (log entry 46);
it pauses in self-refresh (Table Memory-7). A corrected block is rewritten; an uncorrectable one makes its page retire-pending. -/
def State.patrolRead (s : State) (o : ReadOutcome) : State :=
  if s.refresh ≠ .active then s
  else
    let x := s.memory.patrol
    let s := if x % 16 = 15 then s.patrolCheck (patrolBlocks x) o else (s.readBlocks (patrolBlocks x) o 1).1
    { s with memory := { s.memory with patrol := (x + 1) % s.patrolPlaces } }

/-- Meaning of PATROL_READ. -/
def execPatrolRead (outcome : ReadOutcome) (s : State) : Host.Outcome State Fault Refusal := .next (s.patrolRead outcome)

/-- CHANNEL_RETRAIN (R222): after eight failed repeats of a write burst at `pa` the channel retrains and repeats the access once
more. When that attempt fails too, the page becomes retire-pending and the write has failed, with the job that made it. The repeats of a
read are an outcome of that read. -/
def State.channelRetrain (s : State) (ch : Nat) (ok : Bool) (r : Retry) : State :=
  let s := ((s.bump .mem_EDC_RETRIES 0 8).bump .memch_CH_EDC_RETRIES ch 8).retrain ch
  if ok then s
  else
    let s := s.writeFailed r.pa
    match r.job with
    | none => s
    | some j => s.faultJob j 0x032B

/-- Meaning of CHANNEL_RETRAIN. -/
def execChannelRetrain (ch : Fin 32) (ok : Bool) (at' : Retry) (s : State) : Host.Outcome State Fault Refusal :=
  .next (s.channelRetrain ch.val ok at')

/-! ## Self-refresh (Table Memory-7) -/

/-- SELF_REFRESH_ENTRY: Foreman's request. The controllers stop admitting accesses (Entry 1). With no job that has accesses of its own in
progress the entry completes at once: SELF_REFRESH is set, and the PHY and controller domains enter RETENTION (Entry 2 to 5); otherwise a
further SELF_REFRESH_ENTRY completes it, unless an access or an exit request has cancelled it before. Scrub and patrol pause and keep their
progress (Entry 2). -/
def State.selfRefreshEntry (s : State) : State :=
  if s.boot.lastResort then s
  else
    match s.refresh with
    | .active => if s.jobs.isEmpty then sleep s else { s with refresh := .entering }
    | .entering => sleep s
    | _ => s
where
  sleep (s : State) : State := { (s.set .mem_SELF_REFRESH 0 1).setDoms (rangeFrom 55 12) 1 with refresh := .asleep }

/-- Meaning of SELF_REFRESH_ENTRY. -/
def execSelfRefreshEntry (s : State) : Host.Outcome State Fault Refusal := .next s.selfRefreshEntry

/-- SELF_REFRESH_EXIT: an exit is requested. An entry that has not reached step 4 is cancelled and SELF_REFRESH is never set; an
exit from self-refresh completes with SELF_REFRESH clear and the domains ON (Exit 1 to 4). After the last-resort sequence and during
a coolant stop there is no exit (16 Table Power-5, 17 Table Spares-5). -/
def State.selfRefreshExit (s : State) : State :=
  if s.boot.lastResort || s.on .pwr_COOLANT_STOP then s else match s.refresh with
  | .active => s
  | .entering => { s with refresh := .active }
  | _ =>
    let s := s.set .mem_SELF_REFRESH 0 0
    let s := s.setDoms (rangeFrom 55 12) 2
    { s with refresh := .active }

end Sys2Proof.Machine
end

