-- ==== Sys2Proof/Machine/HostPort.lean ====
section
/-! DEFINITION. The host port: register writes, latching reads, the link and the configuration space (00 R7 to R11; 13 R392 to
R398; 15 R452; 19 R527 to R529). -/

namespace Sys2Proof.Machine

/-! ## Finding the fields of an address -/

/-- Entry indices of a window that holds offset `off`: its field index and the byte offset within the entry. -/
def Window.locate (w : Window) (off : Nat) : Option (Nat × Nat) :=
  if off < w.base then none
  else
    let d := off - w.base
    let a := if w.s1 = 0 then 0 else d / w.s1
    let d := d - a * w.s1
    let b := if w.s2 = 0 then 0 else d / w.s2
    let d := d - b * w.s2
    if a < w.n1 ∧ b < w.n2 ∧ d < w.size then some (w.idx0 + a * w.m1 + b * w.m2, d) else none

/-- Bits of a field in the DW at byte offset `d` of its entry, as (first bit of the field, first bit of the DW, length);
none where the field does not reach into it. -/
def fieldPart (bit width d : Nat) : Option (Nat × Nat × Nat) :=
  let lo := max bit (8 * d)
  let hi := min (bit + width) (8 * d + 32)
  if lo < hi then some (lo - bit, lo - 8 * d, hi - lo) else none

/-- The bits of a W1C field that the device has set in the present cycle of CK_CTL: a write does not clear them (00 R10). -/
def State.setNow (s : State) (r : Reg) (i : Nat) : Nat :=
  let old := Store.get (r.resetAt i) s.before (regKey r i)
  s.get r i - (s.get r i &&& old)

/-- Effect of a 32-bit write on one field (Table Scope-5). A field with a row of its own in the table of commands is left
to that command. -/
def State.writeField (s : State) (w : Window) (i d value : Nat) (r : Reg) : State :=
  let f := r.info
  match fieldPart (f.bit + w.skew) f.width d with
  | none => s
  | some (fb, db, n) =>
    if f.own then s
    else
      let old := s.get r i
      let v := bits value db n
      match f.kind with
      | .ro => s
      | .rw => s.set r i (setBits old fb n v)
      | .rwl =>
        match w.lock with
        | some e => if s.on e (i / w.lockDiv) then s else s.set r i (setBits old fb n v)
        | none => s.set r i (setBits old fb n v)
      | .w1c => s.set r i (setBits old fb n (bits old fb n &&& (2 ^ n - 1 - v ||| bits (s.setNow r i) fb n)))
      | .w1s => s.set r i (setBits old fb n (bits old fb n ||| v))

/-- A window applies at an address: of the two layouts of a session entry only the one of its TYPE (04 Table Scarf-8,
05 Table Truss-3); DW0 to DW7 are shared. -/
def State.windowApplies (s : State) (w : Window) (i d : Nat) : Bool :=
  if w.fields == sesFields then d < 32 || s.get .ses_TYPE i != 2
  else if w.fields == strFields then s.get .ses_TYPE i == 2
  else true

/-- A write to the fields of every window that holds the DW at `off`. -/
def State.writeWindows (s : State) (off value : Nat) : State :=
  windows.foldl (fun s w =>
    match w.locate off with
    | some (i, d) =>
      if s.windowApplies w i (d - d % 4) then w.fields.foldl (fun s r => s.writeField w i (d - d % 4) value r) s else s
    | none => s) s

/-- The offset lies in a block of Table Map-1 or a table of Table Map-3. -/
def inBlock (off : Nat) : Bool := (blocks ++ tables).any (fun b => b.1 ≤ off && off < b.1 + b.2)

/-- Part of the device that a BAR0 offset addresses. -/
def targetOf (off : Nat) : Target :=
  if 0x0E000000 ≤ off ∧ off < 0x0F000000 then .wedge
  else if 0x0F060000 ≤ off ∧ off < 0x0F070000 then .startUp
  else if 0x0F070000 ≤ off ∧ off < 0x0F080000 then .staging
  else if 0x0D002000 ≤ off ∧ off < 0x0D003000 then .power
  else if 0x0D000000 ≤ off ∧ off < 0x0E000000 then .foreman
  else .other

/-! ## Fields that the device recomputes -/

/-- A size rounded up to 4 KiB (04 R141). -/
def round4K (n : Nat) : Nat := cdiv n 4096 * 4096

/-- Start offsets of the areas of a pool region and its size (04 Table Scarf-7): reference counts, page stack, chunk stack,
deferred queue, chunk frames, pages, end. -/
def poolAreas (pages chunks pageBytes : Nat) : List Nat :=
  let refs := 4096
  let pstack := refs + round4K (2 * pages)
  let cstack := pstack + round4K (4 * pages)
  let defer := cstack + round4K (4 * chunks)
  let frames := defer + round4K (8 * (pages + chunks))
  let data := frames + 4096 * chunks
  [refs, pstack, cstack, defer, frames, data, data + round4K (pages * pageBytes)]

/-- PAGE_BYTES and POOL_BYTES of a pool entry (04 Table Scarf-6). -/
def State.poolSizes (s : State) (c : Nat) : State :=
  let pb := s.get .kvc_PAGE_BYTES (s.get .pool_KV_CLASS c)
  s.setAll c [(.pool_PAGE_BYTES, pb), (.pool_POOL_BYTES, (poolAreas (s.get .pool_PAGES c) (s.get .pool_CHUNKS c) pb).getD 6 0)]

/-- STATE_BYTES of a stream: BATCH rows of ROW_BYTES (05 R177, Table Truss-3). -/
def State.streamSize (s : State) (k : Nat) : State :=
  s.set .str_STATE_BYTES k ((s.get .ses_D3 k % 128 + 1) * s.get .rcl_ROW_BYTES (s.get .ses_D2 k % 64))

/-- Buffer bytes per sample of a data type (08 Table Ingest-2). -/
def dtBytes (dt : Nat) : Nat := if dt = 0x2F then 4 else 2

/-- WIDTH of a template. -/
def State.tmplWidth (s : State) (t : Nat) : Nat := s.get .tmpl_WIDTH_M1 t + 1
/-- HEIGHT of a template. -/
def State.tmplHeight (s : State) (t : Nat) : Nat := s.get .tmpl_HEIGHT_M1 t + 1
/-- Number of exposures of a template. -/
def State.tmplExposures (s : State) (t : Nat) : Nat := s.get .tmpl_NEXP_M1 t + 1

/-- BUFFER_BYTES of a camera stream (08 R265), in units of 64 bytes. -/
def State.bufferBytes (s : State) (k : Nat) : State :=
  let t := s.get .cam_TEMPLATE k
  s.set .cam_BUFFER_BYTES k (cdiv (65 * s.tmplWidth t * s.tmplExposures t * dtBytes (s.get .tmpl_EXP_DT0 t)) 64)

/-- Fields that a write of the DW at `off` makes the device recompute, and messages that an unmasked vector releases. -/
def State.afterWrite (s : State) (off : Nat) : State :=
  if 0x14100000 ≤ off ∧ off < 0x14200000 then s.poolSizes ((off - 0x14100000) / 64)
  else if 0x14000000 ≤ off ∧ off < 0x14060000 then
    let k := (off - 0x14000000) / 128
    if s.get .ses_TYPE k = 2 then s.streamSize k else s
  else if 0x15000000 ≤ off ∧ off < 0x15003000 then
    if off % 128 = 4 then s.bufferBytes ((off - 0x15000000) / 128) else s
  else if off = 0x16000004 then s.set .peg_REMOTE_ACCESS 66 (s.get .casc_RUNG3_EN)
  else if 0x0F050000 ≤ off ∧ off < 0x0F058000 then State.flushVector ((off - 0x0F050000) / 16) s
  else s

/-! ## REGISTER_WRITE -/

/-- Domain that holds the RW and W1S fields of the DW at `off` and that may be other than ON while the host can write
(15 R452): I3C groups, Kertik ports, and the gains, lanes and beams of the high-quality path. -/
def domainOfWrite (off : Nat) : Option Nat :=
  if 0x0A000000 ≤ off ∧ off < 0x0A018000 then some (111 + (off - 0x0A000000) / 0x1000 / 6)
  else if 0x0B000000 ≤ off ∧ off < 0x0B100000 then some (122 + (off - 0x0B000000) / 0x20000)
  else if 0x0F020100 ≤ off ∧ off < 0x0F030000 then some 119
  else none

/-- The DW at `off` holds an RW or W1S field: what R452 defers; a write to a reserved address is ignored (00 R9). -/
def heldDW (off : Nat) : Bool :=
  windows.any (fun w =>
    match w.locate off with
    | some (_, d) => w.fields.any (fun r =>
        (r.info.kind == .rw || r.info.kind == .w1s) && (fieldPart (r.info.bit + w.skew) r.info.width (d - d % 4)).isSome)
    | none => false)

/-- A write to a field of a domain that is not ON waits for it and raises a demand (15 R452). -/
def State.whenOn (s : State) (d : Nat) (w : DeferredWrite) (f : State → State) : State :=
  if s.domainOn d then f s else ({ s with deferred := s.deferred ++ [(d, w)] } : State).demand d

/-- A 32-bit write at an aligned offset of BAR0 that the gate has let pass. -/
def State.writeDW (s : State) (off value : Nat) : State :=
  if 0x0F070000 ≤ off ∧ off < 0x0F080000 then
    { s with staging := Mem.writeNum 0 s.staging (off - 0x0F070000) 4 value }
  else if 0x0C000000 ≤ off ∧ off < 0x0C100000 then
    let i := (off - 0x0C000000) / 16
    if i < 1024 then (if off % 16 < 8 then s.pegFault else s.pegReserved i) else s.writeWindows off value
  else if 0x0B000000 ≤ off ∧ off < 0x0B100000 ∧ 0x1000 ≤ off % 0x20000 ∧ off % 0x20000 < 0x1080 ∧ off % 16 = 0 then
    let s := s.writeWindows off value
    if bit value 0 then s
    else s.set .krule_EN ((off - 0x0B000000) / 0x20000 * 8 + (off % 0x20000 - 0x1000) / 16) 0
  else if 0x14000000 ≤ off ∧ off < 0x14060000 ∧ (off % 128 = 48 ∨ off % 128 = 52) ∧
      s.get .ses_TYPE ((off - 0x14000000) / 128) ≠ 2 ∧ s.on .ses_EDIT_BUSY ((off - 0x14000000) / 128) then
    s.set .ses_EDIT_OVERRUN ((off - 0x14000000) / 128) 1
  else if 0x04000000 ≤ off ∧ off < 0x06000000 ∧ !s.on .bent_PRESENT ((off - 0x04000000) / 0x400000) then s
  else (s.writeWindows off value).afterWrite off

/-- A 32-bit host write to BAR0 (00 R7, R9; 19 R527, R529). -/
def State.hostDW (s : State) (off value : Nat) : State :=
  if !inBlock off then s.accessError
  else
    s.hostWrite (targetOf off) (fun s =>
      match domainOfWrite off with
      | some d =>
        if heldDW off then s.whenOn d (.register off value) (fun s => s.writeDW off value) else s.writeDW off value
      | none => s.writeDW off value)

/-- A write to BAR2 that no doorbell row covers: an offset of 0x008 to 0xFFF of a page is reserved (Table Host-3). -/
def State.hostDoorbellDW (s : State) (off : Nat) : State :=
  if 8 ≤ off % 4096 then s.accessError else s

/-- Bytes of a BAR (Table Host-1). -/
def barBytes : Bar → Nat
  | .bar0 => 2 ^ 29
  | .bar2 => 2 ^ 24
  | .bar4 => 2 ^ 24

/-- A host write (00 R7): narrow or misaligned accesses and every write to BAR4 (13 R398) are discarded and counted; a 64-bit
write acts as two 32-bit writes, the lower address first. -/
def State.registerWrite (s : State) (bar : Bar) (off : Nat) (width : Width) (value : Nat) : State :=
  if width = .w8 ∨ width = .w16 ∨ off % width.bytes ≠ 0 ∨ bar = .bar4 then s.accessError
  else
    let one := fun (s : State) (off v : Nat) =>
      if bar = .bar0 then s.hostDW off v else s.hostDoorbellDW off
    let s := one s off (value % 2 ^ 32)
    if width = .w64 then one s (off + 4) (value / 2 ^ 32) else s

/-- Meaning of REGISTER_WRITE. An offset beyond the BAR addresses nothing. -/
def execRegisterWrite (bar : Bar) (off : Nat) (width : Width) (value : DWord) (s : State) :
    Host.Outcome State Fault Refusal :=
  if barBytes bar < off + width.bytes then .fault .outsideBar
  else .next (s.registerWrite bar off width value.toNat)

/-! ## Latching reads -/

/-- A read of CLIPPED_LO of bent `n` latches the upper half in CLIPPED_HI (02 R90, 13 R398). The read is served unless the bent is not
present (01 R60). -/
def State.latchClipped (s : State) (n : Nat) : State :=
  if s.on .bent_PRESENT n then s.set .gauge_CLIPPED_HI n (Store.get 0 s.clippedHigh n) else s

/-- A read of HIST_SAMPLES_LO of bent `n` latches the upper half (09 Table Jointer-10, 13 R398). -/
def State.latchHist (s : State) (n : Nat) : State :=
  if s.on .bent_PRESENT n then s.set .hist_HIST_SAMPLES_HI n (Store.get 0 s.histHigh n) else s

/-- What a read of the DW at offset `off` of BAR0 latches. -/
def State.latch (s : State) (off : Nat) : State :=
  if off < 0x04000000 ∨ 0x06000000 ≤ off then s
  else
    let n := (off - 0x04000000) / 0x400000
    let d := off % 0x400000
    if d = 0x90000 + Reg.gauge_CLIPPED_LO.info.bit / 8 then s.latchClipped n
    else if d = 0x91000 + Reg.hist_HIST_SAMPLES_LO.info.bit / 8 then s.latchHist n
    else s

/-- CLIPPED_LO_READ (02 R90, 13 R398). -/
def execClippedLoRead (n : Fin 8) (s : State) : Host.Outcome State Fault Refusal := .next (s.latchClipped n.val)

/-- HIST_SAMPLES_LO_READ (09 Table Jointer-10, 13 R398). -/
def execHistSamplesLoRead (n : Fin 8) (s : State) : Host.Outcome State Fault Refusal := .next (s.latchHist n.val)

/-- Add to a 64-bit counter whose low half is a field and whose high half a read latches. -/
def add64 (lo hi n : Nat) : Nat × Nat := let t := lo + 2 ^ 32 * hi + n; (t % 2 ^ 32, t / 2 ^ 32 % 2 ^ 32)

/-! ## The link and the configuration space -/

/-- The rate of R392 that a module's highest rate allows. -/
def linkRate (r : Nat) : Nat := ([32, 24, 16, 12, 8, 4].find? (fun x => x ≤ r)).getD 0

/-- UCIE_LINK_TRAIN (R392, R393): the highest rate that both modules reach; when one does not train at any rate the link runs on the other
alone and LINK_DEGRADED is set. The repaired lanes go to the health record of the modules, units 31 and 32 (17 Table Spares-7, log entry
123). -/
def State.linkTrain (s : State) (m0 m1 : ModuleTrain) : State :=
  let r0 := linkRate m0.rate.toNat
  let r1 := linkRate m1.rate.toNat
  let both := r0 ≠ 0 ∧ r1 ≠ 0
  let s := s.setAll 0
    [(.host_LINK_RATE, if both then min r0 r1 else max r0 r1), (.host_MOD0_UP, b2n (r0 != 0)), (.host_MOD1_UP, b2n (r1 != 0)),
      (.host_MOD0_REPAIRED, b2n (m0.repairs != 0 && r0 != 0)), (.host_MOD1_REPAIRED, b2n (m1.repairs != 0 && r1 != 0))]
  let good := Store.put 0 (Store.put 0 s.health.good 31 m0.repairs.toNat) 32 m1.repairs.toNat
  let s : State := { s with health := { s.health with good := good } }
  if (r0 = 0) ≠ (r1 = 0) then s.event .host_LINK_DEGRADED else s

/-- Meaning of UCIE_LINK_TRAIN. -/
def execUcieLinkTrain (m0 m1 : ModuleTrain) (s : State) : Host.Outcome State Fault Refusal := .next (s.linkTrain m0 m1)

/-- What the function shows of itself (Table Host-1). -/
structure FunctionIdentity where
  vendor : Nat
  device : Nat := 0x8640
  revision : Nat
  classCode : Nat := 0x120000
  subVendor : Nat
  subId : Nat
  serial : Nat
deriving DecidableEq, Repr

/-- Identity of the function (R395): its subsystem IDs are those of the running image, 0 before one runs (14 R430). -/
def State.identity (s : State) : FunctionIdentity :=
  { vendor := Config.vendorId, revision := Config.revisionId, subVendor := s.boot.subVendor, subId := s.boot.subId
    serial := s.get .wedge_SERIAL_LO + 2 ^ 32 * s.get .wedge_SERIAL_HI }

/-- Capabilities of the function with what Table Host-1 says of them; others are absent. -/
inductive Capability where
  | pciExpress (flitMode tenBitTags relaxedOrdering functionReset : Bool) (maxPayload : Nat)
  | powerManagement (d0 d3hot : Bool)
  | msix (vectors table pba : Nat)
  | pasid (width : Nat) (execute privileged : Bool)
  | advancedErrorReporting
  | deviceSerialNumber
deriving DecidableEq, Repr

/-- The capability list (Table Host-1). -/
def capabilities : List Capability :=
  [.pciExpress true true false false 512, .powerManagement true true, .msix 2048 0x0F050000 0x0F058000, .pasid 20 false false,
    .advancedErrorReporting, .deviceSerialNumber]

/-- The configuration space at its reset values (R396). -/
def State.configReset (s : State) (d3 : Bool) : State := { s with busMaster := false, d3hot := d3, config := {} }

/-- Meaning of HOT_RESET (R396): the configuration space returns to its reset values; nothing else of the device changes. -/
def execHotReset (d3 : Bool) (s : State) : Host.Outcome State Fault Refusal := .next (s.configReset d3)

/-- The configuration space after a write of D0. -/
def State.configure (s : State) (w : ConfigWrite) : State :=
  let base := fun (a : BitVec 64) (size : Nat) => a.toNat - a.toNat % size
  { s with busMaster := w.busMaster, d3hot := false, config :=
      { memorySpace := w.memorySpace, msixEnable := w.msixEnable, functionMask := w.functionMask, pasidEnable := w.pasidEnable
        bar0 := base w.bar0 (barBytes .bar0), bar2 := base w.bar2 (barBytes .bar2), bar4 := base w.bar4 (barBytes .bar4) } }

/-- Meaning of CONFIG_SPACE_WRITE (R396, R410). Entry into D3hot returns the configuration space to its reset values. Once nothing holds
them any more, messages held in the PBA go out. Results that wait at step 2 are written by their next RESULT_SLOT_WRITE. -/
def execConfigSpaceWrite (w : ConfigWrite) (d0 : Bool) (s : State) : Host.Outcome State Fault Refusal :=
  let s := if d0 then s.configure w else s.configReset true
  .next (forEach (s.indices .pba_PENDING) State.flushVector s)

end Sys2Proof.Machine
end

