-- ==== Sys2Proof/Machine/LoftOps.lean ====
section
/-! DEFINITION. Loft and context slots: WRITTEN lines, regions, tiles, residency and eviction (01 R25 to R29, R55; 06 R211 to
R214). -/

namespace Sys2Proof.Machine

/-! ## Lines -/

/-- Bytes of a Loft line as context `c` reads it: the stored data when the line is WRITTEN and owned by `c`, zeros otherwise
(06 R212). -/
def Lofts.readLine (l : Lofts) (n line c : Nat) : List Byte :=
  if Store.get 0 l.owner (n * 2 ^ 20 + line) = c + 1 then Mem.readBytes 0 l.data (n * 2 ^ 26 + line * 64) 64
  else List.replicate 64 0

/-- `k` lines from `line` upwards, as context `c` reads them. -/
def Lofts.readLines (l : Lofts) (n line k c : Nat) : List Byte := (rangeFrom line k).flatMap (fun x => l.readLine n x c)

/-- Write bytes from the start of `line` upwards for context `c`: each line written becomes WRITTEN and owned by `c`; a last
line that the bytes fill in part takes zeros for the rest. -/
def Lofts.writeLines (l : Lofts) (n line c : Nat) (bs : List Byte) : Lofts :=
  let k := cdiv bs.length 64
  let pad := bs ++ List.replicate (k * 64 - bs.length) 0
  { l with
    data := Mem.writeBytes 0 l.data (n * 2 ^ 26 + line * 64) pad
    owner := (rangeFrom line k).foldl (fun o x => Store.put 0 o (n * 2 ^ 20 + x) (c + 1)) l.owner }

/-- Clear WRITTEN on `k` lines (06 R212). -/
def Lofts.clearLines (l : Lofts) (n line k : Nat) : Lofts :=
  { l with
    data := Mem.clear l.data (n * 2 ^ 26 + line * 64) (k * 64)
    owner := l.owner.filter (fun p => !(n * 2 ^ 20 + line ≤ p.1 && p.1 < n * 2 ^ 20 + line + k)) }

/-! ## Errors -/

/-- An error in a line of bent `n` counts for its bank row (06 R210, R213): line L lies in bank L mod 32, row floor(L / 1,536). A row that
had an uncorrectable error, or whose corrected errors reach LOFT_ROW_CE, is listed for repair. -/
def State.rowError (s : State) (n line : Nat) (ue : Bool) : State :=
  let bank := line % 32
  let row := line / 1536
  let key := n * 2 ^ 14 + bank * 512 + row
  let c := Store.get 0 s.lofts.rowCE key + b2n !ue
  let item := (s.get .bent_PHYSICAL n, bank, row)
  let l := s.lofts
  { s with lofts := { l with
      rowCE := Store.put 0 l.rowCE key c
      repair := if (ue || decide (s.loftRowCE ≤ c)) && !l.repair.contains item then l.repair ++ [item] else l.repair } }

/-- A Loft read of the lines that `takes` names, by bent and line (06 R213, log entry 124): the new state and 0, or 0x032D for an
uncorrectable line. -/
def State.loftRead (s : State) (takes : Nat → Nat → Bool) (o : LoftOutcome) : State × Nat :=
  match o with
  | .clean => (s, 0)
  | .corrected n x => (if takes n.val x then (s.rowError n.val x false).bump .dowel_LOFT_CE n.val else s, 0)
  | .uncorrectable n x =>
    if takes n.val x then
      (((s.rowError n.val x true).bump .dowel_POISONED_READS n.val).set .dowel_LOFT_UE_SEEN n.val 1, 0x032D)
    else (s, 0)

/-! ## Regions -/

/-- The context slot of a job on bent `n`. -/
def State.resident (s : State) (j : JobId) (n : Nat) : Option Resident :=
  s.residents.find? (fun x => x.job == j && x.bent == n)

/-- A region of a started job: its definition, the bent that holds it, and the job's slot there. -/
structure RegionRef where
  defn : RegionDef
  bent : Nat
  slot : Nat
  /-- First Loft line (BASE_LINE). -/
  base : Nat
  ctx : Nat
  fullPeg : Nat
  freePeg : Nat
deriving DecidableEq, Repr

/-- Region `r` of job `j`, none while the job is not resident on the bent that holds it in STATE 2. -/
def State.regionRef (s : State) (j : Job) (r : Nat) : Option RegionRef := do
  let g ← s.graph j.graph
  let d ← g.region r
  let n ← j.bents[d.pos]?
  let x ← s.resident j.id n
  let e ← x.regions.find? (fun p => p.1 == r)
  if s.get .slot_STATE (n * 64 + x.slot) = 2 then
    some { defn := d, bent := n, slot := x.slot, base := s.get .rt_BASE_LINE (n * 1024 + e.2), ctx := j.ctx,
           fullPeg := j.pegBase + d.fullPeg, freePeg := j.pegBase + d.freePeg }
  else none

/-- The producer may write tile `q` (R26): q < N, or FREE_PEG has reached k x (q - N + 1). -/
def State.mayProduce (s : State) (r : RegionRef) (q : Nat) : Bool :=
  q < r.defn.nslots || hasReached 32 (s.get .peg_COUNT r.freePeg) (r.defn.ncons * (q - r.defn.nslots + 1))

/-- A consumer may read tile `q` (R26): FULL_PEG has reached q + 1. -/
def State.mayConsume (s : State) (r : RegionRef) (q : Nat) : Bool := hasReached 32 (s.get .peg_COUNT r.fullPeg) (q + 1)

/-- First line of tile `q`: slot q mod N. -/
def RegionRef.tileLine (r : RegionRef) (q : Nat) : Nat := r.base + q % r.defn.nslots * r.defn.slotLines

/-- The descriptor in the slot of tile `q`. -/
def State.tileAt (s : State) (r : RegionRef) (q : Nat) : Option TileAt :=
  s.lofts.tiles.find? (fun t => t.bent == r.bent && t.slot == r.slot && t.region == r.defn.num &&
    t.place == q % r.defn.nslots)

/-- Write the descriptor and the data of tile `q` (R20, R21); LINE, REGION, SEQ, CONTEXT and LEN_LINES are the
region's. A POISON or SKIPPED tile writes no data (R22, R23). -/
def State.putTile (s : State) (r : RegionRef) (q : Nat) (d : TileDesc) (data : List Byte) (marks : List Bool) (guarded : Bool) : State :=
  let len := if d.poison || d.skipped then 0 else cdiv data.length 64
  let d := { d with
    line := r.tileLine q, region := r.defn.num, seq := q, ctx := r.ctx, lenLines := len }
  let t : TileAt := { bent := r.bent, slot := r.slot, region := r.defn.num, place := q % r.defn.nslots, desc := d,
                      marks := marks, guarded := guarded }
  let l := if len = 0 then s.lofts else s.lofts.writeLines r.bent (r.tileLine q) r.ctx data
  let keep := l.tiles.filter (fun x => !(x.bent == t.bent && x.slot == t.slot && x.region == t.region && x.place == t.place))
  { s with lofts := { l with tiles := keep ++ [t] } }

/-- Data lines of tile `q` as its context reads them. -/
def State.tileData (s : State) (r : RegionRef) (q : Nat) : List Byte :=
  match s.tileAt r q with
  | some t => s.lofts.readLines r.bent (r.tileLine q) t.desc.lenLines r.ctx
  | none => []

/-- Output tiles of operator `o` that no longer need their inputs: those done, but for a Scribe tile whose Kerf half its reader has
not used yet, since an eviction makes Scribe expand it again (03 R100), and for a stored tile that an encoder still holds, since its
writes must be visible before the peg operations that follow them (01 R36). -/
def State.doneFor (s : State) (j : Job) (o : Nat) (d : OpDef) : Nat :=
  ((s.froeBuilds.filter (fun b => b.job == j.id)).flatMap (fun b => (b.tiles.filter (fun t => t.1 == o)).map (·.2))).foldl min <|
  (s.kerf.filter (fun h => h.maker == o * 8 + d.pos &&
    s.residents.any (fun x => x.job == j.id && x.bent == h.bent && x.slot == h.slot))).foldl (fun q h => min q h.tile)
    (Store.get 0 j.progress (o * 8 + d.pos))

/-- Input `k` of operator `o` of a job: FREE_PEG grows by the tiles that are in the region and that no output tile still to compute needs
(R26, R27). -/
def State.releaseInput (s : State) (j : Job) (o : Nat) (d : OpDef) (k : Nat) (i : OpIn) : State :=
  match s.regionRef j i.region with
  | none => s
  | some x =>
    let key := (o * 8 + d.pos) * 16 + k
    let full := s.get .peg_COUNT x.fullPeg
    let q := s.doneFor j o d
    let goal := if j.ntiles o d ≤ q then full else i.released q full
    let old := Store.get 0 j.freed key
    if goal ≤ old then s
    else (s.updJob j.id (fun y => { y with freed := Store.put 0 y.freed key goal })).jobPeg j.id x.freePeg .add (goal - old)

/-- Every consumer of the job releases what it no longer needs (R26, R27). -/
def State.releaseInputs (s : State) (id : JobId) : State :=
  match s.job id with
  | none => s
  | some j =>
    match s.graph j.graph with
    | none => s
    | some g =>
      forEach g.ops.zipIdx (fun (d, o) s => forEach d.ins.zipIdx (fun (i, k) s => s.releaseInput j o d k i) s) s

/-! ## Residency (R55) -/

/-- First line of slot space of bent `n` (06 R211). -/
def State.slotSpace (s : State) (n : Nat) : Nat := s.get .truss_CACHE_LINES n + s.get .dowel_WSTREAM_LINES n

/-- Slot ranges in use on bent `n`: (first line, lines). -/
def State.slotRanges (s : State) (n : Nat) : List (Nat × Nat) :=
  (s.residents.filter (fun x => x.bent == n)).map (fun x =>
    (s.get .slot_LOFT_BASE (n * 64 + x.slot), s.get .slot_LOFT_LINES (n * 64 + x.slot)))

/-- First-fit of `k` lines in the slot space of bent `n` (06 R211): the lowest line at which they fit is the start of the space
or the end of a range in use. -/
def State.loftFit (s : State) (n k : Nat) : Option Nat :=
  let used := s.slotRanges n
  let starts := s.slotSpace n :: used.map (fun u => u.1 + u.2)
  let fits := starts.filter (fun a =>
    a + k ≤ 786432 && used.all (fun u => u.2 == 0 || k == 0 || a + k ≤ u.1 || u.1 + u.2 ≤ a))
  match fits with
  | [] => none
  | a :: l => some (l.foldl min a)

/-- Free context slots of bent `n`. -/
def State.freeSlots (s : State) (n : Nat) : List Nat := (List.range 64).filter (fun x => s.get .slot_STATE (n * 64 + x) == 0)

/-- Free region-table entries of bent `n`. -/
def State.freeRegionEntries (s : State) (n : Nat) : List Nat :=
  (List.range 1024).filter (fun x => !s.on .rt_VALID (n * 1024 + x))

/-- Regions of a job's graph that lie on bent `n`. -/
def State.regionsOn (s : State) (j : Job) (n : Nat) : List RegionDef :=
  match s.graph j.graph with
  | some g => g.regions.filter (fun d => j.bents[d.pos]? == some n)
  | none => []

/-- Fields of the region-table entry of a region (Table Stations-3). -/
def State.loadRegion (s : State) (j : Job) (n sl base : Nat) (d : RegionDef) (e : Nat) : State :=
  let prod := if d.producer.2 = 0xF then 0x0F else (j.bents.getD d.producer.1 0) * 32 + d.producer.2
  s.setAll (n * 1024 + e)
    [(.rt_VALID, 1), (.rt_SLOT, sl), (.rt_PRODUCER, prod), (.rt_NCONS, d.ncons), (.rt_BASE_LINE, base + d.base),
      (.rt_SLOT_LINES_M1, d.slotLines - 1), (.rt_NSLOTS_M1, d.nslots - 1), (.rt_FULL_PEG, j.pegBase + d.fullPeg),
      (.rt_FREE_PEG, j.pegBase + d.freePeg)]

/-- RESIDENT_MASK of a context and RESIDENT of a bent follow the slots in use. -/
def State.residentCounts (s : State) (c n : Nat) : State :=
  let mine := s.residents.filter (fun x => ((s.job x.job).map (·.ctx)) == some c)
  (s.set .ctx_RESIDENT_MASK c (listMask (mine.map (·.bent)).eraseDups)).set .bent_RESIDENT n
    (s.residents.filter (fun x => x.bent == n)).length

/-- Dowel of bent `n` works for context slot `sl`, or for none (Table Memory-8, CUR_CONTEXT and CUR_SLOT; log entry 9). -/
def State.dowelCurrent (s : State) (n : Nat) : State :=
  match (List.range 64).find? (fun sl => s.get .slot_STATE (n * 64 + sl) == 1) with
  | some sl => s.setAll n [(.dowel_CUR_CONTEXT, s.get .slot_CONTEXT (n * 64 + sl)), (.dowel_CUR_SLOT, sl)]
  | none => s.setAll n [(.dowel_CUR_CONTEXT, 0), (.dowel_CUR_SLOT, 0)]

/-- Free a context slot of bent `n`: its region entries, Loft lines and Kerf half (06 R211, R212; 03 R99). -/
def State.freeSlot (s : State) (x : Resident) (c : Nat) : State :=
  let k := x.bent * 64 + x.slot
  let l := s.lofts.clearLines x.bent (s.get .slot_LOFT_BASE k) (s.get .slot_LOFT_LINES k)
  let l := { l with tiles := l.tiles.filter (fun t => !(t.bent == x.bent && t.slot == x.slot)) }
  let s := forEach x.regions (fun p s => s.resetFields (x.bent * 1024 + p.2) rtFields) s
  let s := s.resetFields k slotFields
  let s : State := { s with
    lofts := l, kerf := s.kerf.filter (fun h => !(h.bent == x.bent && h.slot == x.slot))
    residents := s.residents.filter (fun y => !(y.bent == x.bent && y.slot == x.slot)) }
  (s.residentCounts c x.bent).dowelCurrent x.bent

/-- Give job `j` the slot `sl` of bent `n` with `base` as its first Loft line; STATE is 1 while saved lines are to be
restored, else 2 (R55, 06 R214). TILES goes on from what the job had completed there. A context with two running jobs (09 R285) holds
one slot for each (log entry 22); until a station serves the slot, it counts as scheduled now (log entry 23). -/
def State.giveSlot (s : State) (j : Job) (n sl base : Nat) : State :=
  let lines := ((s.graph j.graph).map (·.loftLines)).getD 0
  let saved := s.saves.find? (fun v => v.job == j.id && v.bent == n)
  let ds := s.regionsOn j n
  let es := (s.freeRegionEntries n).take ds.length
  let s := s.setAll (n * 64 + sl)
    [(.slot_CONTEXT, j.ctx), (.slot_STATE, if saved.isSome then 1 else 2), (.slot_PRIO, j.prio), (.slot_GRAPH, j.graph),
      (.slot_PEG_BASE, j.pegBase), (.slot_LOFT_BASE, base), (.slot_LOFT_LINES, lines), (.slot_JOB_SEQ, j.seq),
      (.slot_TILES, (saved.map (·.progress)).getD 0)]
  let s := forEach (ds.zip es) (fun (d, e) s => s.loadRegion j n sl base d e) s
  let s : State := { s with
    lofts := s.lofts.clearLines n base lines
    residents := s.residents ++
      [{ bent := n, slot := sl, job := j.id, regions := (ds.zip es).map (fun (d, e) => (d.num, e)), served := s.decisions }] }
  (s.residentCounts j.ctx n).dowelCurrent n

/-- Lines of a slot's range that are WRITTEN and owned by its context (06 R214). -/
def State.liveLines (s : State) (x : Resident) (c : Nat) : List Nat :=
  let k := x.bent * 64 + x.slot
  let base := s.get .slot_LOFT_BASE k
  (s.lofts.owner.filter (fun p =>
    p.2 == c + 1 && x.bent * 2 ^ 20 + base ≤ p.1 && p.1 < x.bent * 2 ^ 20 + base + s.get .slot_LOFT_LINES k)).map
    (fun p => p.1 - x.bent * 2 ^ 20)

/-- Save pages that the eviction of a slot needs (06 R214). -/
def State.savePages (s : State) (x : Resident) (c : Nat) : Nat := cdiv ((s.liveLines x c).length * 64) (2 ^ 21)

/-- A slot is protected from eviction (R58, 06 R214): a job of its context has a recurrent chunk in flight or a Scarf step that holds a
page-list generation, or there are too few free save pages. -/
def State.protectedSlot (s : State) (x : Resident) : Bool :=
  match s.job x.job with
  | none => true
  | some j =>
    s.jobs.any (fun y => y.ctx == j.ctx && (y.inFlight.isSome || y.holdsGeneration)) ||
      s.get .mem_PAGES_FREE < s.savePages x j.ctx

/-- The slot of bent `n` that R55 evicts: of those in STATE 2 that are not protected the numerically largest class, then the
least recently scheduled. -/
def State.victim (s : State) (n : Nat) : Option Resident :=
  let l := s.residents.filter (fun x =>
    x.bent == n && s.get .slot_STATE (n * 64 + x.slot) == 2 && !s.protectedSlot x)
  let prio := fun (x : Resident) => s.get .slot_PRIO (n * 64 + x.slot)
  l.foldl (fun best x =>
    match best with
    | none => some x
    | some b => if prio b < prio x ∨ (prio b = prio x ∧ x.served < b.served) then some x else some b) none

/-- The Kerf halves of a slot are discarded at its eviction (03 R100): Scribe expands their tiles again. -/
def State.discardHalves (s : State) (x : Resident) : State :=
  let hs := s.kerf.filter (fun h => h.bent == x.bent && h.slot == x.slot)
  if hs.isEmpty then s
  else
    let s := (s.bump .scribe_KERF_DISCARDS x.bent hs.length).set .scribe_DISCARD_SEEN x.bent 1
    forEach hs (fun h s => s.updJob x.job (fun j =>
      { j with progress := Store.put 0 j.progress h.maker (min (Store.get 0 j.progress h.maker) h.tile) })) s

/-- The tile that holds one of these lines is poisoned (R23): its data did not reach its reader. -/
def TileAt.spoil (t : TileAt) (lost : List Nat) (code : Nat) : TileAt :=
  if !t.desc.poison && !t.desc.skipped && lost.any (fun y => decide (t.desc.line ≤ y ∧ y < t.desc.line + t.desc.lenLines)) then
    { t with desc := { t.desc with poison := true, reason := code, lenLines := 0 } }
  else t

/-- GDDR6 block of the `i`-th saved line. -/
def Save.blockOf (v : Save) (i : Nat) : Nat := v.pages.getD (i / 32768) 0 * 32768 + i % 32768

/-- The line that a Loft read loses, if any. -/
def lostLine (code : Nat) (o : LoftOutcome) : List Nat :=
  match o with
  | .uncorrectable _ y => if code = 0 then [] else [y]
  | _ => []

/-- Evict a resident context (R55, 06 R214): its live lines are read (06 R213) and go to save pages (06 R222) with their descriptors, and
the slot is freed. Among slots scheduled at the same time the first listed goes (log entry 23). -/
def State.evict (s : State) (x : Resident) (loft : LoftOutcome) (wr : WriteOutcome) : State :=
  match s.job x.job with
  | none => s
  | some j =>
    let base := s.get .slot_LOFT_BASE (x.bent * 64 + x.slot)
    let ls := s.liveLines x j.ctx
    let (s, code) := s.loftRead (fun n y => n == x.bent && ls.contains y) loft
    let lost := lostLine code loft
    let (ps, s) := s.takePages (s.savePages x j.ctx)
    let save : Save :=
      { job := x.job, bent := x.bent, pages := ps
        lines := (ls.filter (fun l => !lost.contains l)).map (fun l => (l - base, s.lofts.readLine x.bent l j.ctx))
        tiles := (s.lofts.tiles.filter (fun t => t.bent == x.bent && t.slot == x.slot)).map
          (fun t => let t := t.spoil lost code; { t with desc := { t.desc with line := t.desc.line - base } })
        progress := s.get .slot_TILES (x.bent * 64 + x.slot) }
    let n := save.lines.length
    let s := { (s.bump .dowel_SAVE_LINES x.bent n).bump .dowel_GDDR6_WR_LINES x.bent n with saves := s.saves ++ [save] }
    let s := (s.discardHalves x).freeSlot x j.ctx
    let (s, ok) := s.writeBursts ((List.range n).map save.blockOf) wr
    if ok then s else s.faultJob x.job 0x032B

/-- A started job's context becomes resident on bent `n` (R55): a slot, region-table entries and Loft space are free together,
after an eviction when all 64 slots are in use; its saves wait while GDDR6 admits no accesses (06 R224). When that fails the job waits and
EVENT.SLOT_WAIT is set. -/
def State.contextResident (s : State) (jid : JobId) (n : Nat) (loft : LoftOutcome) (wr : WriteOutcome) : State :=
  match s.job jid with
  | none => s
  | some j =>
    if j.finished || !j.bents.contains n || (s.resident jid n).isSome || !s.on .bent_PRESENT n then s
    else if (s.freeSlots n).isEmpty && s.refresh != .active then s.exitSelfRefresh
    else
      let s := if (s.freeSlots n).isEmpty then (match s.victim n with | some x => s.evict x loft wr | none => s) else s
      let lines := ((s.graph j.graph).map (·.loftLines)).getD 0
      match s.freeSlots n, s.loftFit n lines with
      | sl :: _, some base =>
        if (s.regionsOn j n).length ≤ (s.freeRegionEntries n).length then s.giveSlot j n sl base
        else s.set .bent_SLOT_WAIT n 1
      | _, _ => s.set .bent_SLOT_WAIT n 1

/-- The saved lines are read from their pages (06 R221): the offsets of those that do not arrive. -/
def State.readSaved (s : State) (v : Save) (rd : ReadOutcome) : State × List Nat :=
  v.lines.zipIdx.foldl (fun (acc : State × List Nat) p =>
    let (s, ok) := acc.1.readBlocks [v.blockOf p.2] rd 0
    (s, if ok then acc.2 else acc.2 ++ [p.1.1])) (s, [])

/-- CONTEXT_RESTORED (06 R214): every saved line is written back at its offset from the new LOFT_BASE, descriptors move with it,
the save pages enter scrubbing, and STATE becomes 2. A tile with a line that did not arrive is poisoned (06 R221). -/
def State.contextRestored (s : State) (n sl : Nat) (rd : ReadOutcome) : State :=
  let k := n * 64 + sl
  if s.get .slot_STATE k ≠ 1 then s
  else
    match s.residents.find? (fun x => x.bent == n && x.slot == sl) with
    | none => s
    | some x =>
      match s.saves.find? (fun v => v.job == x.job && v.bent == n) with
      | none => (s.set .slot_STATE k 2).dowelCurrent n
      | some v =>
        let base := s.get .slot_LOFT_BASE k
        let c := s.get .slot_CONTEXT k
        let (s, lost) := s.readSaved v rd
        let come := v.lines.filter (fun p => !lost.contains p.1)
        let l := come.foldl (fun (l : Lofts) p => l.writeLines n (base + p.1) c p.2) s.lofts
        let ts := v.tiles.map (fun t =>
          let t := t.spoil lost 0x032B
          { t with slot := sl, desc := { t.desc with line := t.desc.line + base } })
        let s : State := { s with
          lofts := { l with tiles := l.tiles ++ ts }, saves := s.saves.filter (fun y => !(y.job == x.job && y.bent == n)) }
        let s := if lost.isEmpty then s else (s.bump .dowel_POISONED_READS n lost.length).set .dowel_GDDR6_UE_SEEN n 1
        let s := (s.bump .dowel_RESTORE_LINES n come.length).bump .dowel_GDDR6_RD_LINES n come.length
        ((s.setAll k [(.slot_STATE, 2), (.slot_TILES, v.progress)]).scrubPages v.pages none).dowelCurrent n

end Sys2Proof.Machine
end

