-- ==== Sys2Proof/Machine/Fabric.lean ====
section
/-! DEFINITION. The commands of the Kertik fabric (11): routes, fabric jobs, test rules, links, frames, flows, barriers. -/

namespace Sys2Proof.Machine

/-! ## Routes -/

/-- The route check (R336). -/
def State.routeCheck (s : State) (d : Nat) : Nat :=
  let valid := (List.range 8).filter (fun p => s.on .routep_VALID (d * 8 + p))
  firstCode
    [(0x080C, d == s.get .fab_DEV_ID),
      (0x080D, valid.isEmpty || valid.any (fun p => !s.on .kport_ENABLED p) || s.get .route_HOPS d == 0)]

/-- ROUTE_ENABLE (R336). -/
def State.routeEnable (s : State) (d : Nat) : State :=
  if s.on .route_ENABLE d then s
  else
    match s.routeCheck d with
    | 0 => s.setAll d [(.route_ENABLE, 1), (.route_REASON, 0)]
    | code => s.refuse .route_REASON d code

/-- Meaning of ROUTE_ENABLE. -/
def execRouteEnable (d : Fin 512) (s : State) : Host.Outcome State Fault Refusal :=
  .next (s.hostWrite .other (fun s => s.routeEnable d.val))

/-- Forwarded frames that waited for a port to device `d` have no route any more (R338). -/
def State.dropForwards (s : State) (d : Nat) : State :=
  let gone := fun (f : Forward) => hdrDstDev f.hdr == d
  let s := forEach (s.fabric.forwards.filter gone) (fun f s => s.bump .kport_HOP_EXPIRED f.port) s
  { s with fabric := { s.fabric with forwards := s.fabric.forwards.filter (fun f => !gone f) } }

/-- ROUTE_DISABLE (R336): refused while an enabled fabric-job entry lists the device. -/
def State.routeDisable (s : State) (d : Nat) : State :=
  if !s.on .route_ENABLE d then s
  else if s.fabric.members.any (fun m => m.2.contains d) then s.refuse .route_REASON d 0x080E
  else (s.dropForwards d).setAll d [(.route_ENABLE, 0), (.route_REASON, 0)]

/-- Meaning of ROUTE_DISABLE. -/
def execRouteDisable (d : Fin 512) (s : State) : Host.Outcome State Fault Refusal :=
  .next (s.hostWrite .other (fun s => s.routeDisable d.val))

/-! ## Fabric jobs -/

/-- The read requests of a member list in the host tier (13 R414); none leaves while the device may issue no request. -/
def State.askMembers (s : State) (c : Nat) : State :=
  if s.mayAsk then s.askHost c [(s.get .fjob_MEMBERS c, 2 * (s.get .fjob_NMEMBERS_M1 c + 1))] else s

/-- The words of the member list (R344): as GDDR6 holds them, or what the host tier answers. A list that cannot be read has none (log entry
117). -/
def State.memberWords (s : State) (c : Nat) (list : List Nat) : List Nat :=
  let n := s.get .fjob_NMEMBERS_M1 c + 1
  let a := s.get .fjob_MEMBERS c
  match s.place c a with
  | some (.host _) => if s.mayAsk then list.take n else []
  | _ => (List.range n).map (fun r => s.readNumVA c (a + 2 * r) 2)

/-- The fabric check (R345). -/
def State.fabricCheck (s : State) (c : Nat) (ws : List Nat) : Nat :=
  let a := s.get .fjob_MEMBERS c
  let n1 := s.get .fjob_NMEMBERS_M1 c
  let me := s.get .fab_DEV_ID
  let ks := s.get .fjob_KEY_SLOT c
  let t := s.tenantOf c
  firstCode
    [(0x0303, !s.on .ctx_ENABLE c), (0x0802, !s.on .cls_FABRIC_EN (s.classOf c)),
      (0x0801, s.get .fjob_FJOB_ID c == 0 ||
        (s.indices .fjob_ENABLE).any (fun x => x != c && s.get .fjob_FJOB_ID x == s.get .fjob_FJOB_ID c)),
      (0x0803, a % 64 != 0 || !s.mayRead c a (2 * (n1 + 1)) || n1 < s.get .fjob_MY_RANK c ||
        ws.getD (s.get .fjob_MY_RANK c) 512 != me || ws.eraseDups.length != ws.length || ws.any (fun w => 512 ≤ w) ||
        ws.length != n1 + 1),
      (0x0804, ws.any (fun d => d != me && !s.on .route_ENABLE d)),
      (0x0805, !(s.get .wkey_SLOT_STATE ks == 1 && s.get .wkey_SLOT_TENANT ks == t &&
        s.get .wkey_SLOT_FJOB_ID ks == s.get .fjob_FJOB_ID c)),
      (0x0806, 256 ≤ s.get .fab_ENTRIES_ENABLED || s.get .fab_FLOW_RECORDS_FREE < 2 * n1)]

/-- FABRIC_JOB_ENABLE (R345): the member list is copied, the key goes to the ports' key store, and one control flow to and from
each other member starts at PSN 0. -/
def State.fabricJobEnable (s : State) (c : Nat) (list : List Nat) : State :=
  if s.on .fjob_ENABLE c then s
  else
    let ws := s.memberWords c list
    let code := s.fabricCheck c ws
    let s := if code = 0 ∨ 0x0803 ≤ code then s.askMembers c else s
    match code with
    | 0 =>
      let ks := s.get .fjob_KEY_SLOT c
      let key := ((s.jobKeys.find? (fun k => k.1 == ks)).map (·.2)).getD []
      let peers := ws.filter (· != s.get .fab_DEV_ID)
      let new := peers.flatMap (fun d =>
        [{ ctx := c, flow := 0xFFFF, peer := d, send := true, rto := s.get .fab_RTO_US },
          ({ ctx := c, flow := 0xFFFF, peer := d, send := false } : Flow)])
      let f := s.fabric
      let f := { f with
        members := f.members ++ [(c, ws)], keys := f.keys ++ [(c, key)], flows := f.flows ++ new
        txc := (List.range 8).foldl (fun m p => Store.put 0 m (c * 8 + p) 0) f.txc }
      let s : State := { s with fabric := f }
      let s := (s.set .wkey_SLOT_STATE ks 2).setAll c [(.fjob_ENABLE, 1), (.fjob_STATE, 1), (.fjob_REASON, 0), (.fjob_RUN, 0)]
      ((s.drop .fab_FLOW_RECORDS_FREE 0 new.length).bump .fab_ENTRIES_ENABLED).floorRecompute
    | code => s.refuse .fjob_REASON c code

/-- Meaning of FABRIC_JOB_ENABLE. -/
def execFabricJobEnable (c : Fin 16384) (list : List (BitVec 16)) (s : State) : Host.Outcome State Fault Refusal :=
  .next (s.hostWrite .other (fun s => s.fabricJobEnable c.val (list.map (·.toNat))))

/-- FABRIC_JOB_DISABLE (R347): refused while a job of the context is queued or running. An accepted clear abandons every flow,
erases the key and frees the flow records. -/
def State.fabricJobDisable (s : State) (c : Nat) : State :=
  if !s.on .fjob_ENABLE c then s
  else if s.contextBusy c then s.refuse .fjob_REASON c 0x0807
  else
    let f := s.fabric
    let n := (f.flows.filter (fun x => x.ctx == c)).length
    let s := s.eraseKey (s.get .fjob_KEY_SLOT c)
    let s : State := { s with fabric := { f with
      flows := f.flows.filter (fun x => x.ctx != c), members := f.members.filter (fun m => m.1 != c)
      keys := f.keys.filter (fun k => k.1 != c) } }
    let s := s.setAll c [(.fjob_ENABLE, 0), (.fjob_STATE, 0), (.fjob_REASON, 0)]
    ((s.bump .fab_FLOW_RECORDS_FREE 0 n).drop .fab_ENTRIES_ENABLED).floorRecompute

/-- Meaning of FABRIC_JOB_DISABLE. -/
def execFabricJobDisable (c : Fin 16384) (s : State) : Host.Outcome State Fault Refusal :=
  .next (s.hostWrite .other (fun s => s.fabricJobDisable c.val))

/-! ## Test rules -/

/-- RWL fields of DW0 of a test rule. -/
def ruleRwl : List Reg := [.krule_DIR, .krule_ACTION, .krule_KIND, .krule_ANY_FLOW, .krule_FLOW]

/-- INJECT_NOT_ALLOWED (R359). -/
def State.injectRefused (s : State) (k : Nat) : Bool :=
  let id := s.get .krule_FJOB_ID k
  let deployed := s.get .wedge_LIFE_CYCLE == 2
  !s.on .fab_INJECT_ALLOWED || (deployed && id == 0) ||
    (deployed && !(s.indices .fjob_ENABLE).any (fun c =>
      s.get .fjob_FJOB_ID c == id && s.on .cls_TEST_RULES_EN (s.classOf c)))

/-- Setting EN of a test rule (R359, R360). -/
def State.testRuleEnable (s : State) (port i value : Nat) : State :=
  let k := port * 8 + i
  if s.on .krule_EN k then s
  else
    let s := s.storeFields k 0 value ruleRwl
    if s.injectRefused k then s.set .kport_RULE_REASON port 0x080B
    else
      let s := (s.set .krule_EN k 1).set .kport_RULE_REASON port 0
      { s with fabric := { s.fabric with matched := Store.put 0 s.fabric.matched k 0 } }

/-- Meaning of TEST_RULE_ENABLE: the write waits while the port's domain is not ON (15 R452). -/
def execTestRuleEnable (k i : Fin 8) (value : Word) (s : State) : Host.Outcome State Fault Refusal :=
  .next (s.hostWrite .other (fun s =>
    s.whenOn (122 + k.val) (.testRule k.val i.val value.toNat) (fun s => s.testRuleEnable k.val i.val value.toNat)))

/-! ## Channels -/

/-- Blocks of 4 KiB of a tile's data, each as its coded bytes padded to a 16-byte boundary (R341, R358). PROTECTED data and
data sent while compression is off stay RAW (07 R230, R231). -/
def codedBlocks (off : Bool) (data : List Byte) : List (List Byte) :=
  (List.range (cdiv data.length 4096)).map (fun k =>
    let (h, p) := sendForm (((data.drop (4096 * k)).take 4096).map (·.toNat)) off
    let b := h.encode ++ p.map (BitVec.ofNat 8)
    b ++ List.replicate (cdiv b.length 16 * 16 - b.length) 0)

/-- Number of whole blocks that fit into `room` bytes. -/
def fitBlocks : Nat → List (List Byte) → Nat
  | _, [] => 0
  | room, b :: l => if b.length ≤ room then 1 + fitBlocks (room - b.length) l else 0

/-- KERTIK_DATA_TX (R350 to R352): the next frame of the tile at the head of a SEND channel: the descriptor with the first
block, as many whole blocks as fit into 4,144 bytes. A POISON or SKIPPED tile travels as its descriptor alone. The tile is read from its
Loft with its first frame; an uncorrectable line poisons it (06 R213, log entry 111). Nothing is
sent beyond the credit, before the tile is produced, or with 256 frames outstanding. Send requests with a stale incarnation that arrive
are discarded at the port and counted (01 R43, 17 R487). -/
def State.dataTx (s : State) (c chan : Nat) (env : SendEnv) : State :=
  let s := s.dropAll env.late
  match s.fabricJob c with
  | none => s
  | some j =>
    match (s.channels j).find? (fun ch => ch.num == chan && ch.send) with
    | none => s
    | some ch =>
      let peer := s.channelPeer c ch
      match s.flow c chan peer true, s.regionRef j ch.region with
      | some f, some r =>
        if j.finished || f.credit ≤ f.tile || 256 ≤ f.unacked.length || !s.mayConsume r f.tile then s
        else
          match s.tileAt r f.tile with
          | none => s
          | some t =>
           let lines := fun n y => n == r.bent && decide (r.tileLine f.tile ≤ y) && decide (y < r.tileLine f.tile + t.desc.lenLines)
           let (s, code) := if f.block = 0 then s.loftRead lines env.loft else (s, 0)
           let desc := if code = 0 then t.desc else { t.desc with poison := true, reason := code, lenLines := 0 }
           let alone := desc.poison || desc.skipped
           let all := if alone then [] else codedBlocks (s.on .froe_COMP_OFF || r.defn.protect || t.guarded) (s.tileData r f.tile)
           let head := if f.block = 0 then desc.encode else []
           let rest := all.drop f.block
           let n := fitBlocks (4144 - head.length) rest
           let last := decide (rest.length ≤ n)
           let body : FrameBody :=
             { kind := 0, first := f.block == 0, last := last, run := s.get .fjob_RUN c, block := f.block, tile := f.tile,
               payload := head ++ (rest.take n).flatten }
           let s := s.sendOn c chan peer body
           s.updFlow c chan peer true (fun f =>
             if last then { f with tile := f.tile + 1, block := 0 } else { f with block := f.block + n })
      | _, _ => s

/-- Meaning of KERTIK_DATA_TX. -/
def execKertikDataTx (c : Fin 16384) (chan : Fin 256) (env : SendEnv) (s : State) : Host.Outcome State Fault Refusal :=
  .next (s.dataTx c.val chan.val env)

/-! ## Receiving -/

/-- The running job of context `c` and the region that its RECEIVE channel `flow` fills, none while the job is not resident there. -/
def State.receiveRegion (s : State) (c flow : Nat) : Option (Job × RegionRef) := do
  let j ← s.fabricJob c
  let ch ← (s.channels j).find? (fun ch => ch.num == flow && !ch.send)
  let r ← s.regionRef j ch.region
  pure (j, r)

/-- Blocks that a DATA frame carries (R341). -/
def FrameBody.blocks (b : FrameBody) : List (List Byte) := splitBlocks 260 (if b.first then b.payload.drop 32 else b.payload)

/-- Write the blocks of an accepted DATA frame into their slot: block i at slot offset i x 4,160 (R352). -/
def State.writeBlocks (s : State) (c : Nat) (b : FrameBody) (flow : Nat) : State :=
  match s.receiveRegion c flow with
  | none => s
  | some (_, r) =>
    { s with lofts := b.blocks.zipIdx.foldl (fun l (x, i) =>
        l.writeLines r.bent (r.tileLine b.tile + (b.block + i) * 65) r.ctx x) s.lofts }

/-- Put the descriptor of a received tile, which the frames `bs` carried, and add 1 to FULL_PEG (R352). The blocks are in its slot then,
also those that came while the job was not resident (log entry 113). -/
def State.deliverTile (s : State) (c flow tile : Nat) (bs : List FrameBody) : State :=
  let s := forEach bs (fun b s => s.writeBlocks c b flow) s
  match s.receiveRegion c flow with
  | none => s
  | some (j, r) =>
    let d := { TileDesc.decode (((bs.find? (·.first)).map (·.payload.take 32)).getD []) with
      line := r.tileLine tile, region := r.defn.num, seq := tile, ctx := c, slot := r.slot
      lenLines := 65 * (bs.map (·.blocks.length)).sum }
    let t : TileAt := { bent := r.bent, slot := r.slot, region := r.defn.num, place := tile % r.defn.nslots, desc := d }
    let keep := s.lofts.tiles.filter (fun x => !(x.bent == t.bent && x.slot == t.slot && x.region == t.region && x.place == t.place))
    let s : State := { s with lofts := { s.lofts with tiles := keep ++ [t] } }
    (s.jobPeg j.id r.fullPeg .add 1).releaseInputs j.id

/-- Tiles of a RECEIVE channel whose every frame lies below the cumulative point go into their region, in order; while the job is not
resident there they stay with the flow (R352, log entry 113). -/
def State.putReceived (s : State) (c flow peer : Nat) : State :=
  match s.flow c flow peer false, s.receiveRegion c flow with
  | some f, some _ =>
    let tiles := (f.parts.filter (·.last)).map (·.tile)
    let s := s.updFlow c flow peer false (fun f => { f with parts := f.parts.filter (fun b => !tiles.contains b.tile) })
    forEach tiles (fun q s => s.deliverTile c flow q (f.parts.filter (fun b => b.tile == q))) s
  | _, _ => s

/-- What arrived for a job while it was not resident on a bent goes into its regions there. -/
def State.receiveHeld (s : State) (id : JobId) : State :=
  match s.job id with
  | none => s
  | some j =>
    forEach (s.fabric.flows.filter (fun f => f.ctx == j.ctx && !f.send && !f.parts.isEmpty))
      (fun f s => s.putReceived f.ctx f.flow f.peer) s

/-- Meaning of CONTEXT_RESIDENT. Where the contexts of the bent change, what arrived for the job goes into its regions, and filler that no
BARRIER of a resident job holds any more ends. -/
def execContextResident (j : JobId) (n : Met (Fin 8)) (s : State) : Host.Outcome State Fault Refusal :=
  let t := s.contextResident j n.val.val n.loft n.wr
  .next (if t.residents = s.residents then t else (t.receiveHeld j).fillersEnd)

/-- Meaning of CONTEXT_RESTORED. -/
def execContextRestored (n : Met (Fin 8)) (sl : Fin 64) (s : State) : Host.Outcome State Fault Refusal :=
  .next (s.awaken (fun s =>
    if s.get .slot_STATE (n.val.val * 64 + sl.val) ≠ 1 then s
    else
      match s.residents.find? (fun x => x.bent == n.val.val && x.slot == sl.val) with
      | some x => (s.contextRestored n.val.val sl.val n.rd).receiveHeld x.job
      | none => s))

/-- One remote peg operation at its destination (01 R45; R354). A CREDIT that it raises is told at once (R350). -/
def State.remotePegOp (s : State) (c : Nat) (op : List Byte) : State :=
  let dw0 := ofBytes (op.take 4)
  let v := ofBytes (op.drop 4)
  let i := dw0 % 2 ^ 16
  if s.pegOwned i c && s.on .peg_REMOTE_ACCESS i then
    let s := (s.bump .pstore_PEG_REMOTE_IN).bump .fjob_PEG_OPS_IN c
    (if bit dw0 16 then s.pegSet i v else s.pegAdd i v).creditAcks c
  else s.bump .pstore_PEG_REMOTE_REFUSED

/-- Peg operations of a PEG payload, in order. -/
def State.remotePegOps (s : State) (c : Nat) : Nat → List Byte → State
  | 0, _ => s
  | n + 1, bs => if bs.length < 8 then s else (s.remotePegOp c (bs.take 8)).remotePegOps c n (bs.drop 8)

/-- An ABORT of a member (R353): the job of the same run faults with PEER_ABORT; any other run ignores it. -/
def State.peerAbort (s : State) (c run : Nat) : State :=
  match s.fabricJob c with
  | none => s
  | some j =>
    if s.get .fjob_RUN c % 2 ^ 16 = run ∧ j.fault = 0 ∧ !j.finished then
      ((s.bump .fab_PEER_ABORTS).set .fab_ABORT_SEEN 0 1).faultJob j.id 0x0810
    else s

/-- What a frame does once the cumulative point passes it (R352 to R354). -/
def State.deliver (s : State) (c flow peer : Nat) (b : FrameBody) : State :=
  match b.kind with
  | 0 =>
    let s := s.updFlow c flow peer false (fun f => { f with parts := f.parts ++ [b], delivered := f.delivered + b2n b.last })
    if b.last then s.putReceived c flow peer else s
  | 2 => s.remotePegOps c 16 b.payload
  | 4 => s.peerAbort c b.run
  | _ => s

/-- The cumulative point passes every frame that is next in order. -/
def State.drainFlow (s : State) (c flow peer : Nat) : Nat → State
  | 0 => s
  | n + 1 =>
    match s.flow c flow peer false with
    | none => s
    | some f =>
      match f.early.find? (fun e => e.1 == f.psn) with
      | none => s
      | some (q, b) =>
        let s := s.updFlow c flow peer false (fun f =>
          { f with psn := (f.psn + 1) % 2 ^ 32, early := f.early.filter (fun e => e.1 != q) })
        (s.deliver c flow peer b).drainFlow c flow peer n

/-- A frame is accepted on a receive flow (R350, R352): its blocks are written, it is delivered in PSN order, and an ACK goes
out after 8 accepted frames or at once on a gap. -/
def State.acceptFrame (s : State) (c flow peer psn : Nat) (b : FrameBody) : State :=
  let s := if b.kind = 0 then s.writeBlocks c b flow else s
  let gap := match s.flow c flow peer false with | some f => f.psn != psn | none => false
  let s := s.updFlow c flow peer false (fun f => { f with early := f.early ++ [(psn, b)], unackedRx := f.unackedRx + 1 })
  let s := s.drainFlow c flow peer 257
  let s := match s.flow c flow peer false with
    | some f => if gap || 8 ≤ f.unackedRx then s.sendAck c flow peer false else s
    | none => s
  s

/-- Tiles of a SEND channel whose every frame is acknowledged are released (R351). -/
def State.releaseSent (s : State) (c flow peer : Nat) : State :=
  match s.flow c flow peer true, s.fabricJob c with
  | some f, some j =>
    let oldest := match f.unacked.find? (fun u => u.body.kind == 0) with | some u => min u.body.tile f.tile | none => f.tile
    let n := oldest - f.done
    let s := s.updFlow c flow peer true (fun f => { f with done := oldest })
    match ((s.channels j).find? (fun ch => ch.num == flow && ch.send)).bind (fun ch => (s.graph j.graph).bind (·.region ch.region)) with
    | some d => if n = 0 then s else s.jobPeg j.id (j.pegBase + d.freePeg) .add n
    | none => s
  | _, _ => s

/-- An ACK (R341, R351, R352): frames below the cumulative point and those that the bitmap marks are acknowledged; frames
missing below the highest marked PSN are retransmitted, all of them under RUN_START (R355). -/
def State.ackRx (s : State) (c flow peer cum : Nat) (payload : List Byte) : State :=
  match s.flow c flow peer true with
  | none => s
  | some f =>
    let sack := ofBytes (payload.take 8)
    let credit := ofBytes ((payload.drop 8).take 4)
    let dw3 := ofBytes (payload.drop 12)
    let got := fun (p : Nat) => !hasReached 32 p cum ||
      (p != cum && (p + 2 ^ 32 - cum) % 2 ^ 32 ≤ 64 && bit sack ((p + 2 ^ 32 - cum) % 2 ^ 32 - 1))
    let left := f.unacked.filter (fun u => !got u.psn)
    let progress := left.length < f.unacked.length
    let top := (List.range 64).foldl (fun m i => if bit sack i then i + 1 else m) 0
    let missing := left.filter (fun u => u.sent && ((u.psn + 2 ^ 32 - cum) % 2 ^ 32 < top || bit dw3 16))
    let s := s.updFlow c flow peer true (fun f =>
      { f with
        unacked := left
        advanced := if f.unacked.any (fun u => !hasReached 32 u.psn cum) then s.now else f.advanced
        rto := if progress then s.get .fab_RTO_US else f.rto
        credit := if flow ≠ 0xFFFF ∧ dw3 % 2 ^ 16 = s.get .fjob_RUN c % 2 ^ 16 then credit else f.credit })
    let s := s.releaseSent c flow peer
    (forEach missing (fun u s => s.resend c flow peer u) s).sendWaitingOf c flow peer

/-- Run `a` is earlier than run `b` (R348). -/
def runEarlier (a b : Nat) : Bool := let d := (b + 2 ^ 16 - a) % 2 ^ 16; 1 ≤ d && d ≤ 32767

/-- The payload length fits KIND (R341): lengths without the GCM tag. -/
def lengthFits (kind len : Nat) : Bool :=
  match kind with
  | 0 => len ≤ 4144
  | 1 => len == 16
  | 2 => 8 ≤ len && len ≤ 128 && len % 8 == 0
  | 3 => len == 0
  | 4 => len == 16
  | _ => false

/-- A forwarded frame goes out on port `q` (R338). -/
def State.sendForward (s : State) (q : Nat) (f : Forward) : State :=
  (s.bump .kport_FORWARDED f.port).txRaw q (some (s.nextHop q (hdrDstDev f.hdr))) f.hdr f.payload

/-- Forward or discard a frame for another device (R338). While no port of its route is up the frame waits (R337). -/
def State.forwardFrame (s : State) (p : Nat) (hdr : Nat) (payload : List Byte) : State :=
  let d := hdrDstDev hdr
  if hdrHops hdr ≤ 1 ∨ !s.on .route_ENABLE d then s.bump .kport_HOP_EXPIRED p
  else
    let f : Forward := { port := p, hdr := setBits hdr 12 4 (hdrHops hdr - 1), payload := payload }
    match s.egress d (hdrFjob hdr) (hdrFlow hdr) with
    | none => { s with fabric := { s.fabric with forwards := s.fabric.forwards ++ [f] } }
    | some q => s.sendForward q f

/-- Context of the enabled fabric-job entry with this FJOB_ID. -/
def State.entryOf (s : State) (fjob : Nat) : Option Nat := (s.indices .fjob_ENABLE).find? (fun c => s.get .fjob_FJOB_ID c == fjob)

/-- Acknowledge a frame of an earlier run, or of a flow that has closed: the ACK covers that frame, with CREDIT 0 (R342 row 8, log entry
114). -/
def State.ackClosed (s : State) (c flow peer psn : Nat) : State :=
  let body : FrameBody := { kind := 1, run := s.get .fjob_RUN c, payload := toBytes 12 0 ++ toBytes 4 (s.get .fjob_RUN c % 2 ^ 16) }
  (s.txFrame c flow peer ((psn + 1) % 2 ^ 32) body false).1

/-- Rows 8 to 11 of Table Fabric-5 for a frame of entry `c` that has passed row 7. A channel flow is one of the current run: a frame of an
earlier run, and one of the current run when its flow has closed, is a duplicate; one of a later run has no window yet. -/
def State.rxFlow (s : State) (p c hdr : Nat) (payload : List Byte) : State :=
  let flow := hdrFlow hdr
  let peer := hdrSrcDev hdr
  let psn := hdrPsn hdr
  let b := hdrBody hdr payload
  let run := s.get .fjob_RUN c % 2 ^ 16
  let channel := flow != 0xFFFF
  let old := channel && runEarlier b.run run
  let later := runEarlier run b.run
  let early := b.kind == 2 && b.runb && later
  if b.kind = 1 then
    if old then s.bump .kport_DUPLICATES p else (s.bump .kport_RX_FRAMES p).ackRx c flow peer psn payload
  else if old then (s.bump .kport_DUPLICATES p).ackClosed c flow peer psn
  else if channel && later then s.bump (if early then .kport_EARLY_PEG else .kport_DUPLICATES) p
  else
    match s.flow c flow peer false with
    | none => (s.bump .kport_DUPLICATES p).ackClosed c flow peer psn
    | some f =>
      let d := (psn + 2 ^ 32 - f.psn) % 2 ^ 32
      if 2 ^ 31 ≤ d || f.early.any (fun e => e.1 == psn) then (s.bump .kport_DUPLICATES p).sendAck c flow peer false
      else if 256 ≤ d then s.bump .kport_DUPLICATES p
      else if early then s.bump .kport_EARLY_PEG p
      else (s.bump .kport_RX_FRAMES p).acceptFrame c flow peer psn b

/-- The length of a frame fits its KIND (R341): a protected frame has a tag of 16 bytes after its payload. -/
def frameFits (f : Frame) (kind : Nat) : Bool :=
  if kind = 3 then f.payload.isEmpty else 16 ≤ f.raw.length && lengthFits kind (f.raw.length - 16)

/-- The GCM tag of a frame of entry `c` verifies (R346): what it carries is its payload under the job key. -/
def State.verifies (s : State) (c : Nat) (f : Frame) : Bool := f.raw == protect (s.fabricKey c) f.hdr.toNat f.payload

/-- Rows 2 to 7 of Table Fabric-5 for a frame that has passed the FCS check and the receive rules of R360. -/
def State.rxChecks (s : State) (p : Nat) (f : Frame) : State :=
  let hdr := f.hdr.toNat
  let kind := hdrKind hdr
  let direct := !s.on .kport_SWITCHED p
  if f.dest = .other ∨ (f.dest = .broadcast ∧ !direct) ∨ f.etherType.toNat ≠ s.get .fab_ETHERTYPE ∨ f.macControl then
    s.bump .kport_FOREIGN_FRAMES p
  else if bits hdr 0 4 ≠ 1 ∨ 4 < kind ∨ hdrReserved hdr ∨ !frameFits f kind ∨
      (f.dest = .broadcast ∧ kind ≠ 3) then s.bump .kport_BAD_HEADERS p
  else if kind ≠ 3 ∧ hdrDstDev hdr ≠ s.get .fab_DEV_ID then s.forwardFrame p hdr f.raw
  else if kind = 3 then
    let s := s.setAll p [(.kport_PEER_DEV, hdrSrcDev hdr), (.kport_PEER_PORT, hdrSrcPort hdr)]
    if s.fabric.peers.contains p then s else { s with fabric := { s.fabric with peers := s.fabric.peers ++ [p] } }
  else
    match s.entryOf (hdrFjob hdr) with
    | none => s.bump .kport_UNKNOWN_JOB p
    | some c =>
      let paired := match (s.fabricJob c).bind (fun j => (s.channels j).find? (fun ch => ch.num == hdrFlow hdr && !ch.send)) with
        | some ch => s.channelPeer c ch == hdrSrcDev hdr
        | none => true
      if !(s.members c).contains (hdrSrcDev hdr) || (kind == 0 && !paired) then s.bump .kport_UNKNOWN_JOB p
      else if !s.verifies c f then
        ((s.bump .kport_AUTH_FAILS p).set .kport_AUTH_SEEN p 1).bump .fjob_AUTH_FAILS c
      else s.rxFlow p c hdr f.payload

/-- A receive rule inverts bit `n` of a frame after the FCS check (R360). -/
def corruptFrame (f : Frame) (n : Nat) : Frame :=
  let x := flipBit f.hdr.toNat f.raw n
  { f with hdr := BitVec.ofNat 256 x.1, raw := x.2 }

/-- What the FEC of port `p` made of a frame (R333): codewords that it could not correct discard the frame. -/
def State.fecCount (s : State) (p : Nat) (f : Frame) : State :=
  let s := if f.fecCorrected = 0 then s else s.bump .kport_FEC_CORRECTED p f.fecCorrected
  if f.fecBad = 0 then s else (s.bump .kport_FEC_UNCORRECTED p f.fecBad).set .kport_FEC_UE_SEEN p 1

/-- A frame arrives on a port (R342, R343, R360). -/
def State.rxFrame (s : State) (p : Nat) (f : Frame) : State :=
  let s := s.fecCount p f
  if f.fecBad ≠ 0 then s
  else
  let s := s.set .kport_PEER_SILENT p 0
  if !f.fcsOk then s.bump .kport_FCS_ERRORS p
  else
    let (act, s) := s.testRules p 1 f.hdr.toNat
    let (due, rest) := passHeld s.fabric.held p true
    let s : State := { s with fabric := { s.fabric with held := rest } }
    let s := match act with
      | none => s.rxChecks p f
      | some k =>
        match s.get .krule_ACTION k with
        | 1 => s.rxChecks p (corruptFrame f (s.get .krule_CORRUPT_BIT k))
        | 2 => { s with fabric := { s.fabric with held := s.fabric.held ++
            [{ port := p, rx := true, left := s.get .krule_REORDER_DEPTH k, hdr := f.hdr.toNat, payload := f.payload,
               frame := some f }] } }
        | _ => s
    forEach due (fun h s => match h.frame with | some f => s.rxChecks p f | none => s) s

/-- A frame of the KIND that the command names, or of one that is not used; a port whose link is down receives nothing. -/
def State.rxKind (s : State) (k kind : Nat) (f : Frame) : State :=
  if (hdrKind f.hdr.toNat = kind ∨ 4 < hdrKind f.hdr.toNat) ∧ s.on .kport_LINK_UP k then s.rxFrame k f else s

/-- Meaning of KERTIK_DATA_RX. -/
def execKertikDataRx (k : Fin 8) (f : Frame) (s : State) : Host.Outcome State Fault Refusal := .next (s.rxKind k.val 0 f)

/-- Meaning of KERTIK_PEG_RX. -/
def execKertikPegRx (k : Fin 8) (f : Frame) (s : State) : Host.Outcome State Fault Refusal := .next (s.rxKind k.val 2 f)

/-- Meaning of KERTIK_KEEPALIVE_RX. -/
def execKertikKeepaliveRx (k : Fin 8) (f : Frame) (s : State) : Host.Outcome State Fault Refusal := .next (s.rxKind k.val 3 f)

/-- Meaning of KERTIK_ABORT_RX. -/
def execKertikAbortRx (k : Fin 8) (f : Frame) (s : State) : Host.Outcome State Fault Refusal := .next (s.rxKind k.val 4 f)

/-! ## Held frames, timers, links -/

/-- REORDER_RELEASE (R360): the oldest frame that a rule of the port holds goes on after 100 µs. -/
def State.reorderRelease (s : State) (k : Nat) : State :=
  match s.fabric.held.find? (fun h => h.port == k) with
  | none => s
  | some h =>
    let s : State := { s with fabric := { s.fabric with held := s.fabric.held.erase h } }
    match h.frame with
    | some f => s.rxChecks k f
    | none => s.wire k h.dst h.hdr h.payload

/-- The `i`-th flow record of a context in one direction. -/
def State.nthFlow (s : State) (c i : Nat) (send : Bool) : Option Flow :=
  (s.fabric.flows.filter (fun f => f.ctx == c && f.send == send))[i]?

/-- Meaning of ACK_DELAY_EXPIRY (R350): frames not yet acknowledged are, 2 µs after the first of them. -/
def execAckDelayExpiry (c : Fin 16384) (flow : Nat) (s : State) : Host.Outcome State Fault Refusal :=
  .next (match s.nthFlow c.val flow false with
    | some f => if f.unackedRx = 0 then s else s.sendAck c.val f.flow f.peer false
    | none => s)

/-- RTO_EXPIRY (R351): the unacknowledged frames that were sent longest ago are sent again, and RTO doubles, up to 1 ms. -/
def State.rtoExpiry (s : State) (c i : Nat) : State :=
  match s.nthFlow c i true with
  | none => s
  | some f =>
    match f.unacked.filter (·.sent) with
    | [] => s
    | u :: l =>
      let t := (l.map (·.time)).foldl min u.time
      let s := s.updFlow c f.flow f.peer true (fun f => { f with rto := min 1000 (2 * f.rto) })
      forEach ((u :: l).filter (fun x => x.time == t)) (fun x s => s.resend c f.flow f.peer x) s

/-- Meaning of RTO_EXPIRY. -/
def execRtoExpiry (c : Fin 16384) (flow : Nat) (s : State) : Host.Outcome State Fault Refusal := .next (s.rtoExpiry c.val flow)

/-- FLOW_TIMEOUT (R353): a flow with unacknowledged frames has not advanced for FLOW_TIMEOUT_MS; it fails with the job of its
run. -/
def State.flowTimeout (s : State) (c i : Nat) : State :=
  match s.nthFlow c i true with
  | none => s
  | some f =>
    if f.unacked.isEmpty then s
    else
      let s := (((s.bump .fjob_FLOWS_FAILED c).bump .fab_FLOWS_FAILED).set .fab_FLOW_FAIL_SEEN 0 1)
      match s.fabricJob c with
      | some j => s.faultJob j.id 0x080F
      | none => s

/-- Meaning of FLOW_TIMEOUT. -/
def execFlowTimeout (c : Fin 16384) (flow : Nat) (s : State) : Host.Outcome State Fault Refusal := .next (s.flowTimeout c.val flow)

/-- KEEPALIVE_TX (R343): a DIRECT port that is up and has been silent for 10 µs. The header's fields that R343 does not name
are zero (log entry 15), and zero bytes fill the frame to 64 (R339): header, FCS and the MAC header of 14 or 18 count. -/
def State.keepaliveTx (s : State) (k : Nat) : State :=
  if !s.on .kport_ENABLED k || s.on .kport_SWITCHED k || !s.on .kport_LINK_UP k then s
  else
    let known := s.fabric.peers.contains k
    let d := s.get .kport_PEER_DEV k
    let hdr := frameHeader { kind := 3 } false 0 (s.get .fab_DEV_ID) k (if known then d else 0) 0 0 0 0
    let dst := if known then some (d * 8 + s.get .kport_PEER_PORT k) else none
    s.txRaw k dst hdr (List.replicate (64 - 36 - (s.macHeader k dst).length) 0)

/-- Meaning of KEEPALIVE_TX. -/
def execKeepaliveTx (k : Fin 8) (s : State) : Host.Outcome State Fault Refusal := .next (s.keepaliveTx k.val)

/-- Meaning of PEER_SILENT (R343). -/
def execPeerSilent (k : Fin 8) (s : State) : Host.Outcome State Fault Refusal :=
  .next (if s.on .kport_ENABLED k.val then s.set .kport_PEER_SILENT k.val 1 else s)

/-- What waits for port `p`, oldest first, local frames and forwarded ones by turns (R337, R338); a local one begins (log entry 115). -/
def State.portTurns (s : State) (p : Nat) : List Egress :=
  let mine := s.fabric.flows.filter (fun f => s.egress f.peer (s.get .fjob_FJOB_ID f.ctx) f.flow == some p)
  let own := mine.flatMap (fun f =>
    if f.send then ((f.unacked.take 256).filter (fun u => !u.sent)).map (Egress.frame f.ctx f.flow f.peer)
    else match f.ackOwed with | some start => [Egress.ack f.ctx f.flow f.peer start] | none => [])
  let fwd := (s.fabric.forwards.filter (fun f => s.egress (hdrDstDev f.hdr) (hdrFjob f.hdr) (hdrFlow f.hdr) == some p)).map Egress.forward
  (own.zip fwd).flatMap (fun x => [x.1, x.2]) ++ own.drop fwd.length ++ fwd.drop own.length

/-- One turn on port `p`. -/
def State.takeTurn (s : State) (p : Nat) : Egress → State
  | .frame c flow peer u => s.resend c flow peer u
  | .ack c flow peer start => s.sendAck c flow peer start
  | .forward f => ({ s with fabric := { s.fabric with forwards := s.fabric.forwards.erase f } } : State).sendForward p f

/-- Frames that wait for a port go out when one comes up (R337). -/
def State.sendWaiting (s : State) : State :=
  forEach (List.range 8) (fun p s => forEach (s.portTurns p) (fun x s => s.takeTurn p x) s) s

/-- KERTIK_LINK_UP (R332): the lane test of a bring-up. Position 4 is the spare. A port with a spare maps it over one unusable
position and stays down with two or more; a port without one needs all four. -/
def State.linkUp (s : State) (k : Nat) (bad : List Nat) : State :=
  if !s.on .kport_ENABLED k || s.on .kport_LINK_UP k || s.on .dom_HELD_OFF (122 + k) then s
  else
    let spare := s.on .kport_SPARE_ASSIGNED k && !s.on .kport_SWITCHED k
    let lanes := ((List.range 4).filter (fun l => bad.contains l))
    let unusable := lanes.length + (if spare && bad.contains 4 then 1 else 0)
    if (if spare then 2 ≤ unusable else 1 ≤ lanes.length) then s
    else
      let s := match lanes with
        | [l] => (s.setAll k [(.kport_SPARE_IN_USE, 1), (.kport_REPLACED_LANE, l)]).set .kport_SPARE_SEEN k 1
        | _ => s.setAll k [(.kport_SPARE_IN_USE, 0), (.kport_REPLACED_LANE, 7)]
      (s.set .kport_LINK_UP k 1).sendWaiting

/-- Meaning of KERTIK_LINK_UP. -/
def execKertikLinkUp (k : Fin 8) (badLanes : List (Fin 5)) (s : State) : Host.Outcome State Fault Refusal :=
  .next (s.linkUp k.val (badLanes.map (·.val)))

/-- Meaning of KERTIK_LINK_DOWN (R333): the port goes down and retrains. -/
def execKertikLinkDown (k : Fin 8) (fecUncorrected : Bool) (s : State) : Host.Outcome State Fault Refusal :=
  .next (if !s.on .kport_LINK_UP k.val then s
    else
      let s := (s.setAll k.val [(.kport_LINK_UP, 0), (.kport_LINK_DOWN_SEEN, 1)]).bump .kport_RETRAINS k.val
      if fecUncorrected then (s.bump .kport_FEC_UNCORRECTED k.val).set .kport_FEC_UE_SEEN k.val 1 else s)

/-! ## Barriers and pending WAITs -/

/-- Every DATA frame that the fabric job of context `c` has sent is acknowledged (R356). -/
def State.dataAcked (s : State) (c : Nat) : Bool :=
  s.fabric.flows.all (fun f => !(f.ctx == c && f.send && f.flow != 0xFFFF) || !f.unacked.any (fun u => u.body.kind == 0))

/-- BARRIER_ARRIVE (R356): the operators before the next instance of a BARRIER are done and every DATA frame that the job has sent is
acknowledged; the member adds 1 to ARRIVE on rank 0 and waits for RELEASE, rank 0 for ARRIVE as well. -/
def State.barrierArrive (s : State) (c : Nat) : State :=
  match s.fabricJob c with
  | none => s
  | some j =>
    match (s.jobBarriers j).zipIdx.find? (fun (b, k) => s.atBarrier j b k) with
    | none => s
    | some (b, k) =>
      if !s.dataAcked c then s
      else
        let g := j.issued k + 1
        let ms := s.members c
        let root := ms.getD 0 0
        let s := s.updJob j.id (fun x => { x with barriers := Store.put 0 x.barriers k g })
        let s := if root = s.get .fab_DEV_ID then s.jobPeg j.id (j.pegBase + b.arrive) .add 1
          else s.sendPeg c 0xFFFF root (j.pegBase + b.arrive) false true 1
        let w : List PegWait := [{ peg := j.pegBase + b.release, target := g, job := some j.id, who := .release k g }]
        let w := if root = s.get .fab_DEV_ID then
          w ++ [{ peg := j.pegBase + b.arrive, target := g * ms.length, job := some j.id, who := .arrive k g }] else w
        { s with waits := s.waits ++ w }

/-- A completed WAIT releases its waiter: rank 0 releases every member of a barrier in rank order (R356); a member counts the
instance, and filler that bridged it ends (R357). -/
def State.waitDone (s : State) (w : PegWait) : State :=
  match w.job.bind s.job with
  | none => s
  | some j =>
    match w.who with
    | .arrive k _ =>
      (match (s.jobBarriers j)[k]? with
       | none => s
       | some b =>
         forEach (s.members j.ctx) (fun d s =>
           if d = s.get .fab_DEV_ID then s.jobPeg j.id (j.pegBase + b.release) .add 1
           else s.sendPeg j.ctx 0xFFFF d (j.pegBase + b.release) false true 1) s)
    | .release _ _ => (s.bump .fab_BARRIERS).fillersEnd
    | _ => s

/-- PEG_WAIT_COMPLETE (01 R32): the `k`-th pending WAIT completes when the COUNT of its peg has reached the target it carries. -/
def State.pegWaitComplete (s : State) (k : Nat) : State :=
  match s.waits[k]? with
  | none => s
  | some w =>
    if hasReached 32 (s.get .peg_COUNT w.peg) w.target then
      ({ s with waits := s.waits.eraseIdx k } : State).waitDone w
    else s

end Sys2Proof.Machine
end

