-- ==== Sys2Proof/Machine/Rings.lean ====
section
/-! DEFINITION. Doorbells and result rings (13 R399 to R406), and the handing over of job entries (01 R47 to R49). -/

namespace Sys2Proof.Machine

/-! ## Result rings -/

/-- Mailbox pages in use: those of enabled rings with LOCATION 0. -/
def State.mailboxUsed (s : State) (p : Nat) : Bool :=
  (s.indices .ring_ENABLE).any (fun r =>
    !s.on .ring_LOCATION r && s.get .ring_MBX_PAGE r ≤ p && p < s.get .ring_MBX_PAGE r + cdiv (s.ringBytes r) 4096)

/-- First-fit from page 0 of `n` contiguous free mailbox pages (R404 step 4). -/
def State.mailboxFit (s : State) (n : Nat) : Option Nat :=
  (List.range (2048 + 1 - n)).find? (fun p => (List.range n).all (fun i => !s.mailboxUsed (p + i)))

/-- The ring check (R404). -/
def State.ringCheck (s : State) (r : Nat) : Nat :=
  let b := s.ringBytes r
  let lg := s.get .ring_SLOTS_LOG2 r
  let host := s.on .ring_LOCATION r
  firstCode
    [(0x0330, s.get .ten_STATE (s.get .ring_TENANT r) != 1),
      (0x0331, lg < 4 || 15 < lg || b < 4096 || (!host && 256 * 1024 < b)),
      (0x0332, host && s.get .ring_HOST_ADDR r % 4096 != 0),
      (0x0333, !host && (s.mailboxFit (b / 4096)).isNone)]

/-- RING_ENABLE (R404): on acceptance HEAD and TAIL are 0 and the writes that zero the ring begin; STATE becomes 1 at
RING_READY. The mailbox pages are taken here. -/
def State.ringEnable (s : State) (r : Nat) : State :=
  if s.on .ring_ENABLE r then s
  else
    match s.ringCheck r with
    | 0 =>
      let p := if s.on .ring_LOCATION r then 0 else (s.mailboxFit (s.ringBytes r / 4096)).getD 0
      let s := s.setAll r
        [(.ring_ENABLE, 1), (.ring_STATE, 0), (.ring_REASON, 0), (.ring_HEAD, 0), (.ring_TAIL, 0), (.ring_MBX_PAGE, p)]
      { s with ringsOpening := s.ringsOpening ++ [r] }
    | code => s.refuse .ring_REASON r code

/-- Meaning of RING_ENABLE. -/
def execRingEnable (r : Fin 4096) (s : State) : Host.Outcome State Fault Refusal :=
  .next (s.hostWrite .other (fun s => s.ringEnable r.val))

/-- RING_READY (R404): the zeroing writes are visible and STATE becomes 1. Host-memory rings need the device to be able to
issue requests (R396). -/
def State.ringReady (s : State) (r : Nat) : State :=
  if !s.ringsOpening.contains r then s
  else if s.on .ring_LOCATION r then
    if !s.mayAsk then s
    else
      let a := s.get .ring_HOST_ADDR r
      let t := s.get .ring_TENANT r
      let s := forEach ((List.range (s.ringN r)).map (fun i => a + i * s.ringSB r)) (fun x s => s.postHost t x [0, 0, 0, 0]) s
      { s.set .ring_STATE r 1 with ringsOpening := s.ringsOpening.filter (· != r) }
  else
    let m := Mem.clear s.memory.bar4 (s.get .ring_MBX_PAGE r * 4096) (s.ringBytes r)
    { s.set .ring_STATE r 1 with
      ringsOpening := s.ringsOpening.filter (· != r), memory := { s.memory with bar4 := m } }

/-- Meaning of RING_READY. -/
def execRingReady (r : Fin 4096) (s : State) : Host.Outcome State Fault Refusal := .next (s.ringReady r.val)

/-- A queued or running job of the tenant names the ring, or an enabled loop entry or cascade of the tenant does (R405). -/
def State.ringInUse (s : State) (r : Nat) : Bool :=
  let t := s.get .ring_TENANT r
  s.busyContexts.any (fun c => s.tenantOf c == t &&
      (s.busyEntries c).any (fun e => s.get .job_RESULT_RING (jobIdx c e) == r)) ||
    s.jobs.any (fun j => s.tenantOf j.ctx == t && j.ring == r) ||
    (s.indices .loop_ENABLE).any (fun k => s.tenantOf (s.get .cam_CONTEXT k) == t && s.get .loop_RESULT_RING k == r) ||
    (s.on .casc_ENABLE && s.tenantOf (s.get .casc_CONTEXT) == t && s.get .casc_RESULT_RING == r)

/-- RING_DISABLE (R405). -/
def State.ringDisable (s : State) (r : Nat) : State :=
  if !s.on .ring_ENABLE r then s
  else if s.ringInUse r then s.refuse .ring_REASON r 0x0334
  else s.ringOff r

/-- Meaning of RING_DISABLE. -/
def execRingDisable (r : Fin 4096) (s : State) : Host.Outcome State Fault Refusal :=
  .next (s.hostWrite .other (fun s => s.ringDisable r.val))

/-! ## Doorbells -/

/-- Discard a doorbell (R400). -/
def State.doorbellFault (s : State) (t : Nat) : State :=
  ((s.bump .host_DOORBELL_FAULTS).set .host_LAST_DB_TENANT 0 t).event .host_DOORBELL_FAULT

/-- Mark the enabled entries between head and tail as queued: STATE 2 (01 R48, Table Stations-9; log entry 14). -/
def State.queueEntries (s : State) (c : Nat) : State :=
  forEach (s.ringEntries c) (fun e s =>
    if s.get .job_STATE (jobIdx c e) = 1 then s.set .job_STATE (jobIdx c e) 2 else s) s

/-- A ring job of the context has started and not left the queue. -/
def State.ringBusy (s : State) (c : Nat) : Bool :=
  s.jobs.any (fun j => j.ctx == c && match j.id with | .ring _ => true | _ => false)

/-- The queue of a context examines the entry at its head (01 R49): it stops there when the entry is not enabled. -/
def State.examine (s : State) (c : Nat) : State :=
  match s.ringEntries c with
  | [] => s
  | e :: _ =>
    let k := jobIdx c e
    if s.ringBusy c || s.on .job_ENABLE k || s.stopped.contains k then s else { s with stopped := s.stopped ++ [k] }

/-- JOB_DB that passes the tests of R400: a new tail T is refused when it lies more than 16 entries past the head or moves
backward (01 R48). An accepted doorbell makes the device examine a stopped queue again (01 R49). -/
def State.jobDoorbell (s : State) (c tail : Nat) : State :=
  let h := s.get .ctx_HEAD c
  let d := (tail + 32 - h) % 32
  if 16 < d || d < (s.get .ctx_TAIL c + 32 - h) % 32 then s.set .ctx_DB_REASON c 0x0309
  else
    let s := s.setAll c [(.ctx_TAIL, tail), (.ctx_DB_REASON, 0)]
    let s := s.queueEntries c
    let s : State := { s with stopped := s.stopped.filter (fun k => k / 16 != c || !s.on .job_ENABLE k) }
    s.examine c

/-- JOB_DB (R399, R400). -/
def State.jobDb (s : State) (t value : Nat) : State :=
  let c := bits value 0 14
  if bits value 14 2 != 0 || bits value 21 11 != 0 || !s.on .ctx_ENABLE c || s.get .ctx_TENANT c != t then s.doorbellFault t
  else s.jobDoorbell c (bits value 16 5)

/-- Meaning of JOB_DB. -/
def execJobDb (t : Fin 4096) (value : Word) (s : State) : Host.Outcome State Fault Refusal :=
  .next (s.hostWrite .other (fun s => s.jobDb t.val value.toNat))

/-- RING_DB (R400, R402). -/
def State.ringDb (s : State) (t value : Nat) : State :=
  let r := bits value 0 12
  if bits value 12 4 != 0 || s.get .ring_STATE r != 1 || s.get .ring_TENANT r != t then s.doorbellFault t
  else
    let h := bits value 16 16
    let head := s.get .ring_HEAD r
    if (h + 2 ^ 16 - head) % 2 ^ 16 ≤ (s.get .ring_TAIL r + 2 ^ 16 - head) % 2 ^ 16 then s.set .ring_HEAD r h
    else s.bump .ring_HEAD_REFUSED r

/-- Meaning of RING_DB. -/
def execRingDb (t : Fin 4096) (value : Word) (s : State) : Host.Outcome State Fault Refusal :=
  .next (s.hostWrite .other (fun s => s.ringDb t.val value.toNat))

/-! ## Job entries -/

/-- Bents of a mask that are present. -/
def State.presentIn (s : State) (mask : Nat) : List Nat := (maskList 8 mask).filter (fun n => s.on .bent_PRESENT n)

/-- The job check (01 R47). -/
def State.jobCheck (s : State) (c k : Nat) : Nat :=
  let g := s.graph (s.get .job_GRAPH k)
  let base := s.get .job_PEG_BASE k
  let n := (g.map (·.pegCount)).getD 0
  let done := s.get .job_DONE_PEG k
  let mask := s.get .job_BENT_MASK k
  let b := s.get .job_BINDING k
  let bind := (g.map (·.bind)).getD .none
  let bound := fun (ty : Nat) => b < 3072 && s.on .ses_ENABLE b && s.get .ses_TYPE b == ty && s.get .ses_CONTEXT b == c
  firstCode
    [(0x0303, !s.on .ctx_ENABLE c), (0x0301, g.isNone),
      (0x0302, !bit (s.get .cls_GRAPHS (s.classOf c)) (s.get .job_GRAPH k)),
      (0x0304, (List.range n).any (fun i => 65535 < base + i || !s.pegOwned (base + i) c)),
      (0x0305, bit done 25 || !s.pegOwned (done % 2 ^ 16) c),
      (0x0306, (s.presentIn mask).length < (g.map (·.bentsNeeded)).getD 1 || s.presentIn mask != maskList 8 mask),
      (0x0307, match bind with
        | .none => b != 0xFFFF
        | .session => !bound 1
        | .stream => !bound 2),
      (0x0308, s.get .job_IN_LIST k % 64 != 0 || s.get .job_OUT_LIST k % 64 != 0 ||
        (s.resolve c (s.get .job_IN_LIST k)).isNone || (s.resolve c (s.get .job_OUT_LIST k)).isNone)]

/-- JOB_ENTRY_ENABLE (01 R47): an accepted entry is in STATE 1 until a doorbell hands it over; one that is handed over already
and at which the queue has not stopped is queued (01 R49). -/
def State.jobEntryEnable (s : State) (c e : Nat) : State :=
  let k := jobIdx c e
  if s.on .job_ENABLE k then s
  else
    match s.jobCheck c k with
    | 0 =>
      let queued := s.handed c e && !s.stopped.contains k
      s.setAll k [(.job_ENABLE, 1), (.job_REASON, 0), (.job_STATE, if queued then 2 else 1)]
    | code => s.refuse .job_REASON k code

/-- Meaning of JOB_ENTRY_ENABLE. -/
def execJobEntryEnable (c : Fin 16384) (e : Fin 16) (s : State) : Host.Outcome State Fault Refusal :=
  .next (s.hostWrite .other (fun s => s.jobEntryEnable c.val e.val))

/-- JOB_ENTRY_DISABLE (01 R53): by the entry's STATE it withdraws a job that has not started, cancels a started one, or has
no effect. -/
def State.jobEntryDisable (s : State) (c : Fin 16384) (e : Nat) : State :=
  let k := jobIdx c.val e
  match s.get .job_STATE k with
  | 1 | 2 =>
    let s := s.setAll k [(.job_ENABLE, 0), (.job_STATE, 0)]
    if s.handed c.val e && !s.stopped.contains k then { s with stopped := s.stopped ++ [k] } else s
  | 3 => s.faultJob (.ring c) 0x0335
  | _ => s

/-- Meaning of JOB_ENTRY_DISABLE. -/
def execJobEntryDisable (c : Fin 16384) (e : Fin 16) (s : State) : Host.Outcome State Fault Refusal :=
  .next (s.hostWrite .other (fun s => s.jobEntryDisable c e.val))

end Sys2Proof.Machine
end

