-- ==== Sys2Proof/Machine/Paged.lean ====
section
/-! DEFINITION. Page pools, sessions and page lists (04 R139 to R168): the layout in memory, the stacks, deferred reclaim, and
the host commands on pools, sessions and sequences. -/

namespace Sys2Proof.Machine

/-! ## Pool region (Table Scarf-7) -/

/-- Device-virtual address of area `k` of the pool of context `c`: 0 reference counts, 1 page stack, 2 chunk stack, 3 deferred
queue, 4 chunk frames, 5 pages. -/
def State.poolArea (s : State) (c k : Nat) : Nat :=
  s.get .pool_BASE c + (poolAreas (s.get .pool_PAGES c) (s.get .pool_CHUNKS c) (s.get .pool_PAGE_BYTES c)).getD k 0

/-- Reference count of page `p` (R141). -/
def State.pageRefs (s : State) (c p : Nat) : Nat := s.readNumVA c (s.poolArea c 0 + 2 * p) 2

/-- Write the reference count of page `p`. -/
def State.setRefs (s : State) (c p n : Nat) : State := s.writeNumVA c (s.poolArea c 0 + 2 * p) 2 n

/-- Pop a free stack of the pool, which grows towards lower addresses from its last entry (log entry 20). -/
def State.popStack (s : State) (c : Nat) (chunk : Bool) : Option (Nat × State) :=
  let r := if chunk then Reg.pool_FREE_CHUNKS else .pool_FREE_PAGES
  let total := s.get (if chunk then .pool_CHUNKS else .pool_PAGES) c
  let f := s.get r c
  if f = 0 then none
  else some (s.readNumVA c (s.poolArea c (if chunk then 2 else 1) + 4 * (total - f)) 4 % 2 ^ (if chunk then 16 else 20), s.set r c (f - 1))

/-- Push onto a free stack of the pool. -/
def State.pushStack (s : State) (c : Nat) (chunk : Bool) (v : Nat) : State :=
  let r := if chunk then Reg.pool_FREE_CHUNKS else .pool_FREE_PAGES
  let total := s.get (if chunk then .pool_CHUNKS else .pool_PAGES) c
  let f := s.get r c + 1
  (s.set r c f).writeNumVA c (s.poolArea c (if chunk then 2 else 1) + 4 * (total - f)) 4 v

/-- The 8-byte word of R163, with the bit that marks it valid. -/
def Deferred.encode (d : Deferred) (valid : Bool) : Nat :=
  d.target % 2 ^ 32 + d.index % 2 ^ 20 * 2 ^ 32 + b2n d.chunk * 2 ^ 62 + b2n valid * 2 ^ 63

/-- Lowest free place of the deferred-reclaim queue of context `c` (log entry 43). -/
def State.queuePlace (s : State) (c : Nat) : Nat :=
  let used := (s.reclaim.filter (fun d => d.ctx == c)).map (·.place)
  ((List.range (used.length + 1)).find? (fun i => !used.contains i)).getD 0

/-- An entry enters the queue (R163). -/
def State.defer (s : State) (d : Deferred) : State :=
  let d := { d with place := s.queuePlace d.ctx }
  (({ s with reclaim := s.reclaim ++ [d] } : State).writeNumVA d.ctx (s.poolArea d.ctx 3 + 8 * d.place) 8 (d.encode true)).bump
    .pool_DEFERRED d.ctx

/-- An entry leaves the queue for its free stack. -/
def State.undefer (s : State) (d : Deferred) : State :=
  let s : State := { s with reclaim := s.reclaim.filter (· != d) }
  ((s.writeNumVA d.ctx (s.poolArea d.ctx 3 + 8 * d.place) 8 (d.encode false)).drop .pool_DEFERRED d.ctx).pushStack d.ctx d.chunk d.index

/-- REL_PEG of a session (Table Scarf-8, DW7). -/
def State.relPeg (s : State) (k : Nat) : Nat := s.get .ses_D7 k % 2 ^ 16

/-- Return to the free stacks every entry whose REL_PEG has reached its TARGET (R163). -/
def State.reclaimPool (s : State) (c : Nat) : State :=
  forEach (s.reclaim.filter (fun d => d.ctx == c && hasReached 32 (s.get .peg_COUNT (s.relPeg d.session)) d.target))
    (fun d s => s.undefer d) s

/-- Meaning of DEFERRED_RECLAIM (R163). -/
def execDeferredReclaim (c : Met (Fin 16384)) (s : State) : Host.Outcome State Fault Refusal :=
  .next (s.awaken (fun s => s.writes none c.rd c.wr (fun s => s.reclaimPool c.val.val)))

/-- Chunk frames and pages that an edit of session `k` releases enter the queue, and return at once when no snapshot holds
them (R163). -/
def State.deferRelease (s : State) (k : Nat) (pages chunks : List Nat) : State :=
  let c := s.get .ses_CONTEXT k
  let t := s.get .ses_ACQ k
  let new := chunks.map (fun x => ({ ctx := c, session := k, target := t, index := x, chunk := true } : Deferred)) ++
    pages.map (fun x => { ctx := c, session := k, target := t, index := x, chunk := false })
  (forEach new (fun d s => s.defer d) s).reclaimPool c

/-! ## Pool commands -/

/-- The pool check (R140). -/
def State.poolCheck (s : State) (c : Nat) : Nat :=
  let k := s.get .pool_KV_CLASS c
  let p := s.get .pool_PAGES c
  let n := s.get .pool_CHUNKS c
  firstCode
    [(0x0401, !s.on .ctx_ENABLE c), (0x0402, !s.on .kvc_VALID k || !bit (s.get .cls_KV_CLASSES (s.classOf c)) k),
      (0x0406, p < 1 || 1048576 < p || n < 8 || 65536 < n),
      (0x0405, s.get .pool_BASE c % 4096 != 0 || !s.inPrivate c (s.get .pool_BASE c) (s.get .pool_POOL_BYTES c))]

/-- POOL_ENABLE (R140): an accepted pool enters STATE 1. -/
def State.poolEnable (s : State) (c : Nat) : State :=
  if s.on .pool_ENABLE c then s
  else
    match s.poolCheck c with
    | 0 => s.setAll c [(.pool_ENABLE, 1), (.pool_STATE, 1), (.pool_REASON, 0), (.pool_FREE_PAGES, 0), (.pool_FREE_CHUNKS, 0),
        (.pool_DEFERRED, 0)]
    | code => s.refuse .pool_REASON c code

/-- Meaning of POOL_ENABLE. -/
def execPoolEnable (c : Fin 16384) (s : State) : Host.Outcome State Fault Refusal :=
  .next (s.hostWrite .other (fun s => s.poolEnable c.val))

/-- POOL_READY (R140): Dowel has written the free stacks, in increasing order from the top, and zeroed every count; that waits while
GDDR6 admits no accesses (06 R224). -/
def State.poolReady (s : State) (c : Nat) : State :=
  if s.get .pool_STATE c ≠ 1 then s
  else
    let p := s.get .pool_PAGES c
    let n := s.get .pool_CHUNKS c
    let s := forEach (List.range p) (fun i s => (s.setRefs c i 0).writeNumVA c (s.poolArea c 1 + 4 * i) 4 i) s
    let s := forEach (List.range n) (fun i s => s.writeNumVA c (s.poolArea c 2 + 4 * i) 4 i) s
    s.setAll c [(.pool_STATE, 2), (.pool_FREE_PAGES, p), (.pool_FREE_CHUNKS, n)]

/-- Meaning of POOL_READY. -/
def execPoolReady (c : Met (Fin 16384)) (s : State) : Host.Outcome State Fault Refusal :=
  .next (s.awaken (fun s => s.writes none c.rd c.wr (fun s => s.poolReady c.val.val)))

/-- POOL_DISABLE (R143). -/
def State.poolDisable (s : State) (c : Nat) : State :=
  if !s.on .pool_ENABLE c then s
  else if (s.indices .ses_ENABLE).any (fun k => s.get .ses_TYPE k == 1 && s.get .ses_CONTEXT k == c) || s.on .pool_DEFERRED c then
    s.refuse .pool_REASON c 0x0413
  else s.setAll c [(.pool_ENABLE, 0), (.pool_STATE, 0), (.pool_REASON, 0)]

/-- Meaning of POOL_DISABLE. -/
def execPoolDisable (c : Fin 16384) (s : State) : Host.Outcome State Fault Refusal :=
  .next (s.hostWrite .other (fun s => s.poolDisable c.val))

/-! ## Sequence descriptors and page lists (R147, R148) -/

/-- The 128 bytes of a descriptor. -/
def SeqDesc.encode (d : SeqDesc) : List Byte :=
  toBytes 4 (d.state % 4 + d.lastReason % 2 ^ 16 * 2 ^ 16) ++ toBytes 4 d.gen ++ toBytes 4 (d.len % 2 ^ 31) ++
    toBytes 4 (d.fill % 2 ^ 18) ++ toBytes 4 (d.npages % 2 ^ 12) ++ toBytes 4 d.evicted ++ toBytes 8 0 ++
    (List.range 8).flatMap (fun i => toBytes 8 (d.chunks.getD i 0)) ++ toBytes 32 0

/-- The descriptor that 128 bytes hold. -/
def SeqDesc.decode (bs : List Byte) : SeqDesc :=
  let dw := fun k => ofBytes ((bs.drop (4 * k)).take 4)
  { state := bits (dw 0) 0 2, lastReason := bits (dw 0) 16 16, gen := dw 1, len := bits (dw 2) 0 31, fill := bits (dw 3) 0 18,
    npages := bits (dw 4) 0 12, evicted := dw 5
    chunks := (List.range 8).map (fun i => ofBytes ((bs.drop (32 + 8 * i)).take 8)) }

/-- Address of descriptor `i` of session `k`. -/
def State.seqAddr (s : State) (k i : Nat) : Nat := s.seqBase k + 128 * i

/-- Descriptor of sequence `i` of session `k`. -/
def State.seqDesc (s : State) (k i : Nat) : SeqDesc := SeqDesc.decode (s.readVA (s.get .ses_CONTEXT k) (s.seqAddr k i) 128)

/-- Write the descriptor of a sequence. -/
def State.putSeq (s : State) (k i : Nat) (d : SeqDesc) : State := s.writeVA (s.get .ses_CONTEXT k) (s.seqAddr k i) d.encode

/-- Write LAST_REASON of a sequence. -/
def State.setReason (s : State) (k i code : Nat) : State := s.writeNumVA (s.get .ses_CONTEXT k) (s.seqAddr k i + 2) 2 code

/-- Write STATE of a sequence. -/
def State.setSeqState (s : State) (k i st : Nat) : State := s.writeNumVA (s.get .ses_CONTEXT k) (s.seqAddr k i) 1 st

/-- Number of sequences of a session. -/
def State.nseq (s : State) (k : Nat) : Nat := s.get .ses_D4 k % 256 + 1

/-- A page-list entry (Table Scarf-10). -/
structure ListEntry where
  page : Nat
  minpos : Nat := 0
  maxpos : Nat := 0
  live : Nat := 0
deriving DecidableEq, Repr

/-- Address of list entry `n` (R148). -/
def SeqDesc.entryAddr (d : SeqDesc) (n : Nat) : Nat := d.chunks.getD (n / 256) 0 + n % 256 * 16

/-- List entry `n` of a sequence of context `c`. -/
def State.listEntry (s : State) (c : Nat) (d : SeqDesc) (n : Nat) : ListEntry :=
  let a := d.entryAddr n
  { page := s.readNumVA c a 4 % 2 ^ 20, minpos := s.readNumVA c (a + 4) 4 % 2 ^ 31, maxpos := s.readNumVA c (a + 8) 4 % 2 ^ 31,
    live := s.readNumVA c (a + 12) 4 % 128 }

/-- Write list entry `n`. -/
def State.putEntry (s : State) (c : Nat) (d : SeqDesc) (n : Nat) (e : ListEntry) : State :=
  s.writeVA c (d.entryAddr n) (toBytes 4 e.page ++ toBytes 4 e.minpos ++ toBytes 4 e.maxpos ++ toBytes 4 e.live)

/-- Chunk frame at an address. -/
def State.frameOf (s : State) (c a : Nat) : Nat := (a - s.poolArea c 4) / 4096

/-- Address of a chunk frame. -/
def State.frameAddr (s : State) (c f : Nat) : Nat := s.poolArea c 4 + 4096 * f

/-- Address of page `p` (R141). -/
def State.pageAddr (s : State) (c p : Nat) : Nat := s.poolArea c 5 + p * s.get .pool_PAGE_BYTES c

/-- Slot `x` of the header of page `p`: POSITION and LIVE (Table Scarf-5). -/
def State.slotWord (s : State) (c p x : Nat) : Nat := s.readNumVA c (s.pageAddr c p + 4 * x) 4

/-- SCORE of slot `x` of page `p`. -/
def State.slotScore (s : State) (c p x : Nat) : Nat := s.readNumVA c (s.pageAddr c p + 256 + 4 * x) 4

/-- Pages of a list, in order. -/
def State.pagesOf (s : State) (c : Nat) (d : SeqDesc) : List Nat := (List.range d.npages).map (fun n => (s.listEntry c d n).page)

/-- Chunk addresses in use. -/
def SeqDesc.usedChunks (d : SeqDesc) : List Nat := (d.chunks.take (cdiv d.npages 256))

/-- The bounds and count of an entry from the slot headers of its page, for positions below `len` (R148). -/
def State.entryBounds (s : State) (c page len : Nat) : ListEntry :=
  let ps := (List.range 64).filterMap (fun x =>
    let w := s.slotWord c page x
    if bit w 31 && w % 2 ^ 31 < len then some (w % 2 ^ 31) else none)
  match ps with
  | [] => { page := page }
  | a :: l => { page := page, minpos := l.foldl min a, maxpos := l.foldl max a, live := ps.length }

/-- Lower the counts of pages by 1; answers those that reach 0 (R163). -/
def State.unrefPages (s : State) (c : Nat) (ps : List Nat) : List Nat × State :=
  ps.foldl (fun (acc : List Nat × State) p =>
    let n := acc.2.pageRefs c p - 1
    (if n = 0 then acc.1 ++ [p] else acc.1, acc.2.setRefs c p n)) ([], s)

/-- Pop `n` chunk frames; answers their addresses. -/
def State.popFrames (c : Nat) : Nat → State → List Nat × State
  | 0, s => ([], s)
  | n + 1, s =>
    match s.popStack c true with
    | none => ([], s)
    | some (f, s) => let (l, s) := State.popFrames c n s; (s.frameAddr c f :: l, s)

/-! ## Sessions -/

/-- The session quota (R145, R179). -/
def State.sessionQuota (s : State) (k : Nat) : Bool :=
  let t := s.tenantOf (s.get .ses_CONTEXT k)
  decide (s.get .ten_Q_SESSIONS t ≤ s.get .ten_SESSIONS_USED t)

/-- The session check (R145) for TYPE 1. -/
def State.sessionCheck (s : State) (k : Nat) : Nat :=
  let c := s.get .ses_CONTEXT k
  let kv := s.get .ses_D2 k % 64
  let rp := s.relPeg k
  firstCode
    [(0x0401, !s.on .ctx_ENABLE c), (0x0415, s.get .ses_TYPE k == 0 || s.get .ses_TYPE k == 3), (0x0417, s.sessionQuota k),
      (0x0402, !s.on .kvc_VALID kv || !bit (s.get .cls_KV_CLASSES (s.classOf c)) kv),
      (0x0404, s.get .pool_STATE c != 2 || s.get .pool_KV_CLASS c != kv),
      (0x0407, s.seqBase k % 4096 != 0 || !s.inPrivate c (s.seqBase k) (s.nseq k * 128)),
      (0x0408, bit (s.get .ses_D2 k) 6 && decide (s.get .ses_D3 k % 2 ^ 16 < 64)),
      (0x0416, !s.pegOwned rp c || s.on .peg_HOST_ACCESS rp || s.on .peg_REMOTE_ACCESS rp)]

/-- RWL fields of DW0 of a session entry. -/
def sesRwl0 : List Reg := [.ses_TYPE]

/-- Every descriptor of session `k` is IDLE with GEN 0 (R145). -/
def State.firstSeqs (s : State) (k : Nat) : State := forEach (List.range (s.nseq k)) (fun i s => s.putSeq k i {}) s

/-- SESSION_ENABLE (R145): the fields of the write are stored first (00 R11). On acceptance every descriptor is IDLE with GEN
0, and ACQ and the COUNT of REL_PEG are 0. The descriptors wait while GDDR6 admits no accesses (06 R224). -/
def State.sessionEnable (s : State) (k : Nat) (rd : ReadOutcome) (wr : WriteOutcome) : State :=
  match s.sessionCheck k with
  | 0 =>
    let s := s.whenAdmitted (.sequences k) (fun s => s.writes none rd wr (fun s => s.firstSeqs k))
    let s := s.setAll k [(.ses_ENABLE, 1), (.ses_REASON, 0), (.ses_ACQ, 0), (.ses_STALLED, 0), (.ses_STALLED_SEQS, 0)]
    (s.pegSet (s.relPeg k) 0).bump .ten_SESSIONS_USED (s.tenantOf (s.get .ses_CONTEXT k))
  | code => s.refuse .ses_REASON k code

/-- Release what an emptied or shortened list gives up: pages beyond the first `keep` entries and the chunk frames that the new
list does not use (R162, R163). -/
def State.dropTail (s : State) (k : Nat) (old : SeqDesc) (keep : Nat) (newChunks : List Nat) : State :=
  let c := s.get .ses_CONTEXT k
  let (free, s) := s.unrefPages c ((s.pagesOf c old).drop keep)
  s.deferRelease k free ((old.usedChunks.filter (fun a => !newChunks.contains a)).map (s.frameOf c))

/-- Count the STALLED sequences of a session. -/
def State.countStalled (s : State) (k : Nat) : State :=
  let n := ((List.range (s.nseq k)).filter (fun i => (s.seqDesc k i).state == 2)).length
  s.setAll k [(.ses_STALLED_SEQS, n), (.ses_STALLED, b2n (n != 0))]

/-- CLOSE of sequence `i` (R162): its list is emptied and GEN increments. -/
def State.closeSeq (s : State) (k i : Nat) : State :=
  let d := s.seqDesc k i
  let s := s.putSeq k i { lastReason := d.lastReason, gen := (d.gen + 1) % 2 ^ 32, evicted := d.evicted }
  s.dropTail k d 0 []

/-- Every open sequence of session `k` closes (R146). -/
def State.closeSeqs (s : State) (k : Nat) : State :=
  forEach ((List.range (s.nseq k)).filter (fun i => (s.seqDesc k i).state != 0)) (fun i s => s.closeSeq k i) s

/-- SESSION_DISABLE (R146): an accepted clear closes every open sequence. ENABLE stays 1 while the writes wait for GDDR6 (06 R224). -/
def State.sessionDisable (s : State) (k : Nat) (rd : ReadOutcome) (wr : WriteOutcome) : State :=
  if !s.on .ses_ENABLE k || s.get .ses_TYPE k != 1 then s
  else
    let c := s.get .ses_CONTEXT k
    let busy := (s.busyEntries c).any (fun e => s.get .job_BINDING (jobIdx c e) == k) || s.jobs.any (fun j => j.ctx == c && j.binding == k)
    if busy || s.on .ses_EDIT_BUSY k then s.refuse .ses_REASON k 0x0409
    else
      s.whenAdmitted (.disable k) (fun s =>
        let s := s.writes none rd wr (fun s => s.closeSeqs k)
        let s := s.setAll k [(.ses_ENABLE, 0), (.ses_REASON, 0), (.ses_STALLED, 0), (.ses_STALLED_SEQS, 0)]
        s.drop .ten_SESSIONS_USED (s.tenantOf c))

/-- Meaning of SESSION_DISABLE. -/
def execSessionDisable (sn : Met (Fin 3072)) (s : State) : Host.Outcome State Fault Refusal :=
  .next (s.hostWrite .other (fun s => s.sessionDisable sn.val.val sn.rd sn.wr))

/-! ## Edits (R159 to R163) -/

/-- Chunk frames that an edit needs (R162). -/
def State.editFrames (s : State) (k op src arg : Nat) : Nat :=
  match op with
  | 3 => b2n (arg != 0)
  | 4 => cdiv (s.seqDesc k src).npages 256
  | _ => 0

/-- Chunk frames that edits in progress on the pool of context `c` will take. -/
def State.promised (s : State) (c : Nat) : Nat :=
  ((s.edits.filter (fun e => s.get .ses_CONTEXT e.session == c)).map (fun e => s.editFrames e.session e.op e.src e.arg)).sum

/-- The edit check (R159, R161): 0 or the code of the refusal. -/
def State.editCheck (s : State) (k op seq src : Nat) : Nat :=
  let n := s.nseq k
  let arg := s.get .ses_EDIT_ARG k
  let d := s.seqDesc k seq
  let e := s.seqDesc k src
  let bad :=
    op == 0 || decide (4 < op) || decide (n ≤ seq) || (op == 4 && decide (n ≤ src)) ||
      (match op with
       | 1 => d.state != 0
       | 2 => d.state == 0
       | 3 => d.evicted != 0 || decide (d.len < arg)
       | _ => d.state != 0 || e.state != 1 || src == seq)
  let c := s.get .ses_CONTEXT k
  firstCode
    [(0x040F, bad), (0x0403, op == 1 && !s.on .pool_FREE_PAGES c),
      (0x0410, decide (s.get .pool_FREE_CHUNKS c < s.promised c + s.editFrames k op src arg))]

/-- TRUNCATE of sequence `i` to `n` positions (R162): the chunk that holds the last entry is copied into a fresh frame. -/
def State.truncateSeq (s : State) (k i n : Nat) : State :=
  let c := s.get .ses_CONTEXT k
  let d := s.seqDesc k i
  let np := cdiv n 64
  let (fresh, s) := State.popFrames c (b2n (np != 0)) s
  let last := (np - 1) / 256
  let s := forEach fresh (fun a s => s.writeVA c a (s.readVA c (d.chunks.getD last 0) 4096)) s
  let chunks := if np = 0 then [] else d.chunks.take last ++ fresh
  let d2 := { d with gen := (d.gen + 1) % 2 ^ 32, len := n, fill := n, npages := np, chunks := chunks }
  let s := if np = 0 then s else s.putEntry c d2 (np - 1) (s.entryBounds c (s.listEntry c d (np - 1)).page n)
  (s.putSeq k i d2).dropTail k d np chunks

/-- FORK of sequence `src` into sequence `i` (R162): every chunk is copied and every page's count rises by 1. -/
def State.forkSeq (s : State) (k i src : Nat) : State :=
  let c := s.get .ses_CONTEXT k
  let d := s.seqDesc k i
  let e := s.seqDesc k src
  let (fresh, s) := State.popFrames c (cdiv e.npages 256) s
  let s := forEach (fresh.zip e.usedChunks) (fun (a, b) s => s.writeVA c a (s.readVA c b 4096)) s
  let s := forEach (s.pagesOf c e) (fun p s => s.setRefs c p (s.pageRefs c p + 1)) s
  s.putSeq k i { d with
    state := 1, gen := (d.gen + 1) % 2 ^ 32, len := e.len, fill := e.fill, npages := e.npages, evicted := e.evicted, chunks := fresh }

/-- The writes of an edit (R162). -/
def State.applyEdit (s : State) (e : PendingEdit) : State :=
  let k := e.session
  let s : State := { s with edits := s.edits.filter (· != e) }
  match e.op with
  | 1 => s.putSeq k e.seq { s.seqDesc k e.seq with state := 1, len := 0, fill := 0, npages := 0, evicted := 0, chunks := [] }
  | 2 => (s.closeSeq k e.seq).countStalled k
  | 3 => s.truncateSeq k e.seq e.arg
  | _ => s.forkSeq k e.seq e.src

/-- Ranges that an edit reads (R162): the descriptors, and but for OPEN the list that it copies or empties with the reference counts of
its pages. -/
def State.editRanges (s : State) (e : PendingEdit) : List (Nat × Nat) :=
  let k := e.session
  let c := s.get .ses_CONTEXT k
  let from' := if e.op = 4 then e.src else e.seq
  let d := s.seqDesc k from'
  (s.seqAddr k e.seq, 128) :: (s.seqAddr k from', 128) ::
    (if e.op = 1 then []
     else (List.range d.npages).flatMap (fun n => [(d.entryAddr n, 16), (s.poolArea c 0 + 2 * (s.listEntry c d n).page, 2)]))

/-- Apply the edits in progress that `p` names, in the order in which they started. An error on a read counts (06 R221), and the edit
completes with what the block holds. -/
def State.applyEdits (s : State) (p : PendingEdit → Bool) (rd : ReadOutcome) (wr : WriteOutcome) : State :=
  s.writes none rd wr (fun s =>
    forEach (s.edits.filter p) (fun e s =>
      (s.readBlocks (s.linesFor (s.get .ses_CONTEXT e.session) (s.editRanges e)) rd 0).1.applyEdit e) s)

/-- An edit on session `k` started in an earlier cycle and its writes are not visible yet (R166). -/
def State.editing (s : State) (k : Nat) : Bool := s.edits.any (fun e => e.session == k && decide (e.since < s.now))

/-- The check of an edit whose EDIT_GO came at time `since` (R161): an accepted edit is in progress until EDIT_DONE; a refusal writes
EDIT_REASON and the sequence's LAST_REASON. -/
def State.checkEdit (s : State) (k op seq src since : Nat) : State :=
  match s.editCheck k op seq src with
  | 0 =>
    let s := s.setAll k [(.ses_EDIT_BUSY, 1), (.ses_EDIT_GO, 0), (.ses_EDIT_REASON, 0)]
    let e : PendingEdit := { session := k, op := op, seq := seq, src := src, arg := s.get .ses_EDIT_ARG k, since := since }
    { s with edits := s.edits ++ [e] }
  | code =>
    let s := s.setAll k [(.ses_EDIT_BUSY, 0), (.ses_EDIT_REASON, code)]
    if seq < s.nseq k then s.setReason k seq code else s

/-- A write of EDIT_GO with operation `op` (R161): while an edit is in progress the write is discarded and EDIT_OVERRUN is set;
while ENABLE is 0 it is discarded with EDIT_INVALID. Otherwise the fields of the write are stored and the edit is checked; the check reads
descriptors, which waits while GDDR6 admits no accesses (06 R224), with EDIT_BUSY 1. -/
def State.edit (s : State) (k op seq src : Nat) : State :=
  if s.get .ses_TYPE k = 2 then s
  else if s.on .ses_EDIT_BUSY k then s.set .ses_EDIT_OVERRUN k 1
  else if !s.on .ses_ENABLE k then s.set .ses_EDIT_REASON k 0x040F
  else
    let s := s.setAll k [(.ses_EDIT_OP, op), (.ses_EDIT_SEQ, seq), (.ses_EDIT_SRC, src), (.ses_EDIT_BUSY, 1)]
    s.whenAdmitted (.edit k op seq src s.now) (fun t => t.checkEdit k op seq src s.now)

/-- Meaning of OPEN. -/
def execOpenSeq (sn : Fin 3072) (seq src : Byte) (s : State) : Host.Outcome State Fault Refusal :=
  .next (s.hostWrite .other (fun s => s.edit sn.val 1 seq.toNat src.toNat))

/-- Meaning of CLOSE. -/
def execCloseSeq (sn : Fin 3072) (seq src : Byte) (s : State) : Host.Outcome State Fault Refusal :=
  .next (s.hostWrite .other (fun s => s.edit sn.val 2 seq.toNat src.toNat))

/-- Meaning of TRUNCATE. -/
def execTruncateSeq (sn : Fin 3072) (seq src : Byte) (s : State) : Host.Outcome State Fault Refusal :=
  .next (s.hostWrite .other (fun s => s.edit sn.val 3 seq.toNat src.toNat))

/-- Meaning of FORK. -/
def execForkSeq (sn : Fin 3072) (seq src : Byte) (s : State) : Host.Outcome State Fault Refusal :=
  .next (s.hostWrite .other (fun s => s.edit sn.val 4 seq.toNat src.toNat))

/-- Meaning of EDIT_GO: EDIT_OP names none of the four edits, so an edit that is checked is refused (R161). -/
def execEditGo (sn : Fin 3072) (op : BitVec 4) (seq src : Byte) (s : State) : Host.Outcome State Fault Refusal :=
  .next (s.hostWrite .other (fun s => s.edit sn.val op.toNat seq.toNat src.toNat))

/-- EDIT_DONE (R162): all writes of the edit are visible and EDIT_BUSY clears. The writes wait while GDDR6 admits no accesses (06
R224). -/
def State.editDone (s : State) (k : Nat) (rd : ReadOutcome) (wr : WriteOutcome) : State :=
  s.awaken (fun s => (s.applyEdits (fun e => e.session == k) rd wr).set .ses_EDIT_BUSY k 0)

/-- Meaning of EDIT_DONE. -/
def execEditDone (sn : Met (Fin 3072)) (s : State) : Host.Outcome State Fault Refusal := .next (s.editDone sn.val.val sn.rd sn.wr)

end Sys2Proof.Machine
end

