-- ==== Sys2Proof/Machine/Steps.lean ====
section
/-! DEFINITION. The pages of a KV class and the start of a step of a PAGED job: the reservation of its slots by append, new page,
copy-on-write or eviction (04 R136 to R138, R150 to R158, R164). -/

namespace Sys2Proof.Machine

/-! ## Pages (R136 to R138) -/

/-- HD of a class. -/
def State.kvHD (s : State) (k : Nat) : Nat := 64 * 2 ^ s.get .kvc_HD k

/-- HEAD_BYTES and LAYER_BYTES (R137). -/
def State.headBytes (s : State) (k : Nat) : Nat :=
  let f := fmtOf (s.get .kvc_KVFMT k)
  2 * (64 * s.kvHD k * f.bits / 8 + (if f.isMX then 64 * s.kvHD k / 32 else 0))
def State.layerBytes (s : State) (k : Nat) : Nat := (s.get .kvc_NKV_M1 k + 1) * s.headBytes k

/-- Address of the keys (`v` = 0) or values (1) of a layer and KV head in page `p`. -/
def State.kvAddr (s : State) (c k layer head p v : Nat) : Nat :=
  s.pageAddr c p + 512 + layer * s.layerBytes k + head * s.headBytes k + v * (s.headBytes k / 2)

/-! ## The step (R150 to R158, R164) -/

/-- A record under reservation: the descriptor, the slots taken, and what a superseded sequence allocated. -/
structure Taking where
  desc : SeqDesc
  slots : List PageSlot := []
  evicted : Nat := 0
  pages : List Nat := []
  chunks : List Nat := []
deriving DecidableEq, Repr

/-- Ranges of page `p` that a copy of its header and of its slots below `x` touches (R153). -/
def State.copyRanges (s : State) (c k p x : Nat) : List (Nat × Nat) :=
  let f := fmtOf (s.get .kvc_KVFMT k)
  let b := s.kvHD k * f.bits / 8
  let m := if f.isMX then s.kvHD k / 32 else 0
  (s.pageAddr c p, 512) :: (List.range (s.get .kvc_NLAYERS_M1 k + 1)).flatMap (fun l =>
    (List.range (s.get .kvc_NKV_M1 k + 1)).flatMap (fun h =>
      [0, 1].flatMap (fun v => let a := s.kvAddr c k l h p v; [(a, x * b), (a + 64 * b, x * m)])))

/-- Copy a page's header and its slots below `x` in every layer (R153); Dowel of bent `n` writes, and the reads are those of
`recordRanges` (log entry 125). -/
def State.copyPage (s : State) (n c k old new x : Nat) : State :=
  let src := s.copyRanges c k old x
  let dst := s.copyRanges c k new x
  let s := s.countWrites n dst
  forEach (src.zip dst) (fun (a, b) s => s.writeVA c b.1 (s.readVA c a.1 a.2)) s

/-- Pop a page for a list: its slot header is written in full (R140). A superseded list leaves its count at 0, and the job gives the page
back when it leaves (R164). -/
def State.popPage (s : State) (n c : Nat) (super : Bool) : Option (Nat × State) :=
  (s.popStack c false).map (fun (p, s) =>
    (p, ((s.setRefs c p (if super then 0 else 1)).writeVA c (s.pageAddr c p) (List.replicate 512 0)).countWrites n [(s.pageAddr c p, 512)]))

/-- Sources 1 and 2 of R151 for one token: none when neither supplies a slot. -/
def State.takePlain (s : State) (b k : Nat) (super : Bool) (t : Taking) : Option (Taking × State) :=
  let c := s.get .ses_CONTEXT k
  let kv := s.get .ses_D2 k % 64
  let d := t.desc
  let n := d.fill / 64
  if d.fill < d.npages * 64 then
    let e := s.listEntry c d n
    let take := fun (page : Nat) (t : Taking) =>
      { t with desc := { t.desc with fill := t.desc.fill + 1 }, slots := t.slots ++ [{ entry := n, page := page, slot := d.fill % 64 }] }
    if s.pageRefs c e.page ≤ 1 then some (take e.page t, s)
    else
      match s.popPage b c super with
      | none => none
      | some (p, s) =>
        let s := s.copyPage b c kv e.page p (d.fill % 64)
        let s := s.putEntry c d n { e with page := p }
        let s := if super then s else s.setRefs c e.page (s.pageRefs c e.page - 1)
        some (take p { t with pages := t.pages ++ [p] }, s.bump .ses_COW_COPIES k)
  else if 2048 ≤ d.npages then none
  else
    let fresh : Option (List Nat × List Nat × State) :=
      if d.npages % 256 = 0 then
        (s.popStack c true).map (fun (f, s) => (d.chunks.take (d.npages / 256) ++ [s.frameAddr c f], [f], s))
      else some (d.chunks, [], s)
    match fresh with
    | none => none
    | some (chunks, fs, s) =>
      match s.popPage b c super with
      | none => none
      | some (p, s) =>
        let d2 := { d with chunks := chunks, npages := d.npages + 1, fill := d.fill + 1 }
        let s := s.putEntry c d2 d.npages { page := p }
        some ({ t with desc := d2, slots := t.slots ++ [{ entry := d.npages, page := p, slot := 0 }], pages := t.pages ++ [p]
                       chunks := t.chunks ++ fs }, s)

/-- A slot that may be evicted, with SCORE and POSITION (R157). -/
structure Evictable where
  at' : PageSlot
  score : Val
  pos : Nat
deriving DecidableEq, Repr

/-- The evictable slots of a sequence at the start of a record, lowest SCORE first, then lowest POSITION. -/
def State.evictables (s : State) (k ntok : Nat) (d : SeqDesc) : List Evictable :=
  let c := s.get .ses_CONTEXT k
  let recent := s.get .ses_D3 k % 2 ^ 16
  let sink := s.get .ses_D3 k / 2 ^ 16 % 2 ^ 8
  let all := (List.range d.npages).flatMap (fun n =>
    let p := (s.listEntry c d n).page
    if s.pageRefs c p ≠ 1 then []
    else (List.range 64).filterMap (fun x =>
      let h := s.slotWord c p x
      let pos := h % 2 ^ 31
      if bit h 31 && decide (pos < d.len) && decide ((pos : Int) < ((d.len + ntok : Nat) : Int) - (recent : Nat)) && decide (sink ≤ pos) then
        some { at' := { entry := n, page := p, slot := x }, score := ofFP32 (s.slotScore c p x), pos := pos }
      else none))
  all.foldl (fun l e =>
    let before := l.takeWhile (fun x => x.score.lt e.score || (!e.score.lt x.score && decide (x.pos < e.pos)))
    before ++ e :: l.drop before.length) []

/-- The list of a record is full: 2,048 entries and no plain append slot (R156). -/
def SeqDesc.full (d : SeqDesc) : Bool := decide (2048 ≤ d.npages) && decide (d.npages * 64 ≤ d.fill)

/-- Reserve `n` tokens of a record (R151): all or nothing. The left case is the code of the refusal. Eviction takes place only with no free
page or a full list (R156); a list that lacks only a chunk frame is refused like one that lacks a page (log entry 44), and with EVICT_EN 0 a
full list is refused with 0x040A also when the pool is empty (log entry 105). -/
def State.takeSlots (b k : Nat) (super : Bool) : Nat → List Evictable → Taking → State → Nat ⊕ (Taking × State)
  | 0, _, t, s => .inr (t, s)
  | n + 1, ev, t, s =>
    match s.takePlain b k super t with
    | some (t, s) => State.takeSlots b k super n ev t s
    | none =>
      if s.on .pool_FREE_PAGES (s.get .ses_CONTEXT k) && !t.desc.full then .inl 0x0403
      else if !bit (s.get .ses_D2 k) 6 then .inl (if t.desc.full then 0x040A else 0x0403)
      else if super then .inl 0x0411
      else
        match ev with
        | [] => .inl 0x0412
        | e :: ev => State.takeSlots b k super n ev { t with slots := t.slots ++ [e.at'], evicted := t.evicted + 1 } s

/-- Write the headers of the slots of a record and the bounds of the entries that they lie in (R148, R151). -/
def State.writeSlots (s : State) (b k : Nat) (d : SeqDesc) (base : Nat) (slots : List PageSlot) : State :=
  let c := s.get .ses_CONTEXT k
  let es := (slots.map (·.entry)).eraseDups
  let s := forEach slots.zipIdx (fun (x, i) s =>
    let a := s.pageAddr c x.page
    (s.writeNumVA c (a + 4 * x.slot) 4 (base + i + 2 ^ 31)).writeNumVA c (a + 256 + 4 * x.slot) 4 0) s
  let s := s.countWrites b (slots.flatMap (fun x =>
    let a := s.pageAddr c x.page; [(a + 4 * x.slot, 4), (a + 256 + 4 * x.slot, 4)]) ++ es.map (fun n => (d.entryAddr n, 16)))
  forEach es (fun n s => s.putEntry c d n (s.entryBounds c (s.listEntry c d n).page (base + slots.length))) s

/-- Replace the descriptor of a sequence in the snapshot of a job. -/
def Snapshot.put (x : Snapshot) (i : Nat) (d : SeqDesc) : Snapshot := { x with descs := x.descs.set i d }

/-- A record is refused (R158): LAST_REASON, REFUSED_STEPS, and STALLED for an empty pool or too few evictable slots, but not on
a superseded snapshot (log entry 108). -/
def State.refuseStep (s : State) (j : JobId) (k i code : Nat) (super : Bool) : State × StepRec :=
  let s := s.bump .ses_REFUSED_STEPS k
  if s.nseq k ≤ i then (s, { seq := i, ntok := 0, code := code })
  else
    let stall := (code == 0x0403 || code == 0x0412) && !super
    let s := s.setReason k i code
    let s := if stall then
        (s.setSeqState k i 2).updJob j (fun y => { y with snapshot := y.snapshot.map (fun x => x.put i { x.descs.getD i {} with state := 2 }) })
      else s
    (s, { seq := i, ntok := 0, code := code, stalled := decide ((s.seqDesc k i).state = 2) })

/-- Ranges that the reservation of `n` tokens on a descriptor reads (R151 to R157): the entry that it appends to with the reference count of
its page, the words of the free stacks that it pops, the page that it copies, and for an eviction every entry with its count and the header
of its page. -/
def State.recordRanges (s : State) (b k n : Nat) (super : Bool) (d : SeqDesc) : List (Nat × Nat) :=
  let c := s.get .ses_CONTEXT k
  let kv := s.get .ses_D2 k % 64
  let i := d.fill / 64
  let refs := fun (p : Nat) => (s.poolArea c 0 + 2 * p, 2)
  let page := (s.listEntry c d i).page
  let last := if d.fill < d.npages * 64 then [(d.entryAddr i, 16), refs page] else []
  let copy := if d.fill < d.npages * 64 ∧ 1 < s.pageRefs c page ∧ s.on .pool_FREE_PAGES c then s.copyRanges c kv page (d.fill % 64) else []
  let top := fun (area total free k : Nat) => if k = 0 then [] else [(s.poolArea c area + 4 * (total - free), 4 * k)]
  let scan := (List.range d.npages).flatMap (fun i =>
    let p := (s.listEntry c d i).page; [(d.entryAddr i, 16), refs p, (s.pageAddr c p, 512)])
  last ++ copy ++
    (match State.takeSlots b k super n [] { desc := d } s with
     | .inr (t, _) =>
       top 1 (s.get .pool_PAGES c) (s.get .pool_FREE_PAGES c) t.pages.length ++
         top 2 (s.get .pool_CHUNKS c) (s.get .pool_FREE_CHUNKS c) t.chunks.length
     | .inl code => if code = 0x0412 then scan else [])

/-- The walk of sequence `i` fails at the step's start (R167): LAST_REASON is set, and the record's rows are poisoned. -/
def State.unreadStep (s : State) (b k i ntok code : Nat) : State × StepRec :=
  let s := (s.bump .scarf_WALK_FAULTS b).set .scarf_WALK_FAULT_SEEN b 1
  (s.setReason k i code, { seq := i, ntok := ntok, code := code, unread := true })

/-- Code of a page walk whose read failed (Table Memory-6; 07 R247). -/
def walkFailure (code : Nat) : Nat := if code = 0x032B then 0x040D else code

/-- Reserve the slots of one record (R150 to R158, R164, R167); Dowel of bent `b` reads and writes. -/
def State.reserveRecord (s : State) (j : JobId) (b k i ntok : Nat) (seen : List Nat) (rd : ReadOutcome) : State × StepRec :=
  match (s.job j).bind (·.snapshot) with
  | none => (s, { seq := i, ntok := ntok })
  | some x =>
    let d := x.descs.getD i {}
    let super := (s.seqDesc k i).gen != d.gen
    let lost := ((x.lost.find? (fun p => p.1 == i)).map (·.2)).getD 0
    if s.nseq k ≤ i ∨ seen.contains i ∨ ntok = 0 then let (s, r) := s.refuseStep j k i 0x0418 super; (s, { r with ntok := ntok })
    else if lost ≠ 0 then s.unreadStep b k i ntok lost
    else if d.state = 0 then let (s, r) := s.refuseStep j k i 0x0419 super; (s, { r with ntok := ntok })
    else
      let (s, m) := s.takeRanges b (s.get .ses_CONTEXT k) (s.recordRanges b k ntok super d) rd
      let s := s.warn j m.warning
      if m.code ≠ 0 then s.unreadStep b k i ntok (walkFailure m.code)
      else
      match State.takeSlots b k super ntok (s.evictables k ntok d) { desc := d } s with
      | .inl code => let (s, r) := s.refuseStep j k i code super; (s, { r with ntok := ntok })
      | .inr (t, s) =>
        let d2 := { t.desc with len := d.len + ntok, evicted := d.evicted + t.evicted, state := 1 }
        let s := s.writeSlots b k d2 d.len t.slots
        let s := s.bump .ses_EVICTIONS k t.evicted
        let s := if super then s
          else (s.putSeq k i { d2 with lastReason := (s.seqDesc k i).lastReason }).countWrites b [(s.seqAddr k i, 128)]
        let s := s.updJob j (fun y => { y with
          snapshot := y.snapshot.map (fun x => { x.put i d2 with
            extraPages := x.extraPages ++ (if super then t.pages else []), extraChunks := x.extraChunks ++ (if super then t.chunks else []) }) })
        (s, { seq := i, ntok := ntok, code := if super then 0x0411 else 0, stepped := true, evictedNow := t.evicted != 0, base := d.len
              slots := t.slots })

/-- The status word of a record (Table Scarf-12). -/
def StepRec.word (r : StepRec) : Nat := r.code + r.seq % 256 * 2 ^ 16 + b2n r.stalled * 2 ^ 24 + b2n r.evictedNow * 2 ^ 25

/-- Rows of the step list: those of the tile that the job loads from its binding (R150). -/
def Graph.stepRows (g : Graph) : Nat :=
  (g.ops.findSome? (fun d =>
    match d.kind with
    | .load o =>
      (match o.addr with
       | .input i _ => if g.inputs[i]? = some .stepList then (d.shape 0).map (·.h) else none
       | _ => none)
    | _ => none)).getD 0

/-- The records of a step list (Table Scarf-11): SEQ and NTOK. -/
def stepRecords (rows : Nat) (bs : List Byte) : List (Nat × Nat) :=
  (List.range rows).map (fun r => (ofBytes ((bs.drop (8 * r)).take 1), ofBytes ((bs.drop (8 * r + 4)).take 4) % 2 ^ 13))

/-- Reserve the records of the step in order. -/
def State.reserveAll (s : State) (j : JobId) (b k : Nat) (l : List (Nat × Nat)) (rd : ReadOutcome) : State × List StepRec :=
  let (s, recs, _) := l.foldl (fun (acc : State × List StepRec × List Nat) r =>
    let (s, rc) := acc.1.reserveRecord j b k r.1 r.2 acc.2.2 rd
    (s, acc.2.1 ++ [rc], r.1 :: acc.2.2)) (s, [], [])
  (s, recs)

/-- Write the step status words to the binding STEP_STATUS (R155). -/
def State.writeStatus (s : State) (j : Job) (g : Graph) (b : Nat) (recs : List StepRec) : State :=
  match g.outputs.zipIdx.find? (fun p => p.1 == .stepStatus) with
  | some (_, i) => s.jobWrite b j.id j.ctx (j.outputs.getD i 0) (recs.flatMap (fun r => toBytes 4 r.word))
  | none => s

/-- The start of the step of a job (R151, R155): Dowel of bent `b` reads the step list, every record is reserved in order, and the status
words are written, so an edit that comes later leaves them as they are (log entry 108). A step list that cannot be read reserves nothing. -/
def State.reserveStep (s : State) (id : JobId) (b : Nat) (env : StartEnv) : State :=
  match s.job id with
  | none => s
  | some j =>
    match j.snapshot, s.graph j.graph with
    | some x, some g =>
      if g.kvClasses.isEmpty then s
      else
        let i := g.inputs.idxOf .stepList
        let (s, m) := s.dowelRead b j.ctx (j.inputs.getD i 0) (8 * g.stepRows) env.stepMem env.stepHost
        let s := (s.warn id m.warning).readFailed id m.code
        if m.code ≠ 0 then s.updJob id (fun y => { y with snapshot := y.snapshot.map (fun x => { x with failed := m.code }) })
        else
          s.writes (some id) env.walkMem env.wr (fun s =>
            let (s, recs) := s.catchPartial id (fun s => s.reserveAll id b x.session (stepRecords g.stepRows m.bytes) env.walkMem)
            let s := s.updJob id (fun y => { y with holdsGeneration := true, snapshot := y.snapshot.map (fun x => { x with recs := recs }) })
            (s.countStalled x.session).writeStatus j g b recs)
    | _, _ => s

end Sys2Proof.Machine
end

