-- ==== Sys2Proof/Machine/Streams.lean ====
section
/-! DEFINITION. Recurrent streams (05): the state record, stream commands, chunk control, fetch, commit and swap-out. -/

namespace Sys2Proof.Machine

/-! ## The state record (R177) -/

/-- LROW_BYTES of layer `l` of a class. -/
def lrowReg (l : Nat) : Reg :=
  [Reg.rcl_LROW_BYTES0, .rcl_LROW_BYTES1, .rcl_LROW_BYTES2, .rcl_LROW_BYTES3, .rcl_LROW_BYTES4, .rcl_LROW_BYTES5,
    .rcl_LROW_BYTES6, .rcl_LROW_BYTES7].getD l .rcl_LROW_BYTES7

/-- Class of a stream. -/
def State.rclass (s : State) (k : Nat) : Nat := s.get .ses_D2 k % 64

/-- Batch rows of a stream. -/
def State.batch (s : State) (k : Nat) : Nat := s.get .ses_D3 k % 128 + 1

/-- LROW_BYTES of layer `l` of stream `k`. -/
def State.lrow (s : State) (k l : Nat) : Nat := s.get (lrowReg l) (s.rclass k)

/-- Bytes of one batch row that lie before layer `l`. -/
def State.lrowBefore (s : State) (k l : Nat) : Nat := ((List.range l).map (s.lrow k)).sum

/-- Address of the state of layer `l` in the record, all batch rows. -/
def State.layerAddr (s : State) (k l : Nat) : Nat := s.stateAddr k + s.batch k * s.lrowBefore k l

/-- INIT_MODE of a stream. -/
def State.initMode (s : State) (k : Nat) : Nat := s.get .ses_D2 k / 64 % 4

/-- INIT_ADDR of a stream. -/
def State.initAddr (s : State) (k : Nat) : Nat := s.get .ses_D6 k + 2 ^ 32 * s.get .ses_D7 k

/-- Initial state of one batch row of layer `l` for the first record (R179): zeros under INIT_MODE 0, the row at INIT_ADDR otherwise, which
the Dowel of the lowest present bent reads, from the host tier with a request (13 R414). What a row holds that does not arrive is left
open (log entry 122). -/
def State.initRow (s : State) (k l : Nat) (rd : ReadOutcome) : State × List Byte :=
  let n := s.lrow k l
  let c := s.get .ses_CONTEXT k
  let a := s.initAddr k + s.lrowBefore k l
  let b := ((List.range 8).find? (fun x => s.on .bent_PRESENT x)).getD 0
  let open' := fun (s : State) =>
    ({ s with free := s.free + 1 }, (List.range n).map (fun i => BitVec.ofNat 8 (Config.freeValue s.free (100 + i))))
  if s.initMode k = 0 then (s, List.replicate n 0)
  else
    match s.place c a with
    | some (.host _) =>
      if !s.mayAsk then open' (s.hostFault b).1
      else ((s.askHost c [(a, n)]).bump .dowel_HOST_RD_LINES b (cdiv n 64), s.readVA c a n)
    | _ =>
      let (s, m) := s.readRanges b c [(a, n)] rd
      if m.code = 0 then (s, s.readVA c a n) else open' s

/-! ## Stream commands -/

/-- The stream check (R179). -/
def State.streamCheck (s : State) (k : Nat) : Nat :=
  let c := s.get .ses_CONTEXT k
  let rc := s.rclass k
  firstCode
    [(0x0401, !s.on .ctx_ENABLE c), (0x0417, s.sessionQuota k),
      (0x0501, !s.on .rcl_VALID rc || !bit (s.get .cls_RCLASSES (s.classOf c)) rc),
      (0x0502, decide (96 < s.batch k) || s.initMode k == 3),
      (0x0503, s.stateAddr k % 4096 != 0 || !s.inPrivate c (s.stateAddr k) (s.get .str_STATE_BYTES k)),
      (0x0504, s.initMode k != 0 && (s.initAddr k % 64 != 0 || !s.mayRead c (s.initAddr k) (s.get .rcl_ROW_BYTES rc)))]

/-- Write the initial state record (R179): INIT_MODE 2 leaves it as it stands. -/
def State.initRecord (s : State) (k : Nat) (rd : ReadOutcome) : State :=
  if s.initMode k = 2 then s
  else
    let layers := s.get .rcl_NLAYERS_M1 (s.rclass k) + 1
    forEach (List.range layers) (fun l s =>
      let (s, bs) := s.initRow k l rd
      forEach (List.range (s.batch k)) (fun i s =>
        s.writeVA (s.get .ses_CONTEXT k) (s.layerAddr k l + i * s.lrow k l) bs) s) s

/-- The same with its writes as they go at the pins (06 R222). -/
def State.initWrite (s : State) (k : Nat) (rd : ReadOutcome) (wr : WriteOutcome) : State := s.writes none rd wr (fun s => s.initRecord k rd)

/-- Accepted and refused enables of a TYPE 2 entry (R179): the first record waits while GDDR6 admits no accesses (06 R224). -/
def State.streamEnable (s : State) (k : Nat) (rd : ReadOutcome) (wr : WriteOutcome) : State :=
  let s := s.streamSize k
  match s.streamCheck k with
  | 0 =>
    let s := s.whenAdmitted (.record k) (fun s => s.initWrite k rd wr)
    let s := s.setAll k
      [(.ses_ENABLE, 1), (.ses_REASON, 0), (.str_NEXT_CHUNK, 0), (.str_STEPS, 0), (.str_FETCHES, 0), (.str_ABORTS, 0),
        (.str_RESET_PENDING, 0)]
    s.bump .ten_SESSIONS_USED (s.tenantOf (s.get .ses_CONTEXT k))
  | code => s.refuse .ses_REASON k code

/-- A write of DW0 of a session entry with ENABLE 1 (04 R145): the fields of the write are stored first (00 R11), then the check
of the entry's TYPE runs. -/
def State.entryEnable (s : State) (k value : Nat) (rd : ReadOutcome) (wr : WriteOutcome) : State :=
  if s.on .ses_ENABLE k then s
  else
    let s := s.storeFields k 0 value sesRwl0
    if s.get .ses_TYPE k = 2 then s.streamEnable k rd wr else s.sessionEnable k rd wr

/-- Meaning of SESSION_ENABLE. -/
def execSessionEnable (sn : Met (Fin 3072)) (value : Word) (s : State) : Host.Outcome State Fault Refusal :=
  .next (s.hostWrite .other (fun s => s.entryEnable sn.val.val value.toNat sn.rd sn.wr))

/-- Meaning of STREAM_ENABLE. -/
def execStreamEnable (sn : Met (Fin 3072)) (value : Word) (s : State) : Host.Outcome State Fault Refusal :=
  .next (s.hostWrite .other (fun s => s.entryEnable sn.val.val value.toNat sn.rd sn.wr))

/-- STREAM_DISABLE (R180): an accepted clear invalidates every resident copy. -/
def State.streamDisable (s : State) (k : Nat) : State :=
  if !s.on .ses_ENABLE k || s.get .ses_TYPE k != 2 then s
  else
    let c := s.get .ses_CONTEXT k
    if (s.busyEntries c).any (fun e => s.get .job_BINDING (jobIdx c e) == k) || s.jobs.any (fun j => j.ctx == c && j.binding == k) then
      s.refuse .ses_REASON k 0x0505
    else
      let s := s.dropParts (fun q => q.stream == k)
      (s.setAll k [(.ses_ENABLE, 0), (.ses_REASON, 0)]).drop .ten_SESSIONS_USED (s.tenantOf c)

/-- Meaning of STREAM_DISABLE. -/
def execStreamDisable (sn : Fin 3072) (s : State) : Host.Outcome State Fault Refusal :=
  .next (s.hostWrite .other (fun s => s.streamDisable sn.val))

/-- RESET_PENDING_WRITE (R178, R184): the next chunk starts from the initial state. -/
def State.resetPendingWrite (s : State) (k : Nat) : State :=
  if s.get .ses_TYPE k ≠ 2 then s
  else
    let now := s.resets.any (fun r => r.1 == k && r.2.1 == s.now)
    let s : State := if now then s
      else { s with resets := (k, s.now, s.on .str_RESET_PENDING k) :: s.resets.filter (fun r => r.1 != k) }
    s.set .str_RESET_PENDING k 1

/-- Meaning of RESET_PENDING_WRITE. -/
def execResetPendingWrite (sn : Fin 3072) (s : State) : Host.Outcome State Fault Refusal :=
  .next (s.hostWrite .other (fun s => s.resetPendingWrite sn.val))

/-- RESET_PENDING as a chunk that starts now samples it: a write of the same cycle is left for the next chunk (R184). -/
def State.sampleReset (s : State) (k : Nat) : Bool :=
  match s.resets.find? (fun r => r.1 == k && r.2.1 == s.now) with
  | some r => r.2.2
  | none => s.on .str_RESET_PENDING k

/-! ## Chunks (R182 to R186) -/

/-- A chunk control record (Table Truss-4). -/
structure ChunkCtl where
  chunkNo : Nat
  nsteps : Nat
  resetAtStart : Bool
  marks : List (Nat × Nat × Bool)
deriving DecidableEq, Repr

/-- Read a chunk control record with its marks; none where CHUNK_CTL of R183 applies. -/
def ChunkCtl.parse (bs : List Byte) : Option ChunkCtl :=
  let dw := fun k => ofBytes ((bs.drop (4 * k)).take 4)
  let n := bits (dw 2) 0 9
  let ms := (List.range n).map (fun i => dw (4 + i))
  if bs.length < 16 + 4 * n ∨ 256 < n ∨ bits (dw 1) 16 16 ≠ 0 ∨ bits (dw 2) 10 22 ≠ 0 ∨ dw 3 ≠ 0 ∨ ms.any (fun m => bits m 24 8 != 0)
  then none
  else some { chunkNo := dw 0, nsteps := bits (dw 1) 0 16 + 1, resetAtStart := bit (dw 2) 9
              marks := ms.map (fun m => (bits m 0 16, bits m 16 7, bit m 23)) }

/-- Keys that do not rise strictly. -/
def notRising : List Nat → Bool
  | a :: b :: l => decide (b ≤ a) || notRising (b :: l)
  | _ => false

/-- MARK_ORDER (R183). -/
def ChunkCtl.badMarks (x : ChunkCtl) (batch : Nat) : Bool :=
  x.marks.any (fun (st, r, _) => decide (x.nsteps ≤ st) || decide (batch ≤ r)) ||
    notRising (x.marks.map (fun (st, r, _) => st * 128 + r)) ||
    x.marks.any (fun (st, _, all) => all && decide (1 < (x.marks.filter (fun m => m.1 == st)).length))

/-- The chunk check of a job start (R183): 0 or the code of the fault. -/
def State.chunkCheck (s : State) (k : Nat) (g : Graph) (ctl : Option ChunkCtl) : Nat :=
  match ctl with
  | none => 0x0506
  | some x =>
    firstCode
      [(0x050A, g.truss.any (fun t => t.1 != s.rclass k)), (0x0507, x.chunkNo != s.get .str_NEXT_CHUNK k),
        (0x0508, x.badMarks (s.batch k))]

/-- Valid resident part of a layer of a stream on a bent (R191). -/
def State.validPart (s : State) (k l n : Nat) : Option TrussPart :=
  s.parts.find? (fun p => p.stream == k && p.layer == l && p.bent == n && p.tag == s.get .str_NEXT_CHUNK k)

/-- Start the chunk of a job (R184): RESET_PENDING is sampled and cleared; layers whose part is resident are ready. -/
def State.startChunk (s : State) (j : JobId) (k : Nat) (bents : List Nat) (g : Graph) (x : ChunkCtl) : State :=
  let sampled := s.sampleReset k
  let later := s.resets.any (fun r => r.1 == k && r.2.1 == s.now)
  let layers := g.truss.map (fun (_, l, pos) =>
    let n := bents.getD pos 0
    match s.validPart k l n with
    | some p => ({ layer := l, bent := n, ready := true, state := p.data } : ChunkLayer)
    | none => { layer := l, bent := n })
  let ch : Chunk :=
    { stream := k, nsteps := x.nsteps, resetAtStart := x.resetAtStart || sampled, marks := x.marks, sampled := sampled, layers := layers }
  let s := s.setAll k [(.str_RESET_PENDING, b2n later), (.str_IN_FLIGHT, 1)]
  let s : State := { s with
    parts := mapWhere (fun p => p.stream == k && layers.any (fun l => l.layer == p.layer && l.bent == p.bent))
      (fun p => { p with used := s.now }) s.parts }
  s.updJob j (fun y => { y with chunk := some ch, tiles := g.chunkTiles (x.nsteps * s.batch k) })

/-- A part is pinned while a chunk in flight uses it (R193). -/
def State.pinned (s : State) (p : TrussPart) : Bool :=
  s.jobs.any (fun j => match j.inFlight with
    | some ch => ch.stream == p.stream && ch.layers.any (fun l => l.layer == p.layer && l.bent == p.bent)
    | none => false)

/-- Make room for `need` lines in the cache of bent `n` (R193): valid parts that are not pinned go, least recently used first.
None when it cannot be made. -/
def State.makeRoom (s : State) (n need : Nat) : Nat → Option State
  | 0 => none
  | fuel + 1 =>
    if s.get .truss_CACHE_USED n + need ≤ s.get .truss_CACHE_LINES n then some s
    else
      let l := s.parts.filter (fun p => p.bent == n && !s.pinned p)
      match l with
      | [] => none
      | a :: l =>
        let v := l.foldl (fun b p => if p.used < b.used then p else b) a
        let s := (s.bump .truss_SWAPOUTS n).dropParts (fun p => p == v)
        s.makeRoom n need fuel

/-- The chunk-layer at the head of the queue of a job on bent `n` (R192): the first in graph order that is not done. -/
def Chunk.head (ch : Chunk) (n : Nat) : Option ChunkLayer := ch.layers.find? (fun l => l.bent == n && !l.done)

/-- Change a layer of the chunk of a job. -/
def State.updLayer (s : State) (j : JobId) (l n : Nat) (f : ChunkLayer → ChunkLayer) : State :=
  s.updJob j (fun x => { x with
    chunk := x.chunk.map (fun ch => { ch with layers := mapWhere (fun y => y.layer == l && y.bent == n) f ch.layers }) })

/-- RESIDENT_MASK of a stream follows its valid parts. -/
def State.residentMask (s : State) (k : Nat) : State :=
  s.set .str_RESIDENT_MASK k (listMask ((s.parts.filter (fun p => p.stream == k)).map (·.bent)))

/-- Room for a fetched part: none for an aborted chunk, whose fetch leaves no part in the cache (log entry 45). -/
def State.fetchRoom (s : State) (ch : Chunk) (n lines : Nat) : Option State :=
  if ch.aborted ≠ 0 then some s else s.makeRoom n lines (s.parts.length + 1)

/-- A fetched part enters the cache of bent `n`. -/
def State.putPart (s : State) (ch : Chunk) (p : TrussPart) : State :=
  if ch.aborted ≠ 0 then s
  else (({ s with parts := s.parts ++ [p] } : State).bump .truss_CACHE_USED p.bent p.lines).residentMask p.stream

/-- STATE_FETCH_DONE (R192, R193, R195): for the first job whose queue on bent `n` has layer `l` at its head without a valid part. The
operators of an aborted chunk continue (R187), and their layers are fetched too. An uncorrectable error aborts the chunk with
STATE_READ_ERROR, and the operator's tiles are poisoned with that reason. -/
def State.fetchDone (s : State) (n l : Nat) (mem : ReadOutcome) : State :=
  match s.jobs.find? (fun j => !j.finished && (match j.chunk.bind (·.head n) with
    | some x => x.layer == l && !x.ready
    | none => false)) with
  | none => s
  | some j =>
    match j.chunk with
    | none => s
    | some ch =>
      let k := ch.stream
      let c := s.get .ses_CONTEXT k
      let bytes := s.batch k * s.lrow k l
      let lines := cdiv bytes 64
      match s.fetchRoom ch n lines with
      | none => s
      | some s =>
        let s := ((s.bump .str_FETCHES k).bump .truss_FETCHES n).bump .truss_HEAD_WAITS n
        let (s, m) := s.takeRanges n c [(s.layerAddr k l, bytes)] mem
        let s := s.warn j.id m.warning
        if m.code ≠ 0 then
          let code := if m.code = 0x032B then 0x0509 else m.code
          ((s.set .truss_FETCH_ERROR_SEEN n 1).chunkAbort j.id code).updLayer j.id l n
            (fun y => { y with ready := true, waited := true, poison := code })
        else
          let data := s.readVA c (s.layerAddr k l) bytes
          let p : TrussPart := { stream := k, layer := l, bent := n, tag := s.get .str_NEXT_CHUNK k, lines := lines, used := s.now, data := data }
          (s.putPart ch p).updLayer j.id l n (fun y => { y with ready := true, waited := true, state := data })

/-- Meaning of STATE_FETCH_DONE. -/
def execStateFetchDone (n layer : Fin 8) (mem : ReadOutcome) (s : State) : Host.Outcome State Fault Refusal :=
  .next (s.awaken (fun s => s.fetchDone n.val layer.val mem))

/-- Dowel writes the final state of a layer of a chunk into the record (R185). -/
def State.commitLayer (s : State) (k : Nat) (l : ChunkLayer) : State :=
  let c := s.get .ses_CONTEXT k
  let a := s.layerAddr k l.layer
  ((s.writeVA c a l.state).countWrites l.bent [(a, l.state.length)]).bump .truss_CHUNKS_COMMITTED l.bent

/-- The final states of a chunk are in the record (R185, R191): the parts that the chunk wrote are retagged, and other parts of the stream
become invalid. -/
def State.commitChunk (s : State) (j : JobId) (k : Nat) (ch : Chunk) : State :=
  let next := (s.get .str_NEXT_CHUNK k + 1) % 2 ^ 32
  let s := s.dropParts (fun p => p.stream == k && !ch.layers.any (fun l => l.layer == p.layer && l.bent == p.bent))
  let s : State := { s with
    parts := s.parts.map (fun p =>
      match ch.layers.find? (fun l => p.stream == k && l.layer == p.layer && l.bent == p.bent) with
      | some l => { p with tag := next, data := l.state, used := s.now }
      | none => p) }
  let s := s.setAll k [(.str_NEXT_CHUNK, next), (.str_IN_FLIGHT, 0)]
  let s := (s.bump .str_STEPS k ch.nsteps).residentMask k
  (s.updJob j (fun x => { x with chunk := none })).swapDeferred k

/-- CHUNK_COMMIT (R185, R191): every Truss operator of the job has produced its last step. A write that meets a part of a block with a
coded form faults the job, and the chunk aborts (07 R241). -/
def State.chunkCommit (s : State) (k : Nat) (rd : ReadOutcome) (wr : WriteOutcome) : State :=
  match s.jobs.find? (fun j => match j.inFlight with | some ch => ch.stream == k | none => false) with
  | none => s
  | some j =>
    match j.inFlight with
    | none => s
    | some ch =>
      if !ch.layers.all (fun l => l.done && l.poison == 0) then s
      else
        let s := s.writes (some j.id) rd wr (fun s =>
          (s.catchPartial j.id (fun s => (forEach ch.layers (fun l s => s.commitLayer k l) s, ()))).1)
        if ((s.job j.id).bind Job.inFlight).isNone then s else s.commitChunk j.id k ch

/-- SWAP_OUT (R194): deferred while the stream's chunk is in flight. -/
def State.swapOut (s : State) (k n : Nat) : State :=
  let ps := s.parts.filter (fun p => p.stream == k && p.bent == n)
  if ps.isEmpty then s
  else if s.on .str_IN_FLIGHT k then
    { (s.set .str_SWAP_DEFERRED k 1).bump .truss_SWAP_DEFERRALS n with swaps := s.swaps ++ [(k, n)] }
  else (s.bump .truss_SWAPOUTS n ps.length).dropParts (fun p => p.stream == k && p.bent == n)

/-- Meaning of SWAP_OUT. -/
def execSwapOut (sn : Fin 3072) (n : Fin 8) (s : State) : Host.Outcome State Fault Refusal := .next (s.swapOut sn.val n.val)

/-! ## What waited for GDDR6 (06 R224) -/

/-- Serve an access that waited. -/
def State.serveAccess (s : State) (w : Waiting) : State :=
  match w with
  | .write c a bs peg =>
    let s := s.writeVA c a bs
    (match peg with | some i => s.pegAdd i 1 | none => s)
  | .sequences k => s.firstSeqs k
  | .disable k => s.sessionDisable k .clean .clean
  | .edit k op seq src since => s.checkEdit k op seq src since
  | .record k => if s.on .ses_ENABLE k then s.initRecord k .clean else s

/-- Serve every access that waited, in the order of their arrival, once accesses are admitted. -/
def State.serveWaiting (s : State) : State :=
  if s.refresh = .active then
    forEach s.memory.waiting (fun w s => s.serveAccess w) { s with memory := { s.memory with waiting := [] } }
  else s

/-- Meaning of SELF_REFRESH_EXIT: accesses that waited are served after step 4 (R224). -/
def execSelfRefreshExit (s : State) : Host.Outcome State Fault Refusal := .next s.selfRefreshExit.serveWaiting

end Sys2Proof.Machine
end

