-- ==== Sys2Proof/Machine/Jobs.lean ====
section
/-! DEFINITION. How a job of any kind starts and leaves the queue (01 R49 to R55; 04 R160 to R168; 05 R183; 06 R209; 11 R348;
13 R406 to R409). -/

namespace Sys2Proof.Machine

/-! ## Done -/

/-- Every output tile of the job is written: each operator has done its tiles, each SEND channel is acknowledged (11 R353), and
no chunk is in flight (05 R185). -/
def State.jobDone (s : State) (j : Job) : Bool :=
  match s.graph j.graph with
  | none => true
  | some g =>
    g.ops.zipIdx.all (fun (o, i) => decide (j.ntiles i o ≤ j.tilesDone i)) &&
      (s.channels j).all (fun ch => !ch.send ||
        (match s.flow j.ctx ch.num (s.channelPeer j.ctx ch) true with
         | some f => decide (j.regionTiles g ch.region ≤ f.done)
         | none => true)) &&
      j.inFlight.isNone && !s.froeBuilds.any (fun b => b.job == j.id) &&
      (s.jobBarriers j).zipIdx.all (fun (b, k) => decide (b.after.length ≤ j.issued k) && !s.awaitsRelease j k)

/-- A job that has written its last output tile reaches step 1 of Table Stations-10: STATE 4. -/
def State.settleJob (s : State) (id : JobId) : State :=
  match s.job id with
  | none => s
  | some j =>
    if j.finished || !s.jobDone j then s
    else
      let s := s.updJob id (fun x => { x with finished := true })
      match j.ringEntry with
      | some k => s.set .job_STATE k 4
      | none => s

/-- Settle every job of a context. -/
def State.settleContext (s : State) (c : Nat) : State :=
  forEach (s.jobs.filter (fun j => j.ctx == c)) (fun j s => s.settleJob j.id) s

/-- Settle every started job. -/
def State.settleAll (s : State) : State := forEach s.jobs (fun j s => s.settleJob j.id) s

/-- Meaning of KERTIK_ACK_RX: the last acknowledgement may end a job (11 R353). -/
def execKertikAckRx (k : Fin 8) (f : Frame) (s : State) : Host.Outcome State Fault Refusal := .next (s.rxKind k.val 1 f).settleAll

/-- Meaning of REORDER_RELEASE. -/
def execReorderRelease (k : Fin 8) (s : State) : Host.Outcome State Fault Refusal := .next (s.reorderRelease k.val).settleAll

/-- Meaning of BARRIER_ARRIVE. -/
def execBarrierArrive (c : Fin 16384) (s : State) : Host.Outcome State Fault Refusal := .next (s.barrierArrive c.val).settleAll

/-- Meaning of PEG_WAIT_COMPLETE. -/
def execPegWaitComplete (k : Nat) (s : State) : Host.Outcome State Fault Refusal := .next (s.pegWaitComplete k).settleAll

/-! ## Starting -/

/-- What starts: the names that a job entry, a loop entry or the cascade entry gives a job. -/
structure StartReq where
  id : JobId
  ctx : Nat
  entry : Nat := 0
  graph : Nat
  pegBase : Nat
  donePeg : Nat
  ring : Nat
  tag : Nat := 0
  seq : Nat := 0
  binding : Nat := 0xFFFF
  prio : Nat := 0
  mask : Nat
  inList : Nat
  outList : Nat
  buf : Nat := 0
  lpFirst : Nat := 0
  hqFirst : Nat := 0
deriving DecidableEq, Repr

/-- Choose `n` of the listed bents; which ones the device takes is not specified (01 R19). -/
def pickBents (seed : Nat) : Nat → List Nat → List Nat
  | 0, _ => []
  | n + 1, l =>
    match pluck l (Config.freeValue seed (64 + n) % max 1 l.length) with
    | some (p, rest) => p :: pickBents seed n rest
    | none => []

/-- Fill `n` positions from position `p`: those of SEGMENTED operators from `a`, the others from `b`. -/
def fillPlaces (seg : List Nat) : Nat → Nat → List Nat → List Nat → List Nat
  | 0, _, _, _ => []
  | n + 1, p, a, b =>
    if seg.contains p then a.headD 0 :: fillPlaces seg n (p + 1) a.tail b
    else b.headD 0 :: fillPlaces seg n (p + 1) a b.tail

/-- Bents of a placement of graph `g` among `avail`, by position. The chosen bents take the positions in increasing logical order: the
manual fixes that for the bents of a window operator (03 R110) and is silent on the rest (log entry 21). A SEGMENTED operator goes to
logical bents 0 and 1 (04 R134), whatever its position; in a graph with bands, where it stands first (14 R432 check 12), the others
then lie above it. None when the graph cannot be placed. -/
def placeGraph (seed : Nat) (g : Graph) (avail : List Nat) : Option (List Nat) :=
  let low := avail.filter (fun n => n < 2)
  let seg := g.segmented
  let k := seg.length
  if low.length < k then none
  else
    let alone := seg == [1] && low.length == 2 && decide (2 ≤ g.bentsNeeded)
    let above := fun (n m : Nat) => g.bands.isEmpty || decide (n < m)
    let fits := low.filter (fun n => decide (g.bentsNeeded - k ≤ (avail.filter (fun m => m != n && above n m)).length))
    let a := if alone then [1] else pickBents seed k (if k = 1 && !fits.isEmpty then fits else low)
    let first := if alone then [0] else []
    let rest := pickBents (seed + 1) (g.bentsNeeded - k - first.length)
      (avail.filter (fun n => !a.contains n && !first.contains n && a.all (fun m => alone || above m n)))
    let up := fun (l : List Nat) => (List.range 8).filter (fun n => l.contains n)
    some (fillPlaces seg g.bentsNeeded 0 (up a) (up (first ++ rest)))

/-- Addresses of the bindings of a job: those that the device substitutes, and the listed ones in order. -/
def bindAddrs (subst : Binding → Option Nat) : List Binding → List Nat → List Nat
  | [], _ => []
  | b :: bs, l =>
    match subst b with
    | some a => a :: bindAddrs subst bs l
    | none => l.headD 0 :: bindAddrs subst bs l.tail

/-- The read of a binding list (R50): 0 or the code of its failure. The manual gives a list no length; one line of 64 bytes is read (log
entry 26). The content is the command's operand. -/
def State.readList (s : State) (id : JobId) (n c a : Nat) (mem : ReadOutcome) (host : HostOutcome) : State × Nat :=
  let (s, m) := s.dowelRead n c a 64 mem (match host with | .data _ => .data [] | h => h)
  (s.warn id m.warning, m.code)

/-- Publication of VERSIONED regions at a job start (06 R209, 09 R285): a region that an enabled loop entry names as its
ADAPT_REGION follows only that stream's loop jobs. -/
def State.publish (s : State) (id : JobId) (c : Nat) : State :=
  forEach (List.range 32) (fun r s =>
    let k := rgnIdx c r
    let adapt := (s.indices .loop_ENABLE).find? (fun x =>
      s.get .cam_CONTEXT x == c && s.on .loop_ADAPT_VALID x && s.get .loop_ADAPT_REGION x == r)
    let mine := match adapt, id with
      | some x, .loop y => x == y.val
      | some _, _ => false
      | none, _ => true
    let count := s.get .peg_COUNT (s.rgnPublish k)
    if s.on .rgn_ENABLE k && s.get .rgn_KIND k == 4 && mine && hasReached 32 count (s.get .rgn_VERSION k + 1) then
      s.setAll k [(.rgn_ACTIVE, 1 - s.get .rgn_ACTIVE k), (.rgn_VERSION, count)]
    else s) s

/-- The peg block contains the PUBLISH_PEG of a VERSIONED region of the context (06 R209). -/
def State.publishClash (s : State) (c base n : Nat) : Bool :=
  (List.range 32).any (fun r =>
    let k := rgnIdx c r
    s.on .rgn_ENABLE k && s.get .rgn_KIND k == 4 && base ≤ s.rgnPublish k && s.rgnPublish k < base + n)

/-- The peg block contains an enabled camera stream's FRAME_PEG (08 R259). -/
def State.framePegClash (s : State) (base n : Nat) : Bool :=
  (s.indices .cam_ENABLE).any (fun k => base ≤ s.get .cam_FRAME_PEG k && s.get .cam_FRAME_PEG k < base + n)

/-- The fabric check of a job start (11 R348). -/
def State.fabricStartCheck (s : State) (c : Nat) (f : FabricPart) : Nat :=
  let n := s.get .fjob_NMEMBERS_M1 c + 1
  firstCode
    [(0x0808, s.get .fjob_STATE c != 1), (0x0809, decide (n < f.minMembers) || decide (f.maxMembers < n)),
      (0x080A, decide (s.get .fab_FLOW_RECORDS_FREE < f.channels.length))]

/-- Open the flows of a run (11 R348, R349, R355): RUN increments, each channel takes a flow record, and an ACK with RUN_START
goes out on every control flow; CREDIT rises from 0 with the job (R350, R352). -/
def State.openRun (s : State) (c : Nat) (f : FabricPart) : State :=
  let s := s.bump .fjob_RUN c
  let new := f.channels.map (fun ch =>
    ({ ctx := c, flow := ch.num, peer := s.channelPeer c ch, send := ch.send, rto := s.get .fab_RTO_US } : Flow))
  let s : State := { s with fabric := { s.fabric with flows := s.fabric.flows ++ new } }
  let s := s.drop .fab_FLOW_RECORDS_FREE 0 f.channels.length
  (forEach (s.others c) (fun d s => s.sendAck c 0xFFFF d true) s).creditAcks c

/-- The fabric check of a job of graph `g` (11 R348): 0 for another graph. -/
def State.fabricCode (s : State) (c : Nat) (g : Graph) : Nat := match g.fabric with | some f => s.fabricStartCheck c f | none => 0

/-- A fabric job that none of the three codes of R348 stops is the next run of its entry, also where it faults at start for another
reason. -/
def State.startRun (s : State) (c : Nat) (g : Graph) : State :=
  match g.fabric with
  | some f => if s.fabricStartCheck c f = 0 then s.openRun c f else s
  | none => s

/-- Address of a peg that a graph names, as a peg reference of the job (01 R44). -/
def State.pegName (s : State) (j : Job) (p : PegName) : Nat :=
  let k := match j.id with | .loop k => k.val | _ => 0
  match p with
  | .block o => j.pegBase + o
  | .publish r => s.rgnPublish (rgnIdx j.ctx r)
  | .ref v => v
  | .band => s.get .loop_BAND_PEG_BASE k + j.buf
  | .reentry => s.get .loop_REENTRY_PEG_BASE k + j.buf
  | .view => s.get .loop_VIEW_PEG k

/-- One WAIT of operator `o` (01 R32): pending on a peg of the job's context; on any other peg it is discarded and counted, and the job
faults with PEG_RANGE (R41). -/
def State.issueWait (s : State) (j : Job) (o : Nat) (w : OpWait) : State :=
  let i := s.pegName j w.peg % 2 ^ 16
  if s.pegOwned i j.ctx then { s with waits := s.waits ++ [{ peg := i, target := w.target, job := some j.id, who := .op o }] }
  else s.pegFault.faultJob j.id 0x0304

/-- The WAITs that operator `o` issues before its output tile `q` (01 R32, R41). -/
def State.issueWaits (s : State) (j : Job) (o : Nat) (d : OpDef) (q : Nat) : State :=
  forEach (d.waits.filter (fun w => w.tile == q)) (fun w s => s.issueWait j o w) s

/-- Snapshot of every sequence of the session that a job names (04 R160): Dowel of bent `n` reads the descriptors, and ACQ increments. A
descriptor that it cannot read fails the walks of its sequence (04 R167). -/
def State.takeSnapshot (s : State) (id : JobId) (k n : Nat) (rd : ReadOutcome) : State :=
  let (s, lost) := (List.range (s.nseq k)).foldl (fun (acc : State × List (Nat × Nat)) i =>
    let (s, m) := acc.1.takeRanges n (s.get .ses_CONTEXT k) [(s.seqAddr k i, 128)] rd
    (s.warn id m.warning, if m.code = 0 then acc.2 else acc.2 ++ [(i, walkFailure m.code)])) (s, [])
  let ds := (List.range (s.nseq k)).map (s.seqDesc k)
  (s.bump .ses_ACQ k).updJob id (fun x => { x with snapshot := some { session := k, descs := ds, lost := lost } })

/-- The checks of a job start that follow the reads of the binding lists: 0 or the code with which the job faults at start. `chunk` is what
the reads and the check of CHUNK_CTL gave. -/
def State.startCheck (s : State) (r : StartReq) (g : Graph) (chunk : Nat) : Nat :=
  let b := r.binding
  let attention := g.bind == .session
  let rp := s.relPeg b
  let avail := s.presentIn r.mask
  firstCode
    [(0x0306, decide (avail.length < g.bentsNeeded)), (0x032E, s.publishClash r.ctx r.pegBase g.pegCount),
      (0x060E, s.framePegClash r.pegBase g.pegCount),
      (0x0402, attention && g.kvClasses.any (fun k => k != s.get .ses_D2 b % 64)),
      (0x041A, attention && decide (r.pegBase ≤ rp ∧ rp < r.pegBase + g.pegCount)),
      (chunk, chunk != 0),
      (s.fabricCode r.ctx g, s.fabricCode r.ctx g != 0),
      (0x040E, decide ((avail.filter (fun n => n < 2)).length < g.segmented.length))]

/-- The input list and then the output list are read (R50). -/
def State.readLists (s : State) (n : Nat) (r : StartReq) (env : StartEnv) : State × Nat :=
  let (s, c1) := s.readList r.id n r.ctx r.inList env.mem env.host
  if c1 ≠ 0 then (s, c1) else s.readList r.id n r.ctx r.outList env.outMem env.outHost

/-- Host data without its first `k` bytes. -/
def hostDrop (h : HostOutcome) (k : Nat) : HostOutcome := match h with | .data bs => .data (bs.drop k) | h => h

/-- Dowel reads CHUNK_CTL, and its marks when NMARKS is in range (05 R183): 0 or the code of a failure, and the bytes; none without the
binding. -/
def State.readChunkCtl (s : State) (j : Job) (g : Graph) (n : Nat) (env : StartEnv) : State × Nat × Option (List Byte) :=
  if !g.inputs.contains .chunkCtl then (s, 0, none)
  else
    let a := j.inputs.getD (g.inputs.idxOf .chunkCtl) 0
    let (s, m) := s.dowelRead n j.ctx a 16 env.ctlMem env.ctlHost
    let s := s.warn j.id m.warning
    let marks := ofBytes ((m.bytes.drop 8).take 4) % 2 ^ 9
    if m.code ≠ 0 then (s, m.code, none)
    else if marks = 0 ∨ 256 < marks then (s, 0, some m.bytes)
    else
      let (s, k) := s.dowelRead n j.ctx (a + 16) (4 * marks) env.ctlMem (hostDrop env.ctlHost 16)
      (s.warn j.id k.warning, k.code, some (m.bytes ++ k.bytes))

/-- The chunk control of a job that carries a chunk: what the reads and the check of R183 give. -/
def State.startCtl (s : State) (r : StartReq) (j : Job) (g : Graph) (n : Nat) (env : StartEnv) : State × Nat × Option ChunkCtl :=
  if g.bind != .stream then (s, 0, none)
  else
    let (s, code, bs) := s.readChunkCtl j g n env
    let ctl := bs.bind ChunkCtl.parse
    (s, if code ≠ 0 then code else s.chunkCheck r.binding g ctl, ctl)

/-- The session or the stream that a started job is bound to (04 R151, R160, R166; 05 R184): the snapshot, then the edits that arrived in
the same cycle, then the reservation of the step. -/
def State.bindJob (s : State) (r : StartReq) (g : Graph) (ctl : Option ChunkCtl) (bents : List Nat) (env : StartEnv) : State :=
  match g.bind, ctl with
  | .session, _ =>
    let n := bents.headD 0
    let s := s.takeSnapshot r.id r.binding n env.seqMem
    (s.applyEdits (fun e => s.get .ses_CONTEXT e.session == r.ctx) env.walkMem env.wr).reserveStep r.id n env
  | .stream, some x => s.startChunk r.id r.binding bents g x
  | _, _ => s

/-- A job that passed its checks is placed on its bents, bound, and its WAITs are issued (R50). -/
def State.placeJob (s : State) (r : StartReq) (g : Graph) (ctl : Option ChunkCtl) (j : Job) (env : StartEnv) : State :=
  let bents := (placeGraph s.free g (s.presentIn r.mask)).getD []
  let s : State := { s with free := s.free + 2 }
  let s := s.updJob r.id (fun x => { x with bents := bents })
  let s := forEach bents (fun n s => (bentDomains (s.get .bent_PHYSICAL n)).foldl State.demand s) s
  let s := s.bindJob r g ctl bents env
  if ((s.job r.id).map (·.finished)).getD true then s
  else
    (forEach g.ops.zipIdx (fun (o, i) s => s.issueWaits { j with bents := bents } i o 0) s).settleJob r.id

/-- ACTIVE of the enabled VERSIONED regions of context `c`, by region entry. -/
def State.versionedHalves (s : State) (c : Nat) : List (Nat × Nat) :=
  ((List.range 32).map (rgnIdx c)).filterMap (fun k =>
    if s.on .rgn_ENABLE k && s.get .rgn_KIND k == 4 then some (k, s.get .rgn_ACTIVE k) else none)

/-- A job starts (R50): VERSIONED regions publish, its peg block is reset, the binding lists are read, and the job is placed. A failure
faults it at start, and no tile runs. -/
def State.startJob (s : State) (r : StartReq) (env : StartEnv) (subst : Binding → Option Nat) : State :=
  match s.graph r.graph with
  | none => s
  | some g =>
    let j : Job :=
      { id := r.id, ctx := r.ctx, entry := r.entry, graph := r.graph, pegBase := r.pegBase, donePeg := r.donePeg, ring := r.ring
        tag := r.tag, seq := r.seq, binding := r.binding, prio := r.prio, start := s.now, buf := r.buf, lpFirst := r.lpFirst, hqFirst := r.hqFirst
        inputs := bindAddrs subst g.inputs (env.inputs.map (·.toNat)), outputs := bindAddrs subst g.outputs (env.outputs.map (·.toNat)) }
    let s : State := { s with jobs := s.jobs ++ [j] }
    let s := s.publish r.id r.ctx
    let s := s.updJob r.id (fun x => { x with halves := s.versionedHalves r.ctx })
    let s := s.resetPegs r.pegBase g.pegCount
    let n := (s.presentIn r.mask).headD 0
    let (s, listCode) := s.readLists n r env
    let (s, chunk, ctl) := if listCode = 0 then s.startCtl r j g n env else (s, 0, none)
    let code := if listCode ≠ 0 then listCode else s.startCheck r g chunk
    let s := s.startRun r.ctx g
    if code ≠ 0 then
      let s := if g.bind = .stream ∧ 0x0506 ≤ code ∧ code ≤ 0x050A then s.set .str_LAST_REASON r.binding code else s
      s.faultJob r.id code
    else s.placeJob r g ctl j env

/-- Foreman still brings in a spare for a bent of the mask (17 Table Spares-3): a queued job may be placed there after step 5. -/
def State.awaitsBent (s : State) (mask : Nat) : Bool :=
  s.on .froe_OFF_RECOVERY && (maskList 8 mask).any (fun n => !s.on .bent_PRESENT n)

/-- JOB_START (R49, R50): the queue of context `c` takes the entry at its head when it is enabled, the queue has not stopped there, and the
previous job of the ring has left. An edit in progress on the session comes first, unless it arrived in this cycle (04 R166). The reads wait
while GDDR6 admits no accesses (06 R224). -/
def State.jobStart (s : State) (c : Fin 16384) (env : StartEnv) : State :=
  match s.ringEntries c.val with
  | [] => s
  | e :: _ =>
    let k := jobIdx c.val e
    let b := s.get .job_BINDING k
    let g := s.graph (s.get .job_GRAPH k)
    let editing := ((g.map (·.bind)).getD .none == .session) && s.editing b
    let waits := s.awaitsBent (s.get .job_BENT_MASK k) &&
      decide ((s.presentIn (s.get .job_BENT_MASK k)).length < (g.map (·.bentsNeeded)).getD 1)
    if !s.on .job_ENABLE k || s.stopped.contains k || s.ringBusy c.val || editing || waits || g.isNone ||
        s.get .host_DEV_STATE != 1 || s.on .pwr_COOLANT_STOP then s
    else if s.refresh ≠ .active then s.exitSelfRefresh
    else
      let seq := Store.get 0 s.jobSeq c.val
      let s := s.setAll k [(.job_STATE, 3), (.job_JOB_SEQ, seq)]
      let s : State := { s with jobSeq := Store.put 0 s.jobSeq c.val ((seq + 1) % 2 ^ 32) }
      s.startJob
        { id := .ring c, ctx := c.val, entry := e, graph := s.get .job_GRAPH k, pegBase := s.get .job_PEG_BASE k
          donePeg := s.get .job_DONE_PEG k, ring := s.get .job_RESULT_RING k, tag := s.get .job_JOB_TAG k, seq := seq
          binding := b, prio := s.get .ctx_PRIO c.val, mask := s.get .job_BENT_MASK k
          inList := s.get .job_IN_LIST k, outList := s.get .job_OUT_LIST k } env (fun _ => none)

/-- Meaning of JOB_START. -/
def execJobStart (c : Fin 16384) (env : StartEnv) (s : State) : Host.Outcome State Fault Refusal := .next (s.jobStart c env)

/-! ## Faults that a clock raises -/

/-- Count a timeout on each bent of a job (Table Stations-13). -/
def State.timeoutSeen (s : State) (j : Job) : State := forEach j.bents (fun n s => s.set .bent_TIMEOUT_SEEN n 1) s

/-- JOB_TIMEOUT (R51): the time limit of the job's class expires before its last output tile. -/
def State.jobTimeout (s : State) (id : JobId) : State :=
  match s.job id with
  | none => s
  | some j => if j.finished then s else (s.timeoutSeen j).faultJob id 0x030A

/-- Meaning of JOB_TIMEOUT. -/
def execJobTimeout (j : JobId) (s : State) : Host.Outcome State Fault Refusal := .next (s.jobTimeout j)

/-- Meaning of CHUNK_COMMIT. -/
def execChunkCommit (sn : Met (Fin 3072)) (s : State) : Host.Outcome State Fault Refusal :=
  .next (s.awaken (fun s => (s.chunkCommit sn.val.val sn.rd sn.wr).settleContext (s.get .ses_CONTEXT sn.val.val)))

/-! ## Leaving the queue (Table Stations-10) -/

/-- The ring of a job takes results of its tenant (13 R409). -/
def State.ringTakes (s : State) (r ctx : Nat) : Bool := r < 4096 && s.get .ring_STATE r == 1 && s.get .ring_TENANT r == s.tenantOf ctx

/-- A slot is free (13 R409). -/
def State.ringFree (s : State) (r : Nat) : Bool := (s.get .ring_TAIL r + 2 ^ 16 - s.get .ring_HEAD r) % 2 ^ 16 < s.ringN r

/-- The DWs of a result slot after DW0 (13 Table Host-5). -/
structure SlotBody where
  kind : Nat
  ctx : Nat
  tag : Nat
  seq : Nat := 0
  code : Nat := 0
  warning : Nat := 0
  entry : Nat := 0
  poisoned : Bool := false
  rerun : Bool := false
  bents : Nat := 0
  payload : List Byte := []
deriving DecidableEq, Repr

/-- The bytes of a slot (13 R407): the payload is cut at SB - 32 bytes and the rest of the slot is zero. -/
def SlotBody.encode (b : SlotBody) (sb t n : Nat) : List Byte :=
  let p := b.payload.take (sb - 32)
  let phase := b2n (t / n % 2 == 0)
  toBytes 4 (phase + b.kind * 2 + b.ctx * 2 ^ 8) ++ toBytes 4 b.tag ++ toBytes 4 b.seq ++ toBytes 4 (b.code + b.warning * 2 ^ 16) ++
    toBytes 4 (b.entry + b2n b.poisoned * 2 ^ 4 + b2n b.rerun * 2 ^ 5 + b.bents * 2 ^ 8) ++ toBytes 4 t ++ toBytes 4 p.length ++
    toBytes 4 0 ++ p ++ List.replicate (sb - 32 - p.length) 0

/-- Write a result slot, DW0 last (13 R406 to R408, R411): TAIL and RESULTS increment and a message follows under IRQ_EN. -/
def State.writeSlot (s : State) (r : Nat) (b : SlotBody) : State :=
  let t := s.get .ring_TAIL r
  let n := s.ringN r
  let sb := s.ringSB r
  let bs := b.encode sb t n
  let s : State :=
    if s.on .ring_LOCATION r then
      let a := s.get .ring_HOST_ADDR r + t % n * sb
      (s.postHost (s.get .ring_TENANT r) (a + 4) (bs.drop 4)).postHost (s.get .ring_TENANT r) a (bs.take 4)
    else { s with memory := { s.memory with bar4 := Mem.writeBytes 0 s.memory.bar4 (s.get .ring_MBX_PAGE r * 4096 + t % n * sb) bs } }
  let s := (s.bump .ring_RESULTS r).set .ring_TAIL r (t + 1)
  if s.on .ring_IRQ_EN r then s.message (s.get .ring_VECTOR r) else s

/-- A loop-skipped notice (09 R285, 13 R409): dropped when the ring is full, misrouted when the ring does not take it. -/
def State.notice (s : State) (r : Nat) (b : SlotBody) : State :=
  if !s.ringTakes r b.ctx then (s.bump .host_MISROUTED).event .host_MISROUTE
  else if !s.ringFree r then s.bump .ring_DROPPED r
  else if s.on .ring_LOCATION r && !s.mayAsk then s.bump .ring_DROPPED r
  else s.writeSlot r b

/-- KIND of a result. -/
def jobKind : JobId → Nat
  | .ring _ => 0 | .loop _ => 1 | .rung _ => 3

/-- The result of a job (13 Table Host-5). -/
def Job.result (j : Job) : SlotBody :=
  { kind := jobKind j.id, ctx := j.ctx, tag := j.tag, seq := if jobKind j.id = 0 then j.seq else 0
    code := if j.fault ≠ 0 then j.fault else j.poison, warning := j.warning, entry := if jobKind j.id = 0 then j.entry else 0
    poisoned := j.poisoned, rerun := j.rerun, bents := listMask j.bents, payload := j.payload }

/-- What the job held on its bents is freed: slots, Loft lines, ring blocks, save pages (R55, 06 R211, R214). -/
def State.releaseBents (s : State) (j : Job) : State :=
  let s := forEach (s.residents.filter (fun x => x.job == j.id)) (fun x s => s.freeSlot x j.ctx) s
  let pages := (s.saves.filter (fun v => v.job == j.id)).flatMap (·.pages)
  let s : State := { s with
    saves := s.saves.filter (fun v => v.job != j.id), wring := s.wring.filter (fun b => b.job != j.id) }
  s.scrubPages pages none

/-- The flows of the job's channels close (11 R353). -/
def State.closeFlows (s : State) (j : Job) : State :=
  match (s.graph j.graph).bind (·.fabric) with
  | none => s
  | some _ =>
    let gone := fun (f : Flow) => f.ctx == j.ctx && f.flow != 0xFFFF
    let n := (s.fabric.flows.filter gone).length
    { s.bump .fab_FLOW_RECORDS_FREE 0 n with fabric := { s.fabric with flows := s.fabric.flows.filter (fun f => !gone f) } }

/-- The snapshot of the job is released (04 R160, R163, R164): 1 is added to REL_PEG, pages and frames that it allocated on a
superseded sequence return, and what waited for it is reclaimed. -/
def State.releaseSnapshot (s : State) (j : Job) : State :=
  match j.snapshot with
  | none => s
  | some x =>
    let c := s.get .ses_CONTEXT x.session
    let s := forEach x.extraPages (fun p s => s.pushStack c false p) s
    let s := forEach x.extraChunks (fun f s => s.pushStack c true f) s
    (s.pegAdd (s.relPeg x.session) 1).reclaimPool c

/-- Steps 3 to 5 of Table Stations-10 but for what Cleat and the cascade do: DONE_PEG, the entry, the head, the next entry. -/
def State.leaveQueue (s : State) (j : Job) : State :=
  let s := s.pegAdd (j.donePeg % 2 ^ 16) 1
  let s := s.releaseBents j
  let s := s.closeFlows j
  let s := s.releaseSnapshot j
  let s := ({ s with
    jobs := s.jobs.filter (fun x => x.id != j.id), waits := s.waits.filter (fun w => w.job != some j.id) } : State).fillersEnd
  match j.id with
  | .ring c =>
    let k := jobIdx c.val j.entry
    let s := s.setAll k [(.job_STATE, 0), (.job_ENABLE, 0)]
    let s := (s.set .ctx_HEAD c.val (s.get .ctx_HEAD c.val + 1)).bump .ctx_JOBS_DONE c.val
    s.examine c.val
  | _ => s

/-- Step 2 of Table Stations-10 (13 R409): none while the job waits for a free slot or for the device to be able to write. -/
def State.postResult (s : State) (j : Job) : State × Bool :=
  let r := j.ring
  if !s.ringTakes r j.ctx then ((s.bump .host_MISROUTED).event .host_MISROUTE, true)
  else if !s.ringFree r then
    (if j.waited then s else (s.bump .ring_FULL_WAITS r).updJob j.id (fun x => { x with waited := true }), false)
  else if s.on .ring_LOCATION r && !s.mayAsk then (s, false)
  else (s.writeSlot r j.result, true)

end Sys2Proof.Machine
end

