-- ==== Sys2Proof/Machine/Camera.lean ====
section
/-! DEFINITION. Camera ingest (08 R252 to R271): packets, frames, lines and line sets, the stream table. -/

namespace Sys2Proof.Machine

/-! ## Templates -/

/-- Bits per sample of a data type (Table Ingest-2), none for a type that ingest does not take as an exposure. -/
def dtBits (dt : Nat) : Option Nat :=
  match dt with
  | 0x2A => some 8 | 0x2B => some 10 | 0x2C => some 12 | 0x2D => some 14 | 0x2E => some 16 | 0x2F => some 20
  | _ => none

/-- Data type of exposure `k` of a template. -/
def State.expDT (s : State) (t k : Nat) : Nat := s.get ([.tmpl_EXP_DT0, .tmpl_EXP_DT1, .tmpl_EXP_DT2, .tmpl_EXP_DT3].getD k .tmpl_EXP_DT0) t

/-- Virtual channel of exposure `e` of stream `k`. -/
def State.expVC (s : State) (k e : Nat) : Nat := s.get ([.cam_EXP_VC0, .cam_EXP_VC1, .cam_EXP_VC2, .cam_EXP_VC3].getD e .cam_EXP_VC0) k

/-- Template of a stream. -/
def State.camTmpl (s : State) (k : Nat) : Nat := s.get .cam_TEMPLATE k

/-- Pairs (VC, DT) that a stream binds (R257 step 7): its exposures in order, then embedded data. -/
def State.camPairs (s : State) (k : Nat) : List (Nat × Nat) :=
  let t := s.camTmpl k
  (List.range (s.tmplExposures t)).map (fun e => (s.expVC k e, s.expDT t e)) ++
    (if s.on .cam_EMB_EN k then [(s.get .cam_EMB_VC k, 0x12)] else [])

/-- Samples per second of a template on a Jointer (R257 step 10). -/
def State.tmplRate (s : State) (t : Nat) : Nat := s.tmplWidth t * s.tmplHeight t * s.get .tmpl_FPS_MAX t

/-- Payload bits per second of a template on a port (R257 step 11). -/
def State.tmplBits (s : State) (t : Nat) : Nat :=
  s.tmplRate t * ((List.range (s.tmplExposures t)).map (fun e => (dtBits (s.expDT t e)).getD 0)).sum

/-- Samples of a payload in the CSI-2 packing of their type (R253; log entry 30): `n` samples of `b` bits. -/
def csiSamples (b n : Nat) (bs : List Byte) : List Nat :=
  let at' := fun i => (bs.getD i 0).toNat
  (List.range n).map (fun i =>
    match b with
    | 8 => at' i
    | 10 => at' (i / 4 * 5 + i % 4) * 4 + bits (at' (i / 4 * 5 + 4)) (2 * (i % 4)) 2
    | 12 => at' (i / 2 * 3 + i % 2) * 16 + bits (at' (i / 2 * 3 + 2)) (4 * (i % 2)) 4
    | 14 =>
      let low := ofBytes ((bs.drop (i / 4 * 7 + 4)).take 3)
      at' (i / 4 * 7 + i % 4) * 64 + bits low (6 * (i % 4)) 6
    | 16 => at' (2 * i) * 256 + at' (2 * i + 1)
    | _ =>
      let o := i / 2 * 5 + 2 * (i % 2)
      at' o * 4096 + at' (o + 1) * 16 + bits (at' (i / 2 * 5 + 4)) (4 * (i % 2)) 4)

/-! ## Frames -/

/-- Change the frame of a stream that is being received. -/
def State.updFrame (s : State) (k : Nat) (f : CamFrame → CamFrame) : State :=
  { s with camera := { s.camera with frames := mapWhere (fun x => x.stream == k && !x.closed) f s.camera.frames } }

/-- Change a frame by its stream and FRAME_SEQ. -/
def State.updCam (s : State) (k seq : Nat) (f : CamFrame → CamFrame) : State :=
  { s with camera := { s.camera with frames := mapWhere (fun x => x.stream == k && x.seq == seq) f s.camera.frames } }

/-- The frame of a stream that is being received. -/
def State.openFrame (s : State) (k : Nat) : Option CamFrame := s.camera.frames.find? (fun x => x.stream == k && !x.closed)

/-- Frames of a stream that will give a record, oldest first. -/
def State.streamFrames (s : State) (k : Nat) : List CamFrame := s.camera.frames.filter (fun x => x.stream == k && !x.skipped)

/-- Slots in use in the line buffer of a stream (R265). -/
def State.slotsUsed (s : State) (k : Nat) : Nat := ((s.camera.frames.filter (fun x => x.stream == k)).map (·.sets.length)).sum

/-- A line of PAD_VALUE samples. -/
def State.padLine (s : State) (t : Nat) : List Nat := List.replicate (s.tmplWidth t) (s.get .tmpl_PAD_VALUE t)

/-- The line that stands for one that is lost (R262): the previous line of the exposure, or PAD_VALUE under LINE_PAD 1 and for
line 0. -/
def State.lostLine (s : State) (t : Nat) (last : List Nat) : List Nat := if s.on .tmpl_LINE_PAD t || last.isEmpty then s.padLine t else last

/-- Tile flags of a received line set (Table Ingest-6). -/
def setFlags (ls : List CamLine) : Flags :=
  { padded := ls.any (fun l => l.short || l.crc || l.missing), cut := ls.any (·.long) }

/-- Place a complete line set in the line buffer, or cut the frame there (R263, R267). -/
def State.passSet (s : State) (k : Nat) (f : CamFrame) : State :=
  let h := s.tmplHeight (s.camTmpl k)
  let ls := f.waiting.map (fun l => l.headD { samples := [] })
  if s.slotsUsed k < 64 then
    let set : LineSet := { index := f.received, lines := ls.map (·.samples), flags := setFlags ls }
    (s.updFrame k (fun x => { x with
      waiting := x.waiting.map List.tail, sets := x.sets ++ [set], lastSet := set.lines, received := x.received + 1 })).demand
      (69 + s.get .cam_JOINTER k)
  else
    let lost := (f.waiting.map (fun l => (l.filter (fun x => !x.missing)).length)).sum
    (s.bump .cam_DISCARDED_PACKETS k lost).updFrame k (fun x => { x with
      waiting := x.waiting.map (fun _ => []), cutAt := some x.received, padded := x.padded + (h - x.received) })

/-- A long packet of exposure `e` within a frame (R261, R262). -/
def State.takeLine (s : State) (k e : Nat) (crcOk : Bool) (payload : List Byte) : State :=
  match s.openFrame k with
  | none => s
  | some f =>
    let t := s.camTmpl k
    let i := f.counts.getD e 0
    let s := s.updFrame k (fun x => { x with counts := x.counts.set e (i + 1) })
    if f.skipped then s
    else if f.cutAt.isSome then s.bump .cam_DISCARDED_PACKETS k
    else if s.tmplHeight t ≤ i then s.updFrame k (fun x => { x with extra := min 0xFFFF (x.extra + 1) })
    else
      let w := s.tmplWidth t
      let b := (dtBits (s.expDT t e)).getD 8
      let n := payload.length * 8 / b
      let got := csiSamples b (min n w) payload
      let line : CamLine :=
        if !crcOk then { samples := s.lostLine t (f.last.getD e []), crc := true }
        else
          let fill := if s.on .tmpl_LINE_PAD t || got.isEmpty then s.get .tmpl_PAD_VALUE t else got.getLastD 0
          { samples := got ++ List.replicate (w - got.length) fill, short := decide (n < w), long := decide (w < n) }
      let s := s.updFrame k (fun x => { x with
        waiting := x.waiting.set e (x.waiting.getD e [] ++ [line]), last := x.last.set e line.samples
        short := x.short + b2n line.short, long := x.long + b2n line.long, crc := x.crc + b2n line.crc })
      match s.openFrame k with
      | none => s
      | some f => if f.waiting.all (fun l => !l.isEmpty) then s.passSet k f else s

/-- Complete the partly received sets of a closing frame (R263 step 1): `n` more sets. -/
def State.completeSets (s : State) (k : Nat) : Nat → State
  | 0 => s
  | n + 1 =>
    match s.openFrame k with
    | none => s
    | some f =>
      if f.cutAt.isSome || f.waiting.all List.isEmpty then s
      else
        let t := s.camTmpl k
        let s := s.updFrame k (fun x => { x with
          missing := x.missing + (x.waiting.filter List.isEmpty).length
          waiting := x.waiting.zipIdx.map (fun (l, e) =>
            if l.isEmpty then [{ samples := s.lostLine t (x.last.getD e []), missing := true }] else l)
          last := x.waiting.zipIdx.map (fun (l, e) => if l.isEmpty then s.lostLine t (x.last.getD e []) else x.last.getD e []) })
        (match s.openFrame k with | some f => s.passSet k f | none => s).completeSets k n

/-- Remove the frame of a stream that is being received. -/
def State.dropOpen (s : State) (k : Nat) : State :=
  { s with camera := { s.camera with frames := s.camera.frames.filter (fun x => !(x.stream == k && !x.closed)) } }

/-- The frame of a stream closes (R260, R263) with these record flags; STATE becomes 1, or 3 under a disable (R258). -/
def State.closeFrame (s : State) (k flags next : Nat) : State :=
  match s.openFrame k with
  | none => s
  | some f =>
    let s := s.set .cam_STATE k next
    if f.skipped then s.dropOpen k
    else
      let h := s.tmplHeight (s.camTmpl k)
      let top := (f.waiting.map List.length).foldl max 0
      let s := s.completeSets k top
      s.updFrame k (fun x =>
        let pad := x.cutAt.isNone && decide (x.received < h)
        { x with
          closed := true, t0 := s.now, flags := x.flags ||| flags ||| (if pad then 2 else 0), waiting := []
          padded := if pad then x.padded + (h - x.received) else x.padded })

/-- FLAGS of the frame record (Table Ingest-6). -/
def CamFrame.recordFlags (f : CamFrame) : Nat :=
  f.flags ||| b2n (f.short != 0) ||| 4 * b2n (f.long != 0) ||| 8 * b2n (f.extra != 0) ||| 16 * b2n f.cutAt.isSome |||
    32 * b2n (f.crc != 0) ||| 64 * b2n (f.missing != 0)

/-- The frame record (Table Ingest-5) and the embedded bytes that follow it. -/
def CamFrame.record (f : CamFrame) : List Byte :=
  toBytes 4 f.seq ++ toBytes 4 (f.csiNo + f.stream * 2 ^ 16) ++ toBytes 4 f.recordFlags ++
    toBytes 4 (f.received + f.padded * 2 ^ 16) ++ toBytes 4 (f.short % 2 ^ 16 + f.long % 2 ^ 16 * 2 ^ 16) ++
    toBytes 4 (f.crc % 2 ^ 16 + f.missing % 2 ^ 16 * 2 ^ 16) ++ toBytes 4 (f.extra + f.cutAt.getD 0xFFFF * 2 ^ 16) ++
    toBytes 4 f.emb.length ++ List.replicate 32 0 ++ f.emb

/-! ## Glance mode (09 R281) -/

/-- Glance mode is active: GLANCE_SRC names an enabled stream bound to Jointer 0, and no other stream is enabled. -/
def State.glanceHolds (s : State) : Bool :=
  let k := s.get .jnt_GLANCE_SRC
  k < 96 && s.on .cam_ENABLE k && s.get .cam_JOINTER k == 0 && (s.indices .cam_ENABLE).all (· == k)

/-- GLANCE_ACTIVE follows the condition; an expired period of an ended glance mode is forgotten. -/
def State.glanceUpdate (s : State) : State :=
  let s := s.set .jnt_GLANCE_ACTIVE 0 (b2n s.glanceHolds)
  { s with camera := { s.camera with glanceDue := s.camera.glanceDue && s.glanceHolds } }

/-! ## Packets (R253, R254, R260) -/

/-- The header of a packet on port `p` (R252, R254): the state, and whether the packet goes on. -/
def State.csiHeader (s : State) (p : Nat) (h : HdrState) : State × Bool :=
  if !s.on .port_ENABLED p || !s.domainOn (85 + p) then (s, false)
  else
    match h with
    | .bad => ((s.bump .port_HDR_DROPPED p).set .port_HDR_DROP_SEEN p 1, false)
    | .corrected => ((s.bump .port_HDR_CORRECTED p).bump .port_PACKETS p, true)
    | .clean => (s.bump .port_PACKETS p, true)

/-- Enabled streams of a port. -/
def State.portStreams (s : State) (p : Nat) : List Nat := (s.indices .cam_ENABLE).filter (fun k => s.get .cam_PORT k == p)

/-- Streams to which a short packet on a VC is bound (R253): several may share the VC with data types of their own (R257 step 7). -/
def State.shortBound (s : State) (p vc : Nat) : List Nat := (s.portStreams p).filter (fun k => (s.camPairs k).any (fun x => x.1 == vc))

/-- A packet that no enabled stream binds. -/
def State.unbound (s : State) (p : Nat) : State := s.bump .port_UNBOUND_PACKETS p

/-- A packet of a stream in STATE 1 or 3 where a frame is needed (R257, R258, R260). -/
def State.outside (s : State) (p k : Nat) : State :=
  (if s.get .cam_STATE k = 1 then s.bump .port_ORPHAN_PACKETS p else s).bump .cam_DISCARDED_PACKETS k

/-- Bytes of a frame record slot (R257). -/
def State.recSlotBytes (s : State) (k : Nat) : Nat := 64 + s.get .tmpl_EMB_MAX (s.camTmpl k)

/-- A loop job for the frame that opens (09 R285): it takes a loop place, or the frame is skipped with a notice. -/
def State.createLoopJob (s : State) (k seq buf slot : Nat) (prev : Option (Nat × Nat)) : State :=
  let c := s.camera
  let used := (c.waiting.filter (fun w => w.stream == k)).length + (s.jobs.filter (fun j =>
    match j.id with | .loop x => x.val == k | _ => false)).length
  if used < 2 then
    { s with camera := { c with
      waiting := c.waiting ++ [{ stream := k, frameSeq := seq, buf := buf, slot := slot, prev := prev }]
      reentry := if s.on .tmpl_REENTRY_AT (s.camTmpl k) then
        c.reentry.filter (fun r => !(r.stream == k && r.buf == buf)) ++ [{ stream := k, seq := seq, buf := buf }] else c.reentry } }
  else
    (s.bump .loop_LOOPS_SKIPPED k).notice (s.get .loop_RESULT_RING k)
      { kind := 2, ctx := s.get .cam_CONTEXT k, tag := seq, code := 0x061B }

/-- What an enabled loop entry does at a frame open (09 R278, R279, R285). Of a template without re-entry the loop check leaves the
re-entry pegs alone: the SET reaches one that the context owns (log entry 48, DEDUCED). -/
def State.loopFrame (s : State) (k seq slot : Nat) : State :=
  if !s.on .loop_ENABLE k then s
  else
    let last := Store.get 0 s.camera.rotation k
    let buf := if last = 0 then 0 else last % s.tapFrames k
    let prev := if last = 0 then none else some (Store.get 0 s.camera.opened k, last - 1)
    let s := (s.set .loop_CUR_BUF k buf).updFrame k (fun f => { f with buf := some buf })
    let s : State := { s with camera := { s.camera with
      rotation := Store.put 0 s.camera.rotation k (buf + 1), opened := Store.put 0 s.camera.opened k seq } }
    let s := s.pegSet (s.get .loop_BAND_PEG_BASE k + buf) 0
    let re := s.get .loop_REENTRY_PEG_BASE k + buf
    let s := if s.on .tmpl_REENTRY_AT (s.camTmpl k) || s.pegOwned re (s.get .cam_CONTEXT k) then s.pegSet re 0 else s
    if s.get .loop_STATE k = 1 then s.createLoopJob k seq buf slot prev else s

/-- A frame of stream `k` opens (R260; 09 R281). -/
def State.beginFrame (s : State) (k number : Nat) : State :=
  let seq := s.get .cam_FRAME_SEQ k
  let n := s.tmplExposures (s.camTmpl k)
  let last := Store.get 0 s.camera.lastNo k
  let gap := number != 0 && last != 0 && number != (last + 1) % 2 ^ 16
  let glance := s.on .jnt_GLANCE_ACTIVE
  let skip := glance && !s.camera.glanceDue
  let slot := (s.get .cam_REC_NEXT k + (s.streamFrames k).length) % (s.get .cam_REC_SLOTS_M1 k + 1)
  let f : CamFrame :=
    { stream := k, seq := seq, csiNo := number, skipped := skip, glance := glance && !skip, flags := if gap then 0x400 else 0
      counts := List.replicate n 0, waiting := List.replicate n [], last := List.replicate n [] }
  let c := s.camera
  let s : State := { s with camera := { c with
    frames := c.frames ++ [f], lastNo := if number = 0 then c.lastNo else Store.put 0 c.lastNo k number
    glanceDue := if glance then false else c.glanceDue } }
  let s := s.setAll k [(.cam_FRAME_SEQ, seq + 1), (.cam_STATE, 2)]
  if skip then s.bump .jnt_GLANCE_SKIPPED
  else
    let s := if glance then s.setDom 69 2 else s.demand (69 + s.get .cam_JOINTER k)
    s.loopFrame k seq ((s.recordRing k).2.1 + slot * s.recSlotBytes k)

/-- CSI_FRAME_START (R260). -/
def State.frameStart (s : State) (p vc : Nat) (h : HdrState) (number : Nat) : State :=
  let (s, go) := s.csiHeader p h
  if !go then s
  else
    match s.shortBound p vc with
    | [] => s.unbound p
    | ks =>
      forEach (ks.filter (fun k => s.expVC k 0 == vc)) (fun k s =>
        if !s.on .jnt_PRESENT (s.get .cam_JOINTER k) then s.bump .cam_DISCARDED_PACKETS k
        else match s.get .cam_STATE k with
        | 1 => s.beginFrame k number
        | 2 => (s.closeFrame k 0x80 1).beginFrame k number
        | _ => s.bump .cam_DISCARDED_PACKETS k) s

/-- Meaning of CSI_FRAME_START. -/
def execCsiFrameStart (p : Fin 24) (vc : Fin 32) (hdr : HdrState) (number : BitVec 16) (s : State) :
    Host.Outcome State Fault Refusal := .next (s.frameStart p.val vc.val hdr number.toNat)

/-- A frame of the stream was closed by IDLE_TIMEOUT in this cycle and has no record yet. -/
def State.timedOutNow (s : State) (k : Nat) : Bool :=
  s.get .cam_STATE k == 1 && s.camera.frames.any (fun f => f.stream == k && f.closed && f.t0 == s.now && bit f.flags 8)

/-- A Frame End in the cycle of a timeout expiry: the frame counts as ended by it (R260). -/
def State.endInstead (s : State) (k : Nat) : State :=
  { s with camera := { s.camera with
    frames := mapWhere (fun f => f.stream == k && f.closed && f.t0 == s.now && bit f.flags 8) (fun f => { f with flags := f.flags - 0x100 })
      s.camera.frames } }

/-- CSI_FRAME_END (R260). -/
def State.frameEnd (s : State) (p vc : Nat) (h : HdrState) : State :=
  let (s, go) := s.csiHeader p h
  if !go then s
  else
    match s.shortBound p vc with
    | [] => s.unbound p
    | ks =>
      forEach (ks.filter (fun k => s.expVC k 0 == vc)) (fun k s =>
        if !s.on .jnt_PRESENT (s.get .cam_JOINTER k) then s.bump .cam_DISCARDED_PACKETS k
        else if s.get .cam_STATE k = 2 then s.closeFrame k 0 1
        else if s.timedOutNow k then s.endInstead k
        else s.outside p k) s

/-- Meaning of CSI_FRAME_END. -/
def execCsiFrameEnd (p : Fin 24) (vc : Fin 32) (hdr : HdrState) (s : State) : Host.Outcome State Fault Refusal :=
  .next (s.frameEnd p.val vc.val hdr)

/-- CSI_LINE_START_END (R253, Table Ingest-2): accepted and ignored. -/
def State.lineStartEnd (s : State) (p vc : Nat) (h : HdrState) : State :=
  let (s, go) := s.csiHeader p h
  if go && (s.shortBound p vc).isEmpty then s.unbound p else s

/-- Meaning of CSI_LINE_START_END. -/
def execCsiLineStartEnd (p : Fin 24) (vc : Fin 32) (hdr : HdrState) (s : State) : Host.Outcome State Fault Refusal :=
  .next (s.lineStartEnd p.val vc.val hdr)

/-- Embedded data within a frame (R264). -/
def State.takeEmbedded (s : State) (k : Nat) (crcOk : Bool) (payload : List Byte) : State :=
  let max := s.get .tmpl_EMB_MAX (s.camTmpl k)
  s.updFrame k (fun f =>
    if f.skipped then f
    else
      let room := max - f.emb.length
      { f with
        emb := f.emb ++ payload.take room
        flags := f.flags ||| (if room < payload.length then 0x800 else 0) ||| (if crcOk then 0 else 0x1000) })

/-- A long packet (R253, R254, R260 to R264). -/
def State.longPacket (s : State) (p vc dt : Nat) (h : HdrState) (crcOk : Bool) (payload : List Byte) : State :=
  let (s, go) := s.csiHeader p h
  if !go then s
  else
    let s := if crcOk then s else (s.bump .port_CRC_ERRORS p).set .port_CRC_SEEN p 1
    if dt ≠ 0x12 ∧ (dtBits dt).isNone then (s.bump .port_UNSUPPORTED_DT p).set .port_UNSUPPORTED_SEEN p 1
    else
      match (s.portStreams p).find? (fun k => (s.camPairs k).contains (vc, dt)) with
      | none => s.unbound p
      | some k =>
        if !s.on .jnt_PRESENT (s.get .cam_JOINTER k) then s.bump .cam_DISCARDED_PACKETS k
        else if s.get .cam_STATE k ≠ 2 then s.outside p k
        else
          let e := (s.camPairs k).findIdx (fun x => x == (vc, dt))
          if dt = 0x12 then s.takeEmbedded k crcOk payload else s.takeLine k e crcOk payload

/-- Meaning of CSI_LINE_PACKET. -/
def execCsiLinePacket (p : Fin 24) (vc : Fin 32) (dt : BitVec 6) (hdr : HdrState) (crcOk : Bool) (payload : List Byte) (s : State) :
    Host.Outcome State Fault Refusal := .next (s.longPacket p.val vc.val dt.toNat hdr crcOk payload)

/-- Meaning of CSI_EMBEDDED_PACKET. -/
def execCsiEmbeddedPacket (p : Fin 24) (vc : Fin 32) (hdr : HdrState) (crcOk : Bool) (payload : List Byte) (s : State) :
    Host.Outcome State Fault Refusal := .next (s.longPacket p.val vc.val 0x12 hdr crcOk payload)

/-- IDLE_TIMEOUT (R260): it closes a frame of a template that has a timeout. -/
def State.idleTimeout (s : State) (k : Nat) : State :=
  if s.get .cam_STATE k = 2 && s.on .tmpl_IDLE_TIMEOUT (s.camTmpl k) then s.closeFrame k 0x100 1 else s

/-- Meaning of IDLE_TIMEOUT. -/
def execIdleTimeout (k : Fin 96) (s : State) : Host.Outcome State Fault Refusal := .next (s.idleTimeout k.val)

/-! ## The stream table (R256 to R258) -/

/-- Streams enabled on a Jointer. -/
def State.jointerStreams (s : State) (j : Nat) : List Nat := (s.indices .cam_ENABLE).filter (fun k => s.get .cam_JOINTER k == j)

/-- 9 x CAP of a port in bits per second, times 7 so that it is whole on a C-PHY port (Table Ingest-1). -/
def State.portCap63 (s : State) (p : Nat) : Nat :=
  9 * s.get .port_LANES p * s.get .port_RATE p * 100000000 * (if s.on .port_CPHY p then 16 else 7)

/-- The stream check (R257). -/
def State.camCheck (s : State) (k : Nat) : Nat :=
  let c := s.get .cam_CONTEXT k
  let t := s.camTmpl k
  let ten := s.tenantOf c
  let p := s.get .cam_PORT k
  let j := s.get .cam_JOINTER k
  let mine := s.camPairs k
  let peers := s.jointerStreams j
  let sum := fun (l : List Nat) => l.sum
  let peg := s.get .cam_FRAME_PEG k
  let ring := s.recordRing k
  firstCode
    [(0x0601, !s.enabledContext c), (0x060D, decide (s.get .ten_Q_STREAMS ten ≤ s.get .ten_STREAMS_USED ten)),
      (0x0602, !s.on .tmpl_VALID t), (0x0603, !bit (s.get .cls_TEMPLATES (s.classOf c)) t),
      (0x0604, decide (23 < p) || !s.on .port_ENABLED p),
      (0x0605, (!s.on .port_CPHY p && mine.any (fun x => decide (15 < x.1))) || (s.on .cam_EMB_EN k && !s.on .tmpl_EMB_MAX t)),
      (0x0606, mine.eraseDups.length != mine.length ||
        (s.portStreams p).any (fun q => (s.camPairs q).any (fun x => mine.contains x))),
      (0x0607, !s.on .jnt_PRESENT j),
      (0x0608, decide (4 * 2 ^ 20 < 64 * (s.get .cam_BUFFER_BYTES k + sum (peers.map (fun q => s.get .cam_BUFFER_BYTES q))))),
      (0x0609, decide (3112960000 < s.tmplRate t + sum (peers.map (fun q => s.tmplRate (s.camTmpl q))))),
      (0x060A, decide (s.portCap63 p < 70 * (s.tmplBits t + sum ((s.portStreams p).map (fun q => s.tmplBits (s.camTmpl q)))))),
      (0x060B, ring.2.1 % 64 != 0 || !s.inPrivate c ring.2.1 ring.2.2),
      (0x060C, !s.pegOwned peg c || s.on .peg_HOST_ACCESS peg || s.on .peg_REMOTE_ACCESS peg)]

/-- CAMERA_STREAM_ENABLE (R257, R268; 09 R281; 15 R450). -/
def State.camEnable (s : State) (k : Nat) : State :=
  if s.on .cam_ENABLE k then s
  else
    match s.camCheck k with
    | 0 =>
      let j := s.get .cam_JOINTER k
      let was := s.on .jnt_GLANCE_ACTIVE
      let s := s.setAll k [(.cam_ENABLE, 1), (.cam_STATE, 1), (.cam_REASON, 0), (.cam_FRAME_SEQ, 0), (.cam_FRAMES_FLAGGED, 0),
        (.cam_OVERRUNS, 0), (.cam_DISCARDED_PACKETS, 0), (.cam_REC_NEXT, 0)]
      let s : State := { s with camera := { s.camera with lastNo := Store.put 0 s.camera.lastNo k 0 } }
      let s := (s.bump .ten_STREAMS_USED (s.tenantOf (s.get .cam_CONTEXT k))).bump .jnt_STREAMS j
      let s := if s.on .tmpl_REENTRY_AT (s.camTmpl k) then s.bump .jnt_REENTRY_STREAMS j else s
      let s := s.glanceUpdate
      let s := if was then s.set .jnt_GLANCE_EXIT 0 1 else s
      (((((s.demand (69 + j)).demand (77 + j)).demand (85 + s.get .cam_PORT k)).demand 109)).floorRecompute
    | code => s.refuse .cam_REASON k code

/-- Meaning of CAMERA_STREAM_ENABLE. -/
def execCameraStreamEnable (k : Fin 96) (s : State) : Host.Outcome State Fault Refusal :=
  .next (s.hostWrite .other (fun s => s.camEnable k.val))

/-- A stream goes off (R258): what it holds in ingest and in the Jointer goes with it. -/
def State.camOff (s : State) (k : Nat) : State :=
  let j := s.get .cam_JOINTER k
  let c := s.camera
  let s : State := { s with camera := { c with
    frames := c.frames.filter (fun f => f.stream != k), lastNo := Store.put 0 c.lastNo k 0
    notes := c.notes.filter (fun n => n.stream != k) } }
  let s := s.setAll k [(.cam_ENABLE, 0), (.cam_STATE, 0)]
  let s := (s.drop .ten_STREAMS_USED (s.tenantOf (s.get .cam_CONTEXT k))).drop .jnt_STREAMS j
  let s := if s.on .tmpl_REENTRY_AT (s.camTmpl k) then s.drop .jnt_REENTRY_STREAMS j else s
  s.glanceUpdate.floorRecompute

/-- A stopping stream goes off once its last record has been written (R258). -/
def State.camStopped (s : State) (k : Nat) : State :=
  if s.get .cam_STATE k = 3 && (s.streamFrames k).isEmpty then s.camOff k else s

/-- CAMERA_STREAM_DISABLE (R258; 09 R286). -/
def State.camDisable (s : State) (k : Nat) : State :=
  if !s.on .cam_ENABLE k then s
  else if s.on .loop_ENABLE k then s.refuse .cam_REASON k 0x0616
  else
    let s := s.set .cam_REASON k 0
    match s.get .cam_STATE k with
    | 2 => (s.closeFrame k 0x200 3).camStopped k
    | 3 => s
    | _ => s.camOff k

/-- Meaning of CAMERA_STREAM_DISABLE. -/
def execCameraStreamDisable (k : Fin 96) (s : State) : Host.Outcome State Fault Refusal :=
  .next (s.hostWrite .other (fun s => s.camDisable k.val))

end Sys2Proof.Machine
end

