-- ==== Sys2Proof/Machine/Pixels.lean ====
section
/-! DEFINITION. The Jointer's stages and the frame buffers (09 R273 to R280, R282, R294): what a served line set writes. -/

namespace Sys2Proof.Machine

/-! ## Stages 1 to 4 -/

/-- Quotient rounded to nearest, ties to even (R273). -/
def nearest (n d : Nat) : Nat :=
  let q := n / d
  let r := n % d
  if 2 * r < d ∨ (2 * r = d ∧ q % 2 = 0) then q else q + 1

/-- Saturation to 24 bits (R273). -/
def sat24 (n : Nat) : Nat := min n (2 ^ 24 - 1)

/-- Stage LIN: 257 knots that are 2^(bpp - 8) codes apart. -/
def linSample (knots : List Nat) (bpp code : Nat) : Nat :=
  let d := 2 ^ (bpp - 8)
  let i := code / d
  let f := code % d
  let a := knots.getD i 0
  sat24 (nearest (a * (d - f) + knots.getD (i + 1) a * f) d)

/-- Stage MERGE over the linear samples of the exposures, with ratios in Q8.8. -/
def mergeSample (lins ratios : List Nat) (knee : Nat) : Nat :=
  if lins.length < 2 then lins.headD 0
  else
    let k := min (lins.findIdx (fun v => decide (v < knee * 256))) (lins.length - 1)
    sat24 (nearest (lins.getD k 0 * ratios.getD k 256) 256)

/-- Colours of a mosaic: 0 Y, 1 R, 2 G, 3 B, 4 I, 5 W. -/
def mosaicRows (m : Nat) : List (List Nat) :=
  match m with
  | 1 => [[1, 2], [2, 3]]
  | 2 => [[1, 1, 2, 2], [1, 1, 2, 2], [2, 2, 3, 3], [2, 2, 3, 3]]
  | 3 => [[3, 2, 1, 2], [2, 4, 2, 4], [1, 2, 3, 2], [2, 4, 2, 4]]
  | 4 => [[5, 2, 5, 1], [2, 5, 1, 5], [5, 3, 5, 2], [3, 5, 2, 5]]
  | _ => [[0]]

/-- Pattern size P (Table Jointer-3). -/
def mosaicSize (m : Nat) : Nat := (mosaicRows m).length

/-- Place of sample (y, x) in the pattern, row-major (R276). -/
def patternPhase (m phase y x : Nat) : Nat :=
  let p := mosaicSize m
  (y + phase / p) % p * p + (x + phase % p) % p

/-- Colour of sample (y, x) (R276). -/
def patternColour (m phase y x : Nat) : Nat := (mosaicRows m).flatten.getD (patternPhase m phase y x) 0

/-- Insertion into a rising list. -/
def insertNat (a : Nat) : List Nat → List Nat
  | [] => [a]
  | b :: l => if a ≤ b then a :: b :: l else b :: insertNat a l

/-- A list in rising order. -/
def sortNat (l : List Nat) : List Nat := l.foldr insertNat []

/-- Positions of the 5 x 5 window about (y, x) that lie in the frame and have the colour of (y, x). -/
def dpcWindow (m phase h w y x : Nat) : List (Nat × Nat) :=
  (List.range 25).filterMap (fun i =>
    let yy := y + i / 5
    let xx := x + i % 5
    if 2 ≤ yy ∧ yy < h + 2 ∧ 2 ≤ xx ∧ xx < w + 2 ∧ patternColour m phase (yy - 2) (xx - 2) = patternColour m phase y x then
      some (yy - 2, xx - 2) else none)

/-- Distance of two numbers. -/
def distance (a b : Nat) : Nat := (a - b) + (b - a)

/-- A sample is a defect (stage DPC): its coordinate is in the table, or it differs from every same-colour neighbour by more
than the threshold. -/
def dpcDefect (table : Nat × List (Nat × Nat)) (win : List (Nat × Nat)) (v : Nat → Nat → Nat) (y x : Nat) : Bool :=
  let others := win.filter (· != (y, x))
  table.2.contains (y, x) || (!others.isEmpty && others.all (fun p => decide (table.1 < distance (v p.1 p.2) (v y x))))

/-- Stage DPC at (y, x): the value and whether it was replaced. The median of the window is free where the window leaves the
frame or holds an even number of samples (log entry 31). -/
def dpcSample (table : Nat × List (Nat × Nat)) (m phase h w seed : Nat) (v : Nat → Nat → Nat) (y x : Nat) : Nat × Bool :=
  let win := dpcWindow m phase h w y x
  if !dpcDefect table win v y x then (v y x, false)
  else
    let l := sortNat (win.map (fun p => v p.1 p.2))
    let inner := 2 ≤ y ∧ y + 2 < h ∧ 2 ≤ x ∧ x + 2 < w
    (if inner ∧ l.length % 2 = 1 then l.getD (l.length / 2) 0 else Config.freeValue seed x % 2 ^ 24, true)

/-! ## Frame buffers (R278) -/

/-- Channels of tap `k` of a template (Table Jointer-4). -/
def State.tapChannels (s : State) (t k : Nat) : Nat :=
  match k with
  | 1 => s.tmplExposures t + 1
  | 5 => if s.get .tmpl_MOSAIC t = 3 then 2 else 1
  | _ => 1

/-- Bytes of an element of tap `k`: UINT16, but UINT32 at tap 0 of a RAW20 template. -/
def State.tapElemBytes (s : State) (t k : Nat) : Nat := if k = 0 then dtBytes (s.get .tmpl_EXP_DT0 t) else 2

/-- Bytes of a row of tap `k`. -/
def State.tapRowBytes (s : State) (t k : Nat) : Nat := s.tmplWidth t * s.tapChannels t k * s.tapElemBytes t k

/-- Width and height of view `v`. -/
def State.viewSize (s : State) (t v : Nat) : Nat × Nat :=
  if v = 0 then (s.get .tmpl_VIEW0_W_M1 t + 1, s.get .tmpl_VIEW0_H_M1 t + 1)
  else (s.get .tmpl_VIEW1_W_M1 t + 1, s.get .tmpl_VIEW1_H_M1 t + 1)

/-- Bytes of view `v`. -/
def State.viewBytes (s : State) (t v : Nat) : Nat :=
  (s.viewSize t v).1 * (s.viewSize t v).2 * (if s.get .tmpl_OUT_MODE t = 2 then 4 else 6)

/-- The areas of a frame buffer. -/
inductive BufArea where
  | tap (k : Nat) | reentry | view (v : Nat) | boxes
deriving DecidableEq, Repr

/-- The areas of a template's frame buffer in order, with their bytes. -/
def State.bufAreas (s : State) (t : Nat) : List (BufArea × Nat) :=
  ((List.range 6).filter (fun k => bit (s.get .tmpl_TAP_MASK t) k)).map (fun k => (.tap k, s.tmplHeight t * s.tapRowBytes t k)) ++
    (let r := s.get .tmpl_REENTRY_AT t
     if r = 0 then [] else [(.reentry, s.tmplHeight t * s.tapRowBytes t r)]) ++
    (List.range (min 2 (s.get .tmpl_NVIEWS t))).map (fun v => (.view v, s.viewBytes t v)) ++ [(.boxes, 131072)]

/-- FRAME_BYTES of a template. -/
def State.frameBytes (s : State) (t : Nat) : Nat := ((s.bufAreas t).map (fun a => round4K a.2)).sum

/-- Offset of an area in a frame buffer, none where the template has none. -/
def areaOffset (x : BufArea) : List (BufArea × Nat) → Nat → Option Nat
  | [], _ => none
  | (a, n) :: l, o => if a = x then some o else areaOffset x l (o + round4K n)

/-- Device-virtual address of an area of buffer `buf` of loop entry `k`. -/
def State.areaAddr (s : State) (k buf : Nat) (x : BufArea) : Option Nat :=
  (areaOffset x (s.bufAreas (s.camTmpl k)) 0).map (fun o => s.get .loop_TAP_BASE k + buf * s.get .loop_FRAME_BYTES k + o)

/-- Tap code of a 24-bit value (R277). -/
def tapCode (shift v : Nat) : Nat := min 65535 (nearest v (2 ^ shift))

/-- Write row `y` of tap `k` into the frame's buffer, where the entry is enabled and the tap is. -/
def State.writeTap (s : State) (f : CamFrame) (y k : Nat) (vs : List Nat) (fl : Flags) : State :=
  match f.buf.bind (fun b => if s.on .loop_ENABLE f.stream then s.areaAddr f.stream b (.tap k) else none) with
  | none => s
  | some a =>
    let t := s.camTmpl f.stream
    let c := s.get .cam_CONTEXT f.stream
    let n := s.tapElemBytes t k
    let bs := vs.flatMap (toBytes n)
    let a := a + y * s.tapRowBytes t k
    (s.writeVA c a bs).markLines c a bs.length fl 0

/-! ## Stages 5 to 11 (R273) -/

/-- Quotient of an integer rounded to nearest, ties to even. -/
def nearestInt (a : Int) (d : Nat) : Int := if a < 0 then -(nearest a.natAbs d : Int) else (nearest a.natAbs d : Int)

/-- Stage LSC: the gain lies between four points of the 33 x 33 grid; the product is rounded once. -/
def lscSample (grid : List Nat) (h w y x v : Nat) : Nat :=
  let d := 2 ^ 16
  let py := min (32 * d) (Config.lscPlace h y)
  let px := min (32 * d) (Config.lscPlace w x)
  let g := fun i j => grid.getD (min 32 i * 33 + min 32 j) 0
  let (iy, fy) := (py / d, py % d)
  let (ix, fx) := (px / d, px % d)
  let gain := (g iy ix * (d - fx) + g iy (ix + 1) * fx) * (d - fy) + (g (iy + 1) ix * (d - fx) + g (iy + 1) (ix + 1) * fx) * fy
  sat24 (nearest (v * gain) (4096 * d * d))

/-- Rows or columns of the nearest I sites about index `i` (Table Jointer-3: every second one holds them). -/
def irAxis (origin i : Nat) : List Int := if (i + origin) % 2 = 1 then [(i : Int)] else [(i : Int) - 1, (i : Int) + 1]

/-- IR at (y, x), interpolated bilinearly from the nearest I sites; none where one of them lies outside the frame. -/
def irAt (phase h w : Nat) (v : Nat → Nat → Nat) (y x : Nat) : Option Nat :=
  let sites := (irAxis (phase / 4) y).flatMap (fun a => (irAxis (phase % 4) x).map (fun b => (a, b)))
  if sites.all (fun p => decide (0 ≤ p.1 ∧ p.1 < (h : Int) ∧ 0 ≤ p.2 ∧ p.2 < (w : Int))) then
    some (nearest ((sites.map (fun p => v p.1.toNat p.2.toNat)).sum) sites.length)
  else none

/-- Stage COND at (y, x): the conditioned sample and IR. Free values (log entry 31): the remosaic of quad-Bayer and RGBW, the G that
refills an I site, and IR beyond the outermost I sites. -/
def condSample (ks : List Nat) (m phase h w seed : Nat) (v : Nat → Nat → Nat) (y x : Nat) : Nat × Nat :=
  let free := fun k => Config.freeValue seed (2 * (y * w + x) + k) % 2 ^ 24
  if m = 3 then
    let c := patternColour m phase y x
    let ir := (irAt phase h w v y x).getD (free 0)
    (if c = 4 then free 1 else sat24 (nearest (v y x * 4096 - ks.getD (c - 1) 0 * ir) 4096), ir)
  else (if m = 2 ∨ m = 4 then free 0 else v y x, 0)

/-- Stage CFA at (y, x): R, G and B. The colours of a mosaic are free values (log entry 31). -/
def cfaPixel (m w seed : Nat) (rows : List (List Nat)) (y x : Nat) : List Nat :=
  if m = 0 then List.replicate 3 ((rows.getD y []).getD x 0)
  else (List.range 3).map (fun c => Config.freeValue seed (3 * (y * w + x) + c) % 2 ^ 24)

/-- Stage CCM. -/
def ccmPixel (m : List (List Int)) (p : List Nat) : List Nat :=
  (List.range 3).map (fun r =>
    let row := m.getD r []
    let sum := ((List.range 3).map (fun c => row.getD c 0 * ((p.getD c 0 : Nat) : Int))).sum
    sat24 (nearestInt (sum + row.getD 3 0 * 4096) 4096).toNat)

/-- Stage TONE. -/
def toneSample (knots : List Nat) (v : Nat) : Nat :=
  let d := 2 ^ 16
  let p := min (1023 * d) (Config.tonePlace v)
  let a := knots.getD (p / d) 0
  min 65535 (nearest (a * (d - p % d) + knots.getD (p / d + 1) a * (p % d)) d)

/-- Luma or chroma of ITU-R BT.709, times 10^4, and the divisor that makes it a component: Y, (B - Y) / 1.8556, (R - Y) / 1.5748. -/
def bt709 (p : List Nat) (i : Nat) : Int × Nat :=
  let e := fun k => ((p.getD k 0 : Nat) : Int)
  let y := 2126 * e 0 + 7152 * e 1 + 722 * e 2
  match i with
  | 0 => (y, 10000)
  | 1 => (10000 * e 2 - y, 18556)
  | _ => (10000 * e 0 - y, 15748)

/-- Component `i` of a YCbCr pixel. -/
def cscSample (p : List Nat) (i : Nat) : Nat :=
  let (n, d) := bt709 p i
  min 65535 (nearestInt (n * (Config.cscScale i : Int)) (d * 2 ^ 16) + (Config.cscZero i : Int)).toNat

/-- Stage CSC of a row of RGB pixels: the components of each pixel. Under 4:2:2 a pair of columns shares its mean chroma. -/
def cscRow (mode : Nat) (row : List (List Nat)) : List (List Nat) :=
  if mode = 0 then row
  else
    let ycc := row.map (fun p => (List.range 3).map (cscSample p))
    if mode = 1 then ycc
    else ycc.zipIdx.map (fun (p, x) =>
      let a := ycc.getD (x / 2 * 2) p
      let b := ycc.getD (x / 2 * 2 + 1) a
      [p.getD 0 0, nearest (a.getD 1 0 + b.getD 1 0) 2, nearest (a.getD 2 0 + b.getD 2 0) 2])

/-- One sample of the SCALE filter along an axis of `n` source samples, for output index `i` of `o` (R119 with the box from 0 to `n`).
A tap outside the source is a free value. -/
def scaleAxis (filter : List Int) (n o i : Nat) (get : Int → Int) : Int :=
  let p := samplePos 0 ((n : Int) * 65536) o i
  let ph := Config.scalePhase (p % 65536).toNat % 64
  ((List.range 8).map (fun (t : Nat) => filter.getD (ph * 8 + t) 0 * get (p / 65536 + t - (Config.scaleBefore % 8 : Nat)))).sum

/-- Component `c` of pixel (i, j) of a view of `oh` x `ow` made from `h` x `w` pixels: the columns, then the rows. -/
def scaleSample (filter : List Int) (px : List (List (List Nat))) (h w oh ow seed c i j : Nat) : Nat :=
  let bits := Config.scaleBits % 32
  let at' := fun (y x : Int) =>
    if 0 ≤ y ∧ y < (h : Int) ∧ 0 ≤ x ∧ x < (w : Int) then
      (((((px.getD y.toNat []).getD x.toNat []).getD c 0 : Nat)) : Int)
    else ((Config.freeValue seed ((y + 16).toNat * (w + 32) + (x + 16).toNat) % 65536 : Nat) : Int)
  let line := fun (y : Int) => nearestInt (scaleAxis filter w ow j (at' y) * 2 ^ bits) 4096
  min 65535 (nearestInt (scaleAxis filter h oh i line) (4096 * 2 ^ bits)).toNat

/-- Bytes of a view (R278): the 16-bit components of each pixel, in OUT_MODE 2 Y and Cb at even columns, Y and Cr at odd ones. -/
def viewBytesOf (mode oh ow : Nat) (get : Nat → Nat → Nat → Nat) : List Byte :=
  (List.range oh).flatMap (fun i => (List.range ow).flatMap (fun j =>
    (if mode = 2 then [0, 1 + j % 2] else [0, 1, 2]).flatMap (fun c => toBytes 2 (get c i j))))

/-! ## Rows of a frame -/

/-- Whether the ingest lane runs the stage behind tap `k`: a re-entry frame stops after tap REENTRY_AT (R280). -/
def State.laneRuns (s : State) (t k : Nat) : Bool := s.get .tmpl_REENTRY_AT t == 0 || decide (k ≤ s.get .tmpl_REENTRY_AT t)

/-- Entry of a table of the image. -/
def tableAt {α : Type} (l : List (Nat × α)) (i : Nat) : Option α := (l.find? (fun p => p.1 == i)).map (·.2)

/-- Sample (y, x) of rows. -/
def rowsAt (rows : List (List Nat)) (y x : Nat) : Nat := (rows.getD y []).getD x 0

/-- Tile flags of rows `y - k` to `y + k`: R24 ORs those of all inputs. -/
def flagsAbout (marks : List Flags) (k y : Nat) : Flags := ((marks.take (y + k + 1)).drop (y - k)).foldl Flags.or {}

/-- Black level of sample (y, x) of a template. -/
def State.blackAt (s : State) (t y x : Nat) : Nat :=
  ((tableAt s.camera.tables.black t).getD []).getD (patternPhase (s.get .tmpl_MOSAIC t) (s.get .tmpl_PHASE t) y x) 0

/-- Stage 3 of a row. -/
def State.blcRow (s : State) (t y : Nat) (row : List Nat) : List Nat := row.zipIdx.map (fun (v, x) => v - s.blackAt t y x)

/-- Stage 4 of row `y` of the rows after stage 3: values, each with true where it was replaced. -/
def State.dpcRow (s : State) (t : Nat) (rows : List (List Nat)) (y seed : Nat) : List (Nat × Bool) :=
  let table := (tableAt s.camera.tables.dpc (s.get .tmpl_DPC_TABLE t)).getD (2 ^ 24, [])
  (List.range (s.tmplWidth t)).map
    (dpcSample table (s.get .tmpl_MOSAIC t) (s.get .tmpl_PHASE t) (s.tmplHeight t) (s.tmplWidth t) seed (rowsAt rows) y)

/-- Stage 5 of row `y`. -/
def State.lscRow (s : State) (t y : Nat) (row : List Nat) : List Nat :=
  let grids := (tableAt s.camera.tables.lsc (s.get .tmpl_LSC_TABLE t)).getD []
  row.zipIdx.map (fun (v, x) =>
    let c := patternColour (s.get .tmpl_MOSAIC t) (s.get .tmpl_PHASE t) y x
    lscSample (grids.getD c []) (s.tmplHeight t) (s.tmplWidth t) y x v)

/-- Stage 6 of row `y` of the rows after stage 5: the conditioned mosaic and IR. -/
def State.condRow (s : State) (t : Nat) (rows : List (List Nat)) (y seed : Nat) : List (Nat × Nat) :=
  (List.range (s.tmplWidth t)).map
    (condSample ((tableAt s.camera.tables.ir t).getD []) (s.get .tmpl_MOSAIC t) (s.get .tmpl_PHASE t) (s.tmplHeight t) (s.tmplWidth t)
      seed (rowsAt rows) y)

/-! ## Serving a line set -/

/-- Stages 1 to 3 of a line set with the rows of taps 0 to 2 (R277, R294). -/
def State.earlyStages (s : State) (f : CamFrame) (set : LineSet) (padding : Bool) : State :=
  let t := s.camTmpl f.stream
  let sh := s.get .tmpl_TAP_SHIFT t
  let knots := (tableAt s.camera.tables.lin (s.get .tmpl_LIN_TABLE t)).getD []
  let lins := set.lines.zipIdx.map (fun (l, e) => l.map (linSample knots ((dtBits (s.expDT t e)).getD 8)))
  let at' := fun x => lins.map (fun l => l.getD x 0)
  let knee := s.get .tmpl_KNEE t
  let pair := fun x =>
    let v := at' x
    b2n (!padding && decide (2 ≤ v.length) && decide (v.getD 0 0 < knee * 256) &&
      decide (s.get .tmpl_PAIR_FLOOR t ≤ tapCode sh (v.getD 1 0)))
  let cols := List.range (s.tmplWidth t)
  let ratios := [256, s.get .tmpl_RATIO1 t, s.get .tmpl_RATIO2 t, s.get .tmpl_RATIO3 t]
  let merged := cols.map (fun x => mergeSample (at' x) ratios knee)
  let y := set.index
  let s := s.writeTap f y 0 (set.lines.headD []) set.flags
  let s := s.writeTap f y 1 (cols.flatMap (fun x => (at' x).map (tapCode sh) ++ [pair x])) set.flags
  let s := s.writeTap f y 2 (merged.map (tapCode sh)) set.flags
  let row := s.blcRow t y merged
  s.updCam f.stream f.seq (fun x => { x with rows := x.rows ++ [row], marks := x.marks ++ [set.flags] })

/-- Stages 4 and 5 of row `y` of a frame, with the rows of taps 3 and 4. -/
def State.midStages (s : State) (f : CamFrame) (y : Nat) : State :=
  let t := s.camTmpl f.stream
  let sh := s.get .tmpl_TAP_SHIFT t
  let fl := flagsAbout f.marks 2 y
  let d := s.dpcRow t f.rows y s.free
  let s : State := { s with free := s.free + 1 }
  let s := s.bump .jnt_DEFECTS_FIXED (s.get .cam_JOINTER f.stream) (d.filter (·.2)).length
  let s := if s.laneRuns t 3 then s.writeTap f y 3 (d.map (fun p => tapCode sh p.1)) fl else s
  let row := s.lscRow t y (d.map (·.1))
  let s := if s.laneRuns t 4 then s.writeTap f y 4 (row.map (tapCode sh)) fl else s
  s.updCam f.stream f.seq (fun x => { x with fine := x.fine ++ [row] })

/-- Stage 6 of row `y` of a frame, with the row of tap 5. -/
def State.condStage (s : State) (f : CamFrame) (y : Nat) : State :=
  let t := s.camTmpl f.stream
  let sh := s.get .tmpl_TAP_SHIFT t
  let row := s.condRow t f.fine y s.free
  let s : State := { s with free := s.free + 1 }
  let codes := if s.get .tmpl_MOSAIC t = 3 then row.flatMap (fun p => [tapCode sh p.1, tapCode sh p.2]) else row.map (fun p => tapCode sh p.1)
  let s := if s.laneRuns t 5 then s.writeTap f y 5 codes (flagsAbout f.marks (if s.get .tmpl_MOSAIC t = 3 then 3 else 2) y) else s
  s.updCam f.stream f.seq (fun x => { x with cond := x.cond ++ [row.map (·.1)] })

/-- Stages 7 to 10 of a frame's rows after stage 6: the components of each pixel. -/
def State.colourRows (s : State) (t : Nat) (rows : List (List Nat)) (seed : Nat) : List (List (List Nat)) :=
  let m := s.get .tmpl_MOSAIC t
  let ccm := (tableAt s.camera.tables.ccm (s.get .tmpl_CCM_TABLE t)).getD []
  let tone := (tableAt s.camera.tables.tone (s.get .tmpl_TONE_TABLE t)).getD []
  (List.range (s.tmplHeight t)).map (fun y =>
    cscRow (s.get .tmpl_OUT_MODE t) ((List.range (s.tmplWidth t)).map (fun x =>
      (ccmPixel ccm (cfaPixel m (s.tmplWidth t) seed rows y x)).map (toneSample tone))))

/-- Stages 7 to 11: write the views of a frame from its rows after stage 6 (R278), with their tile flags and the reason of their
poison, 0 for none. -/
def State.writeViews (s : State) (k buf : Nat) (rows : List (List Nat)) (fl : Flags) (poison : Nat) : State :=
  let t := s.camTmpl k
  let c := s.get .cam_CONTEXT k
  let px := s.colourRows t rows s.free
  let s : State := { s with free := s.free + 1 }
  forEach (List.range (min 2 (s.get .tmpl_NVIEWS t))) (fun v s =>
    match s.areaAddr k buf (.view v) with
    | none => s
    | some a =>
      let (w, h) := s.viewSize t v
      let filter := (tableAt s.camera.tables.filter (2 * t + v)).getD []
      let bs := viewBytesOf (s.get .tmpl_OUT_MODE t) h w (scaleSample filter px (s.tmplHeight t) (s.tmplWidth t) h w s.free)
      ({ s.writeVA c a bs with free := s.free + 1 } : State).markLines c a bs.length fl poison) s

end Sys2Proof.Machine
end

