-- ==== Sys2Proof/Machine/Jointer.lean ====
section
/-! DEFINITION. Serving line sets, frame records, the re-entry lane, glance mode (08 R263 to R270; 09 R278 to R282). -/

namespace Sys2Proof.Machine

/-! ## Cleat's tests of a control record (09 R289, R290) -/

/-- DW `k` of a control record. -/
def ctrlDW (bs : List Byte) (k : Nat) : Nat := ofBytes ((bs.drop (4 * k)).take 4)

/-- A reserved field of a control record is not zero (Table Jointer-6). -/
def ctrlReserved (bs : List Byte) : Bool :=
  16 ≤ ctrlDW bs 0 || 256 ≤ ctrlDW bs 1 || (List.range (ctrlDW bs 0 % 16)).any (fun i => 2 ^ 20 ≤ ctrlDW bs (2 + 2 * i))

/-- The entries of a control record in order: LENS, and the bytes that go out, most significant first. -/
def ctrlEntries (bs : List Byte) : List (Bool × List Byte) :=
  (List.range (ctrlDW bs 0 % 16)).map (fun i =>
    let d := ctrlDW bs (2 + 2 * i)
    let reg := if bit d 18 then toBytes 1 d else (toBytes 2 d).reverse
    (bit d 19, reg ++ (toBytes (bits d 16 2 + 1) (ctrlDW bs (3 + 2 * i))).reverse))

/-- Outcome of a control record in the loop entry. -/
def State.ctrlOutcome (s : State) (k seq code : Nat) : State :=
  s.setAll k [(.loop_LAST_CTRL_CODE, code), (.loop_LAST_CTRL_SEQ, seq)]

/-- Queue a loop record (R290): it takes the place of the stream's queued record, whose outcome is CONTROL_SUPERSEDED. On a bus of a
lost I3C group it is abandoned (17 R491). -/
def State.queueRecord (s : State) (r : CleatRecord) (k : Nat) : State :=
  let mine := fun (x : CleatRecord) => (x.source.map (·.1)) == some k
  let q := s.camera.queue
  if s.on .dom_HELD_OFF (111 + r.bus / 6) then s.ctrlOutcome k ((r.source.map (·.2)).getD 0) 0x0C04 else
  match q.find? mine with
  | some old =>
    let s := s.ctrlOutcome k ((old.source.map (·.2)).getD 0) 0x061A
    { s with camera := { s.camera with queue := mapWhere mine (fun _ => r) q } }
  | none => ({ s with camera := { s.camera with queue := q ++ [r] } } : State).demand (111 + r.bus / 6)

/-- Cleat tests a control record (R290). -/
def State.cleatTest (s : State) (n : FrameNote) (bs : List Byte) (poison : Nat) : State :=
  let k := n.stream
  let t := s.camTmpl k
  let es := ctrlEntries bs
  let late := decide (s.get .tmpl_LATE_US t * 6144 < (s.now - n.t0) * 10)
  if poison ≠ 0 then s.ctrlOutcome k n.seq poison
  else if ctrlReserved bs || (es.any (·.1) && !s.on .loop_LENS_EN k) then s.ctrlOutcome k n.seq 0x0617
  else if n.flags &&& s.get .tmpl_HOLD_MASK t ≠ 0 then s.ctrlOutcome k n.seq 0x0618
  else if es.isEmpty then s
  else if late && s.on .tmpl_LATE_POLICY t then s.ctrlOutcome k n.seq 0x0619
  else
    s.queueRecord
      { bus := s.get .loop_BUS k, source := some (k, n.seq), late := late, t0 := n.t0
        entries := es.map (fun e => (s.get (if e.1 then .loop_LENS_SLOT else .loop_SENSOR_SLOT) k, e.2)) } k

/-- A record of 128 bytes. -/
def fillRecord (bs : List Byte) : List Byte := (bs ++ List.replicate 128 0).take 128

/-- Cleat takes the control record of a loop job at step 3 (R290): it is held until the frame record has been written. -/
def State.cleatTake (s : State) (k seq : Nat) (control : Option (List Byte)) (poison : Nat) : State :=
  let bs := fillRecord (control.getD [])
  if s.camera.frames.any (fun f => f.stream == k && f.seq == seq) then
    { s with camera := { s.camera with
      heldControls := s.camera.heldControls ++ [{ stream := k, seq := seq, bytes := bs, poison := poison }] } }
  else
    match s.camera.notes.find? (fun n => n.stream == k && n.seq == seq) with
    | some n => s.cleatTest n bs poison
    | none => s

/-! ## Line sets (08 R263, R266; 09 R277 to R279) -/

/-- The next set of a frame, with true for a padding set; none while it is not ready (08 R263, R266, R267). -/
def State.nextSet (s : State) (f : CamFrame) : Option (LineSet × Bool) :=
  let t := s.camTmpl f.stream
  let i := f.served
  match f.sets with
  | x :: _ => some (x, false)
  | [] =>
    if i < s.tmplHeight t && decide (f.received ≤ i) && (f.closed || f.cutAt.isSome) then
      let copy := !s.on .tmpl_FRAME_PAD t && !f.lastSet.isEmpty
      some ({ index := i, lines := if copy then f.lastSet else List.replicate (s.tmplExposures t) (s.padLine t)
              flags := { padded := true, overrun := f.cutAt.isSome } }, true)
    else none

/-- The frame of a stream that is being served: its first frame with sets left. -/
def State.servedFrame (s : State) (k : Nat) : Option CamFrame :=
  (s.streamFrames k).find? (fun f => decide (f.served < s.tmplHeight (s.camTmpl k)))

/-- The next stream of a rotation: the first at or after `turn`, else the first. -/
def nextTurn (l : List Nat) (turn : Nat) : Option Nat :=
  match ((List.range 96).filter l.contains).find? (fun k => decide (turn ≤ k)) with
  | some k => some k
  | none => ((List.range 96).filter l.contains).head?

/-- Band height of a template. -/
def State.bandRows (s : State) (t : Nat) : Nat := (s.get .tmpl_BAND_M1 t + 1) * 16

/-- Rows of a frame of which every enabled tap has been written (R279). -/
def State.tapRowsDone (s : State) (f : CamFrame) : Nat :=
  let t := s.camTmpl f.stream
  let on := fun k => bit (s.get .tmpl_TAP_MASK t) k && s.laneRuns t k
  if on 5 then f.cond.length else if on 3 || on 4 then f.fine.length else f.served

/-- One band ADD (R279). -/
def State.bandAdd (s : State) (f : CamFrame) : State :=
  match f.buf with
  | some b =>
    if s.on .loop_ENABLE f.stream then
      (s.pegAdd (s.get .loop_BAND_PEG_BASE f.stream + b) 1).bump .jnt_TAP_BANDS (s.get .cam_JOINTER f.stream)
    else s
  | none => s

/-- The Jointer serves a set of a frame. -/
def State.serveSet (s : State) (f : CamFrame) (set : LineSet) (padding : Bool) : State :=
  let k := f.stream
  let t := s.camTmpl k
  let j := s.get .cam_JOINTER k
  let h := s.tmplHeight t
  let s := s.bump .jnt_SETS_SERVED j
  let s := if padding then s.bump .jnt_PAD_SETS j else s
  let s := s.earlyStages f set padding
  let before := s.tapRowsDone f
  let s := s.updCam k f.seq (fun x => { x with served := x.served + 1, sets := if padding then x.sets else x.sets.tail })
  let f1 := (s.camera.frames.find? (fun x => x.stream == k && x.seq == f.seq)).getD f
  let limit := if f1.served = h then h else f1.served - 2
  let mid := s.get .tmpl_REENTRY_AT t ≠ 2 || f.glance
  let s := if mid then forEach (rangeFrom f1.fine.length (limit - f1.fine.length)) (fun y s => s.midStages f1 y) s else s
  let now := fun (s : State) => (s.camera.frames.find? (fun x => x.stream == k && x.seq == f.seq)).getD f1
  let fm := now s
  let limit := if fm.fine.length = h then h else fm.fine.length - 1
  let s := if s.laneRuns t 5 then forEach (rangeFrom fm.cond.length (limit - fm.cond.length)) (fun y s => s.condStage fm y) s else s
  let f2 := now s
  let after := s.tapRowsDone f2
  let b := s.bandRows t
  let ends := (rangeFrom (before + 1) (after - before)).filter (fun r => r % b == 0 && decide (r < h))
  let s := forEach ends (fun _ s => s.bandAdd f2) s
  match f2.buf with
  | some buf =>
    if f2.served = h && !s.on .tmpl_REENTRY_AT t && s.on .loop_ENABLE k then s.writeViews k buf f2.cond (f2.marks.foldl Flags.or {}) 0 else s
  | none => s

/-- LINE_SET_SERVE (08 R266): the Jointer is ON and takes its streams in rotation. -/
def State.lineSetServe (s : State) (j : Nat) : State :=
  if !s.takesWork (69 + j) || !s.on .jnt_PRESENT j || s.clocks.stopped then s
  else
    let ready := (s.jointerStreams j).filter (fun k => ((s.servedFrame k).bind s.nextSet).isSome)
    match nextTurn ready (Store.get 0 s.camera.turn j) with
    | none => s
    | some k =>
      if s.refresh ≠ .active then s.exitSelfRefresh else
      let s : State := { s with camera := { s.camera with turn := Store.put 0 s.camera.turn j (k + 1) } }
      match s.servedFrame k with
      | none => s
      | some f => match s.nextSet f with | some (set, padding) => s.serveSet f set padding | none => s

/-- Meaning of LINE_SET_SERVE. -/
def execLineSetServe (j : Met (Fin 8)) (s : State) : Host.Outcome State Fault Refusal :=
  .next (s.writes none j.rd j.wr (fun s => s.lineSetServe j.val.val))

/-! ## Frame records (08 R268) -/

/-- A loop job of this frame runs or waits. -/
def State.loopUses (s : State) (k seq : Nat) : Bool :=
  s.camera.waiting.any (fun w => w.stream == k && w.frameSeq == seq) ||
    s.jobs.any (fun j => match j.id with | .loop x => x.val == k && j.tag == seq | _ => false)

/-- FRAME_RECORD_WRITE (08 R268, R258; 09 R279, R280, R290): the record, FRAME_PEG, the last band ADD, VIEW_PEG, a held control
record, and the end of a stopping stream. -/
def State.frameRecordWrite (s : State) (k : Nat) : State :=
  match s.streamFrames k with
  | [] => s
  | f :: _ =>
    if !f.closed || f.served < s.tmplHeight (s.camTmpl k) then s
    else if s.refresh ≠ .active then s.exitSelfRefresh
    else
      let c := s.get .cam_CONTEXT k
      let slot := s.get .cam_REC_NEXT k
      let s := s.writeVA c (s.get .cam_REC_RING k + slot * s.recSlotBytes k) f.record
      let s := s.set .cam_REC_NEXT k (if slot = s.get .cam_REC_SLOTS_M1 k then 0 else slot + 1)
      let fl := f.recordFlags
      let s := if fl = 0 then s else s.bump .cam_FRAMES_FLAGGED k
      let s := if bit fl 4 then s.bump .cam_OVERRUNS k else s
      let s := s.pegAdd (s.get .cam_FRAME_PEG k) 1
      let s := s.bandAdd f
      let s := if f.buf.isSome && !s.on .tmpl_REENTRY_AT (s.camTmpl k) && s.on .loop_ENABLE k then
        s.pegAdd (s.get .loop_VIEW_PEG k) 1 else s
      let note : FrameNote := { stream := k, seq := f.seq, flags := fl, t0 := f.t0 }
      let held := s.camera.heldControls.filter (fun x => x.stream == k && x.seq == f.seq)
      let s : State := { s with camera := { s.camera with
        frames := s.camera.frames.filter (fun x => !(x.stream == k && x.seq == f.seq && !x.skipped))
        heldControls := s.camera.heldControls.filter (fun x => !(x.stream == k && x.seq == f.seq))
        notes := if s.loopUses k f.seq then s.camera.notes ++ [note] else s.camera.notes } }
      (forEach held (fun x s => s.cleatTest note x.bytes x.poison) s).camStopped k

/-- Meaning of FRAME_RECORD_WRITE. -/
def execFrameRecordWrite (k : Met (Fin 96)) (s : State) : Host.Outcome State Fault Refusal :=
  .next (s.writes none k.rd k.wr (fun s => s.frameRecordWrite k.val.val))

/-! ## The re-entry lane (09 R280) -/

/-- Row `y` of a re-entry image as the lane takes it (R280): code x 2^TAP_SHIFT of the first channel, the tile flags of the row, and
the reason of a block that it may not use: a coded one (07 R247) or one that reads as uncorrectable (06 R221); 0 for none. -/
def State.reentryRow (s : State) (k a y : Nat) : List Nat × Flags × Nat :=
  let t := s.camTmpl k
  let c := s.get .cam_CONTEXT k
  let at' := s.get .tmpl_REENTRY_AT t
  let n := s.tapRowBytes t at'
  let a := a + y * n
  let bs := s.readVA c a n
  let ch := 2 * s.tapChannels t at'
  let code := fun x => ofBytes ((bs.drop (x * ch)).take 2)
  let stored := (partsBy 4096 a n).any (fun p => s.storedAt c p.1)
  let bad := (s.blocksVA c a n).any s.memory.bad.contains
  ((List.range (s.tmplWidth t)).map (fun x => sat24 (code x * 2 ^ s.get .tmpl_TAP_SHIFT t)), s.lineFlags c a n,
    if stored then 0x0B06 else if bad then 0x032B else 0)

/-- Stages after tap REENTRY_AT up to stage 6 of a re-entry image (R280): the rows after stage 6, and how many samples stage 4
replaced. -/
def State.laneStages (s : State) (t : Nat) (rows : List (List Nat)) : List (List Nat) × Nat :=
  let at' := s.get .tmpl_REENTRY_AT t
  let ys := List.range (s.tmplHeight t)
  let blc := if at' ≤ 2 then ys.map (fun y => s.blcRow t y (rows.getD y [])) else rows
  let dpc := if at' ≤ 2 then ys.map (fun y => s.dpcRow t blc y (s.free + y)) else []
  let fixed := (dpc.map (fun r => (r.filter (·.2)).length)).sum
  let clean := if at' ≤ 2 then dpc.map (fun r => r.map (·.1)) else rows
  let fine := if at' ≤ 3 then ys.map (fun y => s.lscRow t y (clean.getD y [])) else clean
  (if at' ≤ 4 then ys.map (fun y => (s.condRow t fine y (s.free + s.tmplHeight t + y)).map (·.1)) else fine, fixed)

/-- The first frame of a stream in the lane, when its next line set may be read: its job has not faulted, and the re-entry peg
has reached the set's band. -/
def State.reentryReady (s : State) (k : Nat) : Option ReentryFrame :=
  match s.camera.reentry.find? (fun r => r.stream == k) with
  | none => none
  | some r =>
    let ok := s.jobs.all (fun j => match j.id with | .loop x => !(x.val == k && j.tag == r.seq && j.fault != 0) | _ => true)
    let band := r.served / s.bandRows (s.camTmpl k)
    if ok && hasReached 32 (s.get .peg_COUNT (s.get .loop_REENTRY_PEG_BASE k + r.buf)) (band + 1) then some r else none

/-- REENTRY_SET_SERVE: the lane reads and serves one line set; with the last one the views are written and VIEW_PEG advances. -/
def State.reentrySetServe (s : State) (j : Nat) (rd : ReadOutcome) : State :=
  if !s.takesWork (77 + j) || !s.on .jnt_PRESENT j || s.clocks.stopped then s
  else
    let ready := (s.jointerStreams j).filter (fun k => (s.reentryReady k).isSome)
    match nextTurn ready (Store.get 0 s.camera.turn (8 + j)) with
    | none => s
    | some k =>
      if s.refresh ≠ .active then s.exitSelfRefresh else
      let s : State := { s with camera := { s.camera with turn := Store.put 0 s.camera.turn (8 + j) (k + 1) } }
      match s.reentryReady k with
      | none => s
      | some r =>
        let t := s.camTmpl k
        let s := s.bump .jnt_REENTRY_SETS j
        let me := fun (x : ReentryFrame) => x.stream == k && x.seq == r.seq
        let a := (s.areaAddr k r.buf .reentry).getD 0
        let n := s.tapRowBytes t (s.get .tmpl_REENTRY_AT t)
        let (s, read) := s.readBlocks (s.blocksVA (s.get .cam_CONTEXT k) (a + r.served * n) n) rd 0
        let (row, fl, bad) := s.reentryRow k a r.served
        let bad := if bad = 0 ∧ !read then 0x032B else bad
        let r := { r with served := r.served + 1, rows := r.rows ++ [row], marks := r.marks ++ [fl]
                          poison := if r.poison = 0 then bad else r.poison }
        if r.served < s.tmplHeight t then
          { s with camera := { s.camera with reentry := mapWhere me (fun _ => r) s.camera.reentry } }
        else
          let (rows, fixed) := s.laneStages t r.rows
          let s : State := { s with free := s.free + 2 * s.tmplHeight t }
          let s := (s.bump .jnt_DEFECTS_FIXED j fixed).writeViews k r.buf rows (r.marks.foldl Flags.or {}) r.poison
          let s : State := { s with camera := { s.camera with reentry := s.camera.reentry.filter (fun x => !me x) } }
          s.pegAdd (s.get .loop_VIEW_PEG k) 1

/-- Meaning of REENTRY_SET_SERVE. -/
def execReentrySetServe (j : Met (Fin 8)) (s : State) : Host.Outcome State Fault Refusal :=
  .next (s.writes none j.rd j.wr (fun s => s.reentrySetServe j.val.val j.rd))

/-! ## Glance mode (09 R281, R282) -/

/-- Meaning of GLANCE_PERIOD_EXPIRY (R281). -/
def execGlancePeriodExpiry (s : State) : Host.Outcome State Fault Refusal :=
  .next (if s.on .jnt_GLANCE_ACTIVE then { s with camera := { s.camera with glanceDue := true } } else s)

/-- The glance image of rows after stage 5 (R282): means of GLANCE_F x GLANCE_F cells of 2 x 2 samples, shifted under R277 and
rounded once. -/
def glanceReduce (rows : List (List Nat)) (h w f shift : Nat) : GlanceImage :=
  let oh := h / 2 / f
  let ow := w / 2 / f
  let n := 2 * f
  let at' := fun i =>
    let y := i / ow * n
    let x := i % ow * n
    let sum := ((rangeFrom y n).map (fun r => (((rows.getD r []).drop x).take n).sum)).sum
    min 65535 (nearest sum (n * n * 2 ^ shift))
  { h := oh, w := ow, codes := (List.range (oh * ow)).map at' }

/-- GLANCE_FRAME (R282, 10 R310): the image goes to the half of the glance buffer that does not hold the latest complete frame, and Jointer
0 returns to RETENTION. -/
def State.glanceFrame (s : State) : State :=
  match s.camera.frames.find? (fun f => f.glance && f.fine.length == s.tmplHeight (s.camTmpl f.stream)) with
  | none => s
  | some f =>
    let t := s.camTmpl f.stream
    let g := glanceReduce f.fine (s.tmplHeight t) (s.tmplWidth t) (s.get .tmpl_GLANCE_F t) (s.get .tmpl_TAP_SHIFT t)
    let s := s.updCam f.stream f.seq (fun x => { x with glance := false })
    let s : State := { s with camera := { s.camera with glance := g, glanceOld := s.camera.glance, glanceNew := true } }
    let s := if s.on .jnt_GLANCE_ACTIVE then s.setDom 69 1 else s
    s.bump .jnt_GLANCE_FRAMES

/-- Meaning of GLANCE_FRAME. -/
def execGlanceFrame (s : State) : Host.Outcome State Fault Refusal := .next s.glanceFrame

/-- GLANCE_SRC takes a value (Table Jointer-8). -/
def State.glanceSource (s : State) (v : Nat) : State := (s.set .jnt_GLANCE_SRC 0 v).glanceUpdate

/-- Meaning of GLANCE_SRC_WRITE (R281; 15 R452). -/
def execGlanceSrcWrite (value : BitVec 7) (s : State) : Host.Outcome State Fault Refusal :=
  .next (s.hostWrite .other (fun s => s.whenOn 69 (.glanceSrc value.toNat) (fun s => s.glanceSource value.toNat)))

end Sys2Proof.Machine
end

