-- ==== Sys2Proof/Machine/Loops.lean ====
section
/-! DEFINITION. Loop entries, loop jobs, Cleat's buses (09 R283 to R293, R296). -/

namespace Sys2Proof.Machine

/-! ## The loop table (R283 to R286) -/

/-- The loop check (R284) of entry `k`. -/
def State.loopCheck (s : State) (k : Nat) : Nat :=
  let c := s.get .cam_CONTEXT k
  let t := s.camTmpl k
  let g := s.graph (s.get .loop_GRAPH k)
  let mask := s.get .loop_BENT_MASK k
  let base := s.get .loop_PEG_BASE k
  let n := (g.map (·.pegCount)).getD 0
  let side := s.loopSidePegs k
  let bus := s.get .loop_BUS k
  let slotOk := fun (i : Nat) => s.on .i3ct_VALID (bus * 16 + i)
  let adapt := rgnIdx c (s.get .loop_ADAPT_REGION k)
  let base' := s.get .loop_TAP_BASE k
  let reentrant := (s.jointerStreams (s.get .cam_JOINTER k)).filter (fun q => s.on .tmpl_REENTRY_AT (s.camTmpl q))
  firstCode
    [(0x060F, s.get .cam_STATE k == 0 || s.get .cam_STATE k == 3),
      (0x0610, !(g.any (fun g => g.kind == .loop && g.template == t)) || !bit (s.get .cls_GRAPHS (s.classOf c)) (s.get .loop_GRAPH k)),
      (0x0306, decide ((s.presentIn mask).length < (g.map (·.bentsNeeded)).getD 1) || s.presentIn mask != maskList 8 mask),
      (0x0611, (s.loopPegs k).any (fun i => decide (65535 < i) || !s.pegOwned i c) ||
        side.any (fun i => s.on .peg_HOST_ACCESS i || s.on .peg_REMOTE_ACCESS i || (decide (base ≤ i) && decide (i < base + n)))),
      (0x0612, decide (s.get .loop_TAP_FRAMES_M1 k < 2) || base' % 4096 != 0 ||
        !s.inPrivate c base' (s.tapFrames k * s.frameBytes t)),
      (0x0613, s.on .loop_CLEAT_EN k && (!s.on .i3c_ENABLED bus || !slotOk (s.get .loop_SENSOR_SLOT k) ||
        (s.on .loop_LENS_EN k && !slotOk (s.get .loop_LENS_SLOT k)) || decide (4 ≤ s.get .i3c_LOOPS bus))),
      (0x0614, s.on .loop_ADAPT_VALID k && (!s.on .rgn_ENABLE adapt || s.get .rgn_KIND adapt != 4 ||
        (s.indices .loop_ENABLE).any (fun q => q != k && s.get .cam_CONTEXT q == c && s.on .loop_ADAPT_VALID q &&
          s.get .loop_ADAPT_REGION q == s.get .loop_ADAPT_REGION k))),
      (0x0615, s.on .tmpl_REENTRY_AT t && decide (3112960000 < (reentrant.map (fun q => s.tmplRate (s.camTmpl q))).sum)),
      (0x0308, s.get .loop_IN_LIST k % 64 != 0 || s.get .loop_OUT_LIST k % 64 != 0 ||
        (s.resolve c (s.get .loop_IN_LIST k)).isNone || (s.resolve c (s.get .loop_OUT_LIST k)).isNone)]

/-- LOOP_ENABLE (R284, R278). -/
def State.loopEnable (s : State) (k : Nat) : State :=
  if s.on .loop_ENABLE k then s
  else
    match s.loopCheck k with
    | 0 =>
      let s := s.setAll k [(.loop_ENABLE, 1), (.loop_STATE, 1), (.loop_REASON, 0), (.loop_FRAME_BYTES, s.frameBytes (s.camTmpl k)),
        (.loop_LOOP_JOBS, 0), (.loop_LOOPS_SKIPPED, 0), (.loop_CTRL_SENT, 0), (.loop_LAST_CTRL_CODE, 0), (.loop_MAX_LAT_US, 0),
        (.loop_LAST_CTRL_SEQ, 0), (.loop_FOCUS_FALLBACKS, 0), (.loop_CUR_BUF, 0)]
      let c := s.camera
      let s : State := { s with camera := { c with
        rotation := Store.put 0 c.rotation k 0, opened := Store.put 0 c.opened k 0, boxes := Store.put 0 c.boxes k 0 } }
      let s := if s.on .loop_CLEAT_EN k then
        ((s.bump .i3c_LOOPS (s.get .loop_BUS k)).demand 110).demand (111 + s.get .loop_BUS k / 6) else s
      s.floorRecompute
    | code => s.refuse .loop_REASON k code

/-- Meaning of LOOP_ENABLE. -/
def execLoopEnable (k : Fin 96) (s : State) : Host.Outcome State Fault Refusal :=
  .next (s.hostWrite .other (fun s => s.loopEnable k.val))

/-- Meaning of LOOP_DISABLE (R286): an armed entry stops; LOOP_STOPPED ends it. -/
def execLoopDisable (k : Fin 96) (s : State) : Host.Outcome State Fault Refusal :=
  .next (s.hostWrite .other (fun s =>
    if s.get .loop_STATE k.val = 1 then s.setAll k.val [(.loop_STATE, 2), (.loop_REASON, 0)] else s))

/-- The entry has a loop job, a pending re-entry frame or a control record (R286). -/
def State.loopPending (s : State) (k : Nat) : Bool :=
  s.camera.waiting.any (fun w => w.stream == k) || s.camera.reentry.any (fun r => r.stream == k) ||
    s.camera.heldControls.any (fun h => h.stream == k) || s.camera.queue.any (fun r => (r.source.map (·.1)) == some k) ||
    s.jobs.any (fun j => match j.id with | .loop x => x.val == k | _ => false)

/-- A loop entry goes off: frames of the stream keep no buffer. -/
def State.loopOff (s : State) (k : Nat) : State :=
  let s := if s.on .loop_CLEAT_EN k then s.drop .i3c_LOOPS (s.get .loop_BUS k) else s
  let (ctx, a, n) := s.frameBuffers k
  let s := s.setAll k [(.loop_ENABLE, 0), (.loop_STATE, 0)]
  let c := s.camera
  let s : State := { s with camera := { c with
    frames := mapWhere (fun f => f.stream == k) (fun f => { f with buf := none }) c.frames
    marks := c.marks.filter (fun m => !(m.ctx == ctx && decide (a ≤ m.addr ∧ m.addr < a + n)))
    notes := c.notes.filter (fun n => n.stream != k) } }
  s.floorRecompute

/-- Meaning of LOOP_STOPPED (R286). -/
def execLoopStopped (k : Fin 96) (s : State) : Host.Outcome State Fault Refusal :=
  .next (if s.get .loop_STATE k.val = 2 && !s.loopPending k.val then s.loopOff k.val else s)

/-! ## Loop jobs (R285, R287) -/

/-- Device-virtual address that stands for the fixed focus windows of focus table `i`, which lie outside the context's regions. -/
def focusAddr (i : Nat) : Nat := 2 ^ 64 + i * 4096

/-- Addresses that the device substitutes in the binding lists of a loop job (R287). -/
def State.loopSubst (s : State) (w : LoopWait) (boxes : Nat) (b : Binding) : Option Nat :=
  match b with
  | .tap n => s.areaAddr w.stream w.buf (.tap n)
  | .frameRec => some w.slot
  | .reentry => s.areaAddr w.stream w.buf .reentry
  | .boxesOut => s.areaAddr w.stream w.buf .boxes
  | .boxesIn => some boxes
  | _ => none

/-- The previous frame left a box area that this one may use (R287). -/
def State.boxesUsable (s : State) (w : LoopWait) : Option Nat :=
  if !s.on .tmpl_FOCUS_MODE (s.camTmpl w.stream) then none
  else
    match w.prev with
    | some (seq, buf) => if Store.get 0 s.camera.boxes w.stream = seq + 1 then s.areaAddr w.stream buf .boxes else none
    | none => none

/-- LOOP_JOB_START (R285, R287): the stream's oldest waiting job starts when none of its loop jobs runs. The reads wait while GDDR6 admits
no accesses (06 R224). -/
def State.loopJobStart (s : State) (k : Fin 96) (env : StartEnv) : State :=
  match s.camera.waiting.find? (fun w => w.stream == k.val) with
  | none => s
  | some w =>
    let mask := s.get .loop_BENT_MASK k.val
    let g := s.graph (s.get .loop_GRAPH k.val)
    let short := s.awaitsBent mask && decide ((s.presentIn mask).length < (g.map (·.bentsNeeded)).getD 1)
    if (s.job (.loop k)).isSome || short || s.get .host_DEV_STATE != 1 || s.on .pwr_COOLANT_STOP then s
    else if s.refresh ≠ .active then s.exitSelfRefresh
    else
      let t := s.camTmpl k.val
      let own := s.boxesUsable w
      let boxes := own.getD (focusAddr (s.get .tmpl_FOCUS_TABLE t))
      let s := if s.on .tmpl_FOCUS_MODE t && own.isNone then s.bump .loop_FOCUS_FALLBACKS k.val else s
      let s : State := { s with camera := { s.camera with waiting := s.camera.waiting.filter (fun x => x != w) } }
      let s := s.bump .loop_LOOP_JOBS k.val
      s.startJob
        { id := .loop k, ctx := s.get .cam_CONTEXT k.val, graph := s.get .loop_GRAPH k.val, pegBase := s.get .loop_PEG_BASE k.val
          donePeg := s.get .loop_DONE_PEG k.val, ring := s.get .loop_RESULT_RING k.val, tag := w.frameSeq, mask := mask
          inList := s.get .loop_IN_LIST k.val, outList := s.get .loop_OUT_LIST k.val, buf := w.buf } env (s.loopSubst w boxes)

/-- Meaning of LOOP_JOB_START. -/
def execLoopJobStart (k : Fin 96) (env : StartEnv) (s : State) : Host.Outcome State Fault Refusal :=
  .next (s.loopJobStart k env)

/-- What a completing loop job leaves behind at step 3 of Table Stations-10 (R280, R287, R290). -/
def State.loopDone (s : State) (k : Nat) (j : Job) : State :=
  let s : State :=
    if j.fault = 0 then
      { s with camera := { s.camera with
        boxes := if j.boxesGood then Store.put 0 s.camera.boxes k (j.tag + 1) else s.camera.boxes } }
    else { s with camera := { s.camera with reentry := s.camera.reentry.filter (fun r => !(r.stream == k && r.seq == j.tag)) } }
  let s := if j.fault = 0 && s.on .loop_CLEAT_EN k then s.cleatTake k j.tag j.control j.controlPoison else s
  { s with camera := { s.camera with notes := s.camera.notes.filter (fun n => !(n.stream == k && n.seq == j.tag)) } }

/-! ## The I3C buses (R291, R292) -/

/-- Entries of a record, as address and bytes, go out in order on a bus (R291): each is tried twice. What was sent, and false when an
entry was abandoned. -/
def sendEntries (bus : Nat) : List (Nat × List Byte) → List Bool → List Out × Bool
  | [], _ => ([], true)
  | (a, bs) :: es, acks =>
    if acks.headD false then
      let (l, ok) := sendEntries bus es acks.tail
      (.i3c bus a (some bs) :: l, ok)
    else if acks.tail.headD false then
      let (l, ok) := sendEntries bus es acks.tail.tail
      (.i3c bus a none :: .i3c bus a (some bs) :: l, ok)
    else ([.i3c bus a none, .i3c bus a none], false)

/-- I3C_RECORD_TRANSFER (R291, R293): the oldest record of the bus is sent as one sequence. -/
def State.recordTransfer (s : State) (b : Nat) (acks : List Bool) : State :=
  match s.camera.queue.find? (fun r => r.bus == b) with
  | none => s
  | some r =>
    if !s.domainOn (111 + b / 6) then s
    else
      let (sent, ok) := sendEntries b (r.entries.map (fun e => (s.get .i3ct_DYN_ADDR (b * 16 + e.1), e.2))) acks
      let s : State := { s with camera := { s.camera with queue := s.camera.queue.erase r }, outbox := s.outbox ++ sent }
      let s := if ok then s.bump .i3c_RECORDS_SENT b else (s.bump .i3c_NACKS b).set .i3c_NACK_SEEN b 1
      let code := if ok then (if r.late then 0x0619 else 0) else 0x061C
      match r.source with
      | none => s.setAll b [(.i3c_MAN_GO, 0), (.i3c_MAN_BUSY, 0), (.i3c_MAN_REASON, code)]
      | some (k, seq) =>
        let us := min 0xFFFF ((s.now - r.t0) * 10 / 6144)
        let s := s.set .loop_MAX_LAT_US k (max (s.get .loop_MAX_LAT_US k) us)
        (if ok then s.bump .loop_CTRL_SENT k else s).ctrlOutcome k seq code

/-- Meaning of I3C_RECORD_TRANSFER. -/
def execI3cRecordTransfer (b : Fin 24) (acks : List Bool) (s : State) : Host.Outcome State Fault Refusal :=
  .next (s.recordTransfer b.val acks)

/-- Target slot of a bus with this dynamic address. -/
def State.i3cSlot (s : State) (b addr : Nat) : Option Nat :=
  (List.range 16).find? (fun i => s.on .i3ct_VALID (b * 16 + i) && s.get .i3ct_DYN_ADDR (b * 16 + i) == addr)

/-- I3C_IBI (R292): accepted from a target whose BCR allows one (log entry 32: BCR bit 1). -/
def State.ibi (s : State) (b addr mdb : Nat) : State :=
  match s.i3cSlot b addr with
  | none => s
  | some i =>
    if s.on .i3c_ENABLED b && bit (s.get .i3ct_BCR (b * 16 + i)) 1 then
      (s.bump .i3c_IBIS b).setAll b [(.i3c_IBI_SEEN, 1), (.i3c_LAST_IBI_ADDR, addr), (.i3c_LAST_IBI_MDB, mdb)]
    else s

/-- Meaning of I3C_IBI. -/
def execI3cIbi (b : Fin 24) (addr : BitVec 7) (mdb : Byte) (s : State) : Host.Outcome State Fault Refusal :=
  .next (s.ibi b.val addr.toNat mdb.toNat)

/-- Meaning of HOT_JOIN (R292). -/
def execHotJoin (b : Fin 24) (s : State) : Host.Outcome State Fault Refusal :=
  .next (if s.on .i3c_ENABLED b.val then s.set .i3c_HOTJOIN_SEEN b.val 1 else s)

/-- A target that answers ENTDAA takes the lowest free slot with dynamic address 0x10 + slot (R292). -/
def State.assignTarget (s : State) (b : Nat) (t : I3cTarget) : State :=
  match (List.range 16).find? (fun i => !s.on .i3ct_VALID (b * 16 + i)) with
  | none => s
  | some i =>
    s.setAll (b * 16 + i) [(.i3ct_DYN_ADDR, 0x10 + i), (.i3ct_VALID, 1), (.i3ct_BCR, t.bcr.toNat), (.i3ct_DCR, t.dcr.toNat),
      (.i3ct_PID_LO, t.pid.toNat), (.i3ct_PID_HI, t.pid.toNat / 2 ^ 32)]

/-- ENTDAA on an enabled bus (R292). DAA_GO is cleared as it starts, and DAA_BUSY as it ends. -/
def State.runDaa (s : State) (b : Nat) (targets : List I3cTarget) : State :=
  if s.on .i3c_ENABLED b then forEach targets (fun t s => s.assignTarget b t) s else s

/-- Meaning of DAA_GO. -/
def execDaaGo (b : Fin 24) (targets : List I3cTarget) (s : State) : Host.Outcome State Fault Refusal :=
  .next (s.hostWrite .other (fun s =>
    s.whenOn (111 + b.val / 6) (.daaGo b.val targets) (fun s => s.runDaa b.val targets)))

/-- MAN_GO (R292): the manual record is copied, tested for its format, and queued behind every queued record of the bus. -/
def State.runManual (s : State) (b : Nat) : State :=
  if !s.on .i3c_ENABLED b then s
  else if s.on .i3c_MAN_BUSY b then s.set .i3c_MAN_OVERRUN b 1
  else
    let bs := toBytes 128 (s.get .i3c_MAN_RECORD b)
    if ctrlReserved bs then s.set .i3c_MAN_REASON b 0x0617
    else if (ctrlEntries bs).isEmpty then s.set .i3c_MAN_REASON b 0
    else if s.on .dom_HELD_OFF (111 + b / 6) then s.set .i3c_MAN_REASON b 0x0C04
    else
      let dw := ctrlDW bs 1
      let r : CleatRecord :=
        { bus := b, source := none, entries := (ctrlEntries bs).map (fun e => (if e.1 then bits dw 4 4 else bits dw 0 4, e.2)) }
      ({ s with camera := { s.camera with queue := s.camera.queue ++ [r] } } : State).setAll b [(.i3c_MAN_GO, 1), (.i3c_MAN_BUSY, 1)]

/-- Meaning of MAN_GO. -/
def execManGo (b : Fin 24) (s : State) : Host.Outcome State Fault Refusal :=
  .next (s.hostWrite .other (fun s => s.whenOn (111 + b.val / 6) (.manGo b.val) (fun s => s.runManual b.val)))

end Sys2Proof.Machine
end

