-- ==== Sys2Proof/Machine/Rasp.lean ====
section
/-! DEFINITION. Rasp and the Plumb ring (10 R298 to R308, R321, R322): clock groups, decimated audio, beams, audio frames and blocks. -/

namespace Sys2Proof.Machine

/-! ## Clock groups (R299 to R302) -/

/-- Mode field of clock group `g`. -/
def modeReg (g : Nat) : Reg := [.rasp_MODE0, .rasp_MODE1, .rasp_MODE2, .rasp_MODE3].getD g .rasp_MODE0

/-- Mode of clock group `g`: 0 OFF, 1 LISTEN, 2 FULL. -/
def State.groupMode (s : State) (g : Nat) : Nat := s.get (modeReg g)

/-- The active groups. -/
def State.activeGroups (s : State) : List Nat := maskList 4 (s.get .rasp_ACTIVE_GROUPS)

/-- Group `g` is in a settle interval. -/
def State.settling (s : State) (g : Nat) : Bool := Store.get 0 s.audio.settle g != 0

/-- SETTLING shows the settle intervals. -/
def State.showSettling (s : State) : State := s.set .rasp_SETTLING 0 (listMask ((List.range 4).filter s.settling))

/-- A group changes its mode at a boundary (R300, R303): a settle interval of SETTLE_MS frames, none for a group that goes OFF, and its
channels' filters start again. A group that is kept OFF stays so (17 R491). -/
def State.setMode (s : State) (g m : Nat) : State :=
  let m := if s.on .dom_HELD_OFF (115 + g) then 0 else m
  let s := s.set (modeReg g) 0 m
  let a := s.audio
  { s with audio := { a with
    settle := Store.put 0 a.settle g (if m = 0 then 0 else s.get .rasp_SETTLE_MS), filters := a.filters.filter (fun p => p.1 % 32 / 8 != g) } }

/-- Groups take the modes of a list; those that have theirs already are left alone. -/
def State.setModes (s : State) (l : List (Nat × Nat)) : State := forEach l (fun p s => if s.groupMode p.1 = p.2 then s else s.setMode p.1 p.2) s

/-- A step up is requested (R301): it cancels a pending step down, and takes effect at the next boundary. -/
def State.requestUp (s : State) : State :=
  ({ s with audio := { s.audio with wish := if s.audio.wish = .off then .off else .up, deferred := false } } : State).set
    .rasp_STEP_DOWN_DEFERRED 0 0

/-- A step down is requested (R301). A step up that still waits for its boundary comes first. -/
def State.requestDown (s : State) : State :=
  let w : StepWish := match s.audio.wish with | .off => .off | .up | .upThenDown => .upThenDown | _ => .down
  { s with audio := { s.audio with wish := w, deferred := false } }

/-- The pending step down is taken or dropped. -/
def State.wishDone (s : State) (w : StepWish) : State :=
  ({ s with audio := { s.audio with wish := w, deferred := false } } : State).set .rasp_STEP_DOWN_DEFERRED 0 0

/-- A step up at a boundary. -/
def State.stepUp (s : State) (next : StepWish) : State :=
  let s := if s.activeGroups.all (fun g => s.groupMode g == 2) then s else s.bump .rasp_STEP_UPS
  (s.setModes (s.activeGroups.map (fun g => (g, 2)))).wishDone next

/-- Mode changes at a frame boundary (R300, R301, R315, R316). -/
def State.boundaryModes (s : State) : State :=
  let lg := s.get .rasp_LISTEN_GROUP
  match s.audio.wish with
  | .off =>
    let s := (forEach (List.range 4) (fun g s => s.setMode g 0) s).wishDone .none
    { s with audio := { s.audio with starting := false, clearing := true } }
  | w =>
    let s := if s.audio.starting then s.setMode lg 1 else s
    let s : State := { s with audio := { s.audio with starting := false } }
    match w with
    | .up => s.stepUp .none
    | .upThenDown => s.stepUp .down
    | .down =>
      if s.activeGroups.all (fun g => s.groupMode g != 2) then s.wishDone .none
      else if s.on .plumb_ACTIVITY then
        let s := if s.audio.deferred then s else s.bump .rasp_DEFERRALS
        ({ s with audio := { s.audio with deferred := true } } : State).set .rasp_STEP_DOWN_DEFERRED 0 1
      else
        ((s.setModes (s.activeGroups.map (fun g => (g, if g = lg then 1 else 0)))).wishDone .none).bump .rasp_STEP_DOWNS
    | _ => s

/-! ## The staged set (R306) -/

/-- Fields of the staged set with the number of their entries. -/
def stagedRegs : List (Reg × Nat) :=
  [(.raspch_GAIN, 32), (.raspch_MUTE, 32), (.rasplane_HQ_LANE_SRC, 16), (.rasplane_HQ_LANE_BEAM, 16), (.beam_DELAY, 256), (.beam_BGAIN, 256)]

/-- Field `r` at index `i` of the set in force. -/
def State.applied (s : State) (r : Reg) (i : Nat) : Nat := Store.get (r.resetAt i) s.audio.applied (regKey r i)

/-- The check of a commit (R306). -/
def State.beamCheck (s : State) : Nat :=
  firstCode
    [(0x070A, (List.range 256).any (fun i => decide (16384 < s.get .beam_DELAY i))),
      (0x070B, (List.range 16).any (fun i =>
        let src := s.get .rasplane_HQ_LANE_SRC i
        if s.on .rasplane_HQ_LANE_BEAM i then decide (8 ≤ src) else !bit (s.get .rasp_ACTIVE_GROUPS) (src / 8)))]

/-- A pending commit at a frame boundary (R306). -/
def State.boundaryCommit (s : State) : State :=
  if !s.on .rasp_PENDING then s
  else
    let code := s.beamCheck
    let s := s.setAll 0 [(.rasp_COMMIT, 0), (.rasp_PENDING, 0), (.rasp_BEAM_REASON, code)]
    if code ≠ 0 then s.set .rasp_BEAM_REFUSED 0 1
    else
      { s with audio := { s.audio with
        applied := stagedRegs.foldl (fun m (r, n) =>
          (List.range n).foldl (fun m i => Store.put (r.resetAt i) m (regKey r i) (s.get r i)) m) [] } }

/-- A write of COMMIT (R306). -/
def State.beamCommit (s : State) : State := s.setAll 0 [(.rasp_COMMIT, 1), (.rasp_PENDING, 1)]

/-- Meaning of BEAM_COMMIT (R306; 15 R452). -/
def execBeamCommit (s : State) : Host.Outcome State Fault Refusal :=
  .next (s.hostWrite .other (fun s => s.whenOn 119 .beamCommit State.beamCommit))

/-! ## Samples (R303 to R305) -/

/-- Count saturations on a path. -/
def State.clip (s : State) (r : Reg) (n : Nat) : State := if n = 0 then s else (s.bump r 0 n).set .rasp_CLIP_SEEN 0 1

/-- CK_AUD cycles of a clock period of a mode (Table Cascade-1). -/
def modePeriod (m : Nat) : Nat := if m = 2 then 8 else 32

/-- The bit stream of channel `c` in a frame (R298): data pin c / 2 at each rising edge of the group's clock for an even channel, at each
falling edge for an odd one, SAMPLE_DLY cycles later. A 1 is positive full scale. -/
def State.channelBits (s : State) (f : AudioFrame) (c : Nat) : List Bool :=
  let n := modePeriod (s.groupMode (c / 8))
  let dly := bits (s.get .rasp_SAMPLE_DLY) (2 * (c / 8)) 2
  (List.range (24576 / n)).map (fun i => ((f.pins[i * n + c % 2 * (n / 2) + dly]?).getD 0).getLsbD (c / 2))

/-- The bits of channel `c` that the paths take: a muted channel enters every path as 0 (Table Cascade-7), which is no bits. -/
def State.pathBits (s : State) (f : AudioFrame) (c : Nat) : List Bool :=
  if s.applied .raspch_MUTE c ≠ 0 then [] else s.channelBits f c

/-- A filter at rest that takes no signal: it stays at rest and gives 0. -/
def atRest (state : Nat) (bits : List Bool) : Bool := state == 0 && bits.isEmpty

/-- State of the filter at a key. -/
def State.filter (s : State) (k : Nat) : Nat := Store.get 0 s.audio.filters k

/-- Factor of the low-power path (R303). -/
def State.lowFactor (s : State) : Nat := if s.groupMode (s.get .rasp_LISTEN_GROUP) = 2 then 192 else 48

/-- Low-power samples of a frame of the listening group: INT16 codes and the number that saturated (R303). -/
def State.lpSamples (s : State) (f : AudioFrame) : List Nat × Nat :=
  let lg := s.get .rasp_LISTEN_GROUP
  let cs := (List.range 128).map (fun i =>
    let c := 8 * lg + i % 8
    let bits := s.pathBits f c
    if atRest (s.filter c) bits then ({ code := 0 } : Conv)
    else Fmt.int16.conv (ofInt (Config.filterLow s.lowFactor (s.filter c) bits (i / 8))))
  (cs.map Conv.code, (cs.filter Conv.clipped).length)

/-- The high-quality path serves channel `c` (R304): its group is in FULL and past its settle interval. -/
def State.hqServes (s : State) (c : Nat) : Bool := s.groupMode (c / 8) == 2 && !s.settling (c / 8)

/-- A finite FP32 value of which nothing is known. -/
def finiteCode (c : Nat) : Val :=
  let c := c % 2 ^ 32
  ofFP32 (if c / 2 ^ 23 % 256 = 255 then c % 2 ^ 23 else c)

/-- A channel sample of the high-quality path (R304): the decimated stream by GAIN in FP32, then INT16. -/
def State.hqSample (s : State) (f : AudioFrame) (t c : Nat) : Conv :=
  let bits := s.pathBits f c
  if !s.hqServes c || atRest (s.filter (32 + c)) bits then { code := 0 }
  else
    let g : Val := (ofInt (s.applied .raspch_GAIN c)).scale (-12)
    Fmt.int16.conv (fp32 ((finiteCode (Config.filterHigh (s.filter (32 + c)) bits t)).mul g))

/-- A filter's state after a frame. -/
def filterNext (factor state : Nat) (bits : List Bool) : Nat :=
  if atRest state bits then 0 else Config.filterState factor state bits

/-- The filters after a frame: those of the listening group on the low-power path, and those of groups in FULL on the other. -/
def State.filterFrame (s : State) (f : AudioFrame) : State :=
  let lg := s.get .rasp_LISTEN_GROUP
  let low := if s.groupMode lg = 0 then [] else rangeFrom (8 * lg) 8
  let high := (List.range 32).filter (fun c => s.groupMode (c / 8) == 2)
  let m := low.foldl (fun m c => Store.put 0 m c (filterNext s.lowFactor (s.filter c) (s.pathBits f c))) s.audio.filters
  let m := high.foldl (fun m c => Store.put 0 m (32 + c) (filterNext 64 (s.filter (32 + c)) (s.pathBits f c))) m
  { s with audio := { s.audio with filters := m } }

/-- Channel `c` delayed by `d` sixteenths of a sample (R305): the interpolator's eight taps of the delay's phase over the samples from
`rows` on, which lists them newest first. Its coefficients and the order of the sum are free. -/
def delayed (rows : List (List Nat)) (seed c d : Nat) : Val :=
  planeSum seed ((List.range 8).map (fun k =>
    fp32 ((ofInt (sext 16 ((rows.getD (d / 16 + k) []).getD c 0))).mul (finiteCode (Config.interpolator (d % 16) k)))))

/-- A sample of beam `b` whose newest channel samples are the first of `rows` (R305). The order of the sum is free. -/
def State.beamSample (s : State) (seed : Nat) (rows : List (List Nat)) (b : Nat) : Conv :=
  let terms := (List.range 32).map (fun c =>
    if !s.hqServes c then ofInt 0
    else fp32 (((ofInt (sext 16 (s.applied .beam_BGAIN (b * 32 + c)))).scale (-15)).mul (delayed rows seed c (s.applied .beam_DELAY (b * 32 + c)))))
  Fmt.int16.conv (planeSum seed terms)

/-- The high-quality path in a frame. -/
structure HighFrame where
  /-- INT16 codes of the lanes, sample-major, and the samples of the lanes, of the channels and of the beams that saturated. -/
  lanes : List Nat
  laneClips : Nat
  clips : Nat
  beamClips : Nat
  /-- Channel samples, newest first. -/
  rows : List (List Nat)
deriving DecidableEq, Repr

/-- The high-quality path in the frame that ends (R304, R305). -/
def State.hqFrame (s : State) (f : AudioFrame) : HighFrame :=
  let n := s.get .casc_HQ_LANES_M1 + 1
  let ch := (List.range 48).map (fun t => (List.range 32).map (s.hqSample f t))
  let rows := (ch.map (fun r => r.map Conv.code)).reverse ++ s.audio.past
  let bm := (List.range 48).map (fun t => (List.range 8).map (s.beamSample (s.free + t) (rows.drop (47 - t))))
  let lane := fun t i =>
    let src := s.applied .rasplane_HQ_LANE_SRC i
    if s.applied .rasplane_HQ_LANE_BEAM i ≠ 0 then (bm.getD t []).getD src ({ code := 0 } : Conv)
    else (ch.getD t []).getD src { code := 0 }
  let lanes := (List.range 48).flatMap (fun t => (List.range n).map (lane t))
  { lanes := lanes.map Conv.code, laneClips := (lanes.filter Conv.clipped).length
    clips := (ch.flatten.filter Conv.clipped).length, beamClips := (bm.flatten.filter Conv.clipped).length, rows := rows.take 1048 }

/-! ## Audio blocks (R321, R322) -/

/-- Frames that have ended since frame `f`, with AFN as the frame in progress. -/
def State.framesSince (s : State) (f : Nat) : Nat := (s.get .rasp_AFN + 2 ^ 32 - f % 2 ^ 32) % 2 ^ 32

/-- The ring's frame with this AFN, none when the ring does not hold it: each position is used again after 2,000 frames (R308). -/
def State.ringFrame (s : State) (f : Nat) : Option RingFrame :=
  if s.framesSince f ≤ 2000 then s.audio.ring.find? (fun x => x.afn == f % 2 ^ 32) else none

/-- A block header (Table Cascade-5). -/
def audioHeader (first seam : Nat) (replay filled : Bool) (mode det hit clips : Nat) : List Byte :=
  toBytes 4 first ++ toBytes 4 (seam + b2n replay * 2 ^ 16 + b2n filled * 2 ^ 17 + mode * 2 ^ 18) ++ toBytes 4 det ++ toBytes 4 hit ++
    toBytes 4 (min 0xFFFF clips) ++ List.replicate 44 0

/-- Write a block into an audio ring of `slots` slots and add 1 to the ring's peg (R321): its slot follows from the blocks written and those
that still wait for GDDR6 (06 R224). -/
def State.audioWrite (s : State) (p base slots : Nat) (bs : List Byte) : State :=
  let queued := s.memory.waiting.filter (fun w => match w with | .write _ _ _ q => q == some p | _ => false)
  let c := s.get .casc_CONTEXT
  let a := base + (s.get .peg_COUNT p + queued.length) % slots * bs.length
  s.whenAdmitted (.write c a bs (some p)) (fun s => (s.writeVA c a bs).pegAdd p 1)

/-- Write a low-power block (R321, R322): the frames from `first` on, with zeros and FILLED for those the ring does not hold. -/
def State.lpBlock (s : State) (first : Nat) (replay : Bool) : State :=
  let fs := (List.range 16).map (fun i => s.ringFrame (first + i))
  let seam := listMask ((List.range 16).filter (fun i => match fs.getD i none with | some f => f.seam | none => false))
  let data := fs.flatMap (fun f => match f with | some f => f.samples.flatMap (toBytes 2) | none => List.replicate 256 0)
  let mode := match fs.getD 15 none with | some f => f.mode | none => 0
  let clips := (fs.map (fun f => match f with | some f => f.clips | none => 0)).sum
  s.audioWrite (s.get .casc_LP_PEG) (s.get .casc_LP_RING) (s.get .casc_LP_SLOTS_M1 + 1)
    (audioHeader (first % 2 ^ 32) seam replay (fs.any Option.isNone) mode s.audio.current s.audio.currentHit clips ++ data)

/-- Write a high-quality block (R321). -/
def State.hqBlock (s : State) (first : Nat) : State :=
  let clips := (s.audio.hq.map (·.2)).sum
  s.audioWrite (s.get .casc_HQ_PEG) (s.get .casc_HQ_RING) (s.get .casc_HQ_SLOTS_M1 + 1)
    (audioHeader first 0 false false (s.groupMode (s.get .rasp_LISTEN_GROUP)) s.audio.current s.audio.currentHit clips ++
      s.audio.hq.flatMap (fun f => f.1.flatMap (toBytes 2)))

/-- STATE is 2 or 3. -/
def State.climbing (s : State) : Bool := 2 ≤ s.get .casc_STATE

/-- All active groups are in FULL and past their settle intervals. -/
def State.allFull (s : State) : Bool := s.activeGroups.all (fun g => s.groupMode g == 2 && !s.settling g)

/-- HQ_RUNNING (Table Cascade-7): the block in progress will be written. -/
def State.showHq (s : State) : State := s.set .rasp_HQ_RUNNING 0 (b2n (s.climbing && s.audio.hqClean && s.allFull))

/-! ## The frame boundary (R307) -/

/-- The frame that ends goes into the ring and into the block in progress, and a complete block is written. -/
def State.endFrame (s : State) (f : AudioFrame) : State :=
  let afn := s.get .rasp_AFN
  let lg := s.get .rasp_LISTEN_GROUP
  let mode := s.groupMode lg
  let rec1 := s.on .casc_ENABLE && mode != 0
  let (lp, lc) := s.lpSamples f
  let seam := s.settling lg
  let hq := s.hqFrame f
  let full := s.allFull
  let fresh := afn % 16 = 0
  let s := s.filterFrame f
  let a := s.audio
  let s : State := { s with
    free := s.free + 48
    audio := { a with
      ring := if rec1 then ({ afn := afn, seam := seam, mode := mode, clips := lc, samples := lp } :: a.ring).take 2000 else a.ring
      hq := (if fresh then [] else a.hq) ++ [(hq.lanes, hq.laneClips)], past := hq.rows, hqClean := (fresh || a.hqClean) && full
      settle := (List.range 4).foldl (fun m g => Store.put 0 m g (Store.get 0 m g - 1)) a.settle } }
  let s := if rec1 && seam then (s.bump .rasp_SEAM_FRAMES).set .rasp_SEAM_SEEN 0 1 else s
  let s := if rec1 then s.clip .rasp_LP_CLIPS lc else s
  let s := (s.clip .rasp_HQ_CLIPS hq.clips).clip .rasp_BEAM_CLIPS hq.beamClips
  let s := s.set .rasp_AFN 0 (afn + 1)
  if afn % 16 = 15 && s.climbing then
    let s := s.lpBlock (afn - 15) false
    if s.audio.hqClean then s.hqBlock (afn - 15) else s
  else s

/-- What takes effect at a frame boundary (R300, R306). -/
def State.boundaryWork (s : State) : State := s.boundaryModes.boundaryCommit.showSettling.showHq

/-- PDM_FRAME_BOUNDARY (R300, R306, R307, R321): frame 0 begins at the first boundary while DEV_STATE is RUNNING. -/
def State.frameBoundary (s : State) (f : AudioFrame) : State :=
  if !s.audio.running then
    if s.get .host_DEV_STATE = 1 then
      ({ s.set .rasp_AFN 0 0 with audio := { s.audio with running := true, hqClean := true } } : State).boundaryWork
    else s
  else
    let s := s.endFrame f
    let hop := max 1 (s.get .plumb_HOP_MS)
    let s : State := { s with audio := { s.audio with hopFrame := (s.audio.hopFrame + 1) % hop, hopRun := false } }
    let s : State := if s.get .rasp_AFN % 16 = 0 then { s with audio := { s.audio with hqClean := true } } else s
    s.boundaryWork

/-- Meaning of PDM_FRAME_BOUNDARY. -/
def execPdmFrameBoundary (frame : AudioFrame) (s : State) : Host.Outcome State Fault Refusal :=
  .next (s.writes none frame.rd frame.wr (fun s => s.frameBoundary frame))

end Sys2Proof.Machine
end

