-- ==== Sys2Proof/Machine/Cascade.lean ====
section
/-! DEFINITION. Awl's hops, detections and the wake cascade (10 R309 to R326). -/

namespace Sys2Proof.Machine

/-! ## Detections (R313) -/

/-- HIT_PENDING shows whether a hit waits for rung 1. -/
def State.showHit (s : State) : State := s.set .plumb_HIT_PENDING 0 (b2n (!s.audio.waiting.isEmpty))

/-- The log still holds detection `d`: its entry is written again 32 detections later (R313). -/
def State.logged (s : State) (d : Nat) : Bool := s.get .det_DET_SEQ (d % 32) == d % 2 ^ 32

/-- OUTCOME of a detection changes; a code of 0 leaves CODE (R313, Table Cascade-2). -/
def State.outcome (s : State) (d o code : Nat) : State :=
  let e := d % 32
  if !s.logged d then s
  else
    let s := s.setAll e [(.det_DECIDED_FRAME, s.get .rasp_AFN), (.det_OUTCOME, o)]
    if code = 0 then s else s.set .det_CODE e code

/-- A request of a rung leaves the order of causes: its oldest one (R318). -/
def dropCause (rung : Nat) : List (Nat × Nat) → List (Nat × Nat)
  | [] => []
  | c :: l => if c.1 = rung then (if c.2 ≤ 1 then l else (rung, c.2 - 1) :: l) else c :: dropCause rung l

/-- The oldest cause of a rung is dealt with. -/
def State.causeDone (s : State) (rung : Nat) : State := { s with audio := { s.audio with causes := dropCause rung s.audio.causes } }

/-- A request on a cascade peg is served: THRESH rises by 1 (R317). -/
def State.servePeg (s : State) (i : Nat) : State := s.pegThresh i (s.get .peg_THRESH i + 1)

/-- Every waiting hit becomes ABSORBED (R324). -/
def State.absorbWaiting (s : State) : State :=
  let s := forEach s.audio.waiting (fun d s => (s.outcome d.1 5 0).servePeg 64) s
  ({ s with audio := { s.audio with waiting := [], causes := s.audio.causes.filter (fun c => c.1 != 1) } } : State).showHit

/-- A frame from REPLAY_FIRST to the frame in progress is a seam frame. -/
def State.seamInReplay (s : State) : Bool :=
  s.settling (s.get .rasp_LISTEN_GROUP) || s.audio.ring.any (fun x => x.seam && decide (s.framesSince x.afn < 1500))

/-- Record a detection of class `c` (R311, R313, R319). -/
def State.detect (s : State) (c : Nat) : State :=
  let d := s.get .casc_DETECTIONS
  let e := d % 32
  let f := s.get .rasp_AFN
  let st := s.get .casc_STATE
  let s := s.bump .casc_DETECTIONS
  let s := s.setAll e
    [(.det_CLASS, c), (.det_GLANCE, b2n (bit s.audio.glanceClasses c)), (.det_SEAM, b2n s.seamInReplay), (.det_REPLAY_SHORT, 0),
      (.det_OUTCOME, 0), (.det_CODE, 0), (.det_HIT_FRAME, f), (.det_REPLAY_FIRST, f + 2 ^ 32 - 1499), (.det_SCORE, s.get .plumbs_SCORE c),
      (.det_DECIDED_FRAME, f), (.det_DET_SEQ, d)]
  if st = 3 then s.outcome d 5 0
  else if st = 2 ∧ !s.audio.waiting.isEmpty then
    ((s.outcome d 4 0x0706).bump .casc_HITS_DROPPED).set .plumb_DROP_SEEN 0 1
  else
    let s := ({ s with audio := { s.audio with waiting := s.audio.waiting ++ [(d, f)] } } : State).showHit.cause 1 1 |>.pegAdd 64 1
    if st = 1 then (s.requestUp.demand 119) else s

/-! ## Awl (R309 to R312) -/

/-- The glance sub-network runs at this hop (R310). -/
def State.glanceRuns (s : State) : Bool :=
  s.on .plumb_GLANCE_IN && s.camera.glanceNew && s.get .cam_CONTEXT (s.get .jnt_GLANCE_SRC) == s.get .casc_CONTEXT

/-- A result of Awl over the values before it (R309): the exact INT8 sum (02 R70), requantized (02 R76). -/
def AwlOut.value (o : AwlOut) (vals : List Nat) : Val :=
  let sum := ((o.reads.zip o.weights).map (fun (i, w) => sext 8 (vals.getD i 0) * sext 8 w)).foldl (· + ·) 0
  requant 0 (ofInt (satInt32 sum).1) (ofFP32 o.m) (ofFP32 o.b)

/-- A run of a network: its activations, INT8 codes, and its scores by class (R309). DESIGN CHOICE: a class score is the requantized value
as a UINT16 (log entry 109). -/
def AwlNet.run (n : AwlNet) (inputs : List Nat) : List Nat × List (Nat × Nat) :=
  n.outs.foldl (fun (acc : List Nat × List (Nat × Nat)) o =>
    let v := o.value (inputs ++ acc.1)
    match o.score with
    | some c => (acc.1, acc.2 ++ [(c, (Fmt.uint16.conv v).code)])
    | none => (acc.1 ++ [(Fmt.int8.conv v).code], acc.2)) ([], [])

/-- What the rung-0 network and the glance sub-network take in (R309, R310). -/
def State.netInputs (s : State) : List Nat :=
  let ring := s.audio.ring.map (fun f => (f.afn, f.samples))
  (List.range s.audio.net.inputs).map (fun i => Config.awlInput i ring % 256)

def State.glanceInputs (s : State) : List Nat :=
  let g := s.camera.glance
  (List.range s.audio.glanceNet.inputs).map (fun i => Config.awlGlance i g.h g.w g.codes % 256)

/-- The networks run for a hop (R309, R310): a glance class keeps its score until the next glance run. -/
def State.runNetworks (s : State) : State :=
  let run := s.glanceRuns
  let (acts, scores) := s.audio.net.run s.netInputs
  let (gacts, gscores) := if run then s.audio.glanceNet.run s.glanceInputs else ([], [])
  let score := fun (l : List (Nat × Nat)) c => ((l.find? (fun p => p.1 == c)).map (·.2)).getD 0
  let s := forEach (List.range 16) (fun c s =>
    if bit s.audio.glanceClasses c then (if run then s.set .plumbs_SCORE c (score gscores c) else s)
    else s.set .plumbs_SCORE c (score scores c)) s
  let s := if run then s.bump .plumb_GLANCE_RUNS else s
  { s with
    audio := { s.audio with activations := acts ++ gacts }, camera := { s.camera with glanceNew := false } }

/-- Count the hop for class `c` (R311): the state, and whether the class hits. -/
def State.classHop (s : State) (c : Nat) : State × Bool :=
  let a := s.audio
  let r := Store.get 0 a.refractory c
  if r ≠ 0 then
    ({ s with audio := { a with refractory := Store.put 0 a.refractory c (r - 1), runs := Store.put 0 a.runs c 0 } }, false)
  else
    let n := if s.get .plumbc_THRESH c ≤ s.get .plumbs_SCORE c then Store.get 0 a.runs c + 1 else 0
    if bit (s.get .plumb_HIT_CLASSES) c && s.get .plumbc_CONSEC c ≤ n && n ≠ 0 then
      ({ s with audio := { a with
        refractory := Store.put 0 a.refractory c (s.get .plumbc_REFRACT_HOPS c), runs := Store.put 0 a.runs c 0 } }, true)
    else ({ s with audio := { a with runs := Store.put 0 a.runs c n } }, false)

/-- ACTIVITY after a hop (R312). -/
def State.activityHop (s : State) : State :=
  let v := s.get .plumbs_SCORE (s.get .plumb_ACT_CLASS)
  let hang := fun (n : Nat) => ({ s with audio := { s.audio with hang := n } } : State)
  if s.get .plumb_ACT_ON ≤ v then (hang 0).set .plumb_ACTIVITY 0 1
  else if v < s.get .plumb_ACT_OFF then
    let n := s.audio.hang + 1
    if s.get .plumb_ACT_HANG_HOPS ≤ n then (hang 0).set .plumb_ACTIVITY 0 0 else hang n
  else hang 0

/-- AWL_HOP (R309 to R312, R319): in the last frame of a hop, once, while the cascade is enabled and Awl is ON. -/
def State.awlHop (s : State) : State :=
  if !s.on .casc_ENABLE || !s.takesWork 121 || !s.audio.running || s.audio.hopRun || s.audio.hopFrame + 1 < s.get .plumb_HOP_MS then s
  else
    let s : State := { s with audio := { s.audio with hopRun := true } }
    let s := s.runNetworks.bump .plumb_HOPS
    let (s, hits) := (List.range 16).foldl (fun (acc : State × List Nat) c =>
      let (s, h) := acc.1.classHop c
      (s, if h then acc.2 ++ [c] else acc.2)) (s, [])
    let s := s.activityHop
    match hits with
    | [] => s
    | c :: _ => ((s.bump .plumb_HITS 0 hits.length).set .plumb_HIT_SEEN 0 1).detect c

/-- Meaning of AWL_HOP. -/
def execAwlHop (_nothing : Unit) (s : State) : Host.Outcome State Fault Refusal := .next s.awlHop

/-! ## The cascade entry (R314 to R317) -/

/-- The graph is one of the image for this rung and in the tenant class. -/
def State.rungGraph (s : State) (g : Nat) (k : GraphKind) : Bool :=
  (s.graph g).any (fun x => x.kind == k) && bit (s.get .cls_GRAPHS (s.classOf (s.get .casc_CONTEXT))) g

/-- BENT_MASK as in R47 for a rung. -/
def State.rungMaskBad (s : State) (mask g : Nat) : Bool :=
  decide ((s.presentIn mask).length < ((s.graph g).map (·.bentsNeeded)).getD 1) || s.presentIn mask != maskList 8 mask

/-- The cascade check (R315). -/
def State.cascadeCheck (s : State) : Nat :=
  let c := s.get .casc_CONTEXT
  let r3 := s.on .casc_RUNG3_EN
  let b := s.get .casc_RUNG2_SESSION
  let bind := ((s.graph (s.get .casc_RUNG2_GRAPH)).map (·.bind)).getD .none
  let bound := fun (ty : Nat) => b < 3072 && s.on .ses_ENABLE b && s.get .ses_TYPE b == ty && s.get .ses_CONTEXT b == c
  let ring := fun (p : Nat) => !s.on .peg_HOST_ACCESS p && !s.on .peg_REMOTE_ACCESS p && !s.cascadeBlock.contains p
  firstCode
    [(0x0705, s.get .casc_STATE != 0), (0x0701, !s.enabledContext c),
      (0x0702, !s.rungGraph (s.get .casc_RUNG1_GRAPH) .rung1 || !s.rungGraph (s.get .casc_RUNG2_GRAPH) .rung2 ||
        (r3 && !s.rungGraph (s.get .casc_RUNG3_GRAPH) .rung3) ||
        ((s.graph (s.get .casc_RUNG1_GRAPH)).map (·.bentsNeeded)).getD 1 != 1),
      (0x0306, s.rungMaskBad (s.get .casc_RUNG1_MASK) (s.get .casc_RUNG1_GRAPH) ||
        s.rungMaskBad (s.get .casc_RUNG2_MASK) (s.get .casc_RUNG2_GRAPH) ||
        (r3 && s.rungMaskBad (s.get .casc_RUNG3_MASK) (s.get .casc_RUNG3_GRAPH))),
      (0x0307, match bind with | .none => b != 0xFFFF | .session => !bound 1 | .stream => !bound 2),
      (0x0703, s.cascadePegs.any (fun i => decide (65535 < i) || !s.pegOwned i c) || !ring (s.get .casc_LP_PEG) ||
        !ring (s.get .casc_HQ_PEG)),
      (0x0704, decide (s.get .casc_LP_SLOTS_M1 < 127) ||
        s.audioRings.any (fun r => r.2.1 % 64 != 0 || !s.inPrivate r.1 r.2.1 r.2.2)),
      (0x0308, s.get .casc_IN_LIST % 64 != 0 || s.get .casc_OUT_LIST % 64 != 0 ||
        (s.resolve c (s.get .casc_IN_LIST)).isNone || (s.resolve c (s.get .casc_OUT_LIST)).isNone)]

/-- A cascade peg is given to the context (R317): WAKE set, nothing served. -/
def State.openCascadePeg (s : State) (i c : Nat) (remote : Bool) : State :=
  s.setAll i [(.peg_ENABLE, 1), (.peg_CONTEXT, c), (.peg_TENANT, s.tenantOf c), (.peg_WAKE, 1), (.peg_REMOTE_ACCESS, b2n remote),
    (.peg_HOST_ACCESS, 0), (.peg_IRQ_EN, 0), (.peg_COUNT, 0), (.peg_THRESH, 1)]

/-- CASCADE_ENABLE (R315, R317). -/
def State.cascadeEnable (s : State) : State :=
  if s.on .casc_ENABLE then s
  else
    match s.cascadeCheck with
    | 0 =>
      let c := s.get .casc_CONTEXT
      let s := s.setAll 0 [(.casc_ENABLE, 1), (.casc_STATE, 1), (.casc_REASON, 0), (.casc_RUNG3_ACTIVE, 0), (.casc_DETECTIONS, 0),
        (.casc_CONFIRMS, 0), (.casc_REJECTS, 0), (.casc_HITS_DROPPED, 0)]
      let s := (s.pegSet (s.get .casc_LP_PEG) 0).pegSet (s.get .casc_HQ_PEG) 0
      let s := ((s.openCascadePeg 64 c false).openCascadePeg 65 c false).openCascadePeg 66 c (s.on .casc_RUNG3_EN)
      let s : State := { s with audio := { s.audio with
        ring := [], starting := true, wish := .none, deferred := false, runs := [], refractory := [], hang := 0, waiting := []
        causes := [], current := 0, currentHit := 0, confirmed := none, lpFirst := 0, hqFirst := 0 } }
      ((s.showHit.demand 121).demand (115 + s.get .rasp_LISTEN_GROUP)).floorRecompute
    | code => s.refuse .casc_REASON 0 code

/-- Meaning of CASCADE_ENABLE. -/
def execCascadeEnable (s : State) : Host.Outcome State Fault Refusal := .next (s.hostWrite .other State.cascadeEnable)

/-- A rung job is queued or running: also a hit, a confirmation or a rung-3 request that waits for its job. -/
def State.rungBusy (s : State) : Bool :=
  !s.audio.waiting.isEmpty || s.audio.confirmed.isSome || s.on .casc_RUNG3_ACTIVE ||
    s.jobs.any (fun j => match j.id with | .rung _ => true | _ => false)

/-- CASCADE_DISABLE (R316): an accepted clear turns every group OFF at the next boundary. The cascade pegs go back to the device. -/
def State.cascadeDisable (s : State) : State :=
  if !s.on .casc_ENABLE then s
  else if 2 ≤ s.get .casc_STATE || s.rungBusy then s.refuse .casc_REASON 0 0x0705
  else
    let s := s.setAll 0 [(.casc_ENABLE, 0), (.casc_REASON, 0)]
    let s := forEach [64, 65, 66] (fun i s => s.setAll i [(.peg_CONTEXT, 0), (.peg_TENANT, 0)]) s
    ({ s with audio := { s.audio with wish := .off } } : State).floorRecompute

/-- Meaning of CASCADE_DISABLE. -/
def execCascadeDisable (s : State) : Host.Outcome State Fault Refusal := .next (s.hostWrite .other State.cascadeDisable)

/-- CASCADE_CLEARED (R316): zeros over the Plumb ring, the glance buffer and Awl's activations, then STATE 0; no audio of the owner stays in
Rasp's paths. -/
def State.cascadeCleared (s : State) : State :=
  if !s.audio.clearing then s
  else
    let s : State := { s with
      audio := { s.audio with
        ring := [], clearing := false, hq := [], past := [], activations := [], current := 0, currentHit := 0, runs := [], refractory := [] }
      camera := { s.camera with glance := {}, glanceOld := {}, glanceNew := false } }
    s.set .casc_STATE 0 0

/-- Meaning of CASCADE_CLEARED. -/
def execCascadeCleared (s : State) : Host.Outcome State Fault Refusal := .next s.cascadeCleared

/-! ## Rung jobs (R318 to R326) -/

/-- The domains of logical bent `n` are ON. -/
def State.bentOn (s : State) (n : Nat) : Bool :=
  s.on .bent_PRESENT n && (bentDomains (s.get .bent_PHYSICAL n)).all s.takesWork

/-- Bents of a mask that are ON. -/
def State.onBents (s : State) (mask : Nat) : List Nat := (maskList 8 mask).filter s.bentOn

/-- No rung job runs, so the next may start (R318). -/
def State.rungFree (s : State) : Bool := !s.jobs.any (fun j => match j.id with | .rung _ => true | _ => false)

/-- The bent that a rung-1 job would take: after a rejection the same one (R324), else the lowest that is ON. -/
def State.rung1Bent (s : State) : Option Nat :=
  let l := s.onBents (s.get .casc_RUNG1_MASK)
  if s.get .casc_STATE = 2 ∧ l.contains s.audio.rungBent then some s.audio.rungBent else l.head?

/-- All bents of a mask that are present are ON. -/
def State.allOn (s : State) (mask : Nat) : Bool := !(s.presentIn mask).isEmpty && (s.presentIn mask).all s.bentOn

/-- An edit of the session that the rung-2 graph binds is in progress (04 R166). -/
def State.rung2Edited (s : State) : Bool :=
  (s.graph (s.get .casc_RUNG2_GRAPH)).any (fun g => g.bind == .session) && s.editing (s.get .casc_RUNG2_SESSION)

/-- A job of the rung could start. -/
def State.rungReady (s : State) (rung : Nat) : Bool :=
  s.rungFree && s.refresh == .active &&
    (match rung with
    | 1 => !s.audio.waiting.isEmpty && s.audio.confirmed.isNone && s.get .casc_STATE != 3 && s.rung1Bent.isSome
    | 2 => s.audio.confirmed.isSome && s.allOn (s.get .casc_RUNG2_MASK) && !s.rung2Edited
    | _ => s.on .casc_ENABLE && s.on .casc_RUNG3_EN && s.reached 66 && s.allOn (s.get .casc_RUNG3_MASK))

/-- The next job of the rung starts now (R318): it can, and no other rung has an earlier cause. -/
def State.rungNext (s : State) (rung : Nat) : Bool := s.rungReady rung && (s.audio.causes.takeWhile (fun c => c.1 != rung)).isEmpty

/-- Start a rung job (R318) on the given bents. -/
def State.startRung (s : State) (n : Fin 4) (graph mask tag binding : Nat) (env : StartEnv) : State :=
  s.startJob
    { id := .rung n, ctx := s.get .casc_CONTEXT, graph := graph, pegBase := s.get .casc_PEG_BASE, donePeg := s.get .casc_DONE_PEG
      ring := s.get .casc_RESULT_RING, tag := tag, binding := binding, prio := 1, mask := mask, inList := s.get .casc_IN_LIST
      outList := s.get .casc_OUT_LIST, lpFirst := s.audio.lpFirst
      hqFirst := max s.audio.hqFirst (s.get .peg_COUNT (s.get .casc_HQ_PEG) - (s.get .casc_HQ_SLOTS_M1 + 1)) } env (fun _ => none)

/-- The copy of the replay blocks of a detection with its HIT_FRAME (R322): every complete block from the one that holds REPLAY_FIRST. A
frame that the ring does not hold makes the replay short. -/
def State.replay (s : State) (d hit : Nat) : State :=
  let e := d % 32
  let rf := (hit + 2 ^ 32 - 1499) % 2 ^ 32
  let first := rf - rf % 16
  let afn := s.get .rasp_AFN
  let n := (afn - afn % 16 + 2 ^ 32 - first) % 2 ^ 32 / 16
  let short := (List.range (16 * n)).any (fun i => (s.ringFrame (first + i)).isNone)
  let s : State := { s with audio := { s.audio with
    current := d, currentHit := hit, lpFirst := s.get .peg_COUNT (s.get .casc_LP_PEG) } }
  let s := if !short then s
    else if !s.logged d then s.set .plumb_REPLAY_SHORT_SEEN 0 1
    else
      let s := (s.set .det_REPLAY_SHORT e 1).set .plumb_REPLAY_SHORT_SEEN 0 1
      if s.get .det_CODE e = 0 then s.set .det_CODE e 0x0707 else s
  forEach (List.range n) (fun i s => s.lpBlock (first + 16 * i) true) s

/-- RUNG1_JOB_START (R317, R319, R322): the oldest waiting hit's job starts on a bent of RUNG1_MASK that is ON, once GDDR6 admits
accesses. -/
def State.rung1Start (s : State) (env : StartEnv) : State :=
  match s.audio.waiting, s.rung1Bent with
  | (d, hit) :: rest, some b =>
    if !s.rungNext 1 then s
    else
      let s := s.causeDone 1
      let s : State := if s.get .casc_STATE = 1 then
        { s with audio := { s.audio with hqFirst := s.get .peg_COUNT (s.get .casc_HQ_PEG) } } else s
      let s := ({ s with audio := { s.audio with waiting := rest, rungBent := b } } : State).showHit.servePeg 64
      let s := ((s.set .casc_STATE 0 2).outcome d 1 0).writes none env.walkMem env.wr (fun s => s.replay d hit)
      (s.startRung 1 (s.get .casc_RUNG1_GRAPH) (2 ^ b) d 0xFFFF env).showHq.floorRecompute
  | _, _ => s

/-- Meaning of RUNG1_JOB_START. -/
def execRung1JobStart (env : StartEnv) (s : State) : Host.Outcome State Fault Refusal := .next (s.rung1Start env)

/-- RUNG2_JOB_START (R317, R324): once the bents of RUNG2_MASK are ON. -/
def State.rung2Start (s : State) (env : StartEnv) : State :=
  match s.audio.confirmed with
  | none => s
  | some d =>
    let mask := s.get .casc_RUNG2_MASK
    if !s.rungNext 2 then s
    else
      let s := s.causeDone 2
      let s := ({ s with audio := { s.audio with confirmed := none } } : State).servePeg 65
      let s := (s.set .casc_STATE 0 3).absorbWaiting
      (s.startRung 2 (s.get .casc_RUNG2_GRAPH) mask d (s.get .casc_RUNG2_SESSION) env).showHq.floorRecompute

/-- Meaning of RUNG2_JOB_START. -/
def execRung2JobStart (env : StartEnv) (s : State) : Host.Outcome State Fault Refusal := .next (s.rung2Start env)

/-- RUNG3_JOB_START (R317, R326): a request waits on peg 66, and the bents of RUNG3_MASK are ON. It does not change STATE. -/
def State.rung3Start (s : State) (env : StartEnv) : State :=
  let mask := s.get .casc_RUNG3_MASK
  if !s.rungNext 3 then s
  else
    let s := s.causeDone 3
    let tag := s.get .peg_COUNT 66
    (s.servePeg 66 |>.set .casc_RUNG3_ACTIVE 0 1).startRung 3 (s.get .casc_RUNG3_GRAPH) mask tag 0xFFFF env

/-- Meaning of RUNG3_JOB_START. -/
def execRung3JobStart (env : StartEnv) (s : State) : Host.Outcome State Fault Refusal := .next (s.rung3Start env)

/-- The cascade returns to STATE 1 and requests a step down (R324, R325). -/
def State.toRung0 (s : State) : State := (s.set .casc_STATE 0 1).requestDown.showHq.floorRecompute

/-- What follows a rejection (R320, R324): a waiting hit's job comes next, otherwise STATE 1. -/
def State.afterReject (s : State) : State := if s.audio.waiting.isEmpty then s.toRung0 else s

/-- Foreman cannot bring the bents of a rung ON (R320): the detection of rung 1 or 2 becomes FAILED with RUNG_POWER. DESIGN CHOICE: a request of
rung 3 has no detection; it stays on its peg, and its place in the order is the last (log entry 110). -/
def State.rungPowerFails (s : State) (rung : Nat) : State :=
  if rung = 3 then
    let own := fun (c : Nat × Nat) => c.1 == 3
    let l := s.audio.causes
    { s with audio := { s.audio with causes := l.filter (fun c => !own c) ++ l.filter own } }
  else if rung = 1 then
    match s.audio.waiting with
    | [] => s
    | (d, _) :: rest =>
      let s := ({ s with audio := { s.audio with waiting := rest } } : State).showHit.causeDone 1 |>.servePeg 64
      ((s.outcome d 6 0x0709).bump .casc_REJECTS).afterReject
  else
    match s.audio.confirmed with
    | none => s
    | some d =>
      let s := ({ s with audio := { s.audio with confirmed := none } } : State).causeDone 2 |>.servePeg 65
      ((s.outcome d 6 0x0709).bump .casc_REJECTS).afterReject

/-- Outcome of a rung-1 job at step 3 of Table Stations-10 (R324): 0 for CONFIRM, else the code of its rejection; none for a plain
REJECT. -/
def Job.rung1Code (j : Job) : Option Nat :=
  if j.fault ≠ 0 then some j.fault
  else if j.decisionPoison ≠ 0 then some j.decisionPoison
  else
    match j.decision with
    | some 1 => some 0
    | some 2 => none
    | _ => some 0x0708

/-- What a completing rung job does to the cascade (R324, R326). -/
def State.rungDone (s : State) (n : Nat) (j : Job) : State :=
  if n = 1 then
    let d := j.tag
    match j.rung1Code with
    | some 0 =>
      let s := (s.bump .casc_CONFIRMS).outcome d 2 0
      let s : State := { s with audio := { s.audio with confirmed := some d } }
      ((s.cause 2 1).pegAdd 65 1).absorbWaiting
    | code => ((s.bump .casc_REJECTS).outcome d 3 (code.getD 0)).afterReject
  else if n = 3 then s.set .casc_RUNG3_ACTIVE 0 (b2n (s.reached 66))
  else s

/-- RELEASE and the end of the hold time return STATE 3 to STATE 1 (R325). -/
def State.endRung2 (s : State) : State := if s.get .casc_STATE = 3 then s.toRung0 else s

/-- Meaning of RELEASE (R325): the device clears the bit when it acts. -/
def execRelease (s : State) : Host.Outcome State Fault Refusal := .next (s.hostWrite .other State.endRung2)

/-- Meaning of RUNG2_HOLD_EXPIRY (R325): the hold time does not run while the rung-2 job does. -/
def execRung2HoldExpiry (s : State) : Host.Outcome State Fault Refusal :=
  .next (if (s.job (.rung 2)).isSome then s else s.endRung2)

end Sys2Proof.Machine
end

