-- ==== Sys2Proof/Machine/Elementary.lean ====
section
/-! DEFINITION. Exponential, logarithm, reciprocal square root, sigmoid, tanh and GELU of Plane (02 R81): the exact value in
fixed point, and a free choice among the FP32 codes within 2 units in the last place of it. -/

namespace Sys2Proof.Machine

/-- Fraction bits of the fixed point. Every value below is exact to far more than 2^-40 units in the last place of FP32. -/
def fixBits : Nat := 512

/-- The number 1 in fixed point. -/
def fixOne : Int := 2 ^ fixBits

/-- Product and quotient in fixed point. -/
def fixMul (a b : Int) : Int := a * b / fixOne
def fixDiv (a b : Int) : Int := a * fixOne / b

/-- The finite value `m * 2^e` in fixed point; exact for every FP32 value. -/
def toFix (neg : Bool) (m : Nat) (e : Int) : Int :=
  let x : Int := (m * 2 ^ (e + fixBits).toNat : Nat)
  if neg then -x else x

/-- Terms `term * r^i / (k (k+1) ...)` of the exponential series, added to `acc`. -/
def expTerms (r : Int) : Nat → Nat → Int → Int → Int
  | 0, _, _, acc => acc
  | fuel + 1, k, term, acc =>
    let t := fixMul term r / (k : Int)
    expTerms r fuel (k + 1) t (acc + t)

/-- Square `n` times. -/
def fixSquares : Nat → Int → Int
  | 0, y => y
  | n + 1, y => fixSquares n (fixMul y y)

/-- The exponential for |x| of at most 256: the series at x / 1024, squared ten times. -/
def expFix (x : Int) : Int := fixSquares 10 (expTerms (x / 1024) 100 1 fixOne fixOne)

/-- Terms z^k / k over odd k, with signs alternating where `alt` holds; `p` is the next power. -/
def oddTerms (alt : Bool) (z2 : Int) : Nat → Nat → Int → Int → Int
  | 0, _, _, acc => acc
  | fuel + 1, k, p, acc =>
    let t := p / (k : Int)
    oddTerms alt z2 fuel (k + 2) (if alt then -fixMul p z2 else fixMul p z2) (acc + t)

/-- Natural logarithm of a value in [1, 2]: twice the area tangent of (m - 1) / (m + 1). -/
def logNear (m : Int) : Int :=
  let z := fixDiv (m - fixOne) (m + fixOne)
  2 * oddTerms false (fixMul z z) 180 1 z 0

/-- Natural logarithm of a positive `m * 2^e`. -/
def logFix (m : Nat) (e : Int) : Int :=
  let k := m.log2
  ((k : Int) + e) * logNear (2 * fixOne) + logNear (toFix false m (-(k : Int)))

/-- The circle constant by arc tangents of 1/5 and 1/239. -/
def piFix : Int :=
  let at' := fun (n : Nat) => let z := fixOne / (n : Int); oddTerms true (fixMul z z) 130 1 z 0
  16 * at' 5 - 4 * at' 239

/-- Square root in fixed point. -/
def fixSqrt (x : Int) : Int :=
  let n := x.toNat * 2 ^ fixBits
  (isqrtBits (n.log2 / 2 + 1) n 0 : Nat)

/-- Terms x^(2n+1) / (1 · 3 · 5 ...) added to `acc`. -/
def normalTerms (x2 : Int) : Nat → Nat → Int → Int → Int
  | 0, _, _, acc => acc
  | fuel + 1, k, term, acc =>
    let t := fixMul term x2 / (k : Int)
    normalTerms x2 fuel (k + 2) t (acc + t)

/-- The standard normal distribution function for |x| of at most 16: half, plus density times series. -/
def normalFix (x : Int) : Int :=
  let x2 := fixMul x x
  fixOne / 2 + fixMul (fixDiv (expFix (-(x2 / 2))) (fixSqrt (2 * piFix))) (normalTerms x2 800 3 x x)

/-- The exact value of function `f` (0 exp, 1 log, 2 rsqrt, 3 sigmoid, 4 tanh, 5 GELU, which is x times the standard normal
distribution function) at a finite value, in fixed point; none where the function has none: at an infinity or a NaN, and
log and rsqrt at zero and below. Beyond the bounds that are compared with here a result is out of FP32's reach, or nearer to
its limit than FP32 can tell. -/
def planeExact (f : Nat) : Val → Option Int
  | .fin neg m e =>
    let x := toFix neg m e
    let a := toFix false m e
    let lim := fun (k : Nat) => decide ((k : Int) * fixOne < a)
    match f with
    | 0 => some (if lim 200 then (if neg then 0 else fixOne * 2 ^ 200) else expFix x)
    | 1 => if neg ∨ m = 0 then none else some (logFix m e)
    | 2 => if neg ∨ m = 0 then none else some (fixSqrt (fixOne * fixOne / x))
    | 3 => let k := if lim 200 then 0 else expFix (-a); some (fixDiv (if neg then k else fixOne) (fixOne + k))
    | 4 =>
      let k := if lim 100 then 0 else expFix (-(2 * a))
      let t := fixDiv (fixOne - k) (fixOne + k)
      some (if neg then -t else t)
    | 5 => some (if lim 16 then (if neg then 0 else x) else fixMul x (normalFix x))
    | _ => none
  | _ => none

/-- Magnitude of FP32 code `c` without its sign in fixed point, as if the binade of Inf went on. -/
def magFix (c : Nat) : Nat :=
  if c / 2 ^ 23 = 0 then c * 2 ^ (fixBits - 149) else (2 ^ 23 + c % 2 ^ 23) * 2 ^ (c / 2 ^ 23 - 1 + (fixBits - 149))

/-- One unit in the last place at the fixed-point value `y`. -/
def ulpFix (y : Int) : Nat := 2 ^ (max (fixBits - 149) (y.natAbs.log2 - 23))

/-- The FP32 codes within 2 units in the last place of `y`; Inf where `y` rounds above the largest finite value. -/
def nearCodes (y : Int) : List Nat :=
  let c := fFP32.magCode y.natAbs (-(fixBits : Int))
  let s := fFP32.signBit (decide (y < 0))
  if fFP32.maxCode < c then [s + fFP32.infCode]
  else
    let i : Int := if y < 0 then -(c : Int) else c
    let u := ulpFix y
    (List.range 9).flatMap (fun (d : Nat) =>
      let j := i + (d : Int) - 4
      let v : Int := if j < 0 then -(magFix j.natAbs : Int) else magFix j.natAbs
      if 2 * u + u / 2 ^ 40 < (v - y).natAbs ∨ fFP32.infCode < j.natAbs then []
      else if j = 0 then [0, fFP32.signBit true]
      else [fFP32.signBit (decide (j < 0)) + j.natAbs])

/-- Value of a Plane function (R81). Which of the codes within 2 units the unit gives is free, and so is the result where the
function has no value (DESIGN CHOICE, log entry 17). -/
def planeVal (f : Nat) (v : Val) : Val :=
  let k := Config.planeFn f (toFP32 v)
  match planeExact f v with
  | some y => let cs := nearCodes y; ofFP32 (cs.getD (k % max 1 cs.length) 0)
  | none => ofFP32 (k % 2 ^ 32)

end Sys2Proof.Machine
end

