-- ==== Sys2Proof/Machine/Operands.lean ====
section
/-! DEFINITION. What a station takes: the operators with a tile to compute, when one is ready, which one is taken, and the operand
forms of a tile: Loft tiles, tensors, Kerf halves, streamed weights and addresses in memory (01 R22 to R29, R55 to R57). -/

namespace Sys2Proof.Machine

/-- An operator of a started job with the output tile that it computes next. -/
structure Work where
  job : Job
  graph : Graph
  op : Nat
  defn : OpDef
  bent : Nat
  slot : Nat
  q : Nat
deriving DecidableEq, Repr

/-- The operand that a store operator writes (07 R243). -/
def Work.operandKey (w : Work) : Nat := w.graph.operandKey w.op

/-- Output tiles done of operator `o` of a job. -/
def Job.progressOf (j : Job) (o : Nat) (d : OpDef) : Nat := Store.get 0 j.progress (o * 8 + d.pos)

/-- The job is resident in STATE 2 on every bent of its placement; until then it waits without running any tile (R55). -/
def State.residentAll (s : State) (j : Job) : Bool :=
  j.bents.all (fun n => s.residents.any (fun x => x.job == j.id && x.bent == n && s.get .slot_STATE (n * 64 + x.slot) == 2))

/-- Operators of the resident contexts of bent `n` for station `st` that still have output tiles. A job that waits for residency on one
of its bents gives no tile (R55), nor one that has reached step 1 of Table Stations-10 (R52), nor a context of a parked class (16
R470). -/
def State.works (s : State) (n : Nat) (st : Station) : List Work :=
  (s.residents.filter (fun x => x.bent == n && s.get .slot_STATE (n * 64 + x.slot) == 2)).flatMap (fun x =>
    match s.job x.job with
    | none => []
    | some j =>
      if j.finished || !s.residentAll j || bit (s.get .pwr_PARKED_CLASSES) j.prio then []
      else
        match s.graph j.graph with
        | none => []
        | some g =>
          g.ops.zipIdx.filterMap (fun (d, i) =>
            let q := j.progressOf i d
            if d.kind.station == st && j.bents[d.pos]? == some n && decide (q < j.ntiles i d) then
              some { job := j, graph := g, op := i, defn := d, bent := n, slot := x.slot, q := q }
            else none))

/-! ## Kerf halves and streamed blocks -/

/-- Blocks of STREAMED operand `k` that output tile `q` needs, by number (06 R215). -/
def StreamDef.blocksOf (d : StreamDef) (q : Nat) : List Nat := rangeFrom (q * d.perTile) d.perTile

/-- Blocks in the weight-stream ring of the bent that a tile needs. -/
def State.ringBlocks (s : State) (w : Work) (k : Nat) (d : StreamDef) : List RingBlock :=
  s.wring.filter (fun b => b.bent == w.bent && b.job == w.job.id && b.stream == k && (d.blocksOf w.q).contains b.number)

/-- The Kerf half that a tile reads (03 R99). -/
def State.kerfHalf (s : State) (w : Work) : Option KerfHalf :=
  s.kerf.find? (fun h => h.bent == w.bent && h.slot == w.slot && h.op == w.op && h.tile == w.q)

/-- The operator reads its rows from the Kerf buffer. -/
def OpKind.readsKerf : OpKind → Bool
  | .mortise o => o.kerf
  | .plane o => match o.src with | .pool _ _ => true | .depthwise _ => true | _ => false
  | _ => false

/-! ## Readiness -/

/-- Needed tiles of an operator's inputs: input, region and SEQ. -/
def Work.needed (w : Work) : List (Nat × Nat) := w.defn.ins.flatMap (fun i => (i.need w.q).map (fun t => (i.region, t)))

/-- Every tile that output tile `q` needs may be read (R26). -/
def State.inputsReady (s : State) (w : Work) : Bool :=
  w.needed.all (fun (r, t) => match s.regionRef w.job r with | some x => s.mayConsume x t | none => false)

/-- The output tile may be written (R26). -/
def State.outputReady (s : State) (w : Work) : Bool :=
  match w.defn.out with
  | none => true
  | some r => match s.regionRef w.job r with | some x => s.mayProduce x w.q | none => false

/-- What the kind of an operator needs besides its tiles: a free Kerf half, the half or the streamed blocks of the tile, the head of
the Truss queue with its state (05 R192), and for an operand that builds a table an encoder that does not hold a complete sample. -/
def State.kindReady (s : State) (w : Work) : Bool :=
  match w.defn.kind with
  | .scribe o => o.reader.isNone || decide ((s.kerf.filter (fun h => h.bent == w.bent)).length < 2)
  | .mortise o =>
    (!o.kerf || (s.kerfHalf w).isSome) &&
      (match o.stream with
       | some k => (match w.graph.streams[k]? with
         | some d => (s.ringBlocks w k d).length == d.perTile
         | none => false)
       | none => true)
  | .plane o => !(OpKind.plane o).readsKerf || (s.kerfHalf w).isSome
  | .truss o =>
    (match w.job.chunk with
     | none => false
     | some ch => (match ch.head w.bent with | some l => l.layer == o.layer && l.ready | none => false))
  | .store o => !o.coding.build ||
      (match s.froeBuilds.find? (fun b => b.job == w.job.id && b.op == w.operandKey) with
       | some b => decide (b.held.length < b.hist)
       | none => true)
  | _ => true

/-- The audio ring that a load reads: true for the high-quality one (10 R323). -/
def Work.audioRing (w : Work) : Option Bool :=
  match w.defn.kind with
  | .load o =>
    match o.addr with
    | .input k _ =>
      match w.graph.inputs[k]? with
      | some .audioLp => some false
      | some .audioHq => some true
      | _ => none
    | _ => none
  | _ => none

/-- The audio block of a load has been written (10 R323). -/
def State.audioReady (s : State) (w : Work) : Bool :=
  match w.audioRing with
  | some hq =>
    hasReached 32 (s.get .peg_COUNT (s.get (if hq then .casc_HQ_PEG else .casc_LP_PEG)))
      ((if hq then w.job.hqFirst else w.job.lpFirst) + w.q + 1)
  | none => true

/-- A tile is ready: no WAIT of the operator is pending (R32, R35) and no BARRIER holds it (11 R356), its inputs and its output slot are
there. -/
def State.workReady (s : State) (w : Work) : Bool :=
  !s.waits.any (fun x => x.job == some w.job.id && x.who == .op w.op) && !s.barrierHolds w.job w.op w.defn.pos w.q && s.inputsReady w && s.outputReady w && s.kindReady w && s.audioReady w

/-- Order of R57: class, then slots in round-robin order after the one served last, then the graph's order. -/
def Work.before (last : Nat) (a b : Work) : Bool :=
  let key := fun (w : Work) => (w.slot + 64 - last % 64) % 64
  decide (a.job.prio < b.job.prio) || (a.job.prio == b.job.prio &&
    (decide (key a < key b) || (key a == key b && decide (a.op < b.op))))

/-- First of a list in an order. -/
def firstBy {α : Type} (lt : α → α → Bool) : List α → Option α
  | [] => none
  | a :: l => match firstBy lt l with | none => some a | some b => if lt b a then some b else some a

/-- The tile that station `st` of bent `n` takes (R55 to R57). -/
def State.pickWork (s : State) (n : Nat) (st : Station) : Option Work :=
  firstBy (Work.before (Store.get 0 s.lastServed (n * 16 + st.code))) ((s.works n st).filter s.workReady)

/-! ## Loft tiles -/

/-- A tile as a consumer reads it: the descriptor, the elements (zeros under SKIPPED, R22), and where its lines lie. -/
structure TileIn where
  desc : TileDesc
  tile : Tile
  bytes : List Byte := []
  bent : Nat
  line : Nat
  /-- Elements that 02 R75 marks, in the order of the layout; empty for none. -/
  marks : List Bool := []
deriving DecidableEq, Repr

/-- The tile that a descriptor and its lines give. -/
def tileOf (d : TileDesc) (bs : List Byte) : Tile :=
  if d.skipped || d.poison then zeroTile (fmtOf d.fmt) d.h d.w d.c d.layout d.oy d.ox
  else unpackTile (fmtOf d.fmt) d.h d.w d.c d.layout d.oy d.ox bs

/-- Tile `t` of region `r` of a job. -/
def State.inTile (s : State) (w : Work) (r t : Nat) : Option TileIn := do
  let x ← s.regionRef w.job r
  let d ← s.tileAt x t
  let bs := s.tileData x t
  some { desc := d.desc, tile := tileOf d.desc bs, bytes := bs, bent := x.bent, line := x.tileLine t, marks := d.marks }

/-- The needed tiles of operand `k`. -/
def State.operand (s : State) (w : Work) (k : Nat) : List TileIn :=
  match w.defn.ins[k]? with
  | none => []
  | some i => (i.need w.q).filterMap (s.inTile w i.region)

/-- Needed tiles of all operands, in operand order. -/
def State.operands (s : State) (w : Work) : List TileIn :=
  (List.range w.defn.ins.length).flatMap (s.operand w)

/-- A line that a tile's read takes. -/
def TileIn.reads (t : TileIn) (line : Nat) : Bool :=
  !t.desc.poison && !t.desc.skipped && decide (t.line ≤ line) && decide (line < t.line + t.desc.lenLines)

/-- Reason of the first poisoned input in operand order (R23), 0 for none. -/
def poisonOf (l : List TileIn) : Nat :=
  match l.find? (fun t => t.desc.poison) with
  | some t => t.desc.reason
  | none => 0

/-- Line of bent `n` that a station reads when it takes whole tiles. -/
def wholeTiles (l : List TileIn) (n x : Nat) : Bool := l.any (fun t => t.bent == n && t.reads x)

/-! ## Tensors -/

/-- Element of a narrower format as a BF16 code (02 R72); one that BF16 cannot hold is rounded as a store to BF16 is (log entry 103). -/
def asBF16 (t : Tile) : Tile :=
  { t with
    fmt := .bf16, scales := []
    codes := t.codes.zipIdx.map (fun (c, i) => (fBF16.conv (toBF16 (elemRaw t.fmt { code := c, scale := t.scaleAt i }))).code) }

/-- Tiles of one tensor in one format: where a BF16 re-run tile stands among narrower ones (02 R87), all are taken as BF16. -/
def uniform (l : List Tile) : List Tile :=
  match l with
  | [] => []
  | t :: r =>
    if r.all (fun x => x.fmt == t.fmt) then l
    else l.map (fun x => if x.fmt = .bf16 then x else asBF16 x)

/-- Declared format of tile `t` of region `r`: that of the operator that fills it, none where a channel does. -/
def Graph.regionFmt (g : Graph) (r t : Nat) : Option Fmt :=
  (g.ops.find? (fun o => o.out == some r)).bind (fun o => (o.shape t).map (·.fmt))

/-- Declared format of operand `k`, which a BF16 re-run tile may stand in place of (02 R87). Where a channel fills the region, it is
that of the first tile that is not such a re-run. -/
def State.operandFmt (s : State) (w : Work) (k : Nat) : Fmt :=
  let ts := s.operand w k
  match (w.defn.ins[k]?).bind (fun i => (i.need w.q).head?.bind (fun t => w.graph.regionFmt i.region t)) with
  | some f => f
  | none => (((ts.find? (fun t => !t.desc.flags.rerun)).orElse (fun _ => ts.head?)).map (·.tile.fmt)).getD .uint32

/-- Rows of LAYOUT 2 tiles stacked into one tile. -/
def stackRows (l : List Tile) : Tile :=
  match uniform l with
  | [] => zeroTile .uint32 1 1 1 2 0 0
  | t :: r => { t with
      h := ((t :: r).map (·.h)).sum, codes := (t :: r).flatMap (·.codes), scales := (t :: r).flatMap (·.scales) }

/-- Operand `k` as a window input of given extents. -/
def State.winIn (s : State) (w : Work) (k h wd c : Nat) : WinIn :=
  { tiles := (s.operand w k).map (·.tile), fmt := s.operandFmt w k, h := h, w := wd, c := c }

/-! ## Lines that a part of an operand lies on -/

/-- Lines of a tile that hold element (y, x, ch) and its scale (02 R66, R67), from the tile's first line. -/
def Tile.linesOf (t : Tile) (y x ch : Nat) : List Nat :=
  let i := t.index y x ch
  let el := cdiv (t.size * t.fmt.bits) 512
  i * t.fmt.bits / 512 :: (i * t.fmt.bits + t.fmt.bits - 1) / 512 ::
    (if t.fmt.isMX then [el + i / 32 / 64]
     else if t.fmt.isChan then
       [el + (if t.layout = 1 then i / (t.h * t.w) else if t.layout = 2 then i / (t.w * t.c) else i % t.c) / 16]
     else [])

/-- Loft lines that hold the elements at these places of the tensor, each once: pairs of bent and line. Nothing is read of SKIPPED and
poisoned tiles (01 R22, R23). -/
def linesTouched (ts : List TileIn) (ps : List (Nat × Nat × Nat)) : List (Nat × Nat) :=
  (ps.flatMap (fun (y, x, c) =>
    match ts.find? (fun t => t.tile.holds y x c) with
    | none => []
    | some t =>
      if t.desc.skipped || t.desc.poison then []
      else (t.tile.linesOf (y - t.tile.oy) (x - t.tile.ox) c).map (fun k => (t.bent, t.line + k)))).eraseDups

/-! ## Addresses -/

/-- Device-virtual address of an operand in memory (01 R50). -/
def Job.address (j : Job) : AddrRef → Nat
  | .abs a => a
  | .input k o => j.inputs.getD k 0 + o
  | .output k o => j.outputs.getD k 0 + o

/-- The binding that an address lies in, for an output. -/
def Work.outBinding (w : Work) : AddrRef → Option Binding
  | .output k _ => w.graph.outputs[k]?
  | _ => none

end Sys2Proof.Machine
end

