-- ==== Sys2Proof/Machine/Flags.lean ====
section
/-! DEFINITION. The flags and counts of an output tile: R24's flags, the conversion counts of Plane, the clipped share and the BF16
re-run (02 R78, R79, R83 to R87, R90), and the descriptor that a tile goes out with (01 R20 to R24). -/

namespace Sys2Proof.Machine

/-- What a station makes of an output tile. -/
inductive Made where
  /-- Poisoned with a reason (R23). -/
  | poison (reason : Nat)
  /-- SKIPPED (R22, R30). -/
  | skipped (origin : Nat × Nat)
  /-- Elements that no conversion touched, with the marks of 02 R75 that its consumers' tiles count. -/
  | raw (t : Tile) (marks : List Bool)
  /-- FP32 values that Plane converts to the tile's format; a re-run may follow. `marks`: elements that 02 R75 marks; `nan`: NaNs
  made. -/
  | values (t : Tile) (vs : List Val) (divide : Bool) (marks : List Bool) (nan : Nat)
  /-- Elements converted on the way (Scarf, Truss), with the counts. -/
  | converted (t : Tile) (count : ConvCount) (nan : Nat)
deriving DecidableEq, Repr

/-- OR of the flags of a list of tiles (R24). -/
def orFlags (l : List TileIn) : Flags := l.foldl (fun f t => f.or t.desc.flags) {}

/-- Count a conversion in Plane's registers (Table Numbers-5). -/
def State.planeCount (s : State) (n : Nat) (c : ConvCount) (nan : Nat) : State :=
  let count := fun (r e : Reg) (k : Nat) (s : State) => if k = 0 then s else (s.bump r n k).set e n 1
  count .plane_NAN_MADE .plane_NAN_SEEN nan
    (count .plane_NONFINITE_IN .plane_NONFINITE_SEEN c.nonfinite (count .plane_SAT_COUNT .plane_SAT_SEEN c.clipped s))

/-- Add to the 64-bit clipped total (Table Numbers-6). -/
def State.clippedAdd (s : State) (n k : Nat) : State :=
  let v := s.get .gauge_CLIPPED_LO n + 2 ^ 32 * Store.get 0 s.clippedHigh n + k
  { s.set .gauge_CLIPPED_LO n v with clippedHigh := Store.put 0 s.clippedHigh n (v / 2 ^ 32 % 2 ^ 32) }

/-- A threshold disables the test (R83). -/
def OpDef.untested (d : OpDef) : Bool := d.thresh == 0xFFFF && !d.rerunEn

/-- The tile exceeds its threshold (R83). -/
def OpDef.exceeds (d : OpDef) (k n : Nat) : Bool := !d.untested && decide (d.thresh * n < k * 65536)

/-- Gauge tests a tile with `k` clipped elements of `n` (R83, R86; Table Numbers-6). -/
def State.gauge (s : State) (w : Work) (k n : Nat) : State :=
  let s := s.clippedAdd w.bent k
  if w.defn.untested then s
  else
    let s := s.bump .gauge_CHECKED w.bent
    if w.defn.exceeds k n then
      (s.bump .gauge_OVER_COUNT w.bent).setAll w.bent
        [(.gauge_OVER_SEEN, 1), (.gauge_LAST_SHARE, min 65535 (k * 65536 / max 1 n)),
          (.gauge_LAST_STATION, w.bent * 32 + w.defn.kind.station.code), (.gauge_LAST_RERUN, b2n w.defn.rerunEn),
          (.gauge_LAST_SEQ, w.q), (.gauge_LAST_CONTEXT, w.job.ctx)]
    else s

/-- Scribe operator that fills the halves of a reader. -/
def Work.scribeOf (w : Work) : Option ScribeOp :=
  w.graph.ops.findSome? (fun d => match d.kind with
    | .scribe o => if o.reader == some w.op && d.pos == w.defn.pos then some o else none
    | _ => none)

/-- Scribe operator that a window operator is or reads from. -/
def Work.window (w : Work) : Option ScribeOp := match w.defn.kind with | .scribe o => some o | _ => w.scribeOf

/-- First row and rows of the band of the output that this bent computes (03 R110), none for an operator without bands. -/
def Work.bandOf (w : Work) : Option (Nat × Nat) :=
  match w.window with
  | some o =>
    let rows := (viewOut { tiles := [], fmt := .uint32, h := o.h, w := o.w, c := o.c } o.win).1
    o.band.map (fun (i, k) => bandRows rows k i)
  | none => none

/-- Declared shape of the output tile. Rows of a banded operator count from its band's first row, and a tile ends with the band. -/
def Work.shape (w : Work) : Shape :=
  let x := (w.defn.shape w.q).getD { fmt := .uint32 }
  match w.bandOf with
  | some (a, n) => { x with oy := a + x.oy, h := min x.h (n - x.oy) }
  | none => x

/-- An empty tile of the declared shape. -/
def Work.blank (w : Work) : Tile :=
  let x := w.shape
  { fmt := x.fmt, h := x.h, w := x.w, c := x.c, layout := x.layout, oy := x.oy, ox := x.ox, codes := [] }

/-- Descriptor fields of a tile (R20): SLOT is the job's slot on the bent that produces it. -/
def Work.desc (w : Work) (t : Tile) (f : Flags) : TileDesc :=
  { slot := w.slot, fmt := t.fmt.code, h := t.h, w := t.w, c := t.c, layout := t.layout, flags := f, last := w.q + 1 == w.job.ntiles w.op w.defn, oy := t.oy
    ox := t.ox }

/-- An output tile ready to be written: its descriptor, its data, and the marks of 02 R75 that it carries on. -/
structure Outgoing where
  desc : TileDesc
  bytes : List Byte
  marks : List Bool := []
deriving DecidableEq, Repr

/-- Number of elements that R75 or R78 marks: each counts once. -/
def clippedElements (marks clips : List Bool) : Nat := (clips.zipIdx.filter (fun (c, i) => c || marks.getD i false)).length

/-- Convert, count, test and re-run (R76 to R87): the state and the tile that goes out. A re-run repeats every Plane step, whose counts
it adds again (R84). -/
def State.finishTile (s : State) (w : Work) (f : Flags) (m : Made) : State × Outgoing :=
  let n := w.bent
  match m with
  | .poison r => (s, { desc := { w.desc w.blank f with poison := true, reason := r }, bytes := [] })
  | .skipped o => (s, { desc := { w.desc w.blank f with skipped := true, oy := o.1, ox := o.2 }, bytes := [] })
  | .raw t m => (s, { desc := w.desc t f, bytes := t.pack, marks := m })
  | .converted t c nan =>
    let s := (s.planeCount n c nan).gauge w c.clipped t.size
    (s, { desc := w.desc t f, bytes := t.pack })
  | .values t vs divide marks nan =>
    let (t1, c) := convertTile t vs divide
    let k := clippedElements marks c.clips
    let s := (s.planeCount n c nan).gauge w k t1.size
    if w.defn.exceeds k t1.size && w.defn.rerunEn then
      let (t2, c2) := convertTile { t with fmt := .bf16, scales := [] } vs false
      let k2 := clippedElements marks c2.clips
      let s := (s.planeCount n c2 nan).clippedAdd n k2
      let s := if 0 < k2 then s.set .gauge_RERUN_CLIPPED n 1 else s
      (s.bump .bent_RERUN_COUNT n, { desc := w.desc t2 { f with rerun := true }, bytes := t2.pack })
    else (s, { desc := w.desc t1 f, bytes := t1.pack })

end Sys2Proof.Machine
end

