-- ==== Sys2Proof/Machine/Transfers.lean ====
section
/-! DEFINITION. Dowel's transfers between Loft and memory, the Froe memory encoders, the table store and the decoder, weight
streaming, and Gauge's histogram (06 R206, R215, R216, R221 to R225; 07 R228 to R248; 09 R288). -/

namespace Sys2Proof.Machine

/-! ## Table slots -/

/-- TABLE_SLOT_RETIRE (R244): a SUPERSEDED slot with REFS 0 is freed. -/
def State.retireTable (s : State) (k : Nat) : State :=
  if s.on .ftab_SUPERSEDED k && !s.on .ftab_BUILDING k && s.get .ftab_REFS k == 0 then
    (s.bump .froe_RETIREMENTS).freeTable k
  else s

/-- Meaning of TABLE_SLOT_RETIRE. -/
def execTableSlotRetire (sl : Fin 64) (s : State) : Host.Outcome State Fault Refusal := .next (s.retireTable sl.val)

/-! ## Writes -/

/-- Write a coded block to its home (07 R233): header and payload; the rest of the home stays. -/
def State.writeCoded (s : State) (n c a : Nat) (h : BlockHeader) (payload : List Nat) : State :=
  let bs := h.encode ++ natBytes payload
  let k := storedLines payload.length
  let s := s.putVA c a (bs ++ List.replicate (k * 64 - bs.length) 0)
  let s := (s.bump (if h.type = 2 then .froe_ENC_TABLE else .froe_ENC_ZERO_RUN)).bump .dowel_GDDR6_WR_LINES n k
  let s := s.bump .froe_LINES_SAVED 0 (64 - k)
  match s.homeOf c a with
  | some b => { s with memory := { s.memory with stored := if s.memory.stored.contains b then s.memory.stored else b :: s.memory.stored } }
  | none => s

/-- Write plain bytes of one block (07 R230, R241). -/
def State.writePlain (s : State) (n c a : Nat) (bs : List Byte) : State :=
  let s := (s.writeVA c a bs).bump .dowel_GDDR6_WR_LINES n (blocksOf a bs.length).length
  if bs.length = 4096 then s.bump .froe_ENC_PLAIN else s

/-- How an operand's blocks are coded: 0 with its table if there is one, 1 ZERO_RUN only, 2 plain. -/
def Job.codingMode (j : Job) (o : Nat) : Nat := Store.get 0 j.coding o

/-- A memory encoder writes one whole block of a store operand `o` (07 R230, R239). -/
def State.encodeBlock (s : State) (n : Nat) (j : Job) (o : Nat) (x : Coding) (a : Nat) (bs : List Byte) : State :=
  let region := (s.resolve j.ctx a).map (·.1)
  let shut := !x.compress || x.protect || s.on .froe_COMP_OFF || j.codingMode o == 2 ||
    (match region with | some k => s.on .rgn_PROTECTED k | none => true)
  if shut then s.writePlain n j.ctx a bs
  else
    let t := if j.codingMode o = 1 then none
      else (s.currentTable j.ctx x.tableId).map (fun k => (s.tableLengths k, x.tableId, s.get .ftab_GEN k))
    match memoryForm (byteNats bs) t with
    | some (h, p) => s.writeCoded n j.ctx a h p
    | none => s.writePlain n j.ctx a bs

/-- Mark how the operand of a store is coded from here on. -/
def State.setCoding (s : State) (j : JobId) (o mode : Nat) : State :=
  s.updJob j (fun x => { x with coding := Store.put 0 x.coding o mode })

/-- The operand cannot use its table (07 R243): ZERO_RUN only, with a warning. -/
def State.refuseTable (s : State) (j : JobId) (o code : Nat) : State :=
  (((s.bump .froe_BUILD_REFUSED).set .froe_BUILD_REFUSED_SEEN 0 1).setCoding j o 1).warn j code

/-- Generation of the next table that context `c` builds of a table id (07 R243). -/
def State.nextGen (s : State) (c id : Nat) : Nat :=
  let last := Store.get 0 s.froeGen (c * 256 + id)
  if last = 65535 then 1 else last + 1

/-- The first block of a COMPRESS operand reaches its encoder (07 R231, R243): a BUILD operand takes a slot, an operand with BUILD 0
needs a VALID table. -/
def State.openOperand (s : State) (w : Work) (x : Coding) : State :=
  let c := w.job.ctx
  let key := w.operandKey
  let s := s.updJob w.job.id (fun j => { j with opened := key :: j.opened })
  if !x.build then (if (s.currentTable c x.tableId).isSome then s else s.refuseTable w.job.id key 0x0B09)
  else if s.on .froe_COMP_OFF then s.setCoding w.job.id key 2
  else
    let t := s.tenantOf c
    match (List.range 64).find? (fun k => !s.on .ftab_VALID k && !s.on .ftab_BUILDING k) with
    | none => s.refuseTable w.job.id key 0x0B07
    | some k =>
      if s.get .cls_FROE_TABLES (s.classOf c) ≤ s.get .ten_FROE_USED t then s.refuseTable w.job.id key 0x0B08
      else
        let s := s.setAll k
          [(.ftab_BUILDING, 1), (.ftab_TABLE_ID, x.tableId), (.ftab_GEN, s.nextGen c x.tableId), (.ftab_OWNER, c), (.ftab_REFS, 0)]
        let b : FroeBuild := { slot := k, job := w.job.id, op := key, hist := x.histBlocks }
        { s.bump .ten_FROE_USED t with froeBuilds := s.froeBuilds ++ [b], froeTenant := Store.put 0 s.froeTenant k t }

/-- The encoder that builds a table for the operand of a store holds the block. -/
def State.holdBlock (s : State) (w : Work) (a : Nat) (bs : List Byte) : State :=
  let h : HeldBlock := { op := w.op, bent := w.bent, addr := a, bytes := bs }
  { s with froeBuilds := mapWhere (fun b => b.job == w.job.id && b.op == w.operandKey) (fun b => { b with held := b.held ++ [h] }) s.froeBuilds }

/-- The peg operations of a stored tile wait for the build of its operand's table (01 R36). -/
def State.holdTile (s : State) (w : Work) : State :=
  let t := (w.op, w.q)
  { s with froeBuilds := mapWhere (fun b => b.job == w.job.id && b.op == w.operandKey) (fun b => { b with tiles := b.tiles ++ [t] }) s.froeBuilds }

/-- A table is being built from the operand that a work item stores. -/
def State.building (s : State) (w : Work) : Bool := s.froeBuilds.any (fun b => b.job == w.job.id && b.op == w.operandKey)

/-- Dowel writes the bytes of output tile `q` of a store operator (06 R206, 07 R239 to R243). -/
def State.dowelWrite (s : State) (w : Work) (x : Coding) (a : Nat) (bs : List Byte) : State :=
  let c := w.job.ctx
  let (s, no) := s.writeRefused w.bent w.job.id c a bs.length
  if no then s
  else
    let s := if x.compress && !((s.job w.job.id).getD w.job).opened.contains w.operandKey then s.openOperand w x else s
    forEach (partsBy 4096 a bs.length) (fun p s =>
      let b := (bs.drop (p.1 - a)).take p.2
      if p.2 ≠ 4096 then s.writePlain w.bent c p.1 b
      else if s.building w then s.holdBlock w p.1 b
      else s.encodeBlock w.bent ((s.job w.job.id).getD w.job) w.operandKey x p.1 b) s

/-! ## Operators of Dowel, Froe and Gauge -/

/-- A load from an audio ring (10 R323): output tile `q` is the samples of the job's `q`-th block, and SEAM follows its header. -/
def State.audioTile (s : State) (w : Work) (hq : Bool) (env : TileEnv) : State × Flags × Made :=
  let lanes := if hq then s.get .casc_HQ_LANES_M1 + 1 else 8
  let len := if hq then 1536 * lanes else 4096
  let slots := (if hq then s.get .casc_HQ_SLOTS_M1 else s.get .casc_LP_SLOTS_M1) + 1
  let n := (if hq then w.job.hqFirst else w.job.lpFirst) + w.q
  let a := (if hq then s.get .casc_HQ_RING else s.get .casc_LP_RING) + n % slots * (64 + len)
  let (s, m) := s.dowelRead w.bent w.job.ctx a (64 + len) env.mem env.host
  let s := (s.warn w.job.id m.warning).readFailed w.job.id m.code
  if m.code ≠ 0 then (s, {}, .poison m.code)
  else
    let seam := ofBytes ((m.bytes.drop 4).take 2) != 0
    (s, { seam := seam }, .raw (unpackTile .int16 1 (if hq then 768 else 256) lanes 0 0 0 (m.bytes.drop 64)) [])

/-- A load of Dowel: output tile `q` from its place in memory. -/
def State.loadTile (s : State) (w : Work) (o : DowelOp) (env : TileEnv) : State × Made :=
  let x := w.shape
  let len := tileLines x.fmt x.h x.w x.c x.layout * 64
  let (s, m) := s.dowelRead w.bent w.job.ctx (w.job.address o.addr + o.offs.getD w.q 0) len env.mem env.host
  let s := (s.warn w.job.id m.warning).readFailed w.job.id m.code
  let code := if m.code ≠ 0 then m.code else s.linePoison w.job.ctx (w.job.address o.addr + o.offs.getD w.q 0) len
  if code ≠ 0 then (s, .poison code)
  else (s, .raw (unpackTile x.fmt x.h x.w x.c x.layout x.oy x.ox m.bytes) [])

/-- The tile is loaded from a PROTECTED memory region (07 R230). -/
def State.guardedLoad (s : State) (w : Work) : Bool :=
  match w.defn.kind with
  | .load o =>
    (match s.resolve w.job.ctx (w.job.address o.addr + o.offs.getD w.q 0) with
     | some (k, _) => s.on .rgn_PROTECTED k || s.on .rgn_PROTECTED (s.rgnHome k)
     | none => false)
  | _ => false

/-- Bytes of a tensor element list for the records that the device itself reads. -/
def tileBytes (t : TileIn) : List Byte := if t.desc.skipped then List.replicate (tileLines t.tile.fmt t.tile.h t.tile.w t.tile.c t.tile.layout * 64) 0 else t.bytes

/-- What the device takes from a store to a named output binding, of a tile poisoned with `r` or sound with `r` 0 (09 R287, R290; 10 R324;
13 R407). -/
def State.captureOutput (s : State) (w : Work) (b : Binding) (t : TileIn) (r : Nat) : State :=
  let bs := (tileBytes t).take (cdiv (t.tile.size * t.tile.fmt.bits) 8)
  s.updJob w.job.id (fun j =>
    match b with
    | .payload => { j with payload := j.payload ++ (if r = 0 then bs else []) }
    | .control => if r = 0 then { j with control := some bs } else { j with controlPoison := r }
    | .boxesOut => { j with boxesGood := j.boxesGood && r == 0 }
    | .decision => if r = 0 then { j with decision := some (ofBytes (bs.take 4)) } else { j with decisionPoison := r }
    | _ => j)

/-- A store of Dowel; `r` is the reason of a poisoned tile or of a failed Loft read. Such a tile writes nothing (R52, R23; 06 R213), a
SKIPPED one its zeros (R22). -/
def State.storeTile (s : State) (w : Work) (o : DowelOp) (r : Nat) : State :=
  match s.operand w 0 with
  | [] => s
  | t :: _ =>
    let s := match w.outBinding o.addr with | some b => s.captureOutput w b t r | none => s
    if r ≠ 0 then s
    else
      let a := w.job.address o.addr + o.offs.getD w.q 0
      let s := s.dowelWrite w o.coding a (tileBytes t)
      if w.outBinding o.addr = some .reentry then s.markLines w.job.ctx a (tileBytes t).length t.desc.flags 0 else s

/-- A Froe decoder operator over a received tile (07 R228, R248; 11 R352): block `i` of the tile stands at offset i x 4,160. -/
def State.decodeTile (s : State) (w : Work) (t : TileIn) : State × Made :=
  let x := w.shape
  let len := tileLines x.fmt x.h x.w x.c x.layout * 64
  if t.desc.skipped then (s, .skipped (t.desc.oy, t.desc.ox))
  else
    let qs := (List.range (cdiv len 4096)).map (fun i =>
      let blk := (t.bytes.drop (i * 4160)).take 4160
      let coded := (BlockHeader.decode (ofBytes (blk.take 16))).codedBytes
      ({ bent := w.bent, ctx := w.job.ctx, stored := false, lines := blk.take (min 4160 (storedLines coded * 64)) } : QueuedBlock))
    let (s, ds) := s.decodeAll w.bent qs
    let (code, warning) := decodeCodes ds
    let s := s.warn w.job.id warning
    if code ≠ 0 then (s, .poison code)
    else
      let d := t.desc
      (s, .raw (unpackTile (fmtOf d.fmt) d.h d.w d.c d.layout d.oy d.ox (ds.flatMap (·.bytes))) [])

/-- Bin of a sample (09 R288). -/
def histBin (o : HistOp) (v : Nat) : Nat :=
  if !o.log then v * o.bins / 65536
  else if v = 0 then 0
  else
    let e := v.log2
    let f := v * 2 ^ (15 - e) % 32768 / 128
    min (o.bins - 1) ((256 * e + f) * o.bins / 4096)

/-- Place of a row or column among zones: zone `z` covers floor(z x n / k) to floor((z + 1) x n / k) - 1. -/
def inZone (n k z i : Nat) : Bool := decide (z * n / k ≤ i) && decide (i < (z + 1) * n / k)

/-- A histogram tile of Gauge (09 R288; Table Jointer-10). -/
def State.histTile (s : State) (w : Work) (o : HistOp) (t : Tile) : State × Made :=
  let zone := fun zy zx =>
    ((List.range t.h).filter (inZone t.h o.zy zy)).flatMap (fun y =>
      ((List.range t.w).filter (inZone t.w o.zx zx)).map (fun x => (t.elem y x o.channel).code))
  let rows := (List.range (o.zy * o.zx)).map (fun z => zone (z / o.zx) (z % o.zx))
  let row := fun (vs : List Nat) =>
    (List.range o.bins).map (fun b => (vs.filter (fun v => histBin o v == b)).length) ++
      [(vs.filter (fun v => decide (o.satLevel ≤ v))).length]
  let n := w.bent
  let count := (rows.map List.length).sum
  let sat := (rows.flatten.filter (fun v => decide (o.satLevel ≤ v))).length
  let v := s.get .hist_HIST_SAMPLES_LO n + 2 ^ 32 * Store.get 0 s.histHigh n + count
  let s : State := { s.set .hist_HIST_SAMPLES_LO n v with histHigh := Store.put 0 s.histHigh n (v / 2 ^ 32 % 2 ^ 32) }
  let s := (s.bump .hist_HIST_TILES n).bump .hist_SAT_SAMPLES n sat
  (s, .raw { fmt := .uint32, h := o.zy * o.zx, w := o.bins + 1, c := 1, layout := 2, codes := rows.flatMap row } [])

/-! ## Weight streaming (06 R215, R216) -/

/-- Bents that receive a STREAMED operand of a job. -/
def Job.receivers (j : Job) (g : Graph) (d : StreamDef) : List Nat :=
  (d.ops.filterMap (fun o => (g.ops[o]?).bind (fun x => j.bents[x.pos]?))).eraseDups

/-- The lowest-numbered logical bent that a job is placed on, whose Dowel reads a broadcast operand for all (R216). -/
def Job.lowestBent (j : Job) : Nat := j.bents.foldl min 8

/-- Lines in use in the weight-stream ring of a bent. -/
def State.ringUsed (s : State) (n : Nat) : Nat :=
  ((s.wring.filter (fun b => b.bent == n)).map (fun b => max 1 (cdiv b.bytes.length 64))).sum

/-- The next read of bent `n` for a resident job: job, graph, operand number, operand and block number. -/
def State.nextStream (s : State) (n : Nat) : Option (Job × Graph × Nat × StreamDef × Nat) :=
  (s.residents.filter (fun x => x.bent == n && s.get .slot_STATE (n * 64 + x.slot) == 2)).findSome? (fun x => do
    let j ← s.job x.job
    let g ← s.graph j.graph
    if j.finished then none
    else
      g.streams.zipIdx.findSome? (fun (d, k) =>
        let rs := j.receivers g d
        let dests := if d.broadcast then rs else rs.filter (· == n)
        let i := Store.get 0 j.streamed (k * 8 + n)
        let lines := cdiv ((d.blocks.getD i (0, 0)).2) 64
        if !dests.isEmpty && (!d.broadcast || j.lowestBent == n) && decide (i < d.blocks.length) &&
            dests.all (fun r => decide (s.ringUsed r + lines ≤ s.get .dowel_WSTREAM_LINES r)) then
          some (j, g, k, d, i)
        else none))

/-- Dowel of bent `n` takes new work: its bent is ON with no entry begun (15 R453), and the clocks run (15 R460). -/
def State.dowelRuns (s : State) (n : Nat) : Bool :=
  s.on .bent_PRESENT n && s.get .bent_PWR n == 2 && !s.on .dom_CHANGING (s.get .bent_PHYSICAL n) && !s.clocks.stopped

/-- WEIGHT_STREAM_READ (R215): the next block of a STREAMED operand comes into the rings that wait for it. -/
def State.streamRead (s : State) (n : Nat) (env : TileEnv) : State :=
  match if s.dowelRuns n then s.nextStream n else none with
  | none => s
  | some (j, g, k, d, i) =>
    let (off, len) := d.blocks.getD i (0, 0)
    let (s, m) := s.withHalves j.id (fun s => s.dowelRead n j.ctx (j.address d.addr + off) len env.mem env.host)
    let s := (s.warn j.id m.warning).readFailed j.id m.code
    let dests := if d.broadcast then j.receivers g d else [n]
    let lines := cdiv len 64
    let s := s.bump .dowel_BROADCAST_LINES n (lines * (dests.filter (· != n)).length)
    let new := dests.map (fun r => ({ bent := r, job := j.id, stream := k, number := i, bytes := m.bytes, reason := m.code } : RingBlock))
    let s : State := { s with wring := s.wring ++ new }
    s.updJob j.id (fun x => { x with streamed := Store.put 0 x.streamed (k * 8 + n) (i + 1) })

/-- Meaning of WEIGHT_STREAM_READ. -/
def execWeightStreamRead (n : Fin 8) (env : TileEnv) (s : State) : Host.Outcome State Fault Refusal :=
  .next (s.awaken (fun s => s.streamRead n.val env))

end Sys2Proof.Machine
end

