-- ==== Sys2Proof/Machine/Compute.lean ====
section
/-! DEFINITION. The operators of Scribe, Mortise, Plane and Auger on the tiles of a work item (02 R70 to R82; 03 R91 to R122). -/

namespace Sys2Proof.Machine

/-! ## Places of a tile -/

/-- Channel of a place: a matrix row under LAYOUT 2 (02 R67). -/
def Tile.chanOf (t : Tile) (p : Nat × Nat × Nat) : Nat := if t.layout = 2 then p.1 else p.2.2

/-- A list over a tile in row, column, channel order, in the order of the declared layout. -/
def Work.relayout {α : Type} (w : Work) (z : α) (l : List α) : List α :=
  let b := w.blank
  if b.layout = 1 then b.places.map (fun (y, x, c) => l.getD ((y * b.w + x) * b.c + c) z) else l

/-- An accumulator tile in row, column, channel order laid out for the declared shape, with its marks. -/
def Work.arrange (w : Work) (t : Tile) (marks : List Bool) : Made :=
  let b := w.blank
  let m := if marks.any id then marks else []
  if t.size ≠ b.size then .raw t m
  else
    .raw { b with fmt := t.fmt, scales := t.scales, codes := w.relayout 0 t.codes } (if m.isEmpty then [] else w.relayout false m)

/-- Output positions of the declared shape, in row-major order. -/
def Work.positions (w : Work) : List (Nat × Nat) :=
  let x := w.shape
  (List.range (x.h * x.w)).map (fun i => (x.oy + i / x.w, x.ox + i % x.w))

/-! ## Scribe -/

/-- Input position behind a place of the regrouped tensor, none for padding and inserted zeros (R93, R102, R114). -/
def viewSource (x : WinIn) (p : Win) (y z : Int) (ch : Nat) : Option (Nat × Nat × Nat) :=
  let inside := fun (y z : Int) (c : Nat) => if 0 ≤ y ∧ y < x.h ∧ 0 ≤ z ∧ z < x.w then some (y.toNat, z.toNat, c) else none
  let (vh, vw, vc) := viewDims x p
  if y < 0 ∨ (vh : Int) ≤ y ∨ z < 0 ∨ (vw : Int) ≤ z then none
  else if p.mode = 1 then
    let q := ch / x.c
    inside (y * p.f + (q / p.f : Nat)) (z * p.f + (q % p.f : Nat)) (ch % x.c)
  else if p.mode = 2 then
    let yy := y.toNat; let zz := z.toNat
    inside (yy / p.f : Nat) (zz / p.f : Nat) ((yy % p.f * p.f + zz % p.f) * vc + ch)
  else if p.mode = 3 then
    if y.toNat % p.sh = 0 ∧ z.toNat % p.sw = 0 then inside (y.toNat / p.sh : Nat) (z.toNat / p.sw : Nat) ch else none
  else inside y z ch

/-- Input positions that the windows of the output positions read (R95). -/
def windowSources (x : WinIn) (p : Win) (ps : List (Nat × Nat)) : List (Nat × Nat × Nat) :=
  let ((sh, ph), (sw, pw)) := viewStep p
  let vc := (viewDims x p).2.2
  (ps.flatMap (fun (oy, ox) =>
    (List.range (p.kh * p.kw)).flatMap (fun k =>
      (List.range vc).filterMap (fun c =>
        viewSource x p ((oy * sh : Nat) - ph + (k / p.kw * p.dh : Nat)) ((ox * sw : Nat) - pw + (k % p.kw * p.dw : Nat)) c)))).eraseDups

/-- Count the Loft lines that Scribe reads: each line that holds a fetched element at least once; how often one is read again is
left open. -/
def State.fetchLines (s : State) (n k : Nat) : State :=
  if k = 0 then s else let (v, s) := s.draw 80; s.bump .scribe_FETCH_LINES n (k + v)

/-- Input positions that an output tile of Scribe reads: those of its windows, or those of the regrouped tile (R95, R102). -/
def Work.scribeSources (w : Work) (x : WinIn) (o : ScribeOp) : List (Nat × Nat × Nat) :=
  match o.reader with
  | some _ => windowSources x o.win w.positions
  | none =>
    let b := w.blank
    (b.places.filterMap (fun (y, z, c) => viewSource x o.win ((b.oy + y : Nat) : Int) ((b.ox + z : Nat) : Int) c)).eraseDups

/-- Loft lines that hold them (R95). -/
def State.scribeLines (s : State) (w : Work) (o : ScribeOp) : List (Nat × Nat) :=
  linesTouched (s.operand w 0) (w.scribeSources (s.winIn w 0 o.h o.w o.c) o)

/-- A Scribe operator: a Kerf half for its reader (R96), or the regrouped tile itself (R102). -/
def State.scribeTile (s : State) (w : Work) (o : ScribeOp) (poison : Nat) : State × Made :=
  let x := s.winIn w 0 o.h o.w o.c
  let ps := w.positions
  let n := w.bent
  let lines := (s.scribeLines w o).length
  match o.reader with
  | none =>
    if poison ≠ 0 then (s, .poison poison)
    else ((s.fetchLines n lines).bump .scribe_PAD_TAPS n (regroupPads x o.win w.blank), .raw (regroupTile x o.win w.blank) [])
  | some rd =>
    let half := if s.kerf.any (fun h => h.bent == n && h.half == 0) then 1 else 0
    let rows := (List.range o.win.g).map (fun gi => ps.map (fun (oy, ox) => kerfRow x o.win gi oy ox))
    let h : KerfHalf :=
      { bent := n, slot := w.slot, half := half, maker := w.op * 8 + w.defn.pos, op := rd, tile := w.q, fmt := x.fmt
        flags := orFlags (s.operand w 0), rows := if poison = 0 then rows else [], poison := poison != 0, reason := poison }
    let s :=
      if poison ≠ 0 then s
      else
        let pads := (List.range o.win.g).map (fun gi => (ps.map (fun (oy, ox) => padTaps x o.win gi oy ox)).sum)
        let s := s.fetchLines n lines
        (s.bump .scribe_KERF_LINES n (tileLines x.fmt ps.length (o.win.kh * o.win.kw) (viewDims x o.win).2.2 0)).bump .scribe_PAD_TAPS n pads.sum
    ({ s with kerf := s.kerf ++ [h] }, .skipped (0, 0))

/-- A Kerf half is free again once its reader has used it. -/
def State.freeHalf (s : State) (h : KerfHalf) : State :=
  { s with kerf := s.kerf.filter (fun x => !(x.bent == h.bent && x.half == h.half)) }

/-! ## Mortise -/

/-- Rows of the activation operand without a Kerf buffer (R98): one per output position, or per matrix row. -/
def directRows (w : Work) (f : Fmt) (l : List Tile) : List (List Elem) :=
  if (l.head?.map (·.layout)).getD 0 = 2 then
    l.flatMap (fun t => (List.range t.h).map (fun r => (List.range (t.w * t.c)).map (fun i => t.elemAs f r (i / t.c) (i % t.c))))
  else
    let c := (l.head?.map (·.c)).getD 0
    w.positions.map (fun (y, x) => (List.range c).map (fun ch => (findElem f l y x ch).getD { code := 0 }))

/-- The weight tile: the blocks of a STREAMED operand, or the rows of a Loft operand. -/
def State.weightTile (s : State) (w : Work) (o : MortiseOp) : Tile :=
  match o.stream.bind (fun k => (w.graph.streams[k]?).map (fun d => (k, d))) with
  | some (k, d) =>
    let bs := (d.blocksOf w.q).flatMap (fun i =>
      match (s.ringBlocks w k d).find? (fun b => b.number == i) with | some b => b.bytes | none => [])
    unpackTile d.shape.fmt d.shape.h d.shape.w d.shape.c d.shape.layout 0 0 bs
  | none => stackRows ((s.operand w o.weights).map (·.tile))

/-- Reason of a streamed block that could not be read. -/
def State.streamPoison (s : State) (w : Work) (o : MortiseOp) : Nat :=
  match o.stream.bind (fun k => (w.graph.streams[k]?).map (fun d => (k, d))) with
  | some (k, d) => (((s.ringBlocks w k d).find? (fun b => b.reason != 0)).map (·.reason)).getD 0
  | none => 0

/-- Streamed blocks leave the ring once Mortise has loaded them (06 R215). -/
def State.freeBlocks (s : State) (w : Work) (o : MortiseOp) : State :=
  match o.stream.bind (fun k => (w.graph.streams[k]?).map (fun d => (k, d))) with
  | some (k, d) =>
    { s with wring := s.wring.filter (fun b =>
        !(b.bent == w.bent && b.job == w.job.id && b.stream == k && (d.blocksOf w.q).contains b.number)) }
  | none => s

/-- A Mortise operator: the accumulator tile of its output positions (R103 to R107, R113, R115). -/
def State.mortiseTile (s : State) (w : Work) (o : MortiseOp) (half : Option KerfHalf) : State × Made :=
  let pl := 96 * s.get .mor_ARRAYS w.bent
  let sh := w.shape
  let fa := match half with | some h => h.fmt | none => s.operandFmt w 0
  let rows := match half with | some h => h.rows | none => [directRows w fa ((s.operand w 0).map (·.tile))]
  let seed := s.free
  let s' : State := { s with free := s.free + 1 }
  if o.grad then
    let dy := match s.operand w 0 with | [t] => t.tile | l => stackRows (l.map (·.tile))
    let (t, k) := Machine.mortiseGrad pl fa rows dy o.pshift seed
    let len := dy.h * dy.w
    let c := dy.c / max 1 rows.length
    let s := (s'.bump .mor_PASSES w.bent (passCount pl len c rows.length)).bump .mor_WEIGHT_BLOCKS w.bent (blockCount len c rows.length)
    (s, w.arrange t k)
  else
    let wt := s.weightTile w o
    let np := (rows.headD []).length
    let (oh, ow) := if np = sh.h * sh.w then (sh.h, sh.w) else (np, 1)
    let (t, k) := Machine.mortiseTile pl fa rows wt o.transposed o.taps o.pshift seed oh ow sh.oy o.coutG
    let len := ((rows.headD []).headD []).length
    let blocks := blockCount len o.coutG o.groups
    let s := (s'.bump .mor_PASSES w.bent (passCount pl len o.coutG o.groups)).bump .mor_WEIGHT_BLOCKS w.bent blocks
    let s := if o.transposed then s.bump .mor_TRANSPOSED w.bent blocks else s
    (s, w.arrange t k)

/-! ## Plane -/

/-- Evaluate an expression on the arguments and the channel of an element (R81). -/
def PExpr.eval (args : List PVal) (ch : Nat) : PExpr → PVal
  | .arg k => args.getD k { v := zeroVal }
  | .const c => { v := ofFP32 c }
  | .chan l => { v := ofFP32 (l.getD ch 0) }
  | .sqrt a => PVal.op1 sqrt32 (a.eval args ch)
  | .fn f a => PVal.op1 (planeVal f) (a.eval args ch)
  | .add a b => PVal.op2 (fun x y => fp32 (x.add y)) (a.eval args ch) (b.eval args ch)
  | .sub a b => PVal.op2 (fun x y => fp32 (x.add y.negate)) (a.eval args ch) (b.eval args ch)
  | .mul a b => PVal.op2 (fun x y => fp32 (x.mul y)) (a.eval args ch) (b.eval args ch)
  | .div a b => PVal.op2 div32 (a.eval args ch) (b.eval args ch)
  | .min a b => PVal.op2 min32 (a.eval args ch) (b.eval args ch)
  | .max a b => PVal.op2 max32 (a.eval args ch) (b.eval args ch)
  | .fma a b c => PVal.op3 fma32 (a.eval args ch) (b.eval args ch) (c.eval args ch)

/-- Evaluate it with the NaNs that its arguments made counted once each. -/
def PExpr.run (e : PExpr) (args : List PVal) (ch : Nat) : PVal :=
  let r := e.eval (args.map (fun a => { v := a.v })) ch
  { r with made := r.made + (args.map PVal.made).sum }

/-- Tile and relative place of an operand at a place of the output tile: a single tile by its own rows and columns, one row, column or
channel repeated; several tiles by the place in the full tensor. -/
def operandPlace (w : Work) (l : List TileIn) (p : Nat × Nat × Nat) : Option (TileIn × Nat × Nat × Nat) :=
  match l with
  | [] => none
  | [t] => some (t, if t.tile.h = 1 then 0 else p.1, if t.tile.w = 1 then 0 else p.2.1, if t.tile.c = 1 then 0 else p.2.2)
  | l =>
    let y := w.shape.oy + p.1
    let x := w.shape.ox + p.2.1
    (l.find? (fun t => t.tile.holds y x p.2.2)).map (fun t => (t, y - t.tile.oy, x - t.tile.ox, p.2.2))

/-- Places of operand 0 along an axis through a place: rows 0, columns 1, channels 2 (R82). -/
def alongAxis (w : Work) (l : List TileIn) (axis : Nat) (p : Nat × Nat × Nat) : List (TileIn × Nat × Nat × Nat) :=
  let y := w.shape.oy + p.1
  let x := w.shape.ox + p.2.1
  l.flatMap (fun u =>
    let t := u.tile
    let inY := decide (t.oy ≤ y ∧ y < t.oy + t.h)
    let inX := decide (t.ox ≤ x ∧ x < t.ox + t.w)
    if axis = 0 then (if inX then (List.range t.h).map (fun i => (u, i, x - t.ox, p.2.2)) else [])
    else if axis = 1 then (if inY then (List.range t.w).map (fun i => (u, y - t.oy, i, p.2.2)) else [])
    else if inY && inX then (List.range t.c).map (fun i => (u, y - t.oy, x - t.ox, i))
    else [])

/-- The element there as Plane takes it: in the tile's own format, a BF16 re-run among them (R81, R87). -/
def placeVal (q : TileIn × Nat × Nat × Nat) : PVal := elemP q.1.tile.fmt (q.1.tile.elem q.2.1 q.2.2.1 q.2.2.2)

/-- R75 marks the element there. -/
def placeMark (q : TileIn × Nat × Nat × Nat) : Bool := q.1.marks.getD (q.1.tile.index q.2.1 q.2.2.1 q.2.2.2) false

/-- Value of an operand at a place of the output tile. -/
def operandAt (w : Work) (l : List TileIn) (p : Nat × Nat × Nat) : PVal := ((operandPlace w l p).map placeVal).getD { v := zeroVal }

/-- Reduce one pooling window (R109): `row` holds the elements of all taps of channel `ch`, `inp` says which are input taps. -/
def poolWindow (isMax countPad : Bool) (f : Fmt) (seed : Nat) (row : List Elem) (inp : List Bool) : PVal :=
  let vs := row.map (elemP f)
  let ins := (vs.zip inp).filterMap (fun (v, b) => if b then some v else none)
  let pad := vs.headD { v := zeroVal }
  if isMax then (match ins with | [] => pad | v :: l => l.foldl (PVal.op2 max32) v)
  else
    let used := if countPad then vs else ins
    match used with | [] => pad | _ => PVal.op2 div32 (planeSumP seed used) { v := ofInt used.length }

/-- The source value of a place of the output tile. -/
def planeSource (w : Work) (o : PlaneOp) (half : Option KerfHalf) (ops : List (List TileIn)) (seed : Nat)
    (i : Nat) (p : Nat × Nat × Nat) : PVal :=
  let h := half.getD { bent := 0, slot := 0, half := 0 }
  let pos := p.1 * w.shape.w + p.2.1
  let seed := subSeed seed i
  match o.src with
  | .tiles => operandAt w (ops.headD []) p
  | .sum axis => planeSumP seed ((alongAxis w (ops.headD []) axis p).map placeVal)
  | .peak axis =>
    (match (alongAxis w (ops.headD []) axis p).map placeVal with | [] => { v := zeroVal } | v :: l => l.foldl (PVal.op2 max32) v)
  | .pool isMax countPad =>
    let k := match w.scribeOf with | some x => x.win.kh * x.win.kw | none => 1
    let c := max 1 (((h.rows.headD []).getD pos []).length / k)
    let row := (h.rows.getD (p.2.2 / c) []).getD pos []
    let inp := match w.scribeOf with
      | some x =>
        let e : WinIn := { tiles := [], fmt := h.fmt, h := x.h, w := x.w, c := x.c }
        (List.range k).map (fun t =>
          match windowTap e x.win (w.shape.oy + p.1) (w.shape.ox + p.2.1) (t / x.win.kw) (t % x.win.kw) p.2.2 with
          | .elem _ => true | _ => false)
      | none => List.replicate k true
    poolWindow isMax countPad h.fmt seed ((List.range k).map (fun t => row.getD (t * c + p.2.2 % c) { code := 0 })) inp
  | .depthwise wk =>
    let wt := stackRows ((ops.getD wk []).map (·.tile))
    let perGroup := max 1 (w.shape.c / max 1 h.rows.length)
    depthwise h.fmt wt.fmt seed ((h.rows.getD (p.2.2 / perGroup) []).getD pos []) (wt.row p.2.2)

/-- Elements that the output element at a place comes from, for the marks of R75. -/
def planeMark (w : Work) (o : PlaneOp) (ops : List (List TileIn)) (p : Nat × Nat × Nat) : Bool :=
  let src := match o.src with
    | .sum axis | .peak axis => alongAxis w (ops.headD []) axis p
    | _ => (operandPlace w (ops.headD []) p).toList
  src.any placeMark || (ops.drop 1).any (fun l => (operandPlace w l p).any placeMark)

/-- A Plane operator (R76, R81, R82, R106, R109): the FP32 values of its output tile. -/
def State.planeTile (s : State) (w : Work) (o : PlaneOp) (half : Option KerfHalf) : State × Made :=
  let ops := (List.range w.defn.ins.length).map (s.operand w)
  let t := { w.blank with scales := o.outScales }
  let one := fun (i : Nat) (p : Nat × Nat × Nat) =>
    let ch := t.chanOf p
    let v := planeSource w o half ops s.free i p
    let y := if o.m.isEmpty then v else requantP o.pshift v (ofFP32 (o.m.getD ch 0)) (ofFP32 (o.b.getD ch 0))
    o.post.run (y :: (ops.drop 1).map (fun l => operandAt w l p)) ch
  let rs := t.places.zipIdx.map (fun (p, i) => one i p)
  ({ s with free := s.free + 1 }, .values t (rs.map PVal.v) o.divide (t.places.map (planeMark w o ops)) (rs.map PVal.made).sum)

/-! ## Auger -/

/-- A tensor of format `f` whose tiles are given, with its full extents. -/
def spanOf (f : Fmt) (l : List Tile) : WinIn :=
  { tiles := l, fmt := f, h := (l.map (fun t => t.oy + t.h)).foldl max 0, w := (l.map (fun t => t.ox + t.w)).foldl max 0
    c := (l.head?.map (·.c)).getD 1 }

/-- Source positions that box `b` reads, in all channels (R120, R122). -/
def augerSources (a : AugerParams) (x : WinIn) (b : Box) : List (Nat × Nat × Nat) :=
  (((List.range (a.oh * a.ow)).flatMap (fun i => augerReads a x b (i / a.ow) (i % a.ow))).eraseDups).flatMap
    (fun p => (List.range x.c).map (fun c => (p.1, p.2, c)))

/-- An Auger operator: output tile `q` samples box `q` (R116 to R121). The flags are those of the box list and of the source of the
box; a box with SKIP, or with SOURCE out of range, reads no source. Only lines that hold a tap are read (R122). -/
def State.augerTile (s : State) (w : Work) (a : AugerParams) (srcs : List AugerSrc) (env : TileEnv) : State × Flags × Made :=
  let n := w.bent
  let boxes := s.operand w 0
  let f := orFlags boxes
  let (s, bad) := s.loftRead (wholeTiles boxes) env.loft
  let s := s.bump .auger_BOXES n
  if poisonOf boxes ≠ 0 then (s, f, .poison (poisonOf boxes))
  else if bad ≠ 0 then (s, f, .poison bad)
  else
    let b := Box.ofRow (stackRows (boxes.map (·.tile))) w.q
    let origin := ((max 0 (min (b.y0 / 65536) 65535)).toNat, (max 0 (min (b.x0 / 65536) 65535)).toNat)
    if b.skip then (s, f, .skipped origin)
    else
      match srcs[b.source]? with
      | none => ((s.bump .auger_BAD_BOXES n).set .auger_BAD_BOX_SEEN n 1, f, .skipped origin)
      | some src =>
        let (s, f, code, x) : State × Flags × Nat × WinIn :=
          match src with
          | .loft k =>
            let l := s.operand w k
            let x := spanOf (s.operandFmt w k) (l.map (·.tile))
            let lines := linesTouched l (augerSources a x b)
            let (s, bad) := s.loftRead (fun m y => lines.contains (m, y)) env.loft
            (s, f.or (orFlags l), if poisonOf l ≠ 0 then poisonOf l else bad, x)
          | .memory at' sh =>
            let z := zeroTile sh.fmt sh.h sh.w sh.c sh.layout 0 0
            let lines := ((augerSources a (spanOf sh.fmt [z]) b).flatMap (fun (y, x, c) => z.linesOf y x c)).eraseDups
            let (s, m) := s.dowelLines n w.job.ctx (w.job.address at') z.lines lines env.mem env.host
            let s := (s.warn w.job.id m.warning).readFailed w.job.id m.code
            let f := f.or (s.lineFlags w.job.ctx (w.job.address at') (z.lines * 64))
            (s, f, m.code, spanOf sh.fmt [unpackTile sh.fmt sh.h sh.w sh.c sh.layout 0 0 m.bytes])
        if code ≠ 0 then (s, f, .poison code)
        else
          let out := ((List.range (a.oh * a.ow)).filter (fun i => augerOutside a x b (i / a.ow) (i % a.ow))).length
          let s := s.bump .auger_OUTSIDE_SAMPLES n out
          let t : Tile := { fmt := a.outFmt, h := a.oh, w := a.ow, c := x.c, layout := 0, oy := origin.1, ox := origin.2
                            codes := [], scales := a.outScales }
          let vs := (List.range (a.oh * a.ow * x.c)).map (fun k => augerSample a x b (k / x.c / a.ow) (k / x.c % a.ow) (k % x.c))
          (s, f, .values t (vs.map PVal.v) true [] (vs.map PVal.made).sum)

end Sys2Proof.Machine
end

