-- ==== Sys2Proof/Machine/Attention.lean ====
section
/-! DEFINITION. Scarf (04 R124 to R168): blocks, masks, the softmax, segment packing, and the layers of a PAGED job on its page
lists. -/

namespace Sys2Proof.Machine

/-! ## Rows and blocks (R125 to R129) -/

/-- A query row: its place in the output tile, KV head, position and segment. -/
structure QRow where
  row : Nat
  head : Nat
  pos : Nat
  seg : Nat := 0
  q : List Val
deriving DecidableEq, Repr

/-- A key slot with its value; page and slot for PAGED. -/
structure KeySlot where
  pos : Nat
  seg : Nat := 0
  key : List Val
  val : List Val
  page : Nat := 0
  slot : Nat := 0
deriving DecidableEq, Repr

/-- The key side of a block: its bounds (R128, R132) and the slots that hold a key. -/
structure KeyBlock where
  live : Nat
  lo : Nat
  hi : Nat
  segLo : Nat := 0
  segHi : Nat := 0
  slots : List KeySlot
deriving DecidableEq, Repr

/-- Table Scarf-2. -/
def Mask.sees : Mask → Nat → Nat → Bool
  | .none, _, _ => true
  | .causal, q, k => decide (k ≤ q)
  | .window w, q, k => decide ((q : Int) - w < k) && decide (k ≤ q)

/-- R128 and R132: no slot of the block can be visible to the rows. -/
def skipsBlock (o : ScarfOp) (rows : List QRow) (b : KeyBlock) : Bool :=
  let ps := rows.map (·.pos)
  let lo := ps.foldl min (ps.headD 0)
  let hi := ps.foldl max 0
  let gs := rows.map (·.seg)
  b.live == 0 ||
    (match o.mask with
     | .none => false
     | .causal => decide (hi < b.lo)
     | .window w => decide (hi < b.lo) || decide ((b.hi : Int) ≤ (lo : Int) - w)) ||
    (o.segmented && (decide (gs.foldl max 0 < b.segLo) || decide (b.segHi < gs.foldl min (gs.headD 0))))

/-- A list in an order that nothing fixes (R130). -/
def anyOrder {α : Type} (seed : Nat) : Nat → List α → List α
  | 0, l => l
  | n + 1, l =>
    match pluck l (Config.sumPick seed n % max 1 l.length) with
    | some (a, r) => a :: anyOrder seed n r
    | none => l

/-- Running values of a row (R130) with the scores of its visible slots. -/
structure RowSum where
  m : Option Val := none
  l : Val := .fin false 0 0
  o : List Val := []
  scores : List (KeySlot × Val) := []
deriving DecidableEq, Repr

/-- Combine two lists of values element by element. -/
def zipVals (f : Val → Val → Val) (a b : List Val) : List Val := (a.zip b).map (fun p => f p.1 p.2)

/-- FP32 sum and product. -/
def add32 (a b : Val) : Val := fp32 (a.add b)
def mul32 (a b : Val) : Val := fp32 (a.mul b)

/-- One visible key (R130). -/
def RowSum.step (scale seed : Nat) (q : List Val) (r : RowSum) (k : KeySlot) : RowSum :=
  let s := mul32 (ofFP32 scale) (mortiseSum seed ((q.zip k.key).map (fun p => p.1.mul p.2)))
  let r := { r with scores := (k, s) :: r.scores }
  match r.m with
  | none => { r with m := some s, l := .fin false 1 0, o := k.val }
  | some m =>
    if m.lt s then
      let c := planeVal 0 (add32 m s.negate)
      { r with m := some s, l := add32 (mul32 r.l c) (.fin false 1 0), o := zipVals add32 (r.o.map (fun x => mul32 x c)) k.val }
    else
      let p := planeVal 0 (add32 s m.negate)
      { r with l := add32 r.l p, o := zipVals add32 r.o (k.val.map (fun v => mul32 p v)) }

/-- A query row against the blocks that its group does not skip. -/
def attendRow (o : ScarfOp) (seed : Nat) (r : QRow) (bs : List KeyBlock) : RowSum :=
  let ks := bs.flatMap (fun b => b.slots.filter (fun k => o.mask.sees r.pos k.pos && (!o.segmented || k.seg == r.seg)))
  (anyOrder seed ks.length ks).zipIdx.foldl (fun acc (k, i) => acc.step o.scale (subSeed seed i) r.q k) {}

/-- What a group of rows gives: the sums by row, and the blocks computed and skipped. -/
structure GroupOut where
  sums : List (QRow × RowSum) := []
  computed : Nat := 0
  skipped : Nat := 0
deriving DecidableEq, Repr

/-- A group of rows of one sequence or tile (R126): each KV head's rows against each of its blocks. -/
def attendGroup (o : ScarfOp) (seed : Nat) (rows : List QRow) (blocks : Nat → List KeyBlock) : GroupOut :=
  (List.range o.nkv).foldl (fun acc h =>
    let rs := rows.filter (fun r => r.head == h)
    if rs.isEmpty then acc
    else
      let bs := blocks h
      let used := bs.filter (fun b => !skipsBlock o rs b)
      { sums := acc.sums ++ rs.map (fun r => (r, attendRow o (subSeed seed r.row) r used))
        computed := acc.computed + used.length, skipped := acc.skipped + (bs.length - used.length) }) {}

/-- Output values of a row (R130): zeros when no key was visible. -/
def RowSum.out (hd : Nat) (r : RowSum) : List Val :=
  match r.m with
  | none => List.replicate hd (.fin false 0 0)
  | some _ => r.o.map (fun x => div32 x r.l)

/-- FP32 values of the elements of matrix row `i`. -/
def Tile.rowVals (t : Tile) (i : Nat) : List Val := (t.row i).map (elemFP32 t.fmt)

/-- Runs of consecutive tokens, `n` at a time. -/
def tokenGroups (o : ScarfOp) (rows : List QRow) : List (List QRow) :=
  runsOf (max 1 (64 / o.g) * o.g * o.nkv) rows.length rows

/-- Count blocks and empty rows (Table Scarf-14). -/
def State.scarfCount (s : State) (n : Nat) (gs : List GroupOut) : State :=
  let s := (s.bump .scarf_BLOCKS_COMPUTED n (gs.map (·.computed)).sum).bump .scarf_BLOCKS_SKIPPED n (gs.map (·.skipped)).sum
  let e := ((gs.flatMap (·.sums)).filter (fun p => p.2.m.isNone)).length
  if e = 0 then s else (s.bump .scarf_EMPTY_ROWS n e).set .scarf_EMPTY_ROW_SEEN n 1

/-- The output tile from the sums of its rows; rows without a sum are zeros (R155). Scarf's own arithmetic is none of Plane's, whose
NAN_MADE it leaves (02 Table Numbers-5). -/
def Work.scarfOut (w : Work) (o : ScarfOp) (nrows : Nat) (sums : List (QRow × RowSum)) : Made :=
  let rows := (List.range nrows).map (fun i =>
    match sums.find? (fun p => p.1.row == i) with
    | some p => p.2.out o.hd
    | none => List.replicate o.hd (.fin false 0 0))
  .values { w.blank with layout := 2, h := nrows, w := o.hd, c := 1 } rows.flatten false [] 0

/-! ## DIRECT operators (R125 to R133) -/

/-- A segment tile decreases (R133). -/
def segDecreases : List Nat → Bool
  | a :: b :: l => decide (b < a) || segDecreases (b :: l)
  | _ => false

/-- Codes of segment tiles, one list for each tile. -/
def segments (l : List TileIn) : List (List Nat) := l.map (fun t => t.tile.codes)

/-- Key blocks of KV head `h` of a DIRECT operator: 64 consecutive key tokens of a tile. -/
def directBlocks (o : ScarfOp) (ks vs : List Tile) (segs : List (List Nat)) (h : Nat) : List KeyBlock :=
  (ks.zip vs).zipIdx.flatMap (fun ((k, v), i) =>
    let seg := segs.getD i []
    let slots := (List.range (k.h / o.nkv)).map (fun t =>
      ({ pos := k.oy + t, seg := seg.getD t 0, key := k.rowVals (t * o.nkv + h), val := v.rowVals (t * o.nkv + h) } : KeySlot))
    (runsOf 64 slots.length slots).map (fun l =>
      { live := l.length, lo := (l.map (·.pos)).foldl min ((l.map (·.pos)).headD 0), hi := (l.map (·.pos)).foldl max 0
        segLo := (l.map (·.seg)).foldl min ((l.map (·.seg)).headD 0), segHi := (l.map (·.seg)).foldl max 0, slots := l }))

/-- A DIRECT operator (R127 to R133). -/
def State.scarfDirect (s : State) (w : Work) (o : ScarfOp) : State × Made :=
  let n := w.bent
  let qt := (s.operand w 0).map (·.tile)
  let kt := (s.operand w 1).map (·.tile)
  let vt := (s.operand w 2).map (·.tile)
  let qs := segments (s.operand w 3)
  let ks := segments (s.operand w 4)
  if o.segmented && (qs ++ ks).any segDecreases then
    ((s.bump .scarf_SEG_FAULTS n).set .scarf_SEG_FAULT_SEEN n 1, .poison 0x0414)
  else
    let nq := o.g * o.nkv
    let rows := (qt.zipIdx.foldl (fun (acc : List QRow × Nat) (t, i) =>
      (acc.1 ++ (List.range t.h).map (fun r =>
        ({ row := acc.2 + r, head := r % nq / o.g, pos := t.oy + r / nq, seg := (qs.getD i []).getD (r / nq) 0, q := t.rowVals r } : QRow)),
        acc.2 + t.h)) ([], 0))
    let gs := (tokenGroups o rows.1).zipIdx.map (fun (g, i) => attendGroup o (subSeed s.free i) g (directBlocks o kt vt ks))
    let s := ({ s with free := s.free + 1 } : State).scarfCount n gs
    (s, w.scarfOut o rows.2 (gs.flatMap (·.sums)))

/-! ## Rows of a page (R137) -/

/-- Write a row of elements into slot `x` of a half at `a`: elements slot-major, then the scale bytes (R137). The codes go in
at the width of KVFMT, whatever the format of the tile (log entry 107). -/
def State.putRow (s : State) (c k a x : Nat) (es : List Elem) : State :=
  let f := fmtOf (s.get .kvc_KVFMT k)
  let b := s.kvHD k * f.bits / 8
  let s := s.writeVA c (a + x * b) (toBytes b (packCodes f.bits (es.map (·.code))))
  if f.isMX then
    let m := s.kvHD k / 32
    s.writeVA c (a + 64 * b + x * m) ((List.range m).map (fun i => BitVec.ofNat 8 ((es.getD (32 * i) { code := 0 }).scale)))
  else s

/-- Read the row of slot `x` of a half at `a` as FP32 values. -/
def State.getRow (s : State) (c k a x : Nat) : List Val :=
  let f := fmtOf (s.get .kvc_KVFMT k)
  let hd := s.kvHD k
  let b := hd * f.bits / 8
  let codes := unpackCodes f.bits hd (s.readNumVA c (a + x * b) b)
  let scales := s.readVA c (a + 64 * b + x * (hd / 32)) (hd / 32)
  codes.zipIdx.map (fun (e, i) => elemFP32 f { code := e, scale := if f.isMX then (scales.getD (i / 32) 0).toNat else 0 })

/-! ## PAGED operators -/

/-- Token `g` of the step: the record and the number of the token in it. -/
def tokenOf : List StepRec → Nat → Option (StepRec × Nat)
  | [], _ => none
  | r :: l, g => if g < r.ntok then some (r, g) else tokenOf l (g - r.ntok)

/-- Write the new keys and values of a layer into the reserved slots (R154). -/
def State.writeNewKV (s : State) (w : Work) (o : ScarfOp) (k : Nat) (recs : List StepRec) (keys vals : Tile) : State :=
  let c := s.get .ses_CONTEXT k
  let total := (recs.map (·.ntok)).sum
  forEach (List.range total) (fun g s =>
    match tokenOf recs g with
    | some (r, t) =>
      if !r.stepped then s
      else
        match r.slots[t]? with
        | none => s
        | some x => forEach (List.range o.nkv) (fun h s =>
            (s.putRow c o.kvClass (s.kvAddr c o.kvClass o.layer h x.page 0) x.slot (keys.row (g * o.nkv + h))).putRow c o.kvClass
              (s.kvAddr c o.kvClass o.layer h x.page 1) x.slot (vals.row (g * o.nkv + h))) s
    | none => s) (s.bump .dowel_GDDR6_WR_LINES w.bent (cdiv (total * s.layerBytes o.kvClass / 64) 64))

/-- First bad entry of a list (Table Scarf-13): its code, 0 for none. -/
def State.walkCode (s : State) (c : Nat) (d : SeqDesc) : Nat :=
  ((List.range d.npages).findSome? (fun n =>
    let e := s.listEntry c d n
    if s.get .pool_PAGES c ≤ e.page then some 0x040B
    else if 64 < e.live ∨ (e.maxpos < e.minpos ∧ e.live ≠ 0) then some 0x040C
    else none)).getD 0

/-- Key blocks of KV head `h` of a sequence (R126, R127): one for each page of the snapshot's list. -/
def State.pagedBlocks (s : State) (c : Nat) (o : ScarfOp) (d : SeqDesc) (h : Nat) : List KeyBlock :=
  (List.range d.npages).map (fun n =>
    let e := s.listEntry c d n
    let slots := (List.range 64).filterMap (fun x =>
      let hw := s.slotWord c e.page x
      if bit hw 31 && decide (hw % 2 ^ 31 < d.len) then
        some ({ pos := hw % 2 ^ 31, key := s.getRow c o.kvClass (s.kvAddr c o.kvClass o.layer h e.page 0) x
                val := s.getRow c o.kvClass (s.kvAddr c o.kvClass o.layer h e.page 1) x, page := e.page, slot := x } : KeySlot)
      else none)
    { live := e.live, lo := e.minpos, hi := e.maxpos, slots := slots })

/-- Ranges that the walk of sequence `i` reads: its descriptor and its list. -/
def State.walkRanges (s : State) (k i : Nat) (d : SeqDesc) : List (Nat × Nat) :=
  (s.seqAddr k i, 128) :: (List.range d.npages).map (fun n => (d.entryAddr n, 16))

/-- Ranges that a layer reads of a page: the slot header, keys and values. -/
def State.pageRanges (s : State) (c : Nat) (o : ScarfOp) (p : Nat) : List (Nat × Nat) :=
  [(s.pageAddr c p, 512), (s.pageAddr c p + 512 + o.layer * s.layerBytes o.kvClass, s.layerBytes o.kvClass)]

/-- SCORE additions of the rows of a record's last token (R154). -/
def State.addScores (s : State) (k : Nat) (last : Nat) (seed : Nat) (sums : List (QRow × RowSum)) : State :=
  let c := s.get .ses_CONTEXT k
  let rows := sums.filter (fun p => p.1.pos == last)
  let at' := ((rows.flatMap (fun p => p.2.scores.map (fun x => (x.1.page, x.1.slot)))).eraseDups).filter
    (fun p => s.pageRefs c p.1 == 1)
  forEach at'.zipIdx (fun (p, i) s =>
    let terms := rows.flatMap (fun r => (r.2.scores.filter (fun x => x.1.page == p.1 && x.1.slot == p.2)).map (fun x =>
      let m := r.2.m.getD (.fin false 0 0)
      div32 (planeVal 0 (add32 (fBF16.decode (fBF16.round x.2)) m.negate)) r.2.l))
    let v := mortiseSum (subSeed seed i) (ofFP32 (s.slotScore c p.1 p.2) :: terms)
    s.writeNumVA c (s.pageAddr c p.1 + 256 + 4 * p.2) 4 (toFP32 v)) s

/-- One sequence of an output tile: its rows against its pages; the code of a walk failure, 0 for none. A slot header that is already bad
fails the walk whichever pages the rows need (Table Scarf-13). -/
def State.scarfSeq (s : State) (w : Work) (o : ScarfOp) (k : Nat) (x : Snapshot) (r : StepRec) (rows : List QRow) (mem : ReadOutcome) :
    State × Nat × List (QRow × RowSum) :=
  let n := w.bent
  let c := s.get .ses_CONTEXT k
  let d := x.descs.getD r.seq {}
  let fault := fun (s : State) (code : Nat) =>
    let s := (s.bump .scarf_WALK_FAULTS n).set .scarf_WALK_FAULT_SEEN n 1
    (s.setReason k r.seq code, code, ([] : List (QRow × RowSum)))
  let (s, m) := s.takeRanges n c (s.walkRanges k r.seq d) mem
  if m.code ≠ 0 then fault s (walkFailure m.code)
  else if s.walkCode c d ≠ 0 then fault s (s.walkCode c d)
  else
    let heads := s.linesFor c ((s.pagesOf c d).map (fun p => (s.pageAddr c p, 512)))
    let (s, ok) := s.readBlocks (heads.filter (fun b => s.memory.bad.contains b)) .clean 0
    if !ok then fault s 0x040D
    else
    let groups := tokenGroups o rows
    let bounds := (List.range d.npages).map (fun m =>
      let e := s.listEntry c d m
      (e.page, ({ live := e.live, lo := e.minpos, hi := e.maxpos, slots := [] } : KeyBlock)))
    let reads := groups.flatMap (fun g => (bounds.filter (fun b => !skipsBlock o g b.2)).map (·.1))
    let (s, m) := s.takeRanges n c (reads.eraseDups.flatMap (s.pageRanges c o)) mem
    if m.code ≠ 0 then fault s (walkFailure m.code)
    else
      let s := s.bump .scarf_PAGES_READ n reads.length
      let gs := groups.zipIdx.map (fun (g, i) => attendGroup o (subSeed s.free (r.seq * 2 ^ 16 + i)) g (s.pagedBlocks c o d))
      ((s.warn w.job.id m.warning).scarfCount n gs, 0, gs.flatMap (·.sums))

/-- Memory after the new keys and values of a step: the first tile of a PAGED operator writes them, unless one of their tiles is poisoned
(R154). -/
def State.pagedNew (s : State) (w : Work) (o : ScarfOp) (x : Snapshot) : State :=
  if w.q = 0 ∧ poisonOf (s.operand w 1 ++ s.operand w 2) = 0 then
    s.writeNewKV w o x.session x.recs (stackRows ((s.operand w 1).map (·.tile))) (stackRows ((s.operand w 2).map (·.tile)))
  else s

/-- The record of the step and the token within it that row `r` of a PAGED query tile belongs to. ORIGIN_Y of the tile counts matrix rows of
the step (log entry 106). -/
def State.rowToken (s : State) (w : Work) (o : ScarfOp) (recs : List StepRec) (r : Nat) : Option (StepRec × Nat) :=
  let nq := o.g * o.nkv
  tokenOf recs (((s.operand w 0).head?.map (·.desc.oy)).getD 0 / nq + r / nq)

/-- Rows of a PAGED query tile whose record stepped, each with its record. -/
def State.pagedRows (s : State) (w : Work) (o : ScarfOp) (recs : List StepRec) (qt : Tile) : List (StepRec × QRow) :=
  (List.range qt.h).filterMap (fun r =>
    match s.rowToken w o recs r with
    | some (rc, t) =>
      if rc.stepped then some (rc, ({ row := r, head := r % (o.g * o.nkv) / o.g, pos := rc.base + t, q := qt.rowVals r } : QRow)) else none
    | none => none)

/-- The rows of record `rc` against its sequence: the first code of a failed read so far, 0 for none, and the sums of the rows. -/
def State.pagedRecord (w : Work) (o : ScarfOp) (x : Snapshot) (mem : ReadOutcome) (rows : List (StepRec × QRow))
    (acc : State × Nat × List (QRow × RowSum)) (rc : StepRec) : State × Nat × List (QRow × RowSum) :=
  let k := x.session
  let (s, e, l) := acc.1.scarfSeq w o k x rc ((rows.filter (fun p => p.1 == rc)).map (·.2)) mem
  (if e = 0 && bit (s.get .ses_D2 k) 6 then s.addScores k (rc.base + rc.ntok - 1) (subSeed (s.free + 1) rc.seq) l else s,
    if acc.2.1 = 0 then e else acc.2.1, acc.2.2 ++ l)

/-- Reason for which a PAGED output tile is poisoned before any page is read, 0 for none: an input's, that of the step list that could not
be read at the job's start, which leaves no row known, or that of a row whose record's walk failed (R167). -/
def State.pagedPoison (s : State) (w : Work) (o : ScarfOp) (x : Snapshot) (rows poison : Nat) : Nat :=
  if poison ≠ 0 then poison
  else if x.failed ≠ 0 then x.failed
  else ((List.range rows).findSome? (fun r =>
    match s.rowToken w o x.recs r with | some (rc, _) => if rc.unread then some rc.code else none | none => none)).getD 0

/-- A PAGED operator (R150 to R157, R167). -/
def State.scarfPaged (s : State) (w : Work) (o : ScarfOp) (poison : Nat) (mem : ReadOutcome) : State × Made :=
  let qt := stackRows ((s.operand w 0).map (·.tile))
  match ((s.job w.job.id).bind (·.snapshot)) with
  | none => (s, .poison 0)
  | some x =>
    let s := s.pagedNew w o x
    let why := s.pagedPoison w o x qt.h poison
    if why ≠ 0 then (s, .poison why)
    else
      let rows := s.pagedRows w o x.recs qt
      let (s, code, sums) := ((rows.map (·.1)).eraseDups).foldl (State.pagedRecord w o x mem rows) (s, 0, [])
      let s : State := { s with free := s.free + 2 }
      if code ≠ 0 then (s, .poison code) else (s, w.scarfOut o qt.h sums)

/-- A Scarf operator; `poison` is the reason of a poisoned input, 0 for none. -/
def State.scarfTile (s : State) (w : Work) (o : ScarfOp) (poison : Nat) (mem : ReadOutcome) : State × Made :=
  if o.paged then s.scarfPaged w o poison mem
  else if poison ≠ 0 then (s, .poison poison)
  else s.scarfDirect w o

end Sys2Proof.Machine
end

