-- ==== Sys2Proof/Machine/Recurrent.lean ====
section
/-! DEFINITION. Truss (05 R171 to R177, R186 to R189): the cells, the scan, reset marks and the rows of an output tile. -/

namespace Sys2Proof.Machine

/-! ## State vectors (R177) -/

/-- A vector of elements in SFMT: codes with their block scales. -/
structure SVec where
  codes : List Nat
  scales : List Nat := []
deriving DecidableEq, Repr

/-- Bytes of a state vector of `h` elements: elements, then scales, filled to a line. -/
def svecBytes (f : Fmt) (h : Nat) : Nat := cdiv (h * f.bits / 8 + (if f.isMX then h / 32 else 0)) 64 * 64

/-- The bytes of a state vector. -/
def SVec.encode (f : Fmt) (h : Nat) (v : SVec) : List Byte :=
  let bs := toBytes (h * f.bits / 8) (packCodes f.bits v.codes) ++ (if f.isMX then (v.scales.take (h / 32)).map (BitVec.ofNat 8) else [])
  bs ++ List.replicate (svecBytes f h - bs.length) 0

/-- The state vector that bytes hold. -/
def SVec.decode (f : Fmt) (h : Nat) (bs : List Byte) : SVec :=
  let n := h * f.bits / 8
  { codes := unpackCodes f.bits h (ofBytes (bs.take n)), scales := if f.isMX then ((bs.drop n).take (h / 32)).map (·.toNat) else [] }

/-- The vector as a matrix row. -/
def SVec.tile (f : Fmt) (h : Nat) (v : SVec) : Tile := { fmt := f, h := 1, w := h, c := 1, layout := 2, codes := v.codes, scales := v.scales }

/-- FP32 values of the elements. -/
def SVec.vals (f : Fmt) (h : Nat) (v : SVec) : List Val := ((v.tile f h).row 0).map (elemFP32 f)

/-- cvt of R173. -/
def cvtVec (f : Fmt) (h : Nat) (vs : List Val) : SVec × ConvCount :=
  let (t, c) := convertTile { fmt := f, h := 1, w := h, c := 1, layout := 2, codes := [] } vs false
  ({ codes := t.codes, scales := t.scales }, c)

/-! ## Cells (R173, R174) -/

/-- FP32 sum and product of Plane. -/
def plusP : PVal → PVal → PVal := PVal.op2 (fun a b => fp32 (a.add b))
def timesP : PVal → PVal → PVal := PVal.op2 (fun a b => fp32 (a.mul b))

/-- Sigmoid and tanh of Plane. -/
def sigmaP : PVal → PVal := PVal.op1 (planeVal 3)
def tanhP : PVal → PVal := PVal.op1 (planeVal 4)

/-- Entry `e` of block `k` of a vector of blocks of `n`. -/
def gate {α : Type} (n : Nat) (z : α) (l : List α) (k e : Nat) : α := l.getD (k * n + e) z

/-- u = U h in Mortise, with the channel scales of an integer U applied afterwards (02 R72). -/
def recurrentProduct (pl : Nat) (bf : Bool) (f : Fmt) (u : Tile) (h : List Elem) (seed : Nat) : List PVal :=
  (List.range u.h).map (fun r =>
    let a : PVal := { v := ofFP32 (mortiseDot pl bf f u.fmt 0 (subSeed seed r) h (u.row r)).code }
    if u.fmt.isChan then timesP a { v := ofFP32 (u.scales.getD r 0x3F800000) } else a)

/-- One step of GATED3 for all elements: the FP32 values of the new h. -/
def gated3 (n : Nat) (x : List Val) (u : List PVal) (bun : List Nat) (h : List Val) : List PVal :=
  let z0 : PVal := { v := zeroVal }
  (List.range n).map (fun e =>
    let gx := fun k => ({ v := gate n zeroVal x k e } : PVal)
    let gu := fun k => gate n z0 u k e
    let r := sigmaP (plusP (gx 0) (gu 0))
    let z := sigmaP (plusP (gx 1) (gu 1))
    let m := tanhP (plusP (gx 2) (timesP r (plusP (gu 2) { v := ofFP32 (bun.getD e 0) })))
    plusP (timesP (plusP { v := .fin false 1 0 } { z with v := z.v.negate }) m) (timesP { v := z.v } { v := h.getD e zeroVal }))

/-- GATED4: the FP32 values of the new c. -/
def gated4c (n : Nat) (x : List Val) (u : List PVal) (c : List Val) : List PVal :=
  (List.range n).map (fun e =>
    let s := fun k => plusP { v := gate n zeroVal x k e } (gate n { v := zeroVal } u k e)
    plusP (timesP (sigmaP (s 1)) { v := c.getD e zeroVal }) (timesP (sigmaP (s 0)) (tanhP (s 2))))

/-- GATED4: the FP32 values of the new h from the converted c. -/
def gated4h (n : Nat) (x : List Val) (u : List PVal) (c : List Val) : List PVal :=
  (List.range n).map (fun e =>
    timesP (sigmaP (plusP { v := gate n zeroVal x 3 e } (gate n { v := zeroVal } u 3 e))) (tanhP { v := c.getD e zeroVal }))

/-- FP32 product of the scan. -/
def times32 (a b : Val) : Val := fp32 (a.mul b)

/-- Combine (a, b) then (a', b') (R174). -/
def scanPair (p q : Nat × Nat) : Nat × Nat :=
  (toFP32 (times32 (ofFP32 q.1) (ofFP32 p.1)), toFP32 (fma32 (ofFP32 q.1) (ofFP32 p.2) (ofFP32 q.2)))

/-- Combine entry `i` of a list with the next one. -/
def combineAt : List (Nat × Nat) → Nat → List (Nat × Nat)
  | p :: q :: l, 0 => scanPair p q :: l
  | p :: l, i + 1 => p :: combineAt l i
  | l, _ => l

/-- The combination of a segment, pairs joined in an order that nothing fixes (R174). -/
def scanAll (seed : Nat) : Nat → List (Nat × Nat) → Nat × Nat
  | 0, l => l.headD (0, 0)
  | n + 1, l =>
    match l with
    | [] => (0, 0)
    | [p] => p
    | _ => scanAll seed n (combineAt l (Config.sumPick seed n % (l.length - 1)))

/-! ## Rows of a chunk-layer -/

/-- What a run of rows gives. -/
structure TrussRun where
  layer : ChunkLayer
  out : List SVec := []
  count : ConvCount := {}
  nan : Nat := 0
  marks : Nat := 0
  steps : Nat := 0
deriving DecidableEq, Repr

/-- The marks of a chunk, RESET_AT_START as an ALL_ROWS mark at step 0 (R188). -/
def Chunk.allMarks (ch : Chunk) : List (Nat × Nat × Bool) := (if ch.resetAtStart then [(0, 0, true)] else []) ++ ch.marks

/-- Marks that apply to row `i` at step `t`. -/
def Chunk.marksAt (ch : Chunk) (t i : Nat) : List (Nat × Nat × Bool) :=
  ch.allMarks.filter (fun (st, r, all) => st == t && (all || r == i))

/-- Replace `n` bytes at `o`. -/
def putBytes (bs : List Byte) (o : Nat) (v : List Byte) : List Byte := bs.take o ++ v ++ bs.drop (o + v.length)

/-- Compute the next row of a chunk-layer from the pre-activation row (R172 to R175, R188, R189); `init` is the initial state of one
batch row. -/
def State.trussRow (s : State) (n : Nat) (o : TrussOp) (f : Fmt) (ch : Chunk) (u : Tile) (init : List Byte) (x : List Val) (seed : Nat)
    (run : TrussRun) : TrussRun :=
  let ly := run.layer
  let batch := s.batch ch.stream
  let t := ly.rows / batch
  let i := ly.rows % batch
  let ms := ch.marksAt t i
  let lrow := s.lrow ch.stream o.layer
  let v := svecBytes f o.h
  let row := if ms.isEmpty then (ly.state.drop (i * lrow)).take lrow else init
  let h := SVec.decode f o.h (row.take v)
  let hv := h.vals f o.h
  let pl := 96 * s.get .mor_ARRAYS n
  let bf := f == .bf16 || u.fmt == .bf16
  let counted := (ms.filter (fun (_, r, all) => if all then i == 0 else r == i)).length
  let finish := fun (state : List Byte) (scan : List (List (Nat × Nat))) (hn : SVec) (c : ConvCount) (nan : Nat) =>
    { layer := { ly with rows := ly.rows + 1, state := putBytes ly.state (i * lrow) state, scan := scan }
      out := run.out ++ [hn], count := run.count.add c, nan := run.nan + nan
      marks := run.marks + counted, steps := run.steps + b2n (i + 1 == batch) : TrussRun }
  match o.cell with
  | .gated3 =>
    let vals := gated3 o.h x (recurrentProduct pl bf f u ((h.tile f o.h).row 0) seed) o.bun hv
    let (hn, c) := cvtVec f o.h (vals.map PVal.v)
    finish (hn.encode f o.h) ly.scan hn c (vals.map PVal.made).sum
  | .gated4 =>
    let c0 := SVec.decode f o.h ((row.drop v).take v)
    let uv := recurrentProduct pl bf f u ((h.tile f o.h).row 0) seed
    let cs := gated4c o.h x uv (c0.vals f o.h)
    let (cn, k1) := cvtVec f o.h (cs.map PVal.v)
    let vals := gated4h o.h x uv (cn.vals f o.h)
    let (hn, k2) := cvtVec f o.h (vals.map PVal.v)
    finish (hn.encode f o.h ++ cn.encode f o.h) ly.scan hn (k1.add k2) ((cs ++ vals).map PVal.made).sum
  | .linear =>
    let fresh := t = 0 ∨ !ms.isEmpty
    let scan := (List.range o.h).map (fun e =>
      let old := if fresh then [(0, toFP32 (hv.getD e zeroVal))] else ly.scan.getD (i * o.h + e) []
      old ++ [(toFP32 (x.getD e zeroVal), toFP32 (x.getD (o.h + e) zeroVal))])
    let vals := scan.zipIdx.map (fun (l, e) => ofFP32 (scanAll (subSeed seed e) l.length l).2)
    let nan := ((vals.zip (scan.zip hv)).filter (fun (r, l, h0) =>
      r == .nan && h0 != .nan && !l.any (fun p => ofFP32 p.1 == .nan || ofFP32 p.2 == .nan))).length
    let (hn, c) := cvtVec f o.h vals
    let all := (List.range (batch * o.h)).map (fun k =>
      if k / o.h = i then scan.getD (k % o.h) [] else ly.scan.getD k [])
    finish (hn.encode f o.h) all hn c nan

/-- FP32 values of input row `r` of the chunk, with the tile that holds it. -/
def inputRow (l : List TileIn) (r : Nat) : Option (TileIn × List Val) :=
  (l.find? (fun t => decide (t.tile.oy ≤ r) && decide (r < t.tile.oy + t.tile.h))).map (fun t =>
    (t, (t.tile.row (r - t.tile.oy)).map (elemFP32 t.tile.fmt)))

/-- Initial state of one batch row for an output tile of `rows` rows, which Dowel reads where a row starts from it (R179): the bytes,
and 0 or the code of the read. -/
def State.trussInit (s : State) (w : Work) (o : TrussOp) (ch : Chunk) (first rows : Nat) (env : TileEnv) : State × List Byte × Nat :=
  let k := ch.stream
  let batch := s.batch k
  let n := s.lrow k o.layer
  if s.initMode k = 0 ∨ !(rangeFrom first rows).any (fun r => !(ch.marksAt (r / batch) (r % batch)).isEmpty) then (s, List.replicate n 0, 0)
  else
    let (s, m) := s.dowelRead w.bent w.job.ctx (s.initAddr k + s.lrowBefore k o.layer) n env.mem env.host
    ((s.warn w.job.id m.warning).readFailed w.job.id m.code, m.bytes, m.code)

/-- A chunk-layer moves on by `rows` rows that it does not compute. -/
def ChunkLayer.pass (y : ChunkLayer) (rows poison : Nat) (done : Bool) : ChunkLayer :=
  { y with rows := y.rows + rows, poison := poison, done := done }

/-- A Truss operator: output tile `q`, one row for each input row up to NSTEPS x BATCH (R172 to R175, R179, R186, R187). `poison` is the
reason of a poisoned input row, 0 for none. -/
def State.trussTile (s : State) (w : Work) (o : TrussOp) (poison : Nat) (env : TileEnv) : State × Made :=
  match w.job.chunk with
  | none => (s, .poison 0)
  | some ch =>
    match ch.layers.find? (fun l => l.layer == o.layer && l.bent == w.bent) with
    | none => (s, .poison 0)
    | some ly =>
      let l := s.operand w 0
      let total := ch.nsteps * s.batch ch.stream
      let rows := min w.shape.h (total - ly.rows)
      let isEnd := decide (total ≤ ly.rows + rows) || w.q + 1 == w.job.ntiles w.op w.defn
      if ly.poison ≠ 0 then
        (s.updLayer w.job.id o.layer w.bent (fun y => y.pass rows ly.poison isEnd), .poison ly.poison)
      else
        let (s, init, code) := if poison = 0 then s.trussInit w o ch ly.rows rows env else (s, [], poison)
        if code ≠ 0 then
          ((s.chunkAbort w.job.id code).updLayer w.job.id o.layer w.bent (fun y => y.pass rows code isEnd), .poison code)
        else
          let f := fmtOf (s.get .rcl_SFMT o.rclass)
          let u := stackRows ((s.operand w 1).map (·.tile))
          let run := (List.range rows).foldl (fun (run : TrussRun) k =>
            match inputRow l (ly.rows + k) with
            | some (_, x) => s.trussRow w.bent o f ch u init x (subSeed s.free k) run
            | none => run) { layer := ly }
          let done := decide (total ≤ run.layer.rows)
          let short := l.any (fun t => t.desc.last && decide (t.tile.oy + t.tile.h < total))
          let s : State := { s with free := s.free + 1 }
          let s := s.updLayer w.job.id o.layer w.bent (fun _ => { run.layer with done := done || isEnd })
          let s := (s.bump .truss_STEPS w.bent run.steps).bump .truss_MARKS_APPLIED w.bent run.marks
          let s := if short then s.chunkAbort w.job.id 0x0506 else s
          if run.out.isEmpty then (s, .poison 0x0506)
          else
            (s, .converted { w.blank with fmt := f, layout := 2, h := run.out.length, w := o.h, c := 1, codes := run.out.flatMap (·.codes)
                                          scales := run.out.flatMap (·.scales) } run.count run.nan)

end Sys2Proof.Machine
end

