-- ==== Sys2Proof/Machine/Tiles.lean ====
section
/-! DEFINITION. TILE_COMPUTE: a station takes a ready tile, computes it, writes the output tile and issues the pegs (01 R23 to R36,
R55 to R58), and the commands that finish a table build, a stuck host read and a failed Mortise array. -/

namespace Sys2Proof.Machine

/-! ## Computing -/

/-- Reason with which an output tile is poisoned before its operator runs: the Kerf half, the first poisoned input, a Loft line, a
streamed block. -/
def State.reasonOf (s : State) (w : Work) (half : Option KerfHalf) (ins : List TileIn) (bad : Nat) : Nat :=
  match half with
  | some h => if h.poison then h.reason else if poisonOf ins ≠ 0 then poisonOf ins else if bad ≠ 0 then bad else stream
  | none => if poisonOf ins ≠ 0 then poisonOf ins else if bad ≠ 0 then bad else stream
where
  stream : Nat := match w.defn.kind with | .mortise o => s.streamPoison w o | _ => 0

/-- Loft lines, by bent and line, that a work item reads (06 R213): those of its tiles, for Scribe those that hold a fetched element (03
R95), for a streamed operand of Mortise those of the weight-stream ring, for Truss those of the state cache (06 R211). Where in its ring or
cache a block or a part lies is left open. -/
def State.linesTaken (s : State) (w : Work) (ins : List TileIn) : Nat → Nat → Bool :=
  let cache := s.get .truss_CACHE_LINES w.bent
  match w.defn.kind with
  | .scribe o => let lines := s.scribeLines w o; fun n y => lines.contains (n, y)
  | .mortise o => fun n y => wholeTiles ins n y || (o.stream.isSome && n == w.bent && decide (cache ≤ y) && decide (y < s.slotSpace w.bent))
  | .truss _ => fun n y => wholeTiles ins n y || (n == w.bent && decide (y < cache))
  | _ => wholeTiles ins

/-- The operator of a work item on its inputs. -/
def State.compute (s : State) (w : Work) (env : TileEnv) : State × Flags × Made :=
  match w.defn.kind, w.audioRing with
  | .auger a srcs, _ => s.augerTile w a srcs env
  | _, some hq => s.audioTile w hq env
  | k, none =>
    let half := if k.readsKerf then s.kerfHalf w else none
    let ins := s.operands w
    let f := (match half with | some h => h.flags | none => {}).or (orFlags ins)
    let f := match k with
      | .load o =>
        let x := w.shape
        f.or (s.lineFlags w.job.ctx (w.job.address o.addr + o.offs.getD w.q 0) (tileLines x.fmt x.h x.w x.c x.layout * 64))
      | _ => f
    let (s, bad) := s.loftRead (s.linesTaken w ins) env.loft
    let r := s.reasonOf w half ins bad
    let (s, m) : State × Made :=
      match k with
      | .scribe o => s.scribeTile w o r
      | .truss o => s.trussTile w o r env
      | .scarf o => s.scarfTile w o r env.mem
      | .store o => (s.storeTile w o r, if r = 0 then .skipped (0, 0) else .poison r)
      | .load o => s.loadTile w o env
      | .mortise o => if r = 0 then s.mortiseTile w o half else (s, .poison r)
      | .plane o => if r = 0 then s.planeTile w o half else (s, .poison r)
      | .decode => if r = 0 then (match ins with | t :: _ => s.decodeTile w t | [] => (s, .poison 0)) else (s, .poison r)
      | .histogram o => if r = 0 then (match ins with | t :: _ => s.histTile w o t.tile | [] => (s, .poison 0)) else (s, .poison r)
      | .auger _ _ => (s, .poison r)
    let s := match half with | some h => s.freeHalf h | none => s
    let s := match k with | .mortise o => s.freeBlocks w o | _ => s
    (s, f, m)

/-! ## After a tile -/

/-- Peg operations that an operator issues after output tile `q`. -/
def State.issuePegs (s : State) (j : Job) (d : OpDef) (q : Nat) : State :=
  forEach (d.pegs.filter (fun p => p.tile == q)) (fun p s =>
    s.jobPegRef j.id (s.pegName j p.peg) p.act (if p.useRead then ((s.job j.id).getD j).pegRead else p.value) p.runb p.channel) s

/-- Scheduling marks of a tile (R55, R57; Table Stations-13). A station switches context when it takes a tile of another context than
it served last; the first tile that it ever takes is no switch (log entry 24). -/
def State.served (s : State) (w : Work) : State :=
  let key := w.bent * 16 + w.defn.kind.station.code
  let last := Store.get 0 s.lastContext key
  let s := if last = 0 ∨ last = w.job.ctx + 1 then s else s.bump .bent_SWITCH_COUNT w.bent
  { s with
    lastServed := Store.put 0 s.lastServed key (w.slot + 1), lastContext := Store.put 0 s.lastContext key (w.job.ctx + 1)
    decisions := s.decisions + 1
    residents := mapWhere (fun x => x.bent == w.bent && x.slot == w.slot) (fun x => { x with served := s.decisions + 1 }) s.residents }

/-- The PAGED operators of the job have no tile left: the generation is let go (R168). -/
def State.dropGeneration (s : State) (j : JobId) : State :=
  match s.job j with
  | none => s
  | some x =>
    match s.graph x.graph with
    | none => s
    | some g =>
      let left := g.ops.zipIdx.any (fun (d, i) =>
        match d.kind with | .scarf o => o.paged && decide (x.tilesDone i < x.ntiles i d) | _ => false)
      if x.holdsGeneration && !left then s.updJob j (fun y => { y with holdsGeneration := false }) else s

/-- Count the tile, move the job on, and issue the pegs that follow (R26, R32, R36). -/
def State.tileDone (s : State) (w : Work) (poison : Nat) (rerun : Bool) : State :=
  let n := w.bent
  let s := ((s.bump .bent_TILE_COUNT n).bump .slot_TILES (n * 64 + w.slot)).served w
  let s := if poison ≠ 0 then (s.bump .bent_POISON_COUNT n).set .bent_POISON_SEEN n 1 else s
  let s := s.updJob w.job.id (fun x => { x with
    progress := Store.put 0 x.progress (w.op * 8 + w.defn.pos) (w.q + 1)
    poison := if x.poison = 0 then poison else x.poison, poisoned := x.poisoned || poison != 0, rerun := x.rerun || rerun })
  let s := match w.defn.out.bind (s.regionRef w.job) with
    | some x => s.jobPeg w.job.id x.fullPeg .add 1
    | none => s
  let s := if s.building w then s.holdTile w else s.issuePegs w.job w.defn w.q
  let s := s.releaseInputs w.job.id
  let s := s.issueWaits w.job w.op w.defn (w.q + 1)
  (s.dropGeneration w.job.id).settleJob w.job.id

/-- Compute one work item and write its output tile. A job that faults on the way writes nothing more (R52). -/
def State.runWork (s : State) (w : Work) (env : TileEnv) : State :=
  let id := w.job.id
  let (s, f, m) := s.withHalves id (fun s => s.written (some id) env.mem env.wr (fun s => s.catchPartial id (fun s => s.compute w env)))
  match s.job w.job.id with
  | none => s
  | some j =>
    if j.finished then s
    else
      let poison := match m with | .poison r => r | _ => 0
      match w.defn.out.bind (s.regionRef w.job) with
      | none => s.tileDone w poison false
      | some r =>
        let (s, out) := s.finishTile w f m
        (s.putTile r w.q out.desc out.bytes out.marks (s.guardedLoad w)).tileDone w poison (out.desc.fmt == Fmt.bf16.code && out.desc.flags.rerun && !f.rerun)

/-- The bent may compute: in service and ON with no transition or operating-point change begun (15 R453, 16 R464), not under test (17
R496), the clocks running (15 R460), no coolant stop (16 R477). -/
def State.bentComputes (s : State) (n : Nat) : Bool :=
  s.on .bent_PRESENT n && s.get .bent_PWR n == 2 && !s.on .dom_CHANGING (s.get .bent_PHYSICAL n) &&
    !s.on .unit_IN_RESET (s.get .bent_PHYSICAL n) && !s.power.changing.any (fun p => p.1 == n) && !s.clocks.stopped &&
    !s.on .pwr_COOLANT_STOP

/-- The tile reads or writes GDDR6. -/
def State.touchesMemory (s : State) (w : Work) : Bool :=
  match w.defn.kind with
  | .load o =>
    w.audioRing.isSome ||
      (match s.place w.job.ctx (w.job.address o.addr + o.offs.getD w.q 0) with | some (.host _) => false | _ => true)
  | .store _ => true
  | .auger _ srcs => srcs.any (fun x => match x with | .memory _ _ => true | .loft _ => false)
  | .scarf o => o.paged
  | .truss _ => (match w.job.chunk with | some ch => s.initMode ch.stream != 0 | none => false)
  | _ => false

/-- A ready tile of a bent that is in RETENTION or on its way there demands its domains (15 R450, R456). -/
def State.demandBent (s : State) (n : Nat) : State :=
  if s.on .bent_PRESENT n && [Station.mortise, .plane, .scribe, .auger, .scarf, .truss, .dowel, .froe, .gauge].any (fun st => (s.pickWork n st).isSome) then
    (bentDomains (s.get .bent_PHYSICAL n)).foldl State.demand s
  else s

/-- The bent of a station takes a tile: filler ends (11 R357), and the time of a Mortise tile is kept (16 R474). -/
def State.takeTile (s : State) (n : Nat) (st : Station) : State :=
  let s := s.fillerStop n
  if st = .mortise then { s with power := { s.power with mortiseTiles := Store.put 0 s.power.mortiseTiles n (s.now + 1) } } else s

/-- TILE_COMPUTE (R26, R55 to R57): transactions with a stale incarnation that arrive are dropped (R43, 17 R487), and the station takes
its tile. A tile that is taken ends filler on the bent (11 R357). An access to GDDR6 waits while none is admitted (06 R224). -/
def State.tileCompute (s : State) (n : Nat) (st : Station) (env : TileEnv) : State :=
  let s := s.dropAll env.late
  if !s.bentComputes n then s.demandBent n
  else
    match s.pickWork n st with
    | none => s
    | some w =>
      if s.touchesMemory w then s.awaken (fun s => (s.takeTile n st).runWork w env) else (s.takeTile n st).runWork w env

/-- Meaning of TILE_COMPUTE. -/
def execTileCompute (n : Fin 8) (st : Station) (env : TileEnv) (s : State) : Host.Outcome State Fault Refusal :=
  .next (s.tileCompute n.val st env)

/-- The load of a job that waits for the host tier: the first ready one, by bent. -/
def State.hostLoad (s : State) (j : JobId) : Option Work :=
  (List.range 8).findSome? (fun n =>
    ((s.works n .dowel).filter (fun w => w.job.id == j && s.workReady w)).find? (fun w =>
      match w.defn.kind with
      | .load o => (match s.place w.job.ctx (w.job.address o.addr + o.offs.getD w.q 0) with | some (.host _) => true | _ => false)
      | _ => false))

/-- HOST_READ_TIMEOUT (06 R225): the read fails, and the tile that it feeds is poisoned with HOST_FAULT. -/
def State.hostReadTimeout (s : State) (j : JobId) : State :=
  match s.hostLoad j with
  | some w => s.runWork w { host := .noAnswer }
  | none => s

/-- Meaning of HOST_READ_TIMEOUT. -/
def execHostReadTimeout (j : JobId) (s : State) : Host.Outcome State Fault Refusal := .next (s.hostReadTimeout j)

/-! ## L1 (13 R394) -/

/-- Every queue of the host port is empty, the peg event queue among them, and no device request is outstanding (13 R394). -/
def State.hostPortIdle (s : State) : Bool :=
  (s.indices .pba_PENDING).isEmpty && s.ringsOpening.isEmpty && s.get .host_PEG_EVQ_HEAD == s.get .host_PEG_EVQ_TAIL &&
    !s.jobs.any (fun j => j.finished || (s.hostLoad j.id).isSome)

/-- Meaning of L1_ENTRY (13 R394, 15 Table Clocks-6): the UCIe and endpoint domains enter RETENTION. -/
def execL1Entry (s : State) : Host.Outcome State Fault Refusal :=
  .next (if s.hostPortIdle && [147, 148, 149].all s.takesWork then s.setDoms [147, 148, 149] 1 else s)

/-! ## Table builds (07 R243) -/

/-- The sample of a build is complete: HIST_BLOCKS blocks, or the operand has no more from any of its stores. -/
def State.sampleComplete (s : State) (b : FroeBuild) : Bool :=
  decide (b.hist ≤ b.held.length) ||
    (match s.job b.job with
     | some j =>
       (match s.graph j.graph with
        | some g => g.ops.zipIdx.all (fun (d, i) =>
            (g.storedOperand i).isNone || g.operandKey i != b.op || decide (j.ntiles i d ≤ j.tilesDone i))
        | none => true)
     | none => true)

/-- A new table replaces an older VALID one of the same owner and id (R243). -/
def State.supersedeTables (s : State) (k : Nat) : State :=
  forEach ((List.range 64).filter (fun x =>
    x != k && s.on .ftab_VALID x && !s.on .ftab_SUPERSEDED x && s.get .ftab_OWNER x == s.get .ftab_OWNER k &&
      s.get .ftab_TABLE_ID x == s.get .ftab_TABLE_ID k)) (fun x s =>
    ((s.set .ftab_SUPERSEDED x 1).bump .froe_SLOTS_SUPERSEDED).drop .froe_SLOTS_VALID) s

/-- A held block goes through its encoder once the table is there (R243). -/
def State.writeHeld (s : State) (j : Job) (g : Graph) (key : Nat) (h : HeldBlock) : State :=
  match (g.ops[h.op]?).map OpDef.kind with
  | some (.store o) => s.encodeBlock h.bent j key o.coding h.addr h.bytes
  | _ => s

/-- The operands of a build are written: the peg operations of the tiles that waited for it follow, and their inputs are released (01
R36). -/
def State.releaseHeld (s : State) (j : Job) (g : Graph) (tiles : List (Nat × Nat)) : State :=
  (forEach tiles (fun t s => match g.ops[t.1]? with | some d => s.issuePegs j d t.2 | none => s) s).releaseInputs j.id

/-- TABLE_BUILD_DONE: the slot becomes VALID and the held blocks are coded. -/
def State.tableBuildDone (s : State) (k : Nat) (rd : ReadOutcome) (wr : WriteOutcome) : State :=
  match s.froeBuilds.find? (fun b => b.slot == k) with
  | none => s
  | some b =>
    match (s.job b.job).bind (fun j => (s.graph j.graph).map (fun g => (j, g))) with
    | none => s.dropBuilds b.job
    | some (j, g) =>
      if !s.sampleComplete b then s
      else
        let rest := s.froeBuilds.filter (fun x => x.slot != k)
        let ls := buildLengths (byteNats ((b.held.take b.hist).flatMap (·.bytes)))
        let s : State := { s with froeBuilds := rest, froeTables := s.froeTables.filter (fun p => p.1 != k) ++ [(k, ls)] }
        let c := s.get .ftab_OWNER k
        let gen := s.nextGen c (s.get .ftab_TABLE_ID k)
        let s : State := { s with froeGen := Store.put 0 s.froeGen (c * 256 + s.get .ftab_TABLE_ID k) gen }
        let s := s.setAll k [(.ftab_VALID, 1), (.ftab_BUILDING, 0), (.ftab_GEN, gen)]
        let s := ((s.bump .froe_BUILDS).bump .froe_SLOTS_VALID).supersedeTables k
        let (s, _) := s.withHalves j.id (fun s =>
          (s.writes (some j.id) rd wr (fun s => forEach b.held (fun h s => s.writeHeld j g b.op h) s), ()))
        (s.releaseHeld j g b.tiles).settleJob j.id

/-- Meaning of TABLE_BUILD_DONE. -/
def execTableBuildDone (sl : Met (Fin 64)) (s : State) : Host.Outcome State Fault Refusal :=
  .next (s.tableBuildDone sl.val.val sl.rd sl.wr)

/-! ## Mortise arrays (03 R108) -/

/-- ARRAY_RETIRE (R108, 17 R486): the spare array takes the place of a failed one, or the station runs with 15. `during` says that the
failure was found during a tile, whose passes Mortise then repeats. With no spare left and 15 arrays in service a further failure leaves
14, and so on (log entry 104). -/
def State.arrayRetire (s : State) (n a : Nat) (during : Bool) : State :=
  let m := s.get .mor_ARRAY_IN_SERVICE n
  if !bit m a || !s.on .bent_PRESENT n then s
  else
    let sp := s.get .mor_SPARE_ARRAY n
    let s := s.set .mor_ARRAY_RETIRED n 1
    let s := if during then s.bump .mor_REPEATS n else s
    let out := setBits m a 1 0
    if sp < 17 ∧ !s.on .mor_SPARE_USED n then
      s.setAll n [(.mor_ARRAY_IN_SERVICE, setBits out sp 1 1), (.mor_SPARE_ARRAY, 31), (.mor_SPARE_USED, 1)]
    else
      ((s.setAll n [(.mor_ARRAY_IN_SERVICE, out), (.mor_ARRAYS, popcount 17 out)]).drop .rec_ARRAYS_IN_SERVICE).reduce 1

/-- Meaning of ARRAY_RETIRE. -/
def execArrayRetire (n : Fin 8) (a : Fin 17) (during : Bool) (s : State) : Host.Outcome State Fault Refusal :=
  .next (s.arrayRetire n.val a.val during)

end Sys2Proof.Machine
end

