-- ==== Sys2Proof/Machine/Clocks.lean ====
section
/-! DEFINITION. Power domains and wakes (15 R446 to R460). -/

namespace Sys2Proof.Machine

/-- Physical bent of a bent domain. -/
def domBent (d : Nat) : Option Nat :=
  if d < 9 then some d else if d < 18 then some (d - 9) else if d < 54 then some ((d - 18) / 4) else none

/-- Domains whose transitions have steps of their own: GDDR6 (Table Memory-7) and the host port (13 R394). -/
def ownSteps (d : Nat) : Bool := (55 ≤ d && d ≤ 66) || (147 ≤ d && d ≤ 149)

/-- A Foreman is in charge (17 R492): from step 8 of start-up until the last-resort sequencer acts. -/
def State.foremanUp (s : State) : Bool :=
  (s.boot.phase == .running || s.boot.phase == .ready) && !s.boot.lastResort && !s.boot.sillLost

/-! ## Entry (R453, Table Clocks-4) -/

/-- Nothing keeps the domain from a lower state (R446, R448, R450). -/
def State.mayLower (s : State) (d : Nat) (off : Bool) : Bool :=
  let target := if off then 0 else 1
  let below := (domChildren d).all (fun c => s.get .dom_TARGET c ≤ target)
  let work :=
    match domBent d with
    | some p =>
      match s.logicalOf p with
      | none => true
      | some n =>
        ([Station.mortise, .plane, .scribe, .auger, .scarf, .truss, .dowel, .froe, .gauge].all (fun st => (s.pickWork n st).isNone)) &&
          (!off || !s.residents.any (fun x => x.bent == n))
    | none =>
      if 69 ≤ d ∧ d < 85 then
        let ks := s.jointerStreams ((d - 69) % 8)
        if off then ks.isEmpty else !s.camera.frames.any (fun f => ks.contains f.stream && !f.skipped)
      else !off || !s.servingDomains.contains d
  !s.alwaysOn.contains d && !ownSteps d && below && work && !(off && d == 150)

/-- Step 1 of an entry: TARGET takes the lower state and CHANGING is set. -/
def State.entryRequest (s : State) (d : Nat) (off : Bool) : State :=
  let target := if off then 0 else 1
  if s.on .dom_CHANGING d || s.get .dom_STATE d ≤ target || !s.mayLower d off then s
  else s.setAll d [(.dom_TARGET, target), (.dom_CHANGING, 1)]

/-- Meaning of DOMAIN_ENTRY_REQUEST: Foreman's decision (R449). -/
def execDomainEntryRequest (d : Fin 152) (off : Bool) (s : State) : Host.Outcome State Fault Refusal :=
  .next (if s.foremanUp then s.entryRequest d.val off else s)

/-- Meaning of IDLE_RET_EXPIRY (R450): a domain whose kind the policy lists goes to RETENTION. -/
def execIdleRetExpiry (d : Fin 152) (s : State) : Host.Outcome State Fault Refusal :=
  .next (if s.foremanUp && s.policy.idle.any (fun p => p.1 == d.val) then s.entryRequest d.val false else s)

/-- Meaning of IDLE_OFF_EXPIRY (R450). -/
def execIdleOffExpiry (d : Fin 152) (s : State) : Host.Outcome State Fault Refusal :=
  .next (if s.foremanUp && s.policy.idle.any (fun p => p.1 == d.val) then s.entryRequest d.val true else s)

/-- The entry of domain `d` has passed step 3. -/
def State.isolated (s : State) (d : Nat) : Bool := s.clocks.isolated.any (fun p => p.1 == d)

/-- What the domain had taken before step 1 is done and its writes are visible (step 2): blocks in a bent's decoder and in the memory
encoders, the frame that a Jointer or its re-entry lane is in, the records of the buses, a program of Try-square, an operation on the flash.
Tiles end with the command that runs them. -/
def State.drained (s : State) (d : Nat) : Bool :=
  match domBent d with
  | some p =>
    match s.logicalOf p with
    | none => true
    | some n => !s.froeQueue.any (fun q => q.bent == n) && !s.froeBuilds.any (fun b => b.held.any (fun h => h.bent == n))
  | none =>
    if d = 67 ∨ d = 68 then s.froeBuilds.isEmpty
    else if 69 ≤ d ∧ d < 77 then
      !s.camera.frames.any (fun f => (s.jointerStreams (d - 69)).contains f.stream && decide (0 < f.served ∧ f.served < s.tmplHeight (s.camTmpl f.stream)))
    else if 77 ≤ d ∧ d < 85 then
      !s.camera.reentry.any (fun r => (s.jointerStreams (d - 77)).contains r.stream && decide (0 < r.served))
    else if 111 ≤ d ∧ d < 115 then !s.camera.queue.any (fun r => r.bus / 6 == d - 111)
    else if d = 145 then s.recovery.test.isNone
    else if d = 146 then s.boot.update.isNone
    else true

/-- DOMAIN_ISOLATE: steps 2 to 6. The edge latches of the wake sources that the domain serves are cleared. -/
def State.isolate (s : State) (d : Nat) : State :=
  if !s.on .dom_CHANGING d || s.get .dom_STATE d ≤ s.get .dom_TARGET d || s.isolated d || !s.drained d ||
      !(domChildren d).all (fun c => s.get .dom_STATE c ≤ s.get .dom_TARGET d) then s
  else { s with clocks := { s.clocks with
    isolated := s.clocks.isolated ++ [(d, s.now)], latched := s.clocks.latched.filter (· != d) } }

/-- Meaning of DOMAIN_ISOLATE. -/
def execDomainIsolate (d : Fin 152) (s : State) : Host.Outcome State Fault Refusal := .next (s.isolate d.val)

/-- Fields of a block that are not shadowed return to Reset when its domain loses power (R452, R454): those of `l` whose index divided
by `div` is `n`. -/
def State.forget (s : State) (l : List Reg) (div n : Nat) : State :=
  let ids := (l.filter (fun r => !r.info.kept)).map Reg.ctorIdx
  { s with regs := s.regs.filter (fun p => !(ids.contains (p.1 % 1024) && p.1 / 1024 / div == n)) }

/-- The Loft of logical bent `n` loses its data and WRITTEN bits, and the Truss parts of the bent are lost (05 R191). -/
def State.loseLoft (s : State) (n : Nat) : State :=
  let s := s.loseParts (fun q => q.bent == n)
  { s with lofts := { s.lofts with
      data := s.lofts.data.filter (fun p => p.1 / 2 ^ 26 != n)
      owner := s.lofts.owner.filter (fun p => p.1 / 2 ^ 20 != n)
      tiles := s.lofts.tiles.filter (fun t => t.bent != n) } }

/-- What logical bent `n` loses with its core domain (R450, R454): registers that are not shadowed, its Truss parts, Kerf halves and weight
blocks. RESIDENT, THROTTLED, which follows DUTY (16 R469), and the Mortise arrays in service are kept elsewhere, and OP starts again at
MAX_OP (16 R465). -/
def State.loseBent (s : State) (n : Nat) : State :=
  let s := s.loseParts (fun q => q.bent == n)
  let s : State := { s with kerf := s.kerf.filter (fun h => h.bent != n), wring := s.wring.filter (fun b => b.bent != n) }
  let keep := [Reg.bent_RESIDENT, .bent_THROTTLED, .mor_ARRAYS, .mor_SPARE_USED].map (fun r => (r, s.get r n))
  let s := s.forget (bentFields ++ morFields ++ planeFields ++ scribeFields ++ augerFields ++ scarfFields ++ trussFields ++ dowelFields ++
    fdecFields ++ gaugeFields ++ histFields) 1 n
  s.setAll n (keep ++ [(.bent_OP, s.get .pwrb_MAX_OP n)])

/-- The Froe table store loses its tables: every slot is free again, and builds end (07 R243). -/
def State.loseTables (s : State) : State :=
  forEach ((List.range 64).filter (fun k => s.on .ftab_VALID k || s.on .ftab_BUILDING k)) (fun k s => s.freeTable k)
    { s with froeBuilds := [], froeQueue := s.froeQueue.filter (fun q => q.slot.isNone) }

/-- The high-quality path loses its filters, its samples and the block in progress (10 R304, R305). -/
def State.loseHighPath (s : State) : State :=
  { s with audio := { s.audio with filters := s.audio.filters.filter (fun p => p.1 < 32), past := [], hq := [], hqClean := false } }

/-- What domain `d` loses when its supply is removed (Table Clocks-3). The counts of the streams and loops that stay enabled are
functions of the stream and loop tables. -/
def State.loseDomain (s : State) (d : Nat) : State :=
  match domBent d with
  | some p =>
    match s.logicalOf p with
    | none => s
    | some n => if d < 9 then s.loseBent n else if 18 ≤ d then s.loseLoft n else s.loseParts (fun q => q.bent == n)
  | none =>
    if d = 67 then { s with froeBuilds := [] }
    else if d = 68 then s.loseTables
    else if d = 109 then { s with camera := { s.camera with frames := s.camera.frames.filter (·.closed) } }
    else if d = 110 then { s with camera := { s.camera with queue := [], heldControls := [] } }
    else if d = 119 then s.loseHighPath
    else if d = 121 then { s with audio := { s.audio with activations := [] } }
    else if 69 ≤ d ∧ d < 77 then s.forget (jntFields.filter (fun r => r != .jnt_STREAMS && r != .jnt_REENTRY_STREAMS)) 1 (d - 69)
    else if 85 ≤ d ∧ d < 109 then s.forget portFields 1 (d - 85)
    else if 111 ≤ d ∧ d < 115 then (s.forget (i3cFields.filter (· != .i3c_LOOPS)) 6 (d - 111)).forget i3ctFields 96 (d - 111)
    else if 122 ≤ d ∧ d < 130 then (s.forget kportFields 1 (d - 122)).forget kruleFields 8 (d - 122)
    else s

/-- A domain enters state `st`; OFF loses what is not shadowed. -/
def State.lower (s : State) (d st : Nat) : State := (if st = 0 then s.loseDomain d else s).setDom d st

/-! ## Exit (R454, Table Clocks-5) -/

/-- Step 1 of an exit for domain `d` alone. Before step 3 of an entry it cancels the entry; after it, it is latched (R455). -/
def State.startExit (s : State) (d : Nat) : State :=
  if s.on .dom_HELD_OFF d then s
  else if 55 ≤ d ∧ d ≤ 66 then s.exitSelfRefresh
  else if s.isolated d then
    if s.clocks.latched.contains d then s else { s with clocks := { s.clocks with latched := s.clocks.latched ++ [d] } }
  else if s.get .dom_TARGET d = 2 then s
  else s.setAll d [(.dom_TARGET, 2), (.dom_CHANGING, b2n (s.get .dom_STATE d != 2))]

/-- Foreman brings domains toward ON: parents first, and otherwise in increasing domain number (R446, R458). -/
def State.bring (s : State) (ds : List Nat) : State :=
  let all := withParents ds
  ((List.range 6).flatMap (fun k => (List.range 152).filter (fun d => domDepth 5 d == k && all.contains d))).foldl State.startExit s

/-- Lowest domain that `bring` takes toward ON: one that is lower, or on its way down (R455, R459). -/
def State.lowestBrought (s : State) (ds : List Nat) : Option Nat :=
  (List.range 152).find? (fun d =>
    !s.takesWork d && !s.on .dom_HELD_OFF d && (ds.contains d || ds.any (fun e => (domAncestors 5 e).contains d)))

/-- Meaning of DOMAIN_EXIT_REQUEST. -/
def execDomainExitRequest (d : Fin 152) (s : State) : Host.Outcome State Fault Refusal :=
  .next (if s.foremanUp then s.bring [d.val] else s)

/-- DOMAIN_ENTRY_DONE: STATE takes TARGET (step 7). A wake latched meanwhile starts the exit (R455). -/
def State.entryDone (s : State) (d : Nat) : State :=
  if !s.isolated d then s
  else
    let woken := s.clocks.latched.contains d
    let s : State := { s with clocks := { s.clocks with
      isolated := s.clocks.isolated.filter (fun p => p.1 != d), latched := s.clocks.latched.filter (· != d) } }
    let s := s.lower d (s.get .dom_TARGET d)
    if woken then s.bring [d] else s

/-- Meaning of DOMAIN_ENTRY_DONE. -/
def execDomainEntryDone (d : Fin 152) (s : State) : Host.Outcome State Fault Refusal := .next (s.entryDone d.val)

/-- ARRAY_GOOD of physical bent `p`; without a map every array is good. -/
def State.arrayGood (s : State) (p : Nat) : Nat := Store.get 0x1FFFF s.health.good p

/-- Mortise arrays of logical bent `n` on physical bent `p` (R454, 17 R486): the first 16 good ones are in service, a 17th is the
spare. -/
def State.setArrays (s : State) (n p : Nat) : State :=
  let good := maskList 17 (s.arrayGood p)
  let used := good.take 16
  s.setAll n [(.mor_ARRAY_IN_SERVICE, listMask used), (.mor_SPARE_ARRAY, good.getD 16 31), (.mor_SPARE_USED, b2n (used.contains 16)),
    (.mor_ARRAYS, used.length)]

/-! ## Wakes (R456 to R459, Table Clocks-7) -/

/-- The last-wake record (R459). Of the wakes of one CK_CTL cycle only the lowest code is recorded, and WAKE_SEQ counts once. A wake
that brings no domain toward ON leaves LAST_DOMAIN open, a free value. -/
def State.wakeRecord (s : State) (src arg : Nat) (ds : List Nat) : State :=
  let held := match s.clocks.lastWake with | some (t, c) => if t = s.now then some c else none | none => none
  if held.any (fun c => c ≤ src) then s
  else
    let (last, s) : Nat × State := match s.lowestBrought ds with | some d => (d, s) | none => s.draw 0
    let s := s.setAll 0 [(.clk_LAST_SRC, src), (.clk_LAST_LEVEL, b2n (src < 7)), (.clk_LAST_ARG, arg), (.clk_LAST_DOMAIN, last), (.clk_WAKE_SEEN, 1)]
    let s : State := { s with clocks := { s.clocks with lastWake := some (s.now, src) } }
    if held.isSome then s else s.bump .clk_WAKE_SEQ

/-- A wake of source `src` reaches Foreman: the last-wake record, the counters, and the exits that it starts. -/
def State.wake (s : State) (src arg : Nat) (ds : List Nat) : State :=
  ((s.wakeRecord src arg ds).bump .wsrc_WAKES_SRC src).bring ds

/-- Domains of logical bents, with GDDR6 for their work. -/
def State.bentsUp (s : State) (ns : List Nat) : List Nat := ns.flatMap (fun n => bentDomains (s.get .bent_PHYSICAL n))

/-- Bents that Foreman brings ON for a request of the cascade (10 R319, R324, R326): for rung 1 one bent of the mask, for the others
every bent of it; none when no bent of the mask is present. -/
def State.rungBents (s : State) (rung : Nat) : Option (List Nat) :=
  let mask := s.get ([Reg.casc_RUNG1_MASK, .casc_RUNG1_MASK, .casc_RUNG2_MASK, .casc_RUNG3_MASK].getD rung .casc_RUNG1_MASK)
  match s.presentIn mask with
  | [] => none
  | n :: rest => some (if rung = 1 then (if (s.onBents mask).isEmpty then [n] else []) else (n :: rest).filter (fun n => !s.bentOn n))

/-- The cap forbids one more bent (16 R472): PWR_1MS and its power at OP5 and DUTY 2 against CAP_EFFECTIVE, in 0.1 mW. -/
def State.bentOverCap (s : State) : Bool :=
  s.capped && decide (s.get .pwr_CAP_EFFECTIVE * 10000 < s.get .pwr_PWR_1MS * 1250 + bentPower 5 2)

/-- WAKE_PEG for rung `rung` of the cascade (10 R317, R320). -/
def State.wakeRung (s : State) (i rung : Nat) : State :=
  match s.rungBents rung with
  | none => (s.wake 1 i []).rungPowerFails rung
  | some ns =>
    if s.on .pwr_COOLANT_STOP || (!ns.isEmpty && s.bentOverCap) then
      if rung = 3 then s.wake 1 i [] else (s.wake 1 i []).rungPowerFails rung
    else s.wake 1 i (s.bentsUp ns ++ rangeFrom 55 12)

/-- WAKE_PEG (R456, 01 R34): the level of a WAKE peg. Pegs 64 to 66 ask for a rung of the cascade. -/
def State.wakePeg (s : State) (i : Nat) : State :=
  if !s.foremanUp || !s.on .peg_WAKE i || !s.reached i then s
  else if 64 ≤ i ∧ i ≤ 66 then s.wakeRung i (i - 63)
  else s.wake 1 i []

/-- Meaning of WAKE_PEG. -/
def execWakePeg (i : Fin 65536) (s : State) : Host.Outcome State Fault Refusal := .next (s.wakePeg i.val)

/-- Meaning of WAKE_ACTIVITY (10 R312). -/
def execWakeActivity (s : State) : Host.Outcome State Fault Refusal :=
  .next (if s.foremanUp && s.on .plumb_ACTIVITY then s.wake 2 0 [] else s)

/-- WAKE_DEMAND: a demand that has been raised reaches Foreman. -/
def State.wakeDemand (s : State) (d : Nat) : State :=
  if !s.foremanUp || !s.demands.contains d then s
  else ({ s with demands := s.demands.filter (· != d) } : State).wake 3 d [d]

/-- Meaning of WAKE_DEMAND. -/
def execWakeDemand (d : Fin 152) (s : State) : Host.Outcome State Fault Refusal := .next (s.wakeDemand d.val)

/-- Meaning of WAKE_HOST_LINK (13 R394): the host requests L1 exit on a module whose domain is in RETENTION. -/
def execWakeHostLink (m : Fin 2) (s : State) : Host.Outcome State Fault Refusal :=
  .next (if s.foremanUp && s.get .dom_STATE (147 + m.val) == 1 then s.wake 4 m.val [147, 148, 149] else s)

/-- WAKE_GLANCE_TIMER (09 R281): the period has expired and no glance frame has opened since. -/
def State.wakeGlance (s : State) : State :=
  if !s.foremanUp || !s.camera.glanceDue then s
  else s.wake 5 0 [69, 85 + s.get .cam_PORT (s.get .jnt_GLANCE_SRC)]

/-- Meaning of WAKE_GLANCE_TIMER. -/
def execWakeGlanceTimer (s : State) : Host.Outcome State Fault Refusal := .next s.wakeGlance

/-- WAKE_POWER_EVENT (16 Table Power-10): the oldest event; a resume brings back what enabled work needs (16 R478). -/
def State.wakePower (s : State) : State :=
  match s.power.events with
  | [] => s
  | a :: rest =>
    if !s.foremanUp then s
    else ({ s with power := { s.power with events := rest } } : State).wake 6 a (if a = 4 then s.servingDomains else [])

/-- Meaning of WAKE_POWER_EVENT. -/
def execWakePowerEvent (s : State) : Host.Outcome State Fault Refusal := .next s.wakePower

/-- Length of a CK_CTL cycle in the units of State.now. -/
def State.ctlCycle (s : State) : Nat := if s.on .clk_CK_CTL_ON_REF then 25 else 2

/-- An edge at a source that domain `d` serves (R457): within cycles c to c + 3 of an entry it is lost, later in the entry it is
latched; in RETENTION it wakes the domain. -/
def State.wakeEdge (s : State) (src arg d : Nat) : State :=
  match s.clocks.isolated.find? (fun p => p.1 == d) with
  | some (_, c) =>
    if s.now < c + 4 * s.ctlCycle || s.get .dom_TARGET d != 1 then s else s.wake src arg [d]
  | none => if s.get .dom_STATE d == 1 then s.wake src arg [d] else s

/-- Meaning of WAKE_I3C_IBI. -/
def execWakeI3cIbi (b : Fin 24) (s : State) : Host.Outcome State Fault Refusal :=
  .next (if s.foremanUp then s.wakeEdge 7 b.val (111 + b.val / 6) else s)

/-- Meaning of WAKE_CSI_SOT: on a port that has an enabled stream. -/
def execWakeCsiSot (p : Fin 24) (s : State) : Host.Outcome State Fault Refusal :=
  .next (if s.foremanUp && !(s.portStreams p.val).isEmpty then s.wakeEdge 8 p.val (85 + p.val) else s)

/-! ## Clock faults (R460) -/

/-- Meaning of CLOCK_FAULT: the spread clocks stop. -/
def execClockFault (s : State) : Host.Outcome State Fault Refusal :=
  .next (if s.domainOn 150 && !s.clocks.stopped then
    let s := (s.bump .clk_CLOCK_FAULTS).setAll 0 [(.clk_CLOCK_FAULT_SEEN, 1), (.clk_MAIN_LOCKED, 0)]
    { s with clocks := { s.clocks with stopped := true } }
  else s)

/-- Meaning of MAIN_PLL_RELOCK: lock returned within 100 µs, and work goes on from where it stopped. -/
def execMainPllRelock (s : State) : Host.Outcome State Fault Refusal :=
  .next (if s.clocks.stopped then { s.set .clk_MAIN_LOCKED 0 1 with clocks := { s.clocks with stopped := false } } else s)

/-- Meaning of REFERENCE_ABSENT: the Sill control domain counts as lost; LAST_RESORT follows (17 R494). -/
def execReferenceAbsent (s : State) : Host.Outcome State Fault Refusal :=
  .next (if s.on .clk_REF_OK then
    { s.set .clk_REF_OK 0 0 with boot := { s.boot with sillLost := true } } else s)

end Sys2Proof.Machine
end

