-- ==== Sys2Proof/Machine/Power.lean ====
section
/-! DEFINITION. Power limits, operating points, droop, filler, temperature, cooling, and the tray's SMBus port (16; 18 R513, R514). -/

namespace Sys2Proof.Machine

/-! ## Operating points (R463 to R466) -/

/-- Voltage of the BENT_CORE, MORTISE and LOFT domains of bent `n` in mV: that of its operating point with its ageing trim (R463, R479). -/
def State.bentVoltage (s : State) (n : Nat) : Nat := (opRow (s.get .bent_OP n)).2.1 + s.get .pwrb_AGE_TRIM_MV n

/-- PREF_OP of bent `n` (R465): the smallest preferred operating point among the tiles that are ready there, none when no tile is. -/
def State.prefOp (s : State) (n : Nat) : Option Nat :=
  let ws := [Station.mortise, .plane, .scribe, .auger, .scarf, .truss, .dowel, .froe, .gauge].flatMap
    (fun st => (s.works n st).filter s.workReady)
  let ops := ws.map (fun w =>
    ((s.policy.phases.find? (fun p => p.1 == w.job.graph && p.2.1 == w.defn.phase)).map (·.2.2)).getD 0)
  match ops with
  | [] => none
  | o :: rest => some (rest.foldl min o)

/-- The operating point that R465 gives bent `n`; a bent without a ready tile keeps its last one. -/
def State.opWanted (s : State) (n : Nat) : Nat :=
  match s.prefOp n with
  | none => s.get .bent_OP n
  | some p => max (max p (s.get .pwr_OP_LIMIT)) (max (s.get .pwrb_THERM_LIMIT n) (s.get .pwrb_MAX_OP n))

/-- OP_CHANGE (R464): Foreman moves the bent to the operating point of R465; its stations take no tile until the change is done. -/
def State.opChange (s : State) (n op : Nat) : State :=
  let s := match s.prefOp n with | some p => s.set .pwrb_PREF_OP n p | none => s
  if !s.foremanUp || s.get .bent_PWR n != 2 || s.power.changing.any (fun p => p.1 == n) || op == s.get .bent_OP n || op != s.opWanted n then s
  else { s with power := { s.power with changing := s.power.changing ++ [(n, op)] } }

/-- Meaning of OP_CHANGE. -/
def execOpChange (n : Fin 8) (op : Fin 6) (s : State) : Host.Outcome State Fault Refusal := .next (s.opChange n.val op.val)

/-- OP_CHANGE_DONE: step 4 of Table Power-2. -/
def State.opChangeDone (s : State) (n : Nat) : State :=
  match s.power.changing.find? (fun p => p.1 == n) with
  | none => s
  | some (_, op) =>
    { s.set .bent_OP n op with power := { s.power with changing := s.power.changing.filter (fun p => p.1 != n) } }

/-- Meaning of OP_CHANGE_DONE. -/
def execOpChangeDone (n : Fin 8) (s : State) : Host.Outcome State Fault Refusal := .next (s.opChangeDone n.val)

/-! ## Caps (R467 to R472) -/

/-- CAP_EFFECTIVE (R467): the smallest of the three; 0 means no cap. -/
def State.capEffective (s : State) : State :=
  let caps := [s.get .pwr_POLICY_MAX, s.get .pwr_CAP_HOST, s.get .pwr_CAP_TRAY].filter (· != 0)
  (s.set .pwr_CAP_EFFECTIVE 0 (match caps with | [] => 0 | c :: rest => rest.foldl min c)).floorOverCap

/-- A POWER_EVENT wake is raised (Table Power-10). -/
def State.powerEvent (s : State) (a : Nat) : State := { s with power := { s.power with events := s.power.events ++ [a] } }

/-- The check of a cap write (R467). -/
def State.capCheck (s : State) (v : Nat) : Nat :=
  firstCode [(0x0A02, v != 0 && (v < 20 || decide (1000 < v))), (0x0A01, v != 0 && v < s.get .pwr_FLOOR_W)]

/-- Bents that enabled loops, the cascade's running rung and placed jobs need: of a mask, as many of the present ones as the graph takes. -/
def State.neededBents (s : State) : List Nat :=
  let some' := fun (mask g : Nat) => (s.presentIn mask).take ((s.graph g).map (·.bentsNeeded) |>.getD 1)
  let rung := if s.get .casc_STATE = 2 then some' (s.get .casc_RUNG1_MASK) (s.get .casc_RUNG1_GRAPH)
    else if s.get .casc_STATE = 3 then some' (s.get .casc_RUNG2_MASK) (s.get .casc_RUNG2_GRAPH) else []
  (s.indices .loop_ENABLE).flatMap (fun k => some' (s.get .loop_BENT_MASK k) (s.get .loop_GRAPH k)) ++
    (if s.on .casc_ENABLE then rung else []) ++ s.jobs.flatMap (·.bents)

/-- Domains that no enabled or queued work needs go toward RETENTION (R472), children before parents. GDDR6 without an enabled context enters
self-refresh (06 Table Memory-7). -/
def State.retireIdle (s : State) : State :=
  let needed := s.neededDomains
  let ds := (List.range 152).filter (fun d =>
    s.domainOn d && !needed.contains d && !needed.any (fun e => (domAncestors 5 e).contains d) &&
      !(match (domBent d).bind s.logicalOf with | some n => s.neededBents.contains n | none => false))
  let s := if needed.contains 55 || s.refresh != .active then s else s.selfRefreshEntry
  let pass := fun (s : State) => ds.foldl (fun s d => s.entryRequest d false) s
  pass (pass (pass (pass (pass s))))

/-- A cap write of one source: `cap` is its register. Answers the code (R467). During a coolant stop the cap is stored and takes effect
later (R477). -/
def State.capWrite (s : State) (cap : Reg) (v : Nat) : State × Nat :=
  match s.capCheck v with
  | 0 =>
    let s := s.set cap 0 v
    ((if s.on .pwr_COOLANT_STOP then s else s.capEffective).powerEvent 1, 0)
  | code =>
    let s := s.set .pwr_CAP_REFUSED_SEEN 0 1
    (if code = 0x0A01 then s.retireIdle else s, code)

/-- CAP_HOST_WRITE (R467). -/
def State.capHostWrite (s : State) (v : Nat) : State :=
  let (s, code) := s.capWrite .pwr_CAP_HOST v
  s.set .pwr_CAP_REASON 0 code

/-- Meaning of CAP_HOST_WRITE. -/
def execCapHostWrite (value : BitVec 16) (s : State) : Host.Outcome State Fault Refusal :=
  .next (s.hostWrite .power (fun s => s.capHostWrite value.toNat))

/-- Mean of a list. -/
def mean (l : List Nat) : Nat := l.sum / max 1 l.length

/-- POWER_SAMPLE (R468): a measurement in units of 0.125 W enters the averages over 1 ms and 10 ms. -/
def State.powerSample (s : State) (w : Nat) : State :=
  let l := (w :: s.power.samples).take 100
  { s.setAll 0 [(.pwr_PWR_1MS, mean (l.take 10)), (.pwr_PWR_10MS, mean l)] with power := { s.power with samples := l } }

/-- Meaning of POWER_SAMPLE. -/
def execPowerSample (watts : BitVec 16) (s : State) : Host.Outcome State Fault Refusal := .next (s.powerSample watts.toNat)

/-- DUTY and with it THROTTLED of every bent (R469). -/
def State.setDuty (s : State) (v : Nat) : State :=
  forEach (List.range 8) (fun n s => s.set .bent_THROTTLED n (b2n (v < 16))) (s.set .pwr_DUTY 0 v)

/-- PWR_1MS is above `k` thousandths of CAP_EFFECTIVE. -/
def State.above (s : State) (k : Nat) : Bool :=
  s.capped && decide (s.get .pwr_CAP_EFFECTIVE * 8 * k < s.get .pwr_PWR_1MS * 1000)

/-- PWR_1MS is below `k` thousandths of CAP_EFFECTIVE. -/
def State.below (s : State) (k : Nat) : Bool :=
  !s.capped || decide (s.get .pwr_PWR_1MS * 1000 < s.get .pwr_CAP_EFFECTIVE * 8 * k)

/-- The cap action of a period (R468), and whether there was one. While TEMP_HIGH is 1, DUTY stays 2 (Table Power-4). -/
def State.capAction (s : State) : State × Bool :=
  let limit := s.get .pwr_OP_LIMIT
  let duty := s.get .pwr_DUTY
  if s.above 1000 && limit < 5 then (s.set .pwr_OP_LIMIT 0 (limit + 1), true)
  else if s.above 1000 && limit == 5 && decide (2 < duty) then (s.setDuty (duty - 1), true)
  else if s.below 950 && decide (10 ≤ s.power.quiet) then
    if duty < 16 then (if s.on .pwr_TEMP_HIGH then (s, false) else (s.setDuty (duty + 1), true))
    else if 0 < limit then (s.set .pwr_OP_LIMIT 0 (limit - 1), true) else (s, false)
  else (s, false)

/-- Park the next class, 3 first and 0 never (R470). -/
def State.parkClass (s : State) : State :=
  let m := s.get .pwr_PARKED_CLASSES
  match [3, 2, 1].find? (fun c => !bit m c) with
  | some c => ((s.set .pwr_PARKED_CLASSES 0 (m ||| 2 ^ c)).bump .pwr_PARK_EVENTS).set .pwr_PARK_SEEN 0 1
  | none => s

/-- Unpark the class that was parked last (R470). -/
def State.unparkClass (s : State) : State :=
  let m := s.get .pwr_PARKED_CLASSES
  match [1, 2, 3].find? (fun c => bit m c) with
  | some c => s.set .pwr_PARKED_CLASSES 0 (setBits m c 1 0)
  | none => s

/-- CONTROL_PERIOD (R468 to R472). CAP_UNMET looks at OP_LIMIT as the period finds it (R472's worked example). -/
def State.controlPeriod (s : State) : State :=
  if !s.foremanUp then s
  else
    let unmet := s.get .pwr_OP_LIMIT == 5 && s.above 1000
    let rises := unmet && !s.on .pwr_CAP_UNMET
    let s := s.set .pwr_CAP_UNMET 0 (b2n unmet)
    let s := if rises then s.set .pwr_CAP_UNMET_SEEN 0 1 else s
    let s := if unmet then s.bump .pwr_CAP_UNMET_MS else s
    let p := s.power
    let u := if unmet then p.unmet + 1 else 0
    let c := if s.below 900 then p.calm + 1 else 0
    let (s, acted) := s.capAction
    let s : State := { s with power := { s.power with unmet := u, calm := c, quiet := if acted then 0 else p.quiet + 1 } }
    let s := if 0 < u ∧ u % 100 = 0 then s.parkClass else s
    let s := if 0 < c ∧ c % 100 = 0 then s.unparkClass else s
    let s := forEach (List.range 8) (fun n s => match s.prefOp n with | some o => s.set .pwrb_PREF_OP n o | none => s) s
    if unmet then s.retireIdle else s

/-- Meaning of CONTROL_PERIOD. -/
def execControlPeriod (s : State) : Host.Outcome State Fault Refusal := .next s.controlPeriod

/-! ## Droop (R473) -/

/-- Meaning of DROOP_FIRE. -/
def execDroopFire (n : Fin 8) (s : State) : Host.Outcome State Fault Refusal :=
  .next (if s.get .bent_PWR n.val != 2 then s
    else
      let s := s.bump .pwrb_DROOP_EVENTS n.val
      { s with power := { s.power with stretched := (n.val :: s.power.stretched).eraseDups } })

/-- STRETCH_END: `k` doubled cycles end. DROOP_SEEN is set when those of the last 1 ms pass 0.5 % of the bent's CK_MAC cycles. -/
def State.stretchEnd (s : State) (n k : Nat) : State :=
  if !s.power.stretched.contains n || k < 64 then s
  else
    let l := (n, s.now, k) :: s.power.stretches.filter (fun p => s.now < p.2.1 + 614400)
    let s := s.bump .pwrb_STRETCH_CYCLES n k
    let s : State := { s with power := { s.power with stretched := s.power.stretched.filter (· != n), stretches := l } }
    let mine := ((l.filter (fun p => p.1 == n)).map (·.2.2)).sum
    if 4915200 < mine * 200 * opDivider (s.get .bent_OP n) then s.set .pwr_DROOP_SEEN 0 1 else s

/-- Meaning of STRETCH_END. -/
def execStretchEnd (n : Fin 8) (cycles : Word) (s : State) : Host.Outcome State Fault Refusal := .next (s.stretchEnd n.val cycles.toNat)

/-! ## Filler (11 R357, 16 R474) -/

/-- Mortise activity of bent `n` over the last 20 µs, in sixteenths (R474): 0 without a tile in that time, else what the tiles' running times
give, which the model does not know. -/
def State.mortiseActivity (s : State) (n : Nat) : Nat × State :=
  let last := Store.get 0 s.power.mortiseTiles n
  if last = 0 ∨ 20 ≤ microseconds (last - 1) s.now then (0, s)
  else
    let (a, s) := s.draw 0
    (a % 17, s)

/-- FILLER_START (R357): every station of the bent idle, one of them held by a BARRIER whose wait has not used up FILLER_MAX_US. The
level is the Mortise activity, limited by FILLER_LEVEL_MAX and DUTY (R474). -/
def State.fillerStart (s : State) (n : Nat) : State :=
  let ws := s.barrierWaits n
  let idle := [Station.mortise, .plane, .scribe, .auger, .scarf, .truss, .dowel, .froe, .gauge].all (fun st => (s.pickWork n st).isNone)
  let spent := fun w => s.power.fillerUsed.any (fun u => u.bent == n && u.wait == w && decide (s.get .pwr_FILLER_MAX_US ≤ u.us))
  if !s.bentComputes n || s.on .pwr_TEMP_HIGH || !idle || ws.all spent || s.power.fillers.any (fun f => f.bent == n) then s
  else
    let (a, s) := s.mortiseActivity n
    let f : Filler := { bent := n, since := s.now, level := min a (min (s.get .pwr_FILLER_LEVEL_MAX) (s.get .pwr_DUTY)), waits := ws }
    { s with power := { s.power with fillers := s.power.fillers ++ [f] } }

/-- Meaning of FILLER_START. -/
def execFillerStart (n : Fin 8) (s : State) : Host.Outcome State Fault Refusal := .next (s.fillerStart n.val)

/-- FILLER_LIMIT_EXPIRY (R474): FILLER_MAX_US is spent, and the level falls to 0 in the 20 µs that follow. -/
def State.fillerLimit (s : State) (n : Nat) : State :=
  if s.power.fillers.any (fun f => f.bent == n && f.ramp.isNone) then
    let s := s.bump .pwrb_FILLER_LIMITS n
    { s with power := { s.power with fillers := mapWhere (fun f => f.bent == n) (fun f => { f with ramp := some s.now }) s.power.fillers } }
  else s

/-- Meaning of FILLER_LIMIT_EXPIRY. -/
def execFillerLimitExpiry (n : Fin 8) (s : State) : Host.Outcome State Fault Refusal := .next (s.fillerLimit n.val)

/-! ## Coolant stop (R477, R478; 18 R513, R514) -/

/-- FAULT_N is asserted (18 R514). -/
def State.faultN (s : State) : Bool :=
  s.boot.phase != .reset && (s.on .pwr_COOLANT_STOP || s.on .pwr_THERMAL_TRIP || s.boot.lastResort)

/-- Domains that step 3 of Table Power-5 puts OFF. -/
def coolantOff : List Nat :=
  rangeFrom 18 36 ++ rangeFrom 9 9 ++ rangeFrom 0 9 ++ rangeFrom 77 8 ++ rangeFrom 69 8 ++ rangeFrom 85 24 ++ rangeFrom 130 8 ++
    rangeFrom 122 8 ++ [138, 139, 67, 145]

/-- What a domain forced OFF without drain leaves behind in the device: the residents of a bent go with its Loft. -/
def State.forceOff (s : State) (ds : List Nat) : State :=
  let ns := (ds.filterMap domBent).filterMap s.logicalOf
  let s := forEach (s.residents.filter (fun x => ns.contains x.bent)) (fun x s =>
    s.freeSlot x (((s.job x.job).map (·.ctx)).getD 0)) s
  let s : State := { s with
    saves := s.saves.filter (fun v => !(ns.contains v.bent && (s.job v.job).isNone))
    clocks := { s.clocks with
      isolated := s.clocks.isolated.filter (fun p => !ds.contains p.1), latched := s.clocks.latched.filter (fun d => !ds.contains d) } }
  ds.foldl (fun s d => if s.get .dom_STATE d = 0 then s.setAll d [(.dom_TARGET, 0), (.dom_CHANGING, 0)] else s.lower d 0) s

/-- GDDR6 enters self-refresh by the fixed steps (Table Memory-7). -/
def State.fixedSelfRefresh (s : State) : State :=
  { (s.set .mem_SELF_REFRESH 0 1).setDoms ((rangeFrom 55 12).filter (fun d => s.domainOn d)) 1 with refresh := .asleep }

/-- The stop of Table Power-5. A trip sets THERMAL_TRIP as well. -/
def State.coolantStop (s : State) (trip : Bool) : State :=
  let code := if trip then 0x0A04 else 0x0A03
  let begins := !s.on .pwr_COOLANT_STOP
  let s := if trip && !s.on .pwr_THERMAL_TRIP then
    ((s.set .pwr_THERMAL_TRIP 0 1).bump .pwr_THERMAL_TRIPS).set .pwr_TRIP_SEEN 0 1 else s
  if !begins then s
  else
    let s := (((s.set .pwr_COOLANT_STOP 0 1).bump .pwr_COOLANT_STOPS).set .pwr_COOLANT_SEEN 0 1).powerEvent 3
    if s.boot.phase != .running then s
    else
      let live := s.jobs.filter (fun j => !j.finished)
      let s := forEach live (fun j s => s.faultJob j.id code) s
      let s : State := if live.isEmpty then s else { s with power := { s.power with smbFault := code } }
      let s := forEach (List.range 8) (fun n s => s.fillerStop n) s
      let s := { s with power := { s.power with changing := [], stretched := [] } }
      let s := s.forceOff coolantOff
      let s := forEach (List.range 8) (fun k s => s.set .kport_LINK_UP k 0) s
      let s := s.fixedSelfRefresh
      let lg := 115 + s.get .rasp_LISTEN_GROUP
      s.setDoms (([111, 112, 113, 114, 68, 54, 109, 110, 119] ++ (rangeFrom 115 4).filter (· != lg)).filter (fun d => s.domainOn d)) 1

/-- COOLANT_OK_FALL (R477; 18 R513): during start-up it only holds the start-up. -/
def State.coolantFall (s : State) : State :=
  let s : State := { s.set .pwr_COOLANT_OK 0 0 with pins := { s.pins with coolant := false } }
  if s.boot.phase = .running ∨ s.boot.phase = .ready then s.coolantStop false else s

/-- Meaning of COOLANT_OK_FALL. -/
def execCoolantOkFall (s : State) : Host.Outcome State Fault Refusal := .next s.coolantFall

/-- Reading of sensor `i` in units of 1/8 °C. -/
def State.temp (s : State) (i : Nat) : Int := sext 16 (s.get .temp_TEMP i)

/-- Every sampled sensor is at or below `t` eighths of a degree. -/
def State.allCool (s : State) (t : Int) : Bool := (List.range 48).all (fun i => !s.on .temp_VALID i || decide (s.temp i ≤ t))

/-- TJ_MAX in units of 1/8 °C. -/
def State.tjMax (s : State) : Int := 8 * (s.get .pwr_TJ_MAX : Int)

/-- COOLANT_RESUME (R478): the domains that enabled work needs are demanded. COOLANT_OK has been high for COOLANT_HOLD_MS; every sensor must
be at or below TJ_MAX - 15 °C. -/
def State.coolantResume (s : State) : State :=
  let s : State := { s.set .pwr_COOLANT_OK 0 1 with pins := { s.pins with coolant := true } }
  if !s.on .pwr_COOLANT_STOP || !s.allCool (s.tjMax - 120) then s
  else
    let s := (s.setAll 0 [(.pwr_COOLANT_STOP, 0), (.pwr_THERMAL_TRIP, 0)]).powerEvent 4
    if s.boot.phase != .running then s
    else
      let s := s.capEffective.exitSelfRefresh
      let froe := if (s.indices .ctx_ENABLE).isEmpty then [] else withParents [67, 68]
      let wanted := s.neededDomains ++ froe ++ (s.recovery.bringIns.flatMap (fun p => bentDomains p.2))
      wanted.foldl State.demand s

/-- Meaning of COOLANT_RESUME. -/
def execCoolantResume (s : State) : Host.Outcome State Fault Refusal := .next s.coolantResume

/-! ## Temperature (R475, R476) -/

/-- Thermal limit of logical bent `n` after a sample (Table Power-4). -/
def State.bentTemp (s : State) (n : Nat) : State :=
  if !s.on .bent_PRESENT n then s
  else
    let p := s.get .bent_PHYSICAL n
    let t := 8 * (s.get .pwr_T_THROTTLE : Int)
    let hot := decide (t < s.temp (2 * p)) || decide (t < s.temp (2 * p + 1))
    let cool := decide (s.temp (2 * p) ≤ t - 24) && decide (s.temp (2 * p + 1) ≤ t - 24)
    let k := if cool then Store.get 0 s.power.cool n + 1 else 0
    let limit := s.get .pwrb_THERM_LIMIT n
    let s : State := { s with power := { s.power with cool := Store.put 0 s.power.cool n (if k = 10 then 0 else k) } }
    if hot then s.set .pwrb_THERM_LIMIT n (min 5 (limit + 1))
    else if k = 10 then s.set .pwrb_THERM_LIMIT n (limit - 1) else s

/-- TJ_MIN of the order code in °C (00 Table Scope-1). -/
def tjMin : Int := if Config.extendedRange then -40 else -10

/-- TEMP_HIGH acts on every bent (Table Power-4). -/
def State.tempHigh (s : State) : State :=
  let s := forEach (List.range 8) (fun n s => if s.on .bent_PRESENT n then s.set .pwrb_THERM_LIMIT n 5 else s) s
  forEach (List.range 8) (fun n s => s.fillerStop n) (s.setDuty 2)

/-- TEMP_SAMPLE: the readings of sensors 0 upward, in units of 1/8 °C. -/
def State.tempSample (s : State) (temps : List Nat) : State :=
  let ts := temps.take 48
  let s := forEach ts.zipIdx (fun (t, i) s => s.setAll i [(.temp_TEMP, t), (.temp_VALID, 1)]) s
  let ids := (List.range 48).filter (fun i => s.on .temp_VALID i)
  match ids with
  | [] => s
  | i0 :: rest =>
    let h := rest.foldl (fun h i => if s.temp h < s.temp i then i else h) i0
    let s := s.setAll 0 [(.pwr_HOTTEST_SENSOR, h), (.pwr_HOTTEST_T, s.get .temp_TEMP h)]
    let s := forEach (List.range 8) (fun n s => s.bentTemp n) s
    let bents := (List.range 8).filterMap (fun n => if s.on .bent_PRESENT n then some (s.get .bent_PHYSICAL n) else none)
    let warn := ids.any (fun i => !(i < 18 && bents.contains (i / 2)) && decide (8 * (s.get .pwr_T_THROTTLE : Int) < s.temp i))
    let s := s.setAll 0 [(.pwr_TEMP_WARN, b2n warn), (.pwr_TEMP_LOW, b2n (ids.all (fun i => decide (s.temp i < 8 * tjMin))))]
    let high := decide (s.tjMax ≤ s.temp h)
    let s :=
      if high then
        let s := if s.on .pwr_TEMP_HIGH then s else (s.setAll 0 [(.pwr_TEMP_HIGH, 1), (.pwr_TEMP_HIGH_SEEN, 1)]).powerEvent 2
        s.tempHigh
      else if s.on .pwr_TEMP_HIGH then (if s.allCool (s.tjMax - 40) then s.set .pwr_TEMP_HIGH 0 0 else s.tempHigh)
      else s
    if s.tjMax + 80 ≤ s.temp h then s.coolantStop true else s

/-- Meaning of TEMP_SAMPLE. -/
def execTempSample (temps : List (BitVec 16)) (s : State) : Host.Outcome State Fault Refusal :=
  .next (s.tempSample (temps.map BitVec.toNat))

/-! ## The SMBus target (R480) -/

/-- The target answers: from step 2 of start-up, unless the Sill control domain is lost or the last-resort sequence has acted (17
R494). -/
def State.smbusUp (s : State) : Bool :=
  s.boot.phase != .reset && s.boot.phase != .warm && !s.boot.lastResort && !s.boot.sillLost

/-- A read: the data bytes leave, or the address is not acknowledged. -/
def State.smbusRead (s : State) (bs : List Byte) : State :=
  { s with outbox := s.outbox ++ [if s.smbusUp then .smbus bs else .nack] }

/-- STATUS (Table Power-6). -/
def State.smbusStatus (s : State) : Nat :=
  s.get .host_DEV_STATE + s.get .pwr_CAP_UNMET * 4 + s.get .pwr_COOLANT_STOP * 8 + s.get .pwr_THERMAL_TRIP * 16 +
    s.get .pwr_TEMP_HIGH * 32 + b2n s.faultN * 64 + s.get .host_REDUCED * 128

/-- Meaning of SMBUS_STATUS. -/
def execSmbusStatus (s : State) : Host.Outcome State Fault Refusal := .next (s.smbusRead (toBytes 2 s.smbusStatus))

/-- SMBUS_CAP_TRAY_WRITE (R467): with a wrong PEC nothing is written. -/
def State.capTrayWrite (s : State) (v : Nat) (pecOk : Bool) : State :=
  if !s.smbusUp then { s with outbox := s.outbox ++ [.nack] }
  else if !pecOk then s
  else
    let (s, code) := s.capWrite .pwr_CAP_TRAY v
    { s with power := { s.power with smbReason := code } }

/-- Meaning of SMBUS_CAP_TRAY_WRITE. -/
def execSmbusCapTrayWrite (value : BitVec 16) (pecOk : Bool) (s : State) : Host.Outcome State Fault Refusal :=
  .next (s.capTrayWrite value.toNat pecOk)

/-- Meaning of SMBUS_CAP_TRAY_READ. -/
def execSmbusCapTrayRead (s : State) : Host.Outcome State Fault Refusal := .next (s.smbusRead (toBytes 2 (s.get .pwr_CAP_TRAY)))

/-- Meaning of SMBUS_PWR_10MS. -/
def execSmbusPwr10ms (s : State) : Host.Outcome State Fault Refusal := .next (s.smbusRead (toBytes 2 (s.get .pwr_PWR_10MS)))

/-- Meaning of SMBUS_FLOOR_W. -/
def execSmbusFloorW (s : State) : Host.Outcome State Fault Refusal := .next (s.smbusRead (toBytes 2 (s.get .pwr_FLOOR_W)))

/-- Meaning of SMBUS_CAP_REASON. -/
def execSmbusCapReason (s : State) : Host.Outcome State Fault Refusal := .next (s.smbusRead (toBytes 2 s.power.smbReason))

/-- Meaning of SMBUS_HOTTEST. -/
def execSmbusHottest (s : State) : Host.Outcome State Fault Refusal := .next (s.smbusRead (toBytes 2 (s.get .pwr_HOTTEST_T)))

/-- Meaning of SMBUS_SENSORS: a block read, whose byte count goes first. -/
def execSmbusSensors (s : State) : Host.Outcome State Fault Refusal :=
  .next (s.smbusRead (96 :: (List.range 48).flatMap (fun i => toBytes 2 (s.get .temp_TEMP i))))

/-- Meaning of SMBUS_FAULT_INFO. -/
def execSmbusFaultInfo (s : State) : Host.Outcome State Fault Refusal :=
  .next (s.smbusRead (16 :: [s.power.smbFault, s.get .pwr_COOLANT_STOPS, s.get .pwr_THERMAL_TRIPS, s.get .wedge_SERIAL_LO].flatMap (toBytes 4)))

/-- Meaning of SMBUS_TIMEOUT (18 R523): the target lets SMB_DAT go and resets its interface, whose commands the model takes whole. -/
def execSmbusTimeout (s : State) : Host.Outcome State Fault Refusal := .next s

end Sys2Proof.Machine
end

