-- ==== Sys2Proof/Machine/Results.lean ====
section
/-! DEFINITION. Leaving the queue (01 Table Stations-10; 09 R290; 10 R324; 13 R409). -/

namespace Sys2Proof.Machine

/-- Steps 2 to 5 of Table Stations-10 for a job at step 1: the result, what Cleat or the cascade takes at step 3, and the rest. -/
def State.leave (s : State) (j : Job) : State :=
  match s.postResult j with
  | (s, false) => s
  | (s, true) =>
    let s := match j.id with
      | .loop k => s.loopDone k.val j
      | .rung n => s.rungDone n.val j
      | .ring _ => s
    s.leaveQueue j

/-- RESULT_SLOT_WRITE: a job whose last output tile is written, or that has faulted, leaves the queue; after the last-resort sequence
no job completes (17 Table Spares-5). The writes of a page-list generation that the job gives back wait while GDDR6 admits no accesses (06
R224). -/
def State.resultSlotWrite (s : State) (id : JobId) : State :=
  let s := s.settleJob id
  match s.job id with
  | none => s
  | some j =>
    if !j.finished || s.boot.lastResort then s
    else if j.snapshot.isSome && s.refresh != .active then s.exitSelfRefresh
    else s.leave j

/-- Meaning of RESULT_SLOT_WRITE. A job without a page-list snapshot writes nothing to GDDR6 here. -/
def execResultSlotWrite (j : Met JobId) (s : State) : Host.Outcome State Fault Refusal :=
  .next (
    if ((s.job j.val).bind (·.snapshot)).isSome then s.writes none j.rd j.wr (fun s => s.resultSlotWrite j.val)
    else s.resultSlotWrite j.val)

end Sys2Proof.Machine
end

