-- ==== Sys2Proof/Machine/Sha.lean ====
section
/-! DEFINITION. SHA-256 (FIPS 180-4), which the manual uses for Wedge's key derivation, measurements and fingerprints, the directory,
and the health map (12 R375, R381, R386; 14 R420, R423; 17 R498). -/

namespace Sys2Proof.Machine.Sha

/-- A 32-bit sum. -/
def add (a b : Nat) : Nat := (a + b) % 2 ^ 32

/-- Rotation to the right by `n` of a 32-bit word. -/
def rotr (n x : Nat) : Nat := x / 2 ^ n + x % 2 ^ n * 2 ^ (32 - n)

/-- Primes up to 311, which are 64. -/
def primes : List Nat := (List.range 312).filter (fun p => decide (2 ≤ p) && (List.range 18).all (fun d => d < 2 || p ≤ d || p % d != 0))

/-- First 32 bits of the fractional part of the `k`-th root of `n`, for a root below 32: the root of `n` in units of 2^-32, bit by bit
from the highest. -/
def rootBits (k n : Nat) : Nat :=
  (List.range 37).foldr (fun i r => if (r + 2 ^ i) ^ k ≤ n * 2 ^ (32 * k) then r + 2 ^ i else r) 0 % 2 ^ 32

/-- The round constants: of the cube roots of the first 64 primes (FIPS 180-4, 4.2.2). -/
def constants : List Nat := primes.map (rootBits 3)

/-- The initial hash value: of the square roots of the first 8 primes (FIPS 180-4, 5.3.3). -/
def initial : List Nat := (primes.take 8).map (rootBits 2)

/-- A big-endian 32-bit word. -/
def word (bs : List Byte) : Nat := (bs.take 4).foldl (fun n b => n * 256 + b.toNat) 0

/-- Message schedule after its first 16 words, newest first. -/
def extend : Nat → List Nat → List Nat
  | 0, w => w
  | n + 1, w =>
    let a := w.getD 14 0
    let b := w.getD 1 0
    let s0 := (rotr 7 a ^^^ rotr 18 a) ^^^ (a / 2 ^ 3)
    let s1 := (rotr 17 b ^^^ rotr 19 b) ^^^ (b / 2 ^ 10)
    extend n (add (add (w.getD 15 0) s0) (add (w.getD 6 0) s1) :: w)

/-- One round on the working variables a to h. -/
def round (v : List Nat) (kw : Nat × Nat) : List Nat :=
  match v with
  | [a, b, c, d, e, f, g, h] =>
    let s1 := (rotr 6 e ^^^ rotr 11 e) ^^^ rotr 25 e
    let ch := (e &&& f) ^^^ ((2 ^ 32 - 1 - e) &&& g)
    let t1 := add (add (add h s1) (add ch kw.1)) kw.2
    let s0 := (rotr 2 a ^^^ rotr 13 a) ^^^ rotr 22 a
    let maj := ((a &&& b) ^^^ (a &&& c)) ^^^ (b &&& c)
    [add t1 (add s0 maj), a, b, c, add d t1, e, f, g]
  | v => v

/-- The compression of one 64-byte block. -/
def block (h : List Nat) (bs : List Byte) : List Nat :=
  let w0 := (List.range 16).map (fun i => word (bs.drop (4 * i)))
  let w := (extend 48 w0.reverse).reverse
  ((constants.zip w).foldl round h |>.zip h).map (fun p => add p.1 p.2)

/-- Blocks in order; `n` bounds their number. -/
def blocks : Nat → List Nat → List Byte → List Nat
  | 0, h, _ => h
  | n + 1, h, bs => if bs.isEmpty then h else blocks n (block h (bs.take 64)) (bs.drop 64)

/-- A 32-bit or 64-bit number, most significant byte first. -/
def bigEndian (k n : Nat) : List Byte := (toBytes k n).reverse

/-- The padded message. -/
def pad (bs : List Byte) : List Byte :=
  bs ++ [0x80] ++ List.replicate ((119 - bs.length % 64) % 64) 0 ++ bigEndian 8 (8 * bs.length)

/-- SHA-256: 32 bytes. -/
def sha256 (bs : List Byte) : List Byte :=
  let m := pad bs
  (blocks (m.length / 64) initial m).flatMap (bigEndian 4)

end Sys2Proof.Machine.Sha
end

