-- ==== Sys2Proof/Machine/FlashOps.lean ====
section
/-! DEFINITION. What lies in the flash (14 R418 to R422, R437; 17 R498): the areas, the directory, the health map. -/

namespace Sys2Proof.Machine

/-! ## Areas (Table Start-1) -/

/-- Size of an image slot by size code (R419): (F - 4 MiB) / 2. -/
def slotBytes (size : Nat) : Nat := ([30, 62, 126, 254].getD size 30) * 2 ^ 20

/-- Bytes of image slot `i`. -/
def Flash.slot (f : Flash) (i : Nat) : Mem := if i = 0 then f.slot0 else f.slot1

/-- Give slot `i` new bytes. -/
def Flash.setSlot (f : Flash) (i : Nat) (m : Mem) : Flash := if i = 0 then { f with slot0 := m } else { f with slot1 := m }

/-- Bytes of a list from `o` on, erased past its end. -/
def erasedFrom (bs : List Byte) (o n : Nat) : List Byte := ((bs.drop o).take n) ++ List.replicate (n - (bs.length - o)) 0xFF

/-- `n` bytes at offset `o` of an area: 0 a slot, 1 the directory, 2 the health map, 3 the record area. -/
def Flash.bytes (f : Flash) (area slot o n : Nat) : List Byte :=
  match area with
  | 0 => Mem.readBytes 0xFF (f.slot slot) o n
  | 1 => (rangeFrom o n).map (fun a => (erasedFrom (f.directory.getD (a / 4096) []) (a % 4096) 1).headD 0xFF)
  | 2 => erasedFrom (erasedFrom (f.health.getD 0 []) 0 (2 ^ 19) ++ erasedFrom (f.health.getD 1 []) 0 (2 ^ 19)) o n
  | _ => (rangeFrom o n).map (fun a =>
      match f.records.find? (fun p => p.1 == a / 64) with
      | some (_, bs) => bs.getD (a % 64) 0xFF
      | none => 0xFF)

/-- Size of an area. -/
def Flash.areaBytes (f : Flash) (area : Nat) : Nat :=
  match area with
  | 0 => slotBytes f.size
  | 1 => 2 ^ 13
  | 2 => 2 ^ 20
  | _ => 2 ^ 21

/-- Put bytes into a store whose unlisted bytes are erased, in one pass. -/
def splice (m : Mem) (a : Nat) (bs : List Byte) : Mem :=
  m.filter (fun c => c.1 < a) ++ ((bs.zipIdx a).filterMap (fun (b, i) => if b = 0xFF then none else some (i, b))) ++
    m.filter (fun c => a + bs.length ≤ c.1)

/-- Programming a byte: where a bit that is 0 would have to become 1 the manual states no result, so the byte is a free value (log
entry 40). -/
def programByte (seed i : Nat) (old new : Byte) : Byte :=
  if old &&& new = new then new else BitVec.ofNat 8 (Config.freeValue seed i)

/-! ## The directory (R420) -/

/-- A little-endian number of `n` bytes at offset `o`. -/
def numAt (bs : List Byte) (o n : Nat) : Nat := ofBytes ((bs.drop o).take n)

/-- A directory copy is valid (R420). -/
def dirValid (bs : List Byte) : Bool :=
  numAt bs 0 4 == 0x52494451 && ((bs.drop 48).take 16) == (Sha.sha256 (bs.take 48)).take 16

/-- A directory copy. -/
def dirBytes (seq pref : Nat) (pending : Bool) (tries : Nat) : List Byte :=
  let body := [0x52494451, seq, pref + b2n pending * 2 + tries * 4].flatMap (toBytes 4) ++ List.replicate 36 0
  body ++ (Sha.sha256 body).take 16

/-- Of two copies with valid flags and SEQ, the one in force; 2 when neither is valid. The lower one where both are valid with equal
SEQ. -/
def inForce (v0 v1 : Bool) (s0 s1 : Nat) : Nat :=
  if v0 && v1 then (if hasReached 32 s1 (s0 + 1) then 1 else 0) else if v0 then 0 else if v1 then 1 else 2

/-- Copy of the directory in force. -/
def Flash.dirCopy (f : Flash) : Nat :=
  let d := f.directory
  inForce (dirValid (d.getD 0 [])) (dirValid (d.getD 1 [])) (numAt (d.getD 0 []) 4 4) (numAt (d.getD 1 []) 4 4)

/-- PREFERRED, PENDING and TRIES_LEFT in force; zeros when neither copy is valid. -/
def Flash.dirInForce (f : Flash) : Nat × Bool × Nat :=
  if f.dirCopy = 2 then (0, false, 0)
  else
    let w := numAt (f.directory.getD f.dirCopy []) 8 4
    (w % 2, bit w 1, bits w 2 2)

/-- Write the copy that is not in force with SEQ incremented; with neither valid, copy 0 with SEQ 0. -/
def Flash.dirWrite (f : Flash) (pref : Nat) (pending : Bool) (tries : Nat) : Flash :=
  let c := f.dirCopy
  if c = 2 then { f with directory := [dirBytes 0 pref pending tries, f.directory.getD 1 []] }
  else
    let seq := (numAt (f.directory.getD c []) 4 4 + 1) % 2 ^ 32
    { f with directory := f.directory.set (1 - c) (dirBytes seq pref pending tries) }

/-! ## Start records (R437) -/

/-- Append a start record: its sector is erased just before its first record. -/
def Flash.append (f : Flash) (body : Nat → List Byte) : Flash :=
  let n := f.nextRecord
  let at_ := n % 32768
  let rs := if at_ % 64 = 0 then f.records.filter (fun p => p.1 / 64 != at_ / 64) else f.records
  { f with records := rs ++ [(at_, body n)], nextRecord := n + 1 }

/-! ## The health map (17 R498, Table Spares-7) -/

/-- The device's 64-bit serial number: OTP of the part (12 Table Tenants-10). -/
def serial : Nat := Config.serial % 2 ^ 64

/-- A copy is valid. -/
def healthValid (bs : List Byte) : Bool :=
  numAt bs 0 4 == 0x48544C48 && numAt bs 0x10 8 == serial && ((bs.drop 0x20).take 32) == Sha.sha256 (bs.take 0x20 ++ bs.drop 0x40)

/-- Copy in force, 2 when none is valid. -/
def Flash.healthCopy (f : Flash) : Nat :=
  let h := f.health
  inForce (healthValid (h.getD 0 [])) (healthValid (h.getD 1 [])) (numAt (h.getD 0 []) 4 4) (numAt (h.getD 1 []) 4 4)

/-- Entry of unit `u`: 32 bytes. -/
def State.healthUnit (s : State) (u : Nat) : List Byte :=
  let dw := [s.get .unit_STATUS u + s.get .unit_SUSPECT_COUNT u * 4 + s.get .unit_FAIL_CODE u * 2 ^ 16, s.get .unit_TESTED_BOOT_ID u,
    (if u < 9 then Store.get 0x1FFFF s.health.good u else Store.get 0 s.health.good u), Store.get 0 s.health.age u]
  dw.flatMap (toBytes 4) ++ List.replicate 16 0

/-- A copy of the health map as the device stands: 512 KiB. -/
def State.healthBytes (s : State) (seq writer : Nat) : List Byte :=
  let retired := (List.range 1024).filter (fun i => s.on .ret_VALID i)
  let head := [0x48544C48, seq, 1 + writer * 2 ^ 16, s.get .wedge_BOOT_ID, serial % 2 ^ 32, serial / 2 ^ 32, s.health.sillAge,
    retired.length].flatMap (toBytes 4)
  let units := (List.range 62).flatMap s.healthUnit
  let rows := (List.range 2304).flatMap (fun k =>
    match s.health.rows.find? (fun p => p.1 == k) with
    | some (_, r) => toBytes 2 (r % 512 + 2 ^ 15)
    | none => [0, 0])
  let pages := (List.range 1024).flatMap (fun i => toBytes 4 (if s.on .ret_VALID i then s.get .ret_RETIRED_PAGE i + 2 ^ 16 else 0))
  let rest := units ++ List.replicate 0x800 0 ++ rows ++ List.replicate 0xE00 0 ++ pages ++ List.replicate 0x7C000 0
  head ++ Sha.sha256 (head ++ rest) ++ rest

/-- An update of the health map (R498): the copy that is not in force is written, and is in force afterwards. -/
def State.writeHealth (s : State) (writer : Nat) : State :=
  let h := s.health
  let seq := if h.copy = 2 then 0 else (h.seq + 1) % 2 ^ 32
  let c := if h.copy = 0 then 1 else 0
  let bs := s.healthBytes seq writer
  let s : State := { s with
    flash := { s.flash with health := s.flash.health.set c bs }, health := { h with copy := c, seq := seq, due := false } }
  forEach (List.range 1024) (fun i s => if s.on .ret_VALID i then s.set .ret_PERSISTED i 1 else s) s

/-- Load statuses, repairs and retired pages from a copy (R499). A bent with fewer than 15 good arrays is UNUSABLE. -/
def State.loadHealth (s : State) (copy : Nat) (bs : List Byte) : State :=
  let unit := fun u => bs.drop (0x40 + u * 0x20)
  let s := forEach (List.range 62) (fun u s =>
    let e := unit u
    let w := numAt e 0 4
    let bad := u < 9 && popcount 17 (numAt e 8 4) < 15
    s.setAll u [(.unit_STATUS, if bad then 2 else bits w 0 2), (.unit_SUSPECT_COUNT, bits w 2 2),
      (.unit_FAIL_CODE, if bad then 0x0C11 else bits w 16 16), (.unit_TESTED_BOOT_ID, numAt e 4 4)]) s
  let s := forEach (List.range 1024) (fun i s =>
    let w := numAt bs (0x3000 + 4 * i) 4
    if bit w 16 then s.setAll i [(.ret_RETIRED_PAGE, bits w 0 16), (.ret_VALID, 1), (.ret_PERSISTED, 1)] else s) s
  let good := (List.range 62).map (fun u => (u, numAt (unit u) 8 4))
  let rows := (List.range 2304).filterMap (fun k =>
    let w := numAt bs (0x1000 + 2 * k) 2
    if bit w 15 then some (k, w % 512) else none)
  { s with health := { s.health with
      good := good.filter (fun p => p.1 < 9 || 31 ≤ p.1 && p.1 ≤ 32), age := (List.range 9).map (fun u => (u, numAt (unit u) 12 2)), rows := rows
      sillAge := numAt bs 0x18 2, copy := copy, seq := numAt bs 4 4 } }

/-! ## Verdicts (17 R484, R485) -/

/-- A Try-square verdict is written to the unit's status. Units 29 and 30 stay GOOD; a unit whose SUSPECT_COUNT is 3 is UNUSABLE even
when it passes. -/
def State.applyVerdict (s : State) (v : Verdict) : State :=
  let u := v.u.val
  let limit := s.get .unit_SUSPECT_COUNT u == 3
  let bad := !v.pass || limit
  let code := if v.pass then 0x0C15 else v.code.toNat
  let h := s.health
  let s : State := { s with health := { h with
    good := if u < 9 ∨ (31 ≤ u ∧ u ≤ 32) then Store.put (if u < 9 then 0x1FFFF else 0) h.good u v.good.toNat else h.good
    age := if u < 9 then Store.put 0 h.age u v.age.toNat else h.age
    rows := if u < 9 then h.rows.filter (fun p => p.1 / 256 != u) ++ v.rows.map (fun (b, i, r) => (u * 256 + b * 8 + i, r)) else h.rows } }
  let s := s.set .unit_TESTED_BOOT_ID u (s.get .wedge_BOOT_ID)
  let s := if bad then s.set .unit_FAIL_CODE u code else s
  if u = 29 ∨ u = 30 then (if bad then (s.set .unit_STATUS u 1).reduce 9 else s.set .unit_STATUS u 1)
  else s.set .unit_STATUS u (if bad then 2 else 1)

end Sys2Proof.Machine
end

