-- ==== Sys2Proof/Machine/Spares.lean ====
section
/-! DEFINITION. Spares, recovery and self-test (17): declarations, the spare bent, Foreman takeover, the last-resort sequence, the health
map, the shutdown program and the direct Try-square programs. -/

namespace Sys2Proof.Machine

/-! ## Units (Table Spares-1) and their slots (R487) -/

/-- Domains of a unit, children first (15 Table Clocks-2). -/
def unitDomains (u : Nat) : List Nat :=
  if u < 9 then (bentDomains u).reverse else if u < 17 then [77 + (u - 9), 69 + (u - 9)] else if u < 25 then [130 + (u - 17), 122 + (u - 17)]
  else if u < 28 then [141 + (u - 25)] else if u = 28 then rangeFrom 115 5 else if u = 29 then [121, 120]
  else if u = 30 then rangeFrom 59 8 ++ rangeFrom 55 4 else if u < 33 then [147 + (u - 31)] else if u = 33 then [145]
  else if u < 58 then [85 + (u - 34)] else [111 + (u - 58)]

/-- The domain that holds a unit's control block. -/
def unitDomain (u : Nat) : Nat := (unitDomains u).getLastD 0

/-- Slot that a unit fills (R487). -/
def State.slotOf (s : State) (u : Nat) : Option Nat :=
  if u < 9 then s.logicalOf u else if u < 25 then some (u - 1)
  else if u < 28 then (if s.get .rec_ACTIVE_ID = u - 25 then some 24 else if s.get .rec_STANDBY_ID = u - 25 then some 25 else none)
  else if u = 28 then some 26 else if u = 29 then some 27 else if u = 33 then some 28 else none

/-- The incarnation of a slot increments; after 0xFFFF it is 1 (R487). A bent shows its own. -/
def State.newIncarnation (s : State) (sl : Nat) : State :=
  let v := s.get .inc_INCARNATION sl
  let v := if v = 0xFFFF then 1 else v + 1
  let s := s.set .inc_INCARNATION sl v
  if sl < 8 then s.set .bent_INCARNATION sl v else s

/-- A recovery event (Table Spares-8). -/
def State.recoveryEvent (s : State) (code u : Nat) : State :=
  (s.setAll 0 [(.rec_LAST_EVENT, code), (.rec_LAST_UNIT, u)]).bump .rec_EVENT_SEQ

/-- A unit becomes SUSPECT (R484, R485, R488). -/
def State.suspect (s : State) (u : Nat) : State :=
  let s := s.setAll u [(.unit_STATUS, 3), (.unit_SUSPECT_COUNT, min 3 (s.get .unit_SUSPECT_COUNT u + 1))]
  let s := (s.set .rec_SUSPECT_SEEN 0 1).recoveryEvent 0x0C0B u
  { s with health := { s.health with due := true } }

/-- COMP_OFF is 1 while any of its causes is (07 R231, Table Froe-6). -/
def State.compOff (s : State) : State :=
  s.set .froe_COMP_OFF 0 (b2n (s.on .froe_OFF_START_UP || s.on .froe_OFF_SELF_TEST || s.on .froe_OFF_RECOVERY))

/-- RECOVERING and OFF_RECOVERY follow the bring-ins and the loading of a cold spare. -/
def State.showRecovery (s : State) : State :=
  let b := b2n (!s.recovery.bringIns.isEmpty || s.recovery.cold.isSome)
  (s.setAll 0 [(.rec_RECOVERING, b), (.froe_OFF_RECOVERY, b)]).compOff

/-- ALWAYS_ON of the three Foremen (15 R448). -/
def State.showForemen (s : State) : State :=
  forEach [141, 142, 143] (fun d s => s.set .dom_ALWAYS_ON d (b2n (s.alwaysOn.contains d))) s

/-- A unit is taken out of service: its domains go OFF without drain and stay OFF (R489). -/
def State.takeOff (s : State) (u : Nat) : State :=
  let ds := unitDomains u
  let s := s.forceOff ds
  let s := forEach ds (fun d s => s.set .dom_HELD_OFF d 1) s
  { s with recovery := { s.recovery with off := (u :: s.recovery.off).eraseDups } }

/-! ## Spare bents (R486, R490) -/

/-- A physical bent that may take a logical number at run time. -/
def State.spareBent (s : State) (p : Nat) : Bool :=
  s.get .unit_STATUS p < 2 && !s.on .unit_FENCED p && !s.on .unit_IN_RESET p && (s.logicalOf p).isNone &&
    !s.recovery.bringIns.any (fun b => b.2 == p) && decide (15 ≤ popcount 17 (s.arrayGood p))

/-- Trim for a slowdown in units of 0.01 % (16 R479): 5 mV for each started 0.5 % beyond 1 % (log entry 41). -/
def ageTrim (slow : Nat) : Nat := min 40 (5 * cdiv (slow - 100) 50)

/-- Loft spare rows in use on physical bent `p` (06 R213). -/
def State.spareRows (s : State) (p : Nat) : Nat := (s.health.rows.filter (fun r => r.1 / 256 == p)).length

/-- Ageing of physical bent `p` that serves logical bent `n` (16 R479): a bent that would need more than 40 mV gets MAX_OP 1. -/
def State.setAge (s : State) (n p : Nat) : State :=
  let slow := Store.get 0 s.health.age p
  let worn := decide (500 < slow)
  let s := s.setAll n [(.pwrb_AGE_SLOW, slow), (.pwrb_AGE_TRIM_MV, ageTrim slow), (.pwrb_MAX_OP, b2n worn), (.bent_OP, b2n worn)]
  if worn then s.reduce 7 else s

/-- SPARE_BENT, BENTS_PRESENT and ARRAYS_IN_SERVICE (Table Spares-8). -/
def State.showBents (s : State) : State :=
  let ns := (List.range 8).filter (fun n => s.on .bent_PRESENT n)
  s.setAll 0
    [(.rec_BENTS_PRESENT, ns.length), (.rec_ARRAYS_IN_SERVICE, (ns.map (fun n => s.get .mor_ARRAYS n)).sum),
      (.rec_SPARE_BENT, b2n ((List.range 9).any s.spareBent))]

/-- The next spare is brought in as logical bent `n`, from step 3 of Table Spares-3; with none the bent is not present. -/
def State.bringIn (s : State) (n failed : Nat) : State :=
  match (List.range 9).find? s.spareBent with
  | some p =>
    let s : State := { s with recovery := { s.recovery with bringIns := s.recovery.bringIns ++ [(n, p)] } }
    let s := (s.set .unit_IN_RESET failed 1).set .unit_IN_RESET p 1
    let s := forEach (bentDomains p) (fun d s => s.set .dom_HELD_OFF d 0) s
    (if s.on .pwr_COOLANT_STOP then s else s.bring (bentDomains p)).showBents.showRecovery
  | none => (s.reduce 0).showBents.showRecovery

/-- Bent `p` is declared failed while it serves logical bent `n`: steps 1 and 2 of Table Spares-3. Until step 4 the logical bent is not
present, PHYSICAL is 0 and its block reads as zero (log entry 25). -/
def State.bentLost (s : State) (p n : Nat) : State :=
  let js := s.jobs.filter (fun j => j.bents.contains n)
  let s := s.takeOff p
  let s := forEach js (fun j s => s.faultJob j.id 0x0C03) s
  let s := s.setAll n [(.bent_PRESENT, 0), (.bent_PHYSICAL, 0)]
  let s := s.fillerStop n
  let s : State := { s with power := { s.power with
    changing := s.power.changing.filter (fun c => c.1 != n), stretched := s.power.stretched.filter (· != n) } }
  s.bringIn n p

/-- A spare is declared failed during its own bring-in (R490). -/
def State.spareLost (s : State) (p n : Nat) : State :=
  let s := (s.takeOff p).set .unit_IN_RESET p 0
  ({ s with recovery := { s.recovery with bringIns := s.recovery.bringIns.filter (fun b => b.2 != p) } } : State).bringIn n p

/-! ## Units without a spare (R491) -/

/-- A Jointer is lost: its running loop jobs fault, its frames and waiting loop jobs go. -/
def State.jointerLost (s : State) (j : Nat) : State :=
  let ks := s.jointerStreams j
  let s := forEach (s.jobs.filter (fun x => match x.id with | .loop k => ks.contains k.val | _ => false)) (fun x s => s.faultJob x.id 0x0C04) s
  let held := s.camera.heldControls.filter (fun h => ks.contains h.stream)
  let s := forEach held (fun h s => s.ctrlOutcome h.stream h.seq 0x0C04) s
  let c := s.camera
  let s : State := { s with camera := { c with
    frames := c.frames.filter (fun f => !ks.contains f.stream), waiting := c.waiting.filter (fun w => !ks.contains w.stream)
    reentry := c.reentry.filter (fun r => !ks.contains r.stream), heldControls := c.heldControls.filter (fun h => !ks.contains h.stream) } }
  let s := forEach ks (fun k s => if s.get .cam_STATE k = 2 then s.set .cam_STATE k 1 else s.camStopped k) s
  (s.set .jnt_PRESENT j 0).reduce 2

/-- An I3C group is lost: Cleat abandons the records queued for its buses. -/
def State.i3cLost (s : State) (g : Nat) : State :=
  let gone := s.camera.queue.filter (fun r => r.bus / 6 == g)
  let s : State := { s with camera := { s.camera with queue := s.camera.queue.filter (fun r => r.bus / 6 != g) } }
  (forEach gone (fun r s =>
    match r.source with
    | some (k, seq) => s.ctrlOutcome k seq 0x0C04
    | none => s.setAll r.bus [(.i3c_MAN_GO, 0), (.i3c_MAN_BUSY, 0), (.i3c_MAN_REASON, 0x0C04)]) s).reduce 4

/-- A UCIe module is lost (13 R392): the link runs on the other alone. -/
def State.ucieLost (s : State) (m : Nat) : State :=
  ((s.set (if m = 0 then .host_MOD0_UP else .host_MOD1_UP) 0 0).event .host_LINK_DEGRADED).reduce 6

/-- What else follows the loss of a unit without a spare. -/
def State.unitLost (s : State) (u : Nat) : State :=
  let s := s.takeOff u
  if u < 17 then s.jointerLost (u - 9)
  else if u < 25 then (s.set .kport_LINK_UP (u - 17) 0).reduce 5
  else if u = 28 then
    let s := forEach (List.range 4) (fun g s => s.setMode g 0) s
    ({ s with audio := { s.audio with hqClean := false } } : State).showSettling.showHq
  else if u < 28 ∨ u = 33 then s
  else if u < 33 then s.ucieLost (u - 31)
  else if u < 58 then (s.set .port_ENABLED (u - 34) 0).reduce 3
  else s.i3cLost (u - 58)

/-! ## Foreman (R492, R493) -/

/-- Steps 4 and 5 of Table Spares-4 begin when a third usable Foreman exists; otherwise there is no standby. -/
def State.coldSpare (s : State) (failed : Nat) : State :=
  let s := s.set .rec_STANDBY_ID 0 3
  let third := [0, 1, 2].find? (fun f => f != s.get .rec_ACTIVE_ID && f != failed && s.get .unit_STATUS (25 + f) < 2 &&
    !s.on .unit_IN_RESET (25 + f))
  match third with
  | some f =>
    let s := s.set .unit_IN_RESET (25 + failed) 1
    ({ s with recovery := { s.recovery with cold := some f } } : State).showRecovery.showForemen
  | none => ((s.reduce 8).showRecovery).showForemen

/-- Takeover (Table Spares-4): the standby becomes the active Foreman. -/
def State.takeover (s : State) : State :=
  let old := s.get .rec_ACTIVE_ID
  let new := s.get .rec_STANDBY_ID
  let s := ((s.suspect (25 + old)).newIncarnation 24).takeOff (25 + old)
  let s := (s.newIncarnation 25).set .rec_ACTIVE_ID 0 new
  let s := (s.set .inc_OCCUPANT 24 (25 + new)).pegAdd 0 1
  let s := ((s.bump .rec_TAKEOVERS).set .rec_TAKEOVER_SEEN 0 1).recoveryEvent 0x0C09 (25 + old)
  let s : State := { s with recovery := { s.recovery with stall0 := 0, stall1 := 0 } }
  s.coldSpare old

/-- The standby has fallen silent: the active Foreman sets it SUSPECT and takes it out of service. -/
def State.standbyLost (s : State) : State :=
  let old := s.get .rec_STANDBY_ID
  let s := ((s.suspect (25 + old)).newIncarnation 25).takeOff (25 + old)
  ({ s with recovery := { s.recovery with stall1 := 0 } } : State).coldSpare old

/-- Meaning of HEARTBEAT_ADD (R492): peg 0 is the active Foreman's, peg 1 the standby's. -/
def execHeartbeatAdd (active : WithLate Bool) (s : State) : Host.Outcome State Fault Refusal :=
  let s := s.dropAll active.late
  .next (if !s.foremanUp then s
    else if active.val then s.pegAdd 0 1
    else if s.get .rec_STANDBY_ID = 3 then s else s.pegAdd 1 1)

/-- HEARTBEAT_SAMPLE (R493): one sample in 250 µs; ten without an advance, or an error that the other Foreman reports, are its failure. -/
def State.heartbeatSample (s : State) (byStandby error : Bool) : State :=
  if !s.foremanUp || s.get .rec_STANDBY_ID = 3 then s
  else
    let r := s.recovery
    let beat := s.get .peg_COUNT (if byStandby then 0 else 1)
    let still := beat == (if byStandby then r.beat0 else r.beat1)
    let n := if still then (if byStandby then r.stall0 else r.stall1) + 1 else 0
    let s : State := { s with recovery := if byStandby then { r with beat0 := beat, stall0 := n } else { r with beat1 := beat, stall1 := n } }
    if error || 10 ≤ n then (if byStandby then s.takeover else s.standbyLost) else s

/-- Meaning of HEARTBEAT_SAMPLE. -/
def execHeartbeatSample (byStandby : Bool) (error : WithLate Bool) (s : State) : Host.Outcome State Fault Refusal :=
  .next ((s.heartbeatSample byStandby error.val).dropAll error.late)

/-! ## Declarations (R488, R489) -/

/-- The unit is polled: in service and ON. The active Foreman polls, and is watched by the standby (R493). -/
def State.polled (s : State) (u : Nat) : Bool :=
  !s.on .dom_HELD_OFF (unitDomain u) && !(s.recovery.test.any (fun t => t.units.contains u)) &&
    (u = 29 || u = 30 || s.get .unit_STATUS u < 2) && s.get .rec_ACTIVE_ID + 25 != u &&
    (s.domainOn (unitDomain u) || s.recovery.bringIns.any (fun b => b.2 == u))

/-- Foreman declares a unit failed. -/
def State.declareFailed (s : State) (u : Nat) : State :=
  if u = 29 ∨ u = 30 then (s.suspect u).reduce 9
  else if u < 28 ∧ s.get .rec_STANDBY_ID + 25 = u then s.standbyLost
  else
    let s := s.suspect u
    match s.recovery.bringIns.find? (fun b => b.2 == u) with
    | some (n, _) => s.spareLost u n
    | none =>
      let s := match s.slotOf u with | some sl => s.newIncarnation sl | none => s
      if u < 9 then (match s.logicalOf u with | some n => s.bentLost u n | none => s.takeOff u)
      else s.unitLost u

/-- FOREMAN_POLL (R488): `silent` units do not answer, `errors` report an uncorrectable error or have a station over its limit. -/
def State.foremanPoll (s : State) (silent errors : List Nat) : State :=
  if !s.foremanUp || s.boot.phase != .running || s.on .rec_SHUTDOWN_STATE then s
  else
    let bad := (List.range 62).filter (fun u =>
      s.polled u && (errors.contains u || (silent.contains u && s.recovery.silent.contains u)))
    let s : State := { s with recovery := { s.recovery with silent := (List.range 62).filter (fun u => silent.contains u && s.polled u) } }
    forEach bad (fun u s => if s.polled u then s.declareFailed u else s) s

/-- Meaning of FOREMAN_POLL. -/
def execForemanPoll (silent : List (Fin 62)) (errors : WithLate (List (Fin 62))) (s : State) : Host.Outcome State Fault Refusal :=
  .next ((s.foremanPoll (silent.map Fin.val) (errors.val.map Fin.val)).dropAll errors.late)

/-- Meaning of UNIT_FENCED (R489): only for a unit that a declaration has put OFF. -/
def execUnitFenced (u : Fin 62) (s : State) : Host.Outcome State Fault Refusal :=
  .next (if s.recovery.off.contains u.val && !s.on .unit_FENCED u.val then
    ((s.set .unit_FENCED u.val 1).set .rec_FENCE_SEEN 0 1).recoveryEvent 0x0C0C u.val
  else s)

/-! ## The shutdown program (R497) -/

/-- The program starts, once no recovery, update operation or other program runs. -/
def State.shutdownStart (s : State) : State :=
  if !s.shutdownHeld || s.on .rec_RECOVERING || s.on .start_UPD_BUSY || s.on .rec_TS_BUSY || !s.foremanUp then s
  else
    let s : State := { s with shutdownHeld := false }
    let s := s.setAll 0 [(.rec_SHUTDOWN_STATE, 1), (.rec_SHUTDOWN_GO, 0), (.froe_OFF_SELF_TEST, 1)]
    let s := forEach ((List.range 62).filter (fun u => u != 25 + s.get .rec_ACTIVE_ID)) (fun u s => s.set .unit_IN_RESET u 1) s
    s.compOff

/-- The check of SHUTDOWN_GO (R497, R491). -/
def State.shutdownCheck (s : State) : Nat :=
  firstCode
    [(0x0C01, s.get .host_DEV_STATE != 1 || (s.indices .ten_STATE).any (fun t => s.get .ten_STATE t == 1 || s.get .ten_STATE t == 2) ||
        s.on .rec_SHUTDOWN_STATE || s.shutdownHeld),
      (0x0C07, decide (2 ≤ s.get .unit_STATUS 33))]

/-- SHUTDOWN_GO (R497): held until a bring-in, a takeover or an update operation completes. -/
def State.shutdownGo (s : State) : State :=
  match s.shutdownCheck with
  | 0 => ({ s.setAll 0 [(.rec_SHUTDOWN_REASON, 0), (.rec_SHUTDOWN_GO, 1)] with shutdownHeld := true } : State).shutdownStart
  | code => s.refuse .rec_SHUTDOWN_REASON 0 code

/-- Meaning of SHUTDOWN_GO. -/
def execShutdownGo (s : State) : Host.Outcome State Fault Refusal := .next (s.hostWrite .foreman State.shutdownGo)

/-- An update of the health map, or its failure (R497, R498). -/
def State.healthUpdate (s : State) (writer : Nat) (ok : Bool) : State :=
  if ok then s.writeHealth writer
  else { s.set .rec_HEALTH_WRITE_FAIL 0 1 with health := { s.health with due := false } }

/-- Verdicts for the units that a program covers. -/
def State.verdicts (s : State) (units : List Nat) (vs : List Verdict) : State :=
  let s := forEach (vs.filter (fun v => units.contains v.u.val)) (fun v s => s.applyVerdict v) s
  let s := forEach units (fun u s => s.set .unit_IN_RESET u 0) s
  { s with recovery := { s.recovery with off := s.recovery.off.filter (fun u => 2 ≤ s.get .unit_STATUS u) } }

/-- The Loft repair listings enter the health record of their bents (06 R213; R497 step 2): each row takes the next spare row of its
bank, and a bank without one makes its bent UNUSABLE. -/
def State.listRepairs (s : State) : State :=
  let s := forEach s.lofts.repair (fun (p, bank, row) s =>
    let mine := fun i => s.health.rows.find? (fun q => q.1 == p * 256 + bank * 8 + i)
    let slots := List.range 8
    if slots.any (fun i => (mine i).map (·.2) == some row) then s
    else
      match slots.find? (fun i => (mine i).isNone) with
      | some i => { s with health := { s.health with rows := s.health.rows ++ [(p * 256 + bank * 8 + i, row)] } }
      | none => s.setAll p [(.unit_STATUS, 2), (.unit_FAIL_CODE, 0x0C12)]) s
  { s with lofts := { s.lofts with repair := [] } }

/-- The standby, which has passed its test, takes the ACTIVE role, and the Foreman that was active is tested (step 3). -/
def State.swapForemen (s : State) : State :=
  let a := s.get .rec_ACTIVE_ID
  let b := s.get .rec_STANDBY_ID
  if b = 3 || s.get .unit_STATUS (25 + b) != 1 then s
  else
    let s := (s.newIncarnation 24).newIncarnation 25
    let s := s.setAll 0 [(.rec_ACTIVE_ID, b), (.rec_STANDBY_ID, a)]
    (s.set .inc_OCCUPANT 24 (25 + b)).set .inc_OCCUPANT 25 (25 + a)

/-- Domains that stay ON after the shutdown program (step 5). -/
def State.shutdownKeeps (s : State) : List Nat := s.alwaysOn ++ [144, 146, 147, 148, 149]

/-- SHUTDOWN_DONE (R497). Its health-map write waits for an update operation in progress (14 R436). -/
def State.shutdownDone (s : State) (vs : List Verdict) (ok : Bool) : State :=
  if s.get .rec_SHUTDOWN_STATE ≠ 1 ∨ s.boot.update.isSome then s
  else
    let s := ((s.verdicts (List.range 62) vs).listRepairs.swapForemen).healthUpdate 0 ok
    let keep := s.shutdownKeeps
    let s := s.forceOff ((List.range 152).filter (fun d => !keep.contains d)).reverse
    let s := { s with refresh := .asleep }
    (s.setAll 0 [(.rec_SHUTDOWN_STATE, if ok then 2 else 3), (.froe_OFF_SELF_TEST, 0)]).compOff

/-- Meaning of SHUTDOWN_DONE. -/
def execShutdownDone (verdicts : List Verdict) (ok : Bool) (s : State) : Host.Outcome State Fault Refusal :=
  .next (s.shutdownDone verdicts ok)

/-! ## Ends of a recovery -/

/-- SPARE_BENT_IN_SERVICE: steps 3 to 5 of Table Spares-3. A coolant stop holds the bring-in. -/
def State.spareInService (s : State) (n : Nat) : State :=
  match s.recovery.bringIns.find? (fun b => b.1 == n) with
  | none => s
  | some (_, p) =>
    if s.on .pwr_COOLANT_STOP || !s.foremanUp then s
    else
      let ds := bentDomains p
      let s := s.setDoms ([151, 150, 140, 54] ++ ds) 2
      let s : State := { s with
        recovery := { s.recovery with bringIns := s.recovery.bringIns.filter (fun b => b.1 != n) }
        demands := s.demands.filter (fun d => !ds.contains d) }
      let s := s.setAll n [(.bent_PHYSICAL, p), (.bent_PRESENT, 1), (.bent_PWR, 2), (.bent_THROTTLED, b2n (s.get .pwr_DUTY < 16)),
        (.dowel_LOFT_SPARE_ROWS, s.spareRows p)]
      let s := ((s.setArrays n p).set .inc_OCCUPANT n p).set .scarf_SEG_CAPABLE n (b2n (n < 2))
      let s := if s.get .mor_ARRAYS n < 16 then s.reduce 1 else s
      let s := s.setAge n p
      let s := s.set .unit_IN_RESET p 0
      let s := if s.recovery.bringIns.isEmpty then
          forEach ((List.range 9).filter (fun u => s.recovery.off.contains u)) (fun u s => s.set .unit_IN_RESET u 0) s else s
      ((s.bump .rec_REPLACEMENTS).showBents.showRecovery).shutdownStart

/-- Meaning of SPARE_BENT_IN_SERVICE. -/
def execSpareBentInService (n : Fin 8) (s : State) : Host.Outcome State Fault Refusal := .next (s.spareInService n.val)

/-- COLD_SPARE_LOADED: steps 4 and 5 of Table Spares-4. -/
def State.coldSpareLoaded (s : State) : State :=
  match s.recovery.cold with
  | none => s
  | some f =>
    if !s.foremanUp then s
    else
      let s := (s.set .dom_HELD_OFF (141 + f) 0).setDom (141 + f) 2
      let s := (s.set .rec_STANDBY_ID 0 f).set .inc_OCCUPANT 25 (25 + f)
      let s := forEach [25, 26, 27] (fun u s => if s.recovery.off.contains u then s.set .unit_IN_RESET u 0 else s) s
      let s := ({ s with recovery := { s.recovery with cold := none, stall1 := 0 } } : State).pegAdd 1 1
      (s.showRecovery.showForemen).shutdownStart

/-- Meaning of COLD_SPARE_LOADED. -/
def execColdSpareLoaded (s : State) : Host.Outcome State Fault Refusal := .next s.coldSpareLoaded

/-! ## The last-resort sequence (R494, R495) -/

/-- Table Spares-5. -/
def State.lastResort (s : State) (cause : Nat) : State :=
  let s := s.setAll 0 [(.rec_LR_ACTED, 1), (.rec_LR_CAUSE, cause), (.rec_LR_BOOT_ID, s.get .wedge_BOOT_ID)]
  let s := s.recoveryEvent 0x0C0A (25 + s.get .rec_ACTIVE_ID)
  let s := s.forceOff (rangeFrom 0 54).reverse
  let s := s.fixedSelfRefresh
  let s := (s.set .host_DEV_STATE 0 2).event .host_FOREMAN_LOST_EV
  let s := if s.on .clk_MAIN_LOCKED then s else s.set .clk_CK_CTL_ON_REF 0 1
  let s := if cause = 5 then s.setDoms [147, 148, 149] 0 else s.setDoms ([151, 140, 149, 147, 148].filter (fun d => !s.domainOn d)) 2
  { s with boot := { s.boot with lastResort := true, sillLost := s.boot.sillLost || decide (3 ≤ cause) } }

/-- The sequencer is armed: Foreman stalls only where one runs; the control domain can be lost once it is up (R494). -/
def State.lastResortArmed (s : State) (cause : Nat) : Bool :=
  !s.boot.lastResort && decide (1 ≤ cause ∧ cause ≤ 5) &&
    (if cause < 3 then s.boot.phase == .running || s.boot.phase == .ready else s.boot.phase != .reset && s.boot.phase != .warm)

/-- Meaning of LAST_RESORT. -/
def execLastResort (cause : BitVec 3) (s : State) : Host.Outcome State Fault Refusal :=
  .next (if s.lastResortArmed cause.toNat then s.lastResort cause.toNat else s)

/-! ## The health map at run time (R498) -/

/-- Meaning of HEALTH_MAP_UPDATE: due after a declaration; flash operations go one at a time (14 R436). -/
def execHealthMapUpdate (ok : Bool) (s : State) : Host.Outcome State Fault Refusal :=
  .next (if s.health.due && s.foremanUp && !s.on .start_UPD_BUSY then s.healthUpdate 1 ok else s)

/-! ## Direct programs (R496) -/

/-- Units that a program covers (Table Spares-6). -/
def State.covers (s : State) (prog u : Nat) : Bool :=
  match prog with
  | 1 => s.get .rec_ACTIVE_ID + 25 != u
  | 2 => u < 9
  | 3 => (17 ≤ u && u < 25) || (34 ≤ u && u < 58)
  | _ => false

/-- A unit has a job placed on it or enabled work bound to it. -/
def State.unitBusy (s : State) (u : Nat) : Bool :=
  if u < 9 then (match s.logicalOf u with | some n => s.jobs.any (fun j => j.bents.contains n) | none => false)
  else if u < 17 then !(s.jointerStreams (u - 9)).isEmpty
  else if u = 28 ∨ u = 29 then s.on .casc_ENABLE
  else if u = 30 then !(s.indices .ctx_ENABLE).isEmpty
  else if u = 31 ∨ u = 32 then !(s.indices .ring_ENABLE).isEmpty
  else if 34 ≤ u ∧ u < 58 then !(s.portStreams (u - 34)).isEmpty
  else if (17 ≤ u ∧ u < 25) ∨ 58 ≤ u then s.servingDomains.contains (unitDomain u)
  else false

/-- Units that TS_UNITS names. -/
def State.namedUnits (s : State) : List Nat := maskList 62 (s.get .rec_TS_UNITS_LO + 2 ^ 32 * s.get .rec_TS_UNITS_HI)

/-- The check of TS_GO (R496). -/
def State.testCheck (s : State) (prog : Nat) : Nat :=
  let lc := s.get .wedge_LIFE_CYCLE
  firstCode
    [(0x0C05, lc != 1 && lc != 3), (0x0C07, !(1 ≤ prog && prog ≤ 3) || s.namedUnits.any (fun u => !s.covers prog u)),
      (0x0C06, s.namedUnits.any s.unitBusy)]

/-- A write of TS_GO with this program number (R496). While a program runs, Try-square takes no other. -/
def State.testGo (s : State) (prog : Nat) : State :=
  let s := s.set .rec_TS_PROG 0 prog
  if s.on .rec_TS_BUSY || s.get .rec_SHUTDOWN_STATE = 1 then s
  else
    match s.testCheck prog with
    | 0 =>
      let us := s.namedUnits
      let s := s.setAll 0 [(.rec_TS_REASON, 0), (.rec_TS_BUSY, 1), (.froe_OFF_SELF_TEST, 1)]
      let s := forEach us (fun u s => s.set .unit_IN_RESET u 1) s
      ({ s with recovery := { s.recovery with test := some { prog := prog, units := us } } } : State).compOff
    | code => s.refuse .rec_TS_REASON 0 code

/-- A write of TS_GO waits until Try-square is ON (15 R452). -/
def State.testWrite (s : State) (prog : Nat) : State := s.whenOn 145 (.testGo prog) (fun s => s.testGo prog)

/-- Meaning of UNIT: TS_GO with TS_PROG 1. -/
def execTsUnit (s : State) : Host.Outcome State Fault Refusal := .next (s.hostWrite .foreman (fun s => s.testWrite 1))

/-- Meaning of LOFT_MARCH: TS_GO with TS_PROG 2. -/
def execTsLoftMarch (s : State) : Host.Outcome State Fault Refusal := .next (s.hostWrite .foreman (fun s => s.testWrite 2))

/-- Meaning of LINK_LOOPBACK: TS_GO with TS_PROG 3. -/
def execTsLinkLoopback (s : State) : Host.Outcome State Fault Refusal := .next (s.hostWrite .foreman (fun s => s.testWrite 3))

/-- Meaning of TS_GO, with any program number. -/
def execTsGo (prog : BitVec 4) (s : State) : Host.Outcome State Fault Refusal :=
  .next (s.hostWrite .foreman (fun s => s.testWrite prog.toNat))

/-- TS_PROGRAM_DONE (R496): verdicts, TS_ELAPSED_MS and an update of the health map, which waits for an update operation in progress
(14 R436). -/
def State.testDone (s : State) (vs : List Verdict) (elapsed : Nat) (ok : Bool) : State :=
  match s.recovery.test with
  | none => s
  | some t =>
    if s.boot.update.isSome then s else
    let s := (s.verdicts t.units vs).showBents
    let s := s.setAll 0 [(.rec_TS_BUSY, 0), (.rec_TS_ELAPSED_MS, elapsed), (.froe_OFF_SELF_TEST, 0)]
    ((({ s with recovery := { s.recovery with test := none } } : State).healthUpdate 3 ok).compOff).shutdownStart

/-- Meaning of TS_PROGRAM_DONE. -/
def execTsProgramDone (verdicts : List Verdict) (elapsed : Word) (ok : Bool) (s : State) : Host.Outcome State Fault Refusal :=
  .next (s.testDone verdicts elapsed.toNat ok)

/-! ## Domains that come ON (15 R452, R454) -/

/-- A write that waited for its domain takes effect (15 R452). -/
def State.applyDeferred (s : State) (d : Nat) : State :=
  let ws := s.deferred.filter (fun p => p.1 == d)
  let s : State := { s with deferred := s.deferred.filter (fun p => p.1 != d) }
  forEach ws (fun p s =>
    match p.2 with
    | .register off v => s.writeDW off v
    | .daaGo b ts => s.runDaa b ts
    | .manGo b => s.runManual b
    | .testRule port i v => s.testRuleEnable port i v
    | .glanceSrc v => s.glanceSource v
    | .beamCommit => s.beamCommit
    | .testGo prog => s.testGo prog) s

/-- A parent is ON, and no entry of its own has passed step 3 (15 R446, R454). -/
def State.parentOn (s : State) (d : Nat) : Bool := s.domainOn d && !s.isolated d

/-- DOMAIN_EXIT_DONE (15 R454): steps 2 to 5, once every parent is ON. -/
def State.exitDone (s : State) (d : Nat) : State :=
  if !s.on .dom_CHANGING d || s.get .dom_TARGET d != 2 || s.get .dom_STATE d == 2 || !(domParents d).all s.parentOn then s
  else
    let was := s.get .dom_STATE d
    let s := s.setDom d 2
    let s := if d = 150 ∧ was = 1 then s.bump .clk_MAIN_RELOCKS else s
    let s :=
      if was = 0 ∧ d < 9 then (match s.logicalOf d with | some n => s.setArrays n d | none => s) else s
    ({ s with demands := s.demands.filter (· != d) } : State).applyDeferred d

/-- Meaning of DOMAIN_EXIT_DONE. -/
def execDomainExitDone (d : Fin 152) (s : State) : Host.Outcome State Fault Refusal := .next (s.exitDone d.val)

end Sys2Proof.Machine
end

