-- ==== Sys2Proof/Machine/Wedge.lean ====
section
/-! DEFINITION. Wedge (12 R375 to R390): the identity, the KEM key, key deliveries, attestation, the life cycle. SLH-DSA, ML-KEM and
AES-GCM are standards that the manual names and does not restate: their outputs are Config.crypto, cut to the length that the
standard gives. Whether a tag or a token's signature verifies is an operand of the command the first time, and recorded: the same bytes
under the same key give the same again (log entry 12). -/

namespace Sys2Proof.Machine

/-! ## Primitives -/

/-- The first `n` bytes, filled up with zeros. -/
def fixLen (n : Nat) (bs : List Byte) : List Byte := (bs ++ List.replicate n 0).take n

/-- ASCII text without a terminator. -/
def ascii (t : String) : List Byte := t.toList.map (fun c => BitVec.ofNat 8 c.toNat)

/-- Wedge's derivation (R375). -/
def State.kdf (s : State) (label : String) (x : List Byte) : List Byte := Sha.sha256 (s.wedge.otp.secret ++ ascii label ++ x)

/-- The three seeds of the identity key under `k` (R376). -/
def State.identitySeeds (s : State) (k : Byte) : List Byte :=
  ["QX-ID-SKSEED", "QX-ID-SKPRF", "QX-ID-PKSEED"].flatMap (fun l => (s.kdf l [k]).take 24)

/-- Public key of an SLH-DSA-SHA2-192f key pair: PK.seed and PK.root. -/
def slhPublic (seeds : List Byte) : List Byte := (seeds.drop 48).take 24 ++ fixLen 24 (Config.crypto "SLH-DSA-SHA2-192f.PK.root" [seeds])

/-- A pure SLH-DSA-SHA2-192f signature (R377). -/
def slhSign (seeds : List Byte) (context : String) (m : List Byte) : List Byte :=
  fixLen 35664 (Config.crypto "SLH-DSA-SHA2-192f.sign" [seeds, ascii context, m])

/-- `n` bytes of Wedge's random bit generator. -/
def State.random (s : State) (n : Nat) : List Byte × State :=
  ((List.range n).map (fun i => BitVec.ofNat 8 (Config.freeValue s.free i)), { s with free := s.free + 1 })

/-! ## Identity and the KEM key -/

/-- Life-cycle states with an identity (Table Tenants-8). -/
def hasIdentity (lc : Nat) : Bool := 1 ≤ lc && lc ≤ 3

/-- The identity key of the current state (R376), at a start-up. -/
def State.loadIdentity (s : State) : State :=
  let lc := s.get .wedge_LIFE_CYCLE
  if !hasIdentity lc then
    { s.setAll 0 [(.wedge_IDENT_READY, 0), (.wedge_IDENT_PK, 0), (.wedge_DEPLOYED_PK, 0)] with
      wedge := { s.wedge with identity := [] } }
  else
    let seeds := s.identitySeeds (if lc = 2 then 0 else 1)
    { s.setAll 0 [(.wedge_IDENT_READY, 1), (.wedge_IDENT_PK, ofBytes (slhPublic seeds)),
        (.wedge_DEPLOYED_PK, ofBytes (slhPublic (s.identitySeeds 0)))] with
      wedge := { s.wedge with identity := seeds } }

/-- Show the number of queued items. -/
def State.showQueue (s : State) : State := s.set .wedge_QUEUE 0 s.wedge.queue.length

/-- A new ML-KEM-768 pair of the given epoch (R378): the old decapsulation key is gone, the fingerprint list is empty, and a
certificate is queued. A certificate of the old epoch that waits in the queue gives its place up. -/
def State.newKem (s : State) (epoch : Nat) : State :=
  let (d, s) := s.random 64
  let pair := Config.crypto "ML-KEM-768.KeyGen" [d]
  let w := s.wedge
  ({ s.setAll 0 [(.wedge_KEM_EPOCH, epoch), (.wedge_KEM_READY, 1), (.wedge_CERT_READY, 0)] with
      wedge := { w with ek := fixLen 1184 pair, dk := fixLen 2400 (pair.drop 1184), fingerprints := []
                        queue := w.queue.filter (· != .cert) ++ [.cert] } } : State).showQueue

/-! ## Key deliveries (R379 to R382) -/

/-- Bytes `o` to `o + n - 1` of the key window. -/
def State.keyWindow (s : State) (o n : Nat) : List Byte := toBytes n (bits (s.get .wedge_KEY_WINDOW) (8 * o) (8 * n))

/-- KEY_GO (R379): ignored while a delivery is checked. The write carries the ERASE_SLOT bits. -/
def State.keyGo (s : State) (eraseSlot : Nat) : State :=
  let s := s.set .wedge_ERASE_SLOT 0 eraseSlot
  if s.on .wedge_KEY_BUSY then s else s.set .wedge_KEY_BUSY 0 1

/-- Meaning of KEY_GO. -/
def execKeyGo (eraseSlot : Byte) (s : State) : Host.Outcome State Fault Refusal :=
  .next (s.hostWrite .wedge (fun s => s.keyGo eraseSlot.toNat))

/-- The job key that a record carries (R380, step 5). -/
def State.unwrap (s : State) : List Byte :=
  let k := fixLen 32 (Config.crypto "ML-KEM-768.Decaps" [s.wedge.dk, s.keyWindow 64 1088])
  let h := s.keyWindow 0 12 ++ [0] ++ s.keyWindow 13 51
  let kek := Sha.sha256 (k ++ ascii "QX-JOBKEY" ++ h)
  fixLen 32 (Config.crypto "AES-256-GCM.decrypt" [kek, List.replicate 12 0, h, s.keyWindow 1152 32])

/-- The fingerprint of a job key (R381). -/
def fingerprint (key : List Byte) : List Byte := (Sha.sha256 (ascii "QX-KEYFP" ++ key)).take 16

/-- Whether the GCM tag of the record in the key window verifies under the present decapsulation key (R380, step 4): as it came out before,
or as the command gives it (log entry 12). -/
def State.tagOutcome (s : State) (given : Bool) : Bool :=
  match s.known.tags.find? (fun x => x.1 == s.wedge.dk && x.2.1 == s.get .wedge_KEY_WINDOW) with
  | some (_, _, ok) => ok
  | none => given

/-- The tag's outcome is recorded. -/
def State.seeTag (s : State) (ok : Bool) : State :=
  { s with known := { s.known with tags := (s.wedge.dk, s.get .wedge_KEY_WINDOW, ok) :: s.known.tags } }

/-- The check of a record (R380). -/
def State.keyCheck (s : State) (tagOk : Bool) : Nat :=
  let dw := fun i => ofBytes (s.keyWindow (4 * i) 4)
  let t := bits (dw 3) 8 12
  firstCode
    [(0x0905, bits (dw 0) 0 16 != 3 || bits (dw 0) 16 16 != 0 || bits (dw 3) 20 12 != 0 || ofBytes (s.keyWindow 20 44) != 0 || dw 4 == 0),
      (0x0906, dw 1 != s.get .wedge_BOOT_ID || dw 2 != s.get .wedge_KEM_EPOCH),
      (0x0907, s.get .ten_STATE t != 1 || !s.on .cls_FABRIC_EN (s.get .ten_CLASS t)),
      (0x0908, s.get .wkey_SLOT_STATE (dw 3 % 256) != 0), (0x0909, !tagOk),
      (0x090A, s.wedge.fingerprints.contains (fingerprint s.unwrap))]

/-- KEY_DELIVERY_DONE (R380, R381): the outcome is in KEY_REASON and the window is zeroed. The 4,096th fingerprint rotates the KEM
key. -/
def State.keyDeliveryDone (s : State) (tagOk : Bool) : State :=
  if !s.on .wedge_KEY_BUSY then s
  else
    let tagOk := s.tagOutcome tagOk
    let code := s.keyCheck tagOk
    let s := s.seeTag tagOk
    let slot := ofBytes (s.keyWindow 12 1)
    let tenant := bits (ofBytes (s.keyWindow 12 4)) 8 12
    let fjob := ofBytes (s.keyWindow 16 4)
    let key := s.unwrap
    let s := s.setAll 0 [(.wedge_KEY_BUSY, 0), (.wedge_KEY_REASON, code), (.wedge_KEY_WINDOW, 0)]
    if code ≠ 0 then (s.bump .wedge_KEYS_REFUSED).set .wedge_KEY_REFUSED_SEEN 0 1
    else
      let s := s.setAll slot [(.wkey_SLOT_STATE, 1), (.wkey_SLOT_TENANT, tenant), (.wkey_SLOT_FJOB_ID, fjob)]
      let fps := s.wedge.fingerprints ++ [fingerprint key]
      let s : State := { s with
        jobKeys := s.jobKeys.filter (fun x => x.1 != slot) ++ [(slot, key)], wedge := { s.wedge with fingerprints := fps } }
      let s := s.bump .wedge_KEYS_ACCEPTED
      if fps.length < 4096 then s else (s.newKem (s.get .wedge_KEM_EPOCH + 1)).set .wedge_KEM_ROTATED 0 1

/-- Meaning of KEY_DELIVERY_DONE. -/
def execKeyDeliveryDone (tagOk : Bool) (s : State) : Host.Outcome State Fault Refusal := .next (s.keyDeliveryDone tagOk)

/-- KEY_ERASE (R382). -/
def State.keyErase (s : State) (slot : Nat) : State :=
  let s := s.set .wedge_ERASE_SLOT 0 slot
  match s.get .wkey_SLOT_STATE slot with
  | 0 => s.set .wedge_KEY_REASON 0 0
  | 1 => (s.eraseKey slot).set .wedge_KEY_REASON 0 0
  | _ => s.refuse .wedge_KEY_REASON 0 0x0908

/-- Meaning of KEY_ERASE. -/
def execKeyErase (slot : Byte) (s : State) : Host.Outcome State Fault Refusal :=
  .next (s.hostWrite .wedge (fun s => s.keyErase slot.toNat))

/-! ## Attestation (R383 to R386) -/

/-- Requests that are queued. -/
def State.requests (s : State) : Nat := (s.wedge.queue.filter (· != .cert)).length

/-- The check of a request (R383). -/
def State.attestCheck (s : State) (buf tenant : Nat) (named : Bool) : Nat :=
  firstCode
    [(0x0904, !hasIdentity (s.get .wedge_LIFE_CYCLE)), (0x0902, s.get .wbuf_BUF_STATE buf != 0),
      (0x0903, named && s.get .ten_STATE tenant != 1), (0x0901, decide (16 ≤ s.requests))]

/-- ATTEST_GO (R383): the request is copied at the write. -/
def State.attestGo (s : State) (value : Nat) : State :=
  let buf := bits value 0 3
  let named := bit value 3
  let tenant := bits value 4 12
  let s := s.setAll 0 [(.wedge_BUF, buf), (.wedge_TENANT_VALID, b2n named), (.wedge_TENANT, tenant)]
  let code := s.attestCheck buf tenant named
  let s := s.set .wedge_ATTEST_REASON 0 code
  if code ≠ 0 then s.set .wedge_ATTEST_REFUSED_SEEN 0 1
  else
    let item : SignItem := .report buf (toBytes 32 (s.get .wedge_NONCE)) (if named then some tenant else none)
    ({ s.set .wbuf_BUF_STATE buf 1 with wedge := { s.wedge with queue := s.wedge.queue ++ [item] } } : State).showQueue

/-- Meaning of ATTEST_GO. DECOMMISSIONED serves no write (14 R430), and the request is refused with the code that R383 names for that
state (log entry 88). -/
def execAttestGo (value : Word) (s : State) : Host.Outcome State Fault Refusal :=
  .next (
    if s.boot.phase = .halted ∧ s.get .wedge_LIFE_CYCLE = 4 then s.setAll 0 [(.wedge_ATTEST_REASON, 0x0904), (.wedge_ATTEST_REFUSED_SEEN, 1)]
    else s.hostWrite .wedge (fun s => s.attestGo value.toNat))

/-- Units held in reset or being brought up (R386): while START_UP is 1 every unit that is started. -/
def State.unitsInReset (s : State) : List Nat :=
  (List.range 62).filter (fun u => if s.on .wedge_START_UP then s.get .unit_STATUS u < 2 else s.on .unit_IN_RESET u)

/-- Units that are unusable or SUSPECT. -/
def State.unitsOut (s : State) : List Nat := (List.range 62).filter (fun u => 2 ≤ s.get .unit_STATUS u)

/-- The body of a report as Table Tenants-7 lays it out: 512 bytes. -/
def State.reportBody (s : State) (nonce : List Byte) (tenant : Option Nat) : List Byte :=
  let t := tenant.getD 0
  let dw2 := s.get .fab_DEV_ID + s.get .wedge_LIFE_CYCLE * 2 ^ 12 + b2n tenant.isSome * 2 ^ 15 + t * 2 ^ 16
  let dw6 := s.get .start_RUN_SLOT + s.get .start_FALLBACK * 2 + s.get .start_UPDATE_STATUS * 4 + s.get .start_STAGED_SLOT * 16 +
    s.get .wedge_START_UP * 32 + s.get .rec_LR_ACTED * 64 + s.get .host_REDUCED * 128 + b2n s.wedge.faultInject * 256 +
    (if tenant.isSome then s.get .ten_CLASS t else 0) * 2 ^ 16
  let head := [1 + 512 * 2 ^ 16, s.get .wedge_ATTESTS + 1, dw2, s.get .wedge_BOOT_ID, s.get .wedge_SERIAL_LO, s.get .wedge_SERIAL_HI,
    dw6, s.get .start_RUN_SVN + s.wedge.stagedSvn * 2 ^ 16]
  fixLen 512
    (head.flatMap (toBytes 4) ++ fixLen 32 nonce ++
      (List.range 8).flatMap (fun m => toBytes 32 (s.get .wmeas_MEAS m)) ++ toBytes 32 (s.get .wedge_STAGED_DIGEST) ++
      Sha.sha256 s.wedge.ek ++ toBytes 4 (s.get .wedge_KEM_EPOCH) ++ toBytes 4 0 ++
      toBytes 8 (listMask s.unitsInReset) ++ toBytes 8 (listMask s.unitsOut))

/-- Header of a KEM certificate and the encapsulation key (R378): 1,248 bytes. -/
def State.certBody (s : State) : List Byte :=
  fixLen 64 ([2, s.get .wedge_BOOT_ID, s.get .wedge_KEM_EPOCH, s.get .wedge_SERIAL_LO, s.get .wedge_SERIAL_HI, s.get .fab_DEV_ID].flatMap
    (toBytes 4)) ++ fixLen 1184 s.wedge.ek

/-- ATTEST_SIGN_START (R384, R385): the next item, with every field of its body as it stands now. -/
def State.signStart (s : State) : State :=
  match s.wedge.signing, s.wedge.queue with
  | none, item :: rest =>
    let body := match item with | .report _ n t => s.reportBody n t | .cert => s.certBody
    let s := match item with | .report b _ _ => s.set .wbuf_BUF_STATE b 2 | .cert => s
    ({ s with wedge := { s.wedge with queue := rest, signing := some (item, body) } } : State).showQueue
  | _, _ => s

/-- Meaning of ATTEST_SIGN_START. -/
def execAttestSignStart (s : State) : Host.Outcome State Fault Refusal := .next s.signStart

/-- ATTEST_SIGN_DONE (R384): body and signature are in the buffer, then READY and an ADD on peg 80. -/
def State.attestSignDone (s : State) : State :=
  match s.wedge.signing with
  | some (.report b _ _, body) =>
    let s := s.set .wrep_REPORT b (ofBytes (body ++ slhSign s.wedge.identity "QX-ATTEST" body))
    let s := (s.set .wbuf_BUF_STATE b 3).bump .wedge_ATTESTS
    ({ s with wedge := { s.wedge with signing := none } } : State).pegAdd 80 1
  | _ => s

/-- Meaning of ATTEST_SIGN_DONE. -/
def execAttestSignDone (s : State) : Host.Outcome State Fault Refusal := .next s.attestSignDone

/-- KEM_CERT_SIGN_DONE (R378): the certificate is readable when it is that of the current epoch. -/
def State.certSignDone (s : State) : State :=
  match s.wedge.signing with
  | some (.cert, body) =>
    let now := body == s.certBody
    let s : State := { s with wedge := { s.wedge with signing := none } }
    if now then
      s.setAll 0 [(.wedge_KEM_CERT, ofBytes (body ++ slhSign s.wedge.identity "QX-KEMCERT" body)), (.wedge_CERT_READY, 1)]
    else s
  | _ => s

/-- Meaning of KEM_CERT_SIGN_DONE. -/
def execKemCertSignDone (s : State) : Host.Outcome State Fault Refusal := .next s.certSignDone

/-- BUF_FREE (R384): no effect while the buffer is QUEUED or SIGNING. -/
def State.bufFree (s : State) (b : Nat) : State :=
  if s.get .wbuf_BUF_STATE b = 3 then s.set .wbuf_BUF_STATE b 0 else s

/-- Meaning of BUF_FREE. -/
def execBufFree (b : Fin 8) (s : State) : Host.Outcome State Fault Refusal := .next (s.hostWrite .wedge (fun s => s.bufFree b.val))

/-! ## Life cycle (R387 to R389) -/

/-- A permitted transition, and whether it takes a token (Table Tenants-9). -/
def lcTransition (src dst : Nat) : Option Bool :=
  if src = 0 ∧ dst = 1 then some false
  else if (src = 1 ∧ dst = 2) ∨ (src = 2 ∧ dst = 3) ∨ (src = 3 ∧ dst = 2) then some true
  else if 1 ≤ src ∧ src ≤ 3 ∧ dst = 4 then some false
  else none

/-- DW `i` of the token's header. -/
def State.tokenDW (s : State) (i : Nat) : Nat := bits (s.get .wedge_LC_TOKEN) (32 * i) 32

/-- The header of the token matches package and request (R389). -/
def State.tokenHeader (s : State) (src dst : Nat) : Bool :=
  s.tokenDW 0 == 4 && s.tokenDW 1 == s.get .wedge_BOOT_ID && s.tokenDW 2 == s.get .wedge_SERIAL_LO &&
    s.tokenDW 3 == s.get .wedge_SERIAL_HI && s.tokenDW 4 == src + dst * 16 && bits (s.get .wedge_LC_TOKEN) 160 352 == 0

/-- The check of a request (R388). -/
def State.lcCheck (s : State) (dst confirm : Nat) (tokenOk : Bool) : Nat :=
  let src := s.get .wedge_LIFE_CYCLE
  firstCode
    [(0x090C, s.get .wedge_LC_NEXT != 7 || (lcTransition src dst).isNone || !(s.indices .ten_STATE).isEmpty || (dst == 4 && confirm != 0xDEC)),
      (0x090B, lcTransition src dst == some true && !(tokenOk && s.tokenHeader src dst)),
      (0x090D, src == 3 && dst == 2 && s.wedge.otp.returns == 0)]

/-- Whether the signature of the token in LC_TOKEN verifies (R389): as it came out before, or as the command gives it (log entry 12). -/
def State.tokenOutcome (s : State) (given : Bool) : Bool :=
  match s.known.tokens.find? (fun x => x.1 == s.get .wedge_LC_TOKEN) with
  | some (_, ok) => ok
  | none => given

/-- The outcome of the token's signature is recorded. -/
def State.seeToken (s : State) (ok : Bool) : State :=
  { s with known := { s.known with tokens := (s.get .wedge_LC_TOKEN, ok) :: s.known.tokens } }

/-- LC_GO (R388): an accepted transition is in OTP and takes effect at the next start-up from PORST_N. -/
def State.lcGo (s : State) (dst confirm : Nat) (tokenOk : Bool) : State :=
  let src := s.get .wedge_LIFE_CYCLE
  let s := s.setAll 0 [(.wedge_LC_TARGET, dst), (.wedge_LC_CONFIRM, confirm)]
  let tokenOk := s.tokenOutcome tokenOk
  let code := s.lcCheck dst confirm tokenOk
  let s := (s.seeToken tokenOk).set .wedge_LC_REASON 0 code
  if code ≠ 0 then s
  else
    let (secret, s) : List Byte × State :=
      if src = 0 then s.random 32 else if dst = 4 then (List.replicate 32 0xFF, s) else (s.wedge.otp.secret, s)
    let o := s.wedge.otp
    let back := src = 3 ∧ dst = 2
    let s : State := { s with wedge := { s.wedge with
      otp := { o with lifeCycle := dst, secret := secret, returns := if back then o.returns - 1 else o.returns } } }
    s.setAll 0 [(.wedge_LC_NEXT, dst), (.wedge_RETURNS_LEFT, s.wedge.otp.returns)]

/-- Meaning of LC_GO. -/
def execLcGo (target : BitVec 3) (confirm : BitVec 12) (tokenOk : Bool) (s : State) : Host.Outcome State Fault Refusal :=
  .next (s.hostWrite .wedge (fun s => s.lcGo target.toNat confirm.toNat tokenOk))

end Sys2Proof.Machine
end

