-- ==== Sys2Proof/Machine/Checks.lean ====
section
/-! DEFINITION. What the image gives, and the image checks on its content (14 R432 checks 8 to 18, R433). Which of the checks a section's
bytes break is decided here wherever the content that `ImageCfg` holds decides it. -/

namespace Sys2Proof.Machine

/-! ## The image's settings -/

/-- Fields that the image's sections give (Table Start-8). -/
def imageFields : List Reg :=
  kvcFields ++ rclFields ++ tmplFields ++ clsFields ++ plumbcFields ++
    [.port_ENABLED, .port_CPHY, .port_LANES, .port_RATE, .i3c_ENABLED, .i3c_SCL_RATE, .rasp_LISTEN_GROUP, .rasp_ACTIVE_GROUPS, .rasp_SETTLE_MS,
      .rasp_SAMPLE_DLY, .plumb_HOP_MS, .plumb_GLANCE_IN, .plumb_ACT_CLASS, .plumb_HIT_CLASSES, .plumb_ACT_ON, .plumb_ACT_OFF,
      .plumb_ACT_HANG_HOPS, .plumb_RUNG2_HOLD_S, .kport_ENABLED, .kport_SWITCHED, .kport_PMD, .kport_SPARE_ASSIGNED, .kport_VLAN_ID,
      .kport_VLAN_PCP, .kport_VLAN_EN, .fab_MAC_PREFIX, .fab_ETHERTYPE, .fab_RTO_US, .fab_FLOW_TIMEOUT_MS, .truss_CACHE_LINES,
      .dowel_WSTREAM_LINES, .mem_CLAMSHELL, .mem_RATE, .clk_SSC_STEP, .pwr_POLICY_MAX, .pwr_T_THROTTLE, .pwr_FILLER_MAX_US,
      .pwr_FILLER_LEVEL_MAX, .pwr_COOLANT_HOLD_MS, .pwr_DROOP_MV]

/-- The device-reserved pegs are enabled (01 R42); the cascade pegs have WAKE set and nothing served (10 R317). -/
def State.reservedPegs (s : State) : State :=
  let s := forEach (List.range 1024) (fun i s => s.set .peg_ENABLE i 1) s
  forEach [64, 65, 66] (fun i s => s.setAll i [(.peg_WAKE, 1), (.peg_THRESH, 1), (.peg_CONTEXT, 0), (.peg_TENANT, 0)]) s

/-- PAGE_BYTES of every KV class (04 R137) and ROW_BYTES of every recurrent class (05 Table Truss-2) follow from the other fields. -/
def State.classSizes (s : State) : State :=
  let s := forEach ((List.range 64).filter (fun k => s.on .kvc_VALID k)) (fun k s =>
    s.set .kvc_PAGE_BYTES k (512 + (s.get .kvc_NLAYERS_M1 k + 1) * s.layerBytes k)) s
  forEach ((List.range 64).filter (fun k => s.on .rcl_VALID k)) (fun k s =>
    s.set .rcl_ROW_BYTES k ((List.range 8).map (fun l => s.get (lrowReg l) k)).sum) s

/-- Defaults of fields that the image sets (10 R300, R325; 11 R334, R351, R353; 16 R473, R474, R478). -/
def imageDefaults : List (Reg × Nat) :=
  [(.rasp_SETTLE_MS, 10), (.plumb_RUNG2_HOLD_S, 30), (.fab_ETHERTYPE, 0x88B5), (.fab_RTO_US, 40), (.fab_FLOW_TIMEOUT_MS, 250),
    (.pwr_DROOP_MV, 40), (.pwr_FILLER_LEVEL_MAX, 12), (.pwr_FILLER_MAX_US, 200), (.pwr_COOLANT_HOLD_MS, 1000)]

/-- The image gives field `r` of entry `i`. -/
def ImageCfg.gives (c : ImageCfg) (r : Reg) (i : Nat) : Bool := c.settings.any (fun x => x.1 == r && x.2.1 == i)

/-- Fields that the image leaves out take their defaults: LATE_US of a template 6,000 µs (09 Table Jointer-2), and T_THROTTLE 5 °C below
TJ_MAX, which the order code fixes (16 R475). -/
def State.applyDefaults (s : State) (c : ImageCfg) : State :=
  let s := forEach (imageDefaults.filter (fun p => !c.gives p.1 0)) (fun p s => s.set p.1 0 p.2) s
  let s := forEach ((List.range 256).filter (fun t => s.on .tmpl_VALID t && !c.gives .tmpl_LATE_US t)) (fun t s => s.set .tmpl_LATE_US t 6000) s
  let tj := if Config.extendedRange then 105 else 95
  let s := s.set .pwr_TJ_MAX 0 tj
  if c.gives .pwr_T_THROTTLE 0 then s else s.set .pwr_T_THROTTLE 0 (tj - 5)

/-- The image's settings take effect: image-fixed fields, and the device-reserved pegs 0 to 1,023 (01 R42). -/
def State.applyImage (s : State) (c : ImageCfg) : State :=
  let ids := imageFields.map Reg.ctorIdx
  let s : State := { s with regs := s.regs.filter (fun p => !ids.contains (p.1 % 1024)) }
  let s := forEach (c.settings.filter (fun x => imageFields.contains x.1 || (pegFields.contains x.1 && x.2.1 < 1024))) (fun x s => s.set x.1 x.2.1 x.2.2) s
  let s := (s.applyDefaults c).reservedPegs.classSizes
  { s with
    graphs := c.graphs, policy := c.policy, ceRetire := c.ceRetire, loftRowCE := c.loftRowCE, patrolHours := c.patrolHours
    camera := { s.camera with tables := c.tables }
    audio := { s.audio with glanceClasses := c.glanceClasses, net := c.awl, glanceNet := c.glanceNet } }

/-- A unit may be used: neither UNUSABLE nor SUSPECT. -/
def State.usable (s : State) (u : Nat) : Bool := s.get .unit_STATUS u < 2

/-- Physical bents that hold logical numbers, in order (01 R60). -/
def State.logicalBents (s : State) : List Nat :=
  ((List.range 9).filter (fun p => s.usable p && decide (15 ≤ popcount 17 (s.arrayGood p)))).take 8

/-! ## What a graph declares -/

/-- Declared shapes of the tiles of a region. -/
def Graph.shapesOf (g : Graph) (r : Nat) : List Shape := (g.ops.filter (fun o => o.out == some r)).flatMap (·.shapes)

/-- Declared shapes of operand `k`. -/
def Graph.operandShapes (g : Graph) (o : OpDef) (k : Nat) : List Shape := ((o.ins[k]?).map (fun i => g.shapesOf i.region)).getD []

/-- Input tensor of a window operator, by its extents. -/
def ScribeOp.view (o : ScribeOp) (f : Fmt) : WinIn := { tiles := [], fmt := f, h := o.h, w := o.w, c := o.c }

/-- Scribe operator that feeds operator `i`. -/
def Graph.scribeFor (g : Graph) (i : Nat) : Option (OpDef × ScribeOp) :=
  g.ops.findSome? (fun d => match d.kind with | .scribe o => if o.reader == some i then some (d, o) else none | _ => none)

/-! ## Check 9: ranges -/

/-- Range of a setting that the manual states. -/
def settingOk (r : Reg) (v : Nat) : Bool :=
  match r with
  | .tmpl_MOSAIC => decide (v ≤ 4)
  | .tmpl_REENTRY_AT => v == 0 || decide (2 ≤ v ∧ v ≤ 5)
  | .tmpl_TAP_SHIFT => decide (v ≤ 8)
  | .tmpl_OUT_MODE => decide (v ≤ 2)
  | .tmpl_NVIEWS => decide (v ≤ 2)
  | .tmpl_FPS_MAX => decide (1 ≤ v ∧ v ≤ 960)
  | .tmpl_EMB_MAX => decide (v ≤ 16384) && v % 64 == 0
  | .tmpl_LATE_US => decide (1 ≤ v ∧ v ≤ 16000)
  | .tmpl_GLANCE_F => decide (2 ≤ v ∧ v ≤ 63)
  | .fab_MAC_PREFIX => bit v 17 && !bit v 16
  | .kvc_HD => decide (v ≤ 2)
  | .kvc_KVFMT => [2, 3, 8, 9].contains v
  | .rcl_SFMT => [3, 8, 9].contains v
  | .truss_CACHE_LINES => decide (v ≤ 16384)
  | .dowel_WSTREAM_LINES => decide (1024 ≤ v ∧ v ≤ 65536)
  | .mem_RATE => decide (12 ≤ v ∧ v ≤ 24) && v % 2 == 0
  | .plumb_HOP_MS => v == 10 || v == 20
  | .rasp_SETTLE_MS => decide (4 ≤ v ∧ v ≤ 100)
  | .plumb_RUNG2_HOLD_S => decide (1 ≤ v ∧ v ≤ 3600)
  | .plumbc_CONSEC => decide (1 ≤ v ∧ v ≤ 15)
  | .fab_RTO_US => decide (10 ≤ v ∧ v ≤ 1000)
  | .fab_FLOW_TIMEOUT_MS => decide (10 ≤ v ∧ v ≤ 10000)
  | .clk_SSC_STEP => decide (v ≤ 50)
  | .pwr_POLICY_MAX => decide (v ≤ 480)
  | .pwr_DROOP_MV => decide (20 ≤ v ∧ v ≤ 80)
  | .pwr_FILLER_LEVEL_MAX => decide (1 ≤ v ∧ v ≤ 16)
  | .pwr_FILLER_MAX_US => decide (20 ≤ v ∧ v ≤ 2000)
  | .pwr_COOLANT_HOLD_MS => decide (100 ≤ v ∧ v ≤ 60000)
  | .cls_FROE_TABLES => decide (v ≤ 64)
  | .cls_MAX_SESSIONS => decide (v ≤ 3072)
  | .cls_MAX_PEGS => decide (v ≤ 64512)
  | .cls_MAX_STREAMS => decide (v ≤ 96)
  | .cls_MAX_CONTEXTS => decide (1 ≤ v ∧ v ≤ 16)
  | .cls_JOB_TIME_MS => decide (1 ≤ v ∧ v ≤ 3600000)
  | _ => true

/-- The windows have an output length along both axes (03 R92); check 9 refuses those that have none. -/
def ScribeOp.hasLength (o : ScribeOp) : Bool :=
  let p := o.win
  let (vh, vw, _) := viewDims (o.view .uint32) p
  p.mode == 3 || ((outLen vh p.kh p.sh p.dh p.pt p.pb).isSome && (outLen vw p.kw p.sw p.dw p.pl p.pr).isSome)

/-- Window parameters lie in their ranges, and the padded input is not shorter than the kernel (03 R91, R92, R102, R114). -/
def windowOk (o : ScribeOp) : Bool :=
  let p := o.win
  let k := fun n => decide (1 ≤ n ∧ n ≤ 31)
  let s := fun n => decide (1 ≤ n ∧ n ≤ 16)
  let d := fun n => decide (1 ≤ n ∧ n ≤ 64)
  let vc := (viewDims (o.view .uint32) p).2.2
  let alone := p.kh == 1 && p.kw == 1 && p.sh == 1 && p.sw == 1 && p.dh == 1 && p.dw == 1 && p.pt == 0 && p.pb == 0 && p.pl == 0 && p.pr == 0
  k p.kh && k p.kw && s p.sh && s p.sw && d p.dh && d p.dw && [p.pt, p.pb, p.pl, p.pr].all (fun n => decide (n ≤ 255)) &&
    decide (1 ≤ p.g ∧ p.g ≤ vc) && vc % p.g == 0 && decide (p.padCode < 2 ^ 16 ∧ p.padScale < 256 ∧ p.mode ≤ 3) &&
    (p.mode == 0 || p.mode == 3 || [2, 4, 8].contains p.f) &&
    (p.mode != 2 || (o.c % (p.f * p.f) == 0 && decide (p.cropB < p.f ∧ p.cropR < p.f))) &&
    (p.mode != 3 || decide (p.outExtra < p.sh ∧ p.outExtra < p.sw)) &&
    o.hasLength && (o.reader.isSome || alone)

/-- The operator that reads the windows has their groups, and its output channels are a multiple of G (03 R91, R106). -/
def Graph.readerOk (g : Graph) (o : ScribeOp) : Bool :=
  match o.reader.bind (fun i => g.ops[i]?) with
  | none => true
  | some d =>
    match d.kind with
    | .mortise m =>
      m.groups == o.win.g && (if m.grad then g.operandShapes d 0 else d.shapes).all (fun x => x.c % o.win.g == 0)
    | _ => d.shapes.all (fun x => x.c % o.win.g == 0)

/-- Every parameter of a Scarf operator lies in its range and agrees with its KV class (04 R124). `s` holds the image's classes. -/
def State.scarfOk (s : State) (d : OpDef) (o : ScarfOp) : Bool :=
  let k := o.kvClass
  let win := match o.mask with | .window w => decide (1 ≤ w ∧ w ≤ 131072) | _ => true
  [64, 128, 256].contains o.hd && decide (1 ≤ o.nkv ∧ o.nkv ≤ 64 ∧ 1 ≤ o.g ∧ o.g ≤ 16) && win && !(o.paged && o.segmented) &&
    d.shapes.all (fun x => [Fmt.bf16, .fp16, .fp32].contains x.fmt) &&
    (!o.paged || (decide (k < 64 ∧ o.layer ≤ s.get .kvc_NLAYERS_M1 k ∧ o.nkv = s.get .kvc_NKV_M1 k + 1) && o.hd == s.kvHD k))

/-- LROW_BYTES of a layer of this cell and width (05 R177). -/
def trussRowBytes (cell : Cell) (h : Nat) (f : Fmt) : Nat :=
  let v := cdiv (h * f.bits / 8 + (if f.isMX then h / 32 else 0)) 64 * 64
  if cell = .gated4 then 2 * v else v

/-- Every parameter of a Truss operator lies in its range and agrees with its recurrent class (05 R171). -/
def State.trussOk (s : State) (g : Graph) (d : OpDef) (o : TrussOp) : Bool :=
  let k := o.rclass
  let f := fmtOf (s.get .rcl_SFMT k)
  let gates := match o.cell with | .gated3 => 3 | .gated4 => 4 | .linear => 2
  decide (k < 64 ∧ o.layer ≤ s.get .rcl_NLAYERS_M1 k ∧ 32 ≤ o.h ∧ o.h ≤ 4096) && o.h % 32 == 0 &&
    [Fmt.e4m3, .bf16, .fp16].contains f && d.shapes.all (fun x => x.fmt == f && x.w * x.c == o.h) &&
    s.get (lrowReg o.layer) k == trussRowBytes o.cell o.h f &&
    (g.operandShapes d 0).all (fun x => (x.fmt == .bf16 || x.fmt == .fp32) && x.w * x.c == gates * o.h) &&
    (o.cell == .linear || (decide (2 ≤ d.ins.length) && (g.operandShapes d 1).all (fun x => mortisePair f x.fmt))) &&
    (if o.cell = .gated3 then o.bun.length == o.h else o.bun.isEmpty)

/-- Parameters of an operator lie in their ranges (R432 check 9). -/
def State.opRangeOk (s : State) (g : Graph) (d : OpDef) : Bool :=
  decide (d.phase < 16 ∧ d.thresh < 2 ^ 16 ∧ d.pos < g.bentsNeeded) &&
    match d.kind with
    | .scribe o => windowOk o && g.readerOk o
    | .mortise o => decide (1 ≤ o.groups ∧ 1 ≤ o.taps ∧ o.pshift ≤ 15)
    | .plane o => (match o.src with | .pool _ _ => o.pshift == 0 | _ => decide (o.pshift ≤ 15))
    | .auger p srcs => decide (1 ≤ p.oh ∧ p.oh ≤ 1024 ∧ 1 ≤ p.ow ∧ p.ow ≤ 1024 ∧ 1 ≤ srcs.length ∧ srcs.length ≤ 256)
    | .scarf o => s.scarfOk d o
    | .truss o => s.trussOk g d o
    | .histogram o =>
      [64, 256, 1024].contains o.bins && decide (1 ≤ o.zy ∧ o.zy ≤ 16 ∧ 1 ≤ o.zx ∧ o.zx ≤ 16) &&
        (g.operandShapes d 0).all (fun x => x.fmt == .uint16)
    | _ => true

/-- Ranges of a graph (01 R17, R25; 16 R466). -/
def State.graphRangeOk (s : State) (c : ImageCfg) (g : Graph) : Bool :=
  decide (g.id < 1024 ∧ 1 ≤ g.bentsNeeded ∧ g.bentsNeeded ≤ 8) &&
    (List.range 8).all (fun p => decide ((g.regions.filter (fun r => r.pos == p)).length ≤ 64)) && g.ops.all (s.opRangeOk g) &&
    (!(g.kind == .loop || g.kind == .rung1) || c.policy.phases.all (fun p => p.1 != g.id || p.2.2 == 0))

/-- Fields whose ranges hold in every VALID template, also where the image leaves one out. -/
def rangedTmpl : List Reg :=
  [.tmpl_MOSAIC, .tmpl_REENTRY_AT, .tmpl_TAP_SHIFT, .tmpl_OUT_MODE, .tmpl_NVIEWS, .tmpl_FPS_MAX, .tmpl_EMB_MAX, .tmpl_LATE_US, .tmpl_GLANCE_F]

/-- T_THROTTLE lies from TJ_MAX - 30 to TJ_MAX - 5 (16 R475). -/
def State.throttleOk (s : State) : Bool :=
  decide (s.get .pwr_TJ_MAX ≤ s.get .pwr_T_THROTTLE + 30 ∧ s.get .pwr_T_THROTTLE + 5 ≤ s.get .pwr_TJ_MAX)

/-- Check 9: PARAM_RANGE. -/
def State.rangeOk (s : State) (c : ImageCfg) : Bool :=
  c.settings.all (fun x => settingOk x.1 x.2.2) &&
    (List.range 256).all (fun t => !s.on .tmpl_VALID t || rangedTmpl.all (fun r => settingOk r (s.get r t))) && s.throttleOk &&
    decide (1 ≤ c.ceRetire ∧ c.ceRetire ≤ 255 ∧ 1 ≤ c.loftRowCE ∧ c.loftRowCE ≤ 255 ∧ 1 ≤ c.patrolHours ∧ c.patrolHours ≤ 168) &&
    c.policy.phases.all (fun p => decide (p.2.1 < 16 ∧ p.2.2 ≤ 5)) && decide (c.graphs.length ≤ 1024) && c.graphs.all (s.graphRangeOk c)

/-! ## Checks 10 to 13 -/

/-- The innermost extent of an MX tile is a multiple of 32 (02 R68). -/
def Shape.mxOk (x : Shape) : Bool := !x.fmt.isMX || (if x.layout = 1 then x.w else if x.layout = 2 then x.w * x.c else x.c) % 32 == 0

/-- A tile that Mortise reads transposed, along its positions: MX blocks must lie that way (03 R115). -/
def Shape.alongPositions (x : Shape) : Bool := !x.fmt.isMX || x.layout == 1

/-- Format pairs of Scarf (Table Scarf-3). -/
def scarfPair (kv q : Fmt) : Bool :=
  match kv with
  | .e4m3 => q == .e4m3 || q == .bf16
  | .mxint8 => q == .mxint8 || q == .bf16
  | .bf16 => q == .bf16
  | .fp16 => q == .fp16 || q == .bf16
  | _ => false

/-- Formats of an operator (R432 check 10: 02 R68, R69; 03 R97, R115; 04 R135). The Kerf rows are the activations of a weight gradient and
dY its weight blocks (03 R103). A weight block loaded transposed contracts over its matrix rows, along which no layout has MX blocks. -/
def State.opFormatOk (s : State) (g : Graph) (d : OpDef) (i : Nat) : Bool :=
  d.shapes.all Shape.mxOk &&
    match d.kind with
    | .scribe o =>
      (g.operandShapes d 0).all (fun x => !x.fmt.isMX || ((viewDims (o.view x.fmt) o.win).2.2 / max 1 o.win.g) % 32 == 0) &&
        (!o.win.transpose || (g.operandShapes d 0).all Shape.alongPositions)
    | .mortise o =>
      let kerf := match g.scribeFor i with | some (e, _) => g.operandShapes e 0 | none => []
      let acts := if o.kerf then kerf else g.operandShapes d 0
      let weights := match o.stream with
        | some k => ((g.streams[k]?).map (fun (x : StreamDef) => [x.shape])).getD []
        | none => g.operandShapes d (if o.grad then 0 else o.weights)
      acts.all (fun a => weights.all (fun w => mortisePair a.fmt w.fmt)) && (!o.grad || weights.all Shape.alongPositions) &&
        (!o.transposed || weights.all (fun w => !w.fmt.isMX))
    | .auger _ srcs => srcs.all (fun x => match x with | .memory _ sh => sh.mxOk | .loft _ => true)
    | .scarf o =>
      let kv := if o.paged then [fmtOf (s.get .kvc_KVFMT o.kvClass)] else ((g.operandShapes d 1) ++ (g.operandShapes d 2)).map (·.fmt)
      decide (kv.eraseDups.length ≤ 1) && (g.operandShapes d 0).all (fun q => kv.all (fun f => scarfPair f q.fmt))
    | _ => true

/-- Check 10: FORMAT_RULE. -/
def State.formatOk (s : State) (c : ImageCfg) : Bool :=
  c.graphs.all (fun g => g.ops.zipIdx.all (fun (d, i) => s.opFormatOk g d i) && g.streams.all (fun x => x.shape.mxOk))

/-- Check 11: RERUN_RULE (02 R87, 04 R131, 05 R171): every output region has slots for the BF16 form of its largest tile. -/
def rerunOk (c : ImageCfg) : Bool :=
  c.graphs.all (fun g => g.ops.all (fun d => !d.rerunEn ||
    (match d.kind with
      | .scarf _ => false
      | .truss _ => false
      | _ => (g.regions.filter (fun r => d.out == some r.num)).all (fun r =>
          d.shapes.all (fun x => decide (tileLines .bf16 x.h x.w x.c x.layout ≤ r.slotLines))))))

/-- Check 12: PLACEMENT_RULE (04 R134, 05 R171): SEGMENTED operators on at most two bents, each layer of a recurrent class on one, and no
more bents than the device has. SEGMENTED operators take the lowest logical bents, so beside a banded operator, whose bands lie in the
order of the bents (03 R110), they stand in the first positions. -/
def State.placementOk (s : State) (c : ImageCfg) : Bool :=
  c.graphs.all (fun g => (g.bands.isEmpty || g.segmented.all (fun p => decide (p < g.segmented.length))) &&
    decide (g.segmented.length ≤ 2 ∧ g.bentsNeeded ≤ s.logicalBents.length) &&
    ((g.truss.map (fun t => (t.1, t.2.1))).eraseDups.length == (g.truss.map (fun t => (t.1, t.2.1, t.2.2))).eraseDups.length))

/-- Tiles of an input that its consumer must hold at once for output tile `q` (01 R27). -/
def OpIn.held (i : OpIn) (q : Nat) : Nat := (i.need q).foldl Nat.max 0 + 1 - i.released q ((i.need q).foldl Nat.max 0 + 1)

/-- Lines of the state parts that a graph binds to the bent in position `p`: those of a stream of 96 batch rows, the most that there are
(05 R190; log entry 50). -/
def State.partsAt (s : State) (g : Graph) (p : Nat) : Nat :=
  ((g.truss.filter (fun t => t.2.2 == p)).eraseDups.map (fun t => cdiv (96 * s.get (lrowReg t.2.1) t.1) 64)).sum

/-- Check 13: LOFT_BUDGET (05 R190; 01 R27). -/
def State.loftOk (s : State) (c : ImageCfg) : Bool :=
  let most := (c.graphs.map (·.loftLines)).foldl Nat.max 0
  (List.range s.logicalBents.length).all (fun n =>
      decide (s.get .truss_CACHE_LINES n + s.get .dowel_WSTREAM_LINES n + most ≤ 786432) &&
        c.graphs.all (fun g => (List.range 8).all (fun p => decide (s.partsAt g p ≤ s.get .truss_CACHE_LINES n)))) &&
    c.graphs.all (fun g => g.ops.all (fun d => d.ins.all (fun i =>
      (g.regions.filter (fun r => r.num == i.region)).all (fun r => (List.range d.ntiles).all (fun q =>
        (i.need q).isEmpty || decide (i.held q ≤ r.nslots))))))

/-! ## Checks 14 to 18 -/

/-- Check 14: TEMPLATE_RULE (08 R255; 09 R274, R282): every exposure has a data type of its own, RAW20 stands alone, the tables that a
template names are held, and its glance output fits. -/
def State.templateOk (s : State) (c : ImageCfg) (t : Nat) : Bool :=
  let dts := (List.range (s.tmplExposures t)).map (s.expDT t)
  let has := fun {α : Type} (l : List (Nat × α)) (i : Nat) => (tableAt l i).isSome
  let u := c.tables
  let f := s.get .tmpl_GLANCE_F t
  dts.all (fun d => (dtBits d).isSome) && dts.eraseDups.length == dts.length && (!dts.contains 0x2F || dts.length == 1) &&
    has u.lin (s.get .tmpl_LIN_TABLE t) && has u.dpc (s.get .tmpl_DPC_TABLE t) && has u.lsc (s.get .tmpl_LSC_TABLE t) &&
    has u.ccm (s.get .tmpl_CCM_TABLE t) && has u.tone (s.get .tmpl_TONE_TABLE t) && has u.focus (s.get .tmpl_FOCUS_TABLE t) &&
    decide (s.tmplWidth t / 2 / f ≤ 128 ∧ s.tmplHeight t / 2 / f ≤ 128)

/-- The compression attributes of a store operator (Table Froe-1; 09 R280). -/
def Graph.codingOk (g : Graph) (d : OpDef) (o : DowelOp) : Bool :=
  let x := o.coding
  let (bind, off) := match o.addr with
    | .abs a => (Binding.plain, a)
    | .input _ a => (Binding.plain, a)
    | .output k a => ((g.outputs[k]?).getD .plain, a)
  decide (x.tableId ≤ 255) && (!x.build || decide (1 ≤ x.histBlocks ∧ x.histBlocks ≤ 7)) && !(x.protect && x.compress) &&
    (!x.compress || (bind != .reentry && off % 4096 == 0 && o.offs.all (fun a => a % 4096 == 0) &&
      (g.operandShapes d 0).all (fun y => tileLines y.fmt y.h y.w y.c y.layout % 64 == 0)))

/-- Check 15: COMPRESS_RULE (07 R229, R247; 09 R280). -/
def compressOk (c : ImageCfg) : Bool :=
  c.graphs.all (fun g =>
    let stores := g.ops.filterMap (fun d => match d.kind with | .store o => some (d, o) | _ => none)
    let builds := ((stores.filter (fun p => p.2.coding.build)).map
      (fun p => (p.2.coding.tableId, p.2.addr.operand))).eraseDups
    stores.all (fun p => g.codingOk p.1 p.2) && (builds.map (·.1)).eraseDups.length == builds.length)

/-- Check 16: AWL_BUDGET (10 R309), of both networks together: at a glance run they share the hop and the stores. -/
def State.awlOk (s : State) (c : ImageCfg) : Bool :=
  let sum := fun (f : AwlNet → Nat) => f c.awl + f c.glanceNet
  decide (sum AwlNet.weightCount ≤ 262144 ∧ sum AwlNet.activationCount ≤ 65536 ∧
    10 * sum AwlNet.macs ≤ 8 * 128 * 3072 * s.get .plumb_HOP_MS)

/-- Check 17: PORT_RULE (08 R252, 09 R292, 11 R330, R331). -/
def State.portOk (s : State) : Bool :=
  (List.range 24).all (fun p => !s.on .port_ENABLED p ||
      (if s.on .port_CPHY p then [1, 2, 3].contains (s.get .port_LANES p) && decide (s.get .port_RATE p ≤ 60)
       else [1, 2, 4].contains (s.get .port_LANES p) && decide (s.get .port_RATE p ≤ 45))) &&
    (List.range 24).all (fun b => !s.on .i3c_ENABLED b || decide (25 ≤ s.get .i3c_SCL_RATE b ∧ s.get .i3c_SCL_RATE b ≤ 125)) &&
    (List.range 8).all (fun p => decide (s.get .kport_PMD p ≤ 2) && !(s.on .kport_SWITCHED p && s.on .kport_SPARE_ASSIGNED p)) &&
    [0, 4].all (fun b => decide (((rangeFrom b 4).filter (fun p => s.on .kport_SPARE_ASSIGNED p)).length ≤ 2))

/-- What a graph names: its regions, the readers of its Kerf halves, its classes and its template. -/
def State.graphNames (s : State) (g : Graph) : Bool :=
  let region := fun r => g.regions.any (fun x => x.num == r)
  g.ops.all (fun d => d.ins.all (fun i => region i.region) && (match d.out with | some r => region r | none => true) &&
    (match d.kind with
      | .scribe o => (match o.reader with | some i => decide (i < g.ops.length) | none => true)
      | .mortise o => (match o.stream with | some k => decide (k < g.streams.length) | none => true)
      | .scarf o => !o.paged || s.on .kvc_VALID o.kvClass
      | .truss o => s.on .rcl_VALID o.rclass
      | _ => true)) && (g.kind != .loop || s.on .tmpl_VALID g.template)

/-- Check 18: REFERENCE. -/
def State.namesOk (s : State) (c : ImageCfg) : Bool :=
  (List.range 64).all (fun k => !s.on .cls_VALID k ||
    ((List.range 64).all (fun i => (!bit (s.get .cls_KV_CLASSES k) i || s.on .kvc_VALID i) && (!bit (s.get .cls_RCLASSES k) i || s.on .rcl_VALID i)) &&
      (List.range 256).all (fun i => !bit (s.get .cls_TEMPLATES k) i || s.on .tmpl_VALID i) &&
      (List.range 1024).all (fun i => !bit (s.get .cls_GRAPHS k) i || c.graphs.any (fun g => g.id == i)))) && c.graphs.all s.graphNames

/-- Two bands of one window operator. -/
def ScribeOp.sameWindow (a b : ScribeOp) : Bool := a.win == b.win && a.h == b.h && a.w == b.w && a.c == b.c

/-- The bands of each window operator are those of R110: bands 0 to k - 1 of k, each on a bent of its own, in the order of the bents. -/
def Graph.bandsOk (g : Graph) : Bool :=
  let l := g.bands
  l.all (fun (p, o, i, k) =>
    let mates := l.filter (fun (_, o2, _, k2) => k2 == k && o2.sameWindow o)
    decide (i < k) && mates.all (fun (p2, _, i2, _) => decide (i2 < i) == decide (p2 < p)) &&
      (List.range k).all (fun m => (mates.filter (fun x => x.2.2.1 == m)).length == (mates.filter (fun x => x.2.2.1 == i)).length))

/-- The declared tiles of a window operator are all the output positions that 03 R92 gives, or those of its band (R94, R110). An operator
without a band on a bent that has a banded one computes the rows that its chain needs (R112). -/
def Graph.windowTiles (g : Graph) (d : OpDef) (o : ScribeOp) : Bool :=
  let (oh, ow) := viewOut (o.view .uint32) o.win
  let rows := match o.band with | some (i, k) => (bandRows oh k i).2 | none => oh
  let xs := (List.range d.ntiles).filterMap d.shape
  let chain := o.band.isNone && g.bands.any (fun b => b.1 == d.pos)
  !o.hasLength || (xs.all (fun x => decide (x.oy + x.h ≤ rows ∧ x.ox + x.w ≤ ow)) && (chain || (xs.map (fun x => x.h * x.w)).sum == rows * ow))

/-- Check 8, of what this model's form of a graph can contradict: SECTION_CONTENT. -/
def contentOk (c : ImageCfg) : Bool :=
  c.graphs.all (fun g => g.bandsOk && g.ops.all (fun d => match d.kind with | .scribe o => g.windowTiles d o | _ => true))

/-- Checks 8 to 18 on the content of an image (R432): 0, or the first code. `s` shows the health map that counts the bents. -/
def State.contentCheck (s : State) (c : ImageCfg) : Nat :=
  let t := s.applyImage c
  firstCode
    [(0x0108, !contentOk c), (0x0109, !t.rangeOk c), (0x010A, !t.formatOk c), (0x010B, !rerunOk c), (0x010C, !t.placementOk c),
      (0x010D, !t.loftOk c), (0x010E, (List.range 256).any (fun k => t.on .tmpl_VALID k && !t.templateOk c k)), (0x010F, !compressOk c),
      (0x0110, !t.awlOk c), (0x0111, !t.portOk), (0x0112, !t.namesOk c)]

/-- The first of two codes in the order of Table Start-7, where 0 is none: the codes rise with the order. -/
def earlier (a b : Nat) : Nat := if a = 0 then b else if b = 0 then a else min a b

end Sys2Proof.Machine
end

