-- ==== Sys2Proof/Machine/StartUp.lean ====
section
/-! DEFINITION. Resets, start-up and image updates (14; 17 R499; 18 R511 to R514). -/

namespace Sys2Proof.Machine

/-! ## Resets (R436; 15 R461; 18 R511) -/

/-- Bytes whose erasing or programming was cut short or failed: each is a free value (log entry 40). -/
def scramble (seed : Nat) (m : Mem) (a n : Nat) : Mem :=
  m.filterMap (fun c => if a ≤ c.1 ∧ c.1 < a + n then
      (let b := BitVec.ofNat 8 (Config.freeValue seed c.1); if b = 0xFF then none else some (c.1, b))
    else some c)

/-- The update operation in progress is abandoned (R436): a half-written directory copy is invalid, half-written slot bytes are
open. -/
def State.abandonUpdate (s : State) : State :=
  match s.boot.update with
  | none => s
  | some u =>
    let f := s.flash
    let f := match u.op with
      | 1 => f.setSlot u.slot (scramble s.free (f.slot u.slot) 0 (slotBytes f.size))
      | 2 => f.setSlot u.slot (scramble s.free (splice (f.slot u.slot) u.offset (Mem.readBytes 0 s.staging 0 u.bytes)) u.offset u.bytes)
      | 5 | 6 => { f with directory := f.directory.set (if f.dirCopy = 0 then 1 else 0) [] }
      | _ => f
    { s with flash := f, free := s.free + 1, boot := { s.boot with update := none } }

/-- PORST_N_ASSERT: everything but OTP, the flash, what left the device and the world outside it returns to its reset value. -/
def State.porst (s : State) : State :=
  let s := s.abandonUpdate
  { pending := s.pending, now := s.now, free := s.free, flash := s.flash, outbox := s.outbox, pins := s.pins
    memory := { host := s.memory.host }, wedge := { otp := s.wedge.otp }, known := s.known }

/-- Meaning of PORST_N_ASSERT. -/
def execPorstNAssert (s : State) : Host.Outcome State Fault Refusal := .next (if s.boot.phase = .reset then s else s.porst)

/-- Fields that WARM_RST_N leaves: the shadow store, Wedge's block, and a coolant or thermal cause that still holds (15 R452, 12 R375,
18 R514). -/
def warmKept : List Nat :=
  ((windows.flatMap Window.fields).filter (fun (r : Reg) => r.info.kept) ++ wedgeFields ++ wbufFields ++ wmeasFields ++ wrepFields ++
    [Reg.pwr_COOLANT_STOP, Reg.pwr_THERMAL_TRIP]).map Reg.ctorIdx

/-- WARM_RST_N_ASSERT: every domain but Wedge goes OFF, and what only PORST_N resets stays. -/
def State.warmReset (s : State) : State :=
  let s := s.abandonUpdate
  let s := s.setDoms ((List.range 152).filter (fun d => d != 144 && s.on .dom_STATE d)) 0
  let w := s.wedge
  let s : State := {
    pending := s.pending, regs := s.regs.filter (fun p => warmKept.contains (p.1 % 1024)), now := s.now, free := s.free
    clippedHigh := s.clippedHigh, histHigh := s.histHigh
    flash := s.flash, outbox := s.outbox, pins := s.pins, memory := { host := s.memory.host }
    wedge := { w with stagedSvn := 0, faultInject := false }, boot := { phase := .warm }, known := s.known }
  let s := s.setAll 0 [(.wedge_START_UP, 1), (.wedge_STAGED_DIGEST, 0), (.clk_DOMAINS_ON, 1), (.clk_DOMAINS_OFF, 151)]
  let s := s.set .dom_STATE 144 2
  let s := s.set .dom_TARGET 144 2
  forEach (rangeFrom 1 6) (fun m s => s.set .wmeas_MEAS m 0) s

/-- Meaning of WARM_RST_N_ASSERT: PORST_N low dominates. -/
def execWarmRstNAssert (s : State) : Host.Outcome State Fault Refusal :=
  .next (if s.boot.phase = .reset ∨ s.boot.phase = .warm then s else s.warmReset)

/-! ## The image (R421 to R424) -/

/-- A number of the image in slot `sl`. -/
def Flash.num (f : Flash) (sl o n : Nat) : Nat := ofBytes (f.bytes 0 sl o n)

/-- IMAGE_BYTES of the image in a slot. -/
def Flash.imageBytes (f : Flash) (sl : Nat) : Nat := f.num sl 8 4

/-- IMAGE_BYTES is in its range (Table Start-3). -/
def Flash.lengthOk (f : Flash) (sl : Nat) : Bool :=
  let n := f.imageBytes sl
  n % 16 == 0 && decide (4096 ≤ n) && decide (n + 16224 ≤ slotBytes f.size)

/-- SVN, LC_MASK, REVOKE, SVN_LOCK, FAULT_INJECT_EN of the header, from DW3 and DW6. -/
def Flash.svn (f : Flash) (sl : Nat) : Nat := f.num sl 12 2

/-- Check 1 of Table Start-7 passes. -/
def Flash.headerOk (f : Flash) (sl : Nat) : Bool :=
  f.num sl 0 4 == 0x36385851 && f.num sl 4 2 == 1 && f.num sl 6 2 == 256 && f.lengthOk sl && bits (f.num sl 12 4) 22 10 == 0 &&
    bits (f.num sl 16 4) 17 15 == 0 && bits (f.num sl 24 4) 5 27 == 0 && f.num sl 28 4 == 0 && f.num sl 40 8 == 0 && f.num sl 96 160 == 0

/-- An entry of the section table: type, index, offset, bytes. -/
structure Section where
  typ : Nat
  index : Nat
  offset : Nat
  bytes : Nat
  reserved : Nat
deriving DecidableEq, Repr

/-- The section table of an image. -/
def Flash.sections (f : Flash) (sl : Nat) : List Section :=
  let o := f.num sl 20 4
  (List.range (f.num sl 16 4 % 2 ^ 17)).map (fun i =>
    let at_ := o + 16 * i
    { typ := f.num sl at_ 2, index := f.num sl (at_ + 2) 2, offset := f.num sl (at_ + 4) 4, bytes := f.num sl (at_ + 8) 4
      reserved := f.num sl (at_ + 12) 4 })

/-- Section types with the number of their instances (Table Start-5). -/
def sectionTypes : List (Nat × Nat) :=
  [(0x01, 1), (0x02, 1), (0x03, 1), (0x04, 64), (0x10, 1024), (0x11, 65535), (0x12, 1), (0x13, 1), (0x20, 1), (0x21, 256), (0x22, 1024),
    (0x30, 1), (0x31, 1), (0x40, 1)]

/-- No two sections of the list overlap or share type and index. -/
def sectionsApart : List Section → Bool
  | [] => true
  | x :: l =>
    l.all (fun y => (x.offset + x.bytes ≤ y.offset || y.offset + y.bytes ≤ x.offset) && !(x.typ == y.typ && x.index == y.index)) &&
      sectionsApart l

/-- Check 6 of Table Start-7 passes (R422). -/
def Flash.tableOk (f : Flash) (sl : Nat) : Bool :=
  let n := f.num sl 16 4 % 2 ^ 17
  let o := f.num sl 20 4
  let top := f.imageBytes sl
  1 ≤ n && decide (n ≤ 67912) && o % 16 == 0 && 256 ≤ o && decide (o + 16 * n ≤ top) &&
    (f.sections sl).all (fun x =>
      x.reserved == 0 && x.offset % 64 == 0 && 1 ≤ x.bytes && decide (o + 16 * n ≤ x.offset) && decide (x.offset + x.bytes ≤ top) &&
        (match sectionTypes.find? (fun p => p.1 == x.typ) with | some (_, k) => decide (x.index < k) | none => false)) &&
    sectionsApart (f.sections sl)

/-- Check 7 passes: every required section is there. -/
def Flash.requiredOk (f : Flash) (sl : Nat) : Bool :=
  [1, 2, 3, 4].all (fun t => (f.sections sl).any (fun x => x.typ == t))

/-- The image has a section of this type and index. -/
def Flash.holds (f : Flash) (sl typ idx : Nat) : Bool := (f.sections sl).any (fun x => x.typ == typ && x.index == idx)

/-- Section type that gives a setting (Table Start-5). -/
def sectionOf (r : Reg) : Nat :=
  if kvcFields.contains r then 0x12
  else if rclFields.contains r then 0x13
  else if tmplFields.contains r then 0x21
  else if clsFields.contains r then 0x04
  else if pegFields.contains r then 0x01
  else match r with
    | .port_ENABLED | .port_CPHY | .port_LANES | .port_RATE | .i3c_ENABLED | .i3c_SCL_RATE => 0x20
    | .kport_ENABLED | .kport_SWITCHED | .kport_PMD | .kport_SPARE_ASSIGNED | .kport_VLAN_ID | .kport_VLAN_PCP | .kport_VLAN_EN => 0x40
    | .pwr_POLICY_MAX | .pwr_T_THROTTLE | .pwr_FILLER_MAX_US | .pwr_FILLER_LEVEL_MAX | .pwr_COOLANT_HOLD_MS | .pwr_DROOP_MV => 0x03
    | .fab_MAC_PREFIX | .fab_ETHERTYPE | .fab_RTO_US | .fab_FLOW_TIMEOUT_MS | .truss_CACHE_LINES | .dowel_WSTREAM_LINES | .mem_CLAMSHELL |
      .mem_RATE | .clk_SSC_STEP => 0x01
    | _ => 0x30

/-- The content that the slot's section table lets an image have: an absent section leaves its blocks disabled (R422). Graphs and templates
have a section each; every other optional section is single. -/
def Flash.within (f : Flash) (sl : Nat) (c : ImageCfg) : ImageCfg :=
  let has := f.holds sl
  { c with
    settings := c.settings.filter (fun x =>
      let t := sectionOf x.1
      t == 0x01 || t == 0x03 || t == 0x04 || has t (if t = 0x21 then x.2.1 else 0))
    graphs := c.graphs.filter (fun g => has 0x10 g.id)
    tables := if (f.sections sl).any (fun x => x.typ == 0x22) then c.tables else {}
    glanceClasses := if has 0x31 0 then c.glanceClasses else 0
    awl := if has 0x31 0 then c.awl else {}
    glanceNet := if has 0x31 0 then c.glanceNet else {} }

/-- Every station program that a graph names is in the image (Table Start-7, check 18). -/
def Flash.programsOk (f : Flash) (sl : Nat) (c : ImageCfg) : Bool := c.graphs.all (fun g => g.programs.all (f.holds sl 0x11))

/-- The bytes of an image in a slot, and its signature, as cells. -/
def Flash.slotImage (f : Flash) (sl : Nat) : Mem := (f.slot sl).filter (fun x => x.1 < f.imageBytes sl)
def Flash.slotSignature (f : Flash) (sl : Nat) : Mem :=
  (f.slot sl).filter (fun x => f.imageBytes sl ≤ x.1 && x.1 < f.imageBytes sl + 16224)

/-- SHA-256 over the sections of some types, in section-table order. -/
def Flash.measure (f : Flash) (sl : Nat) (ts : List Nat) : List Byte :=
  Sha.sha256 (((f.sections sl).filter (fun x => ts.contains x.typ)).flatMap (fun x => f.bytes 0 sl x.offset x.bytes))

/-- The image digest (R423). -/
def Flash.digest (f : Flash) (sl : Nat) : List Byte := Sha.sha256 (f.bytes 0 sl 0 (f.imageBytes sl))

/-- Image key that a public key matches: programmed and not revoked (R423, R424). -/
def State.imageKey (s : State) (sl : Nat) : Option Nat :=
  let d := Sha.sha256 (s.flash.bytes 0 sl 48 48)
  (s.wedge.otp.keys.find? (fun p => p.2 == d && !s.wedge.otp.revoked.contains p.1)).map (·.1)

/-- What is found of the slot's bytes: the content of the image and its checks follow from the image bytes, and whether the signature verifies
from both. What came out before comes out again, and the rest is as the command gives it (log entry 12). -/
def State.slotCheck (s : State) (sl : Nat) (given : SlotCheck) : SlotCheck :=
  let img := s.flash.slotImage sl
  let sig := s.flash.slotSignature sl
  let c := match s.known.slots.find? (fun x => x.image == img) with | some x => { x.check with signatureOk := given.signatureOk } | none => given
  match s.known.slots.find? (fun x => x.image == img && x.signature == sig) with
  | some x => { c with signatureOk := x.check.signatureOk }
  | none => c

/-- What was found of the slot is recorded. -/
def State.seeSlot (s : State) (sl : Nat) (c : SlotCheck) : State :=
  let x : SlotSeen := { image := s.flash.slotImage sl, signature := s.flash.slotSignature sl, check := c }
  { s with known := { s.known with slots := x :: s.known.slots } }

/-- The image checks on a slot (R423, R432): 0 when the image is accepted, otherwise the first failing code. Whether the signature
verifies is given, and of checks 8 to 18 what the model's form of the content does not decide. -/
def State.imageCheck (s : State) (sl : Nat) (c : SlotCheck) : Nat :=
  let f := s.flash
  firstCode
    [(0x0101, !f.headerOk sl), (0x0102, (s.imageKey sl).isNone), (0x0103, !c.signatureOk), (0x0104, f.svn sl < s.wedge.otp.minSvn),
      (0x0105, !bit (f.num sl 24 4) (s.get .wedge_LIFE_CYCLE)), (0x0106, !f.tableOk sl), (0x0107, !f.requiredOk sl),
      (earlier c.code.toNat (s.contentCheck (f.within sl c.image)), earlier c.code.toNat (s.contentCheck (f.within sl c.image)) != 0),
      (0x0112, !f.programsOk sl c.image)]

/-! ## Start records (R437) -/

/-- The 64 bytes of start record `n`. -/
def State.startRecord (s : State) (n : Nat) : List Byte :=
  let dw3 := s.get .start_START_MS + s.get .start_RUN_SLOT * 2 ^ 16 + s.get .start_FALLBACK * 2 ^ 17 + s.get .start_START_FAILED * 2 ^ 18 +
    s.get .start_SELF_TESTED * 2 ^ 19 + s.get .start_HEALTH_VALID * 2 ^ 20
  fixLen 64 (([0x54525453, n, s.get .wedge_BOOT_ID, dw3, s.get .start_SLOT0_REASON + s.get .start_SLOT1_REASON * 2 ^ 16,
    s.get .start_RUN_SVN + s.get .start_DIR_REASON * 2 ^ 16, s.get .start_BUILD_ID_LO, s.get .start_BUILD_ID_HI,
    s.get .start_START_REASON]).flatMap (toBytes 4))

/-- Append the record of this start-up. -/
def State.appendRecord (s : State) : State := { s with flash := s.flash.append s.startRecord }

/-! ## Steps 1 and 2 of Table Start-6 -/

/-- Step 1 (18 R512, R513): the straps and COOLANT_OK are sampled. -/
def State.sampleStraps (s : State) (straps : Nat) (env : BootEnv) : State :=
  let s : State := { s with pins := { coolant := env.coolant, smbAddr := env.smbAddr.toNat }, boot := { since := s.now, phase := .ready } }
  (s.setAll 0 [(.fab_DEV_ID, straps), (.pwr_COOLANT_OK, b2n env.coolant), (.clk_REF_OK, 1), (.wedge_START_UP, 1)]).setDoms [144, 151, 140] 2

/-- What OTP shows in the start-up block and in Wedge's (Table Start-10, Table Tenants-10). -/
def State.showOtp (s : State) : State :=
  let o := s.wedge.otp
  s.setAll 0
    [(.wedge_SERIAL_LO, serial % 2 ^ 32), (.wedge_SERIAL_HI, serial / 2 ^ 32), (.wedge_RETURNS_LEFT, o.returns), (.start_MIN_SVN, o.minSvn),
      (.start_SVN_WRITES_LEFT, o.svnWrites), (.start_KEY_PROGRAMMED, listMask (o.keys.map (·.1))), (.start_KEY_REVOKED, listMask o.revoked)]

/-- Step 2: OTP is read, the life-cycle state under PORST_N only (12 R387); a new BOOT_ID; the identity; M0. -/
def State.readOtp (s : State) (cold : Bool) : State :=
  let s := if cold then s.setAll 0 [(.wedge_LIFE_CYCLE, s.wedge.otp.lifeCycle), (.wedge_LC_NEXT, 7)] else s
  let (id, s) := s.random 4
  let s := (s.showOtp.set .wedge_BOOT_ID 0 (ofBytes id)).loadIdentity
  s.set .wmeas_MEAS 0 (ofBytes (fixLen 32 (Config.crypto "M0" [])))

/-! ## Steps 3 to 7 -/

/-- Fields that each start-up writes anew, before the image is known. -/
def State.clearStart (s : State) : State :=
  let s := s.resetFields 0
    [.start_RUN_SLOT, .start_FALLBACK, .start_START_FAILED, .start_HEALTH_VALID, .start_SELF_TESTED, .start_UPDATE_STATUS, .start_STAGED_SLOT,
      .start_SLOT0_REASON, .start_SLOT1_REASON, .start_START_MS, .start_DIR_REASON, .start_RUN_SVN, .start_BUILD_ID_LO, .start_BUILD_ID_HI,
      .start_RUN_KEY, .start_START_REASON, .rec_HEALTH_STALE, .rec_REDUCE_CAUSE, .host_REDUCED]
  let s := forEach (List.range 62) (fun u s => s.resetFields u unitFields) s
  let s := forEach (List.range 1024) (fun i s => s.resetFields i retFields) s
  { s with health := { copy := s.flash.healthCopy, seq := numAt (s.flash.health.getD s.flash.healthCopy []) 4 4 } }

/-- The flash stops start-up (R418). -/
def State.flashStops (s : State) : State :=
  let s := s.setAll 0 [(.start_START_FAILED, 1), (.start_START_REASON, 0x0117), (.start_SLOT0_REASON, 0x0117), (.start_SLOT1_REASON, 0x0117)]
  let s := s.bump .start_FLASH_ERRORS
  { s with boot := { s.boot with phase := .failed } }

/-- Field that shows the outcome for a slot. -/
def slotReason (sl : Nat) : Reg := if sl = 0 then .start_SLOT0_REASON else .start_SLOT1_REASON

/-- Step 6: the health map in force is loaded (17 R499); with LR_ACTED set it counts as invalid (17 R495). -/
def State.readHealth (s : State) : State :=
  let c := s.flash.healthCopy
  if c = 2 || s.on .rec_LR_ACTED then s
  else
    let bs := s.flash.health.getD c []
    (s.loadHealth c bs).setAll 0 [(.start_HEALTH_VALID, 1), (.rec_HEALTH_STALE, b2n (bits (numAt bs 8 4) 16 3 != 0))]

/-- Outcome that the command gives for a slot. -/
def BootEnv.given (env : BootEnv) (sl : Nat) : SlotCheck := if sl = 0 then env.check0 else env.check1

/-- Try one slot: the image checks, and the health map between the key checks and the others. -/
def State.trySlot (s : State) (sl : Nat) (env : BootEnv) : State × Bool :=
  let c := s.slotCheck sl (env.given sl)
  let s := s.seeSlot sl c
  let code := s.readHealth.imageCheck sl c
  let s := if code = 0 ∨ 0x0106 ≤ code then s.readHealth else s
  (s.set (slotReason sl) 0 code, code = 0)

/-- The order in which slots are tried, with the directory writes that come first (R425). -/
def State.slotOrder (s : State) : State × Nat × Nat :=
  let (pref, pending, tries) := s.flash.dirInForce
  if s.flash.dirCopy = 2 then (s.set .start_DIR_REASON 0 0x0113, 0, 1)
  else if pending && decide (0 < tries) then ({ s with flash := s.flash.dirWrite pref true (tries - 1) }, pref, 1 - pref)
  else if pending then
    ({ s.set .start_DIR_REASON 0 0x0116 with flash := s.flash.dirWrite (1 - pref) false 0 }, 1 - pref, pref)
  else (s, pref, 1 - pref)

/-- What the running image's header gives (Table Start-10, 12 R386, 11 R359). -/
def State.runImage (s : State) (sl pref : Nat) : State :=
  let f := s.flash
  let dw3 := f.num sl 12 4
  let lc := s.get .wedge_LIFE_CYCLE
  let inject := bit dw3 16
  let s := s.setAll 0
    [(.start_RUN_SLOT, sl), (.start_FALLBACK, b2n (sl != pref)), (.start_RUN_SVN, dw3 % 2 ^ 16), (.start_BUILD_ID_LO, f.num sl 32 4),
      (.start_BUILD_ID_HI, f.num sl 36 4), (.start_RUN_KEY, (s.imageKey sl).getD 0), (.fab_INJECT_ALLOWED, b2n (lc != 2 || inject))]
  { s with
    wedge := { s.wedge with faultInject := inject }
    boot := { s.boot with revoke := bits dw3 18 4, svnLock := bit dw3 17 } }

/-- The verdict of unit `u`: the test leaves no unit out, and a unit that the command names no verdict for passes with what it has. -/
def verdictOf (vs : List Verdict) (u : Fin 62) : Verdict :=
  (vs.find? (fun v => v.u == u)).getD { u := u, pass := true, good := if u.val < 9 then 0x1FFFF else 0 }

/-- Self-test of start-up (R428): 0x0114 is recorded, Foreman A is active with B beside it, every unit gets its verdict, B takes the ACTIVE
role to test A when it passed, and the new map has WRITER 2. -/
def State.startTest (s : State) (vs : List Verdict) : State :=
  if s.on .start_HEALTH_VALID then s
  else
    let s : State := { s with boot := { s.boot with healthCode := 0x0114 } }
    let s := s.setAll 0 [(.rec_ACTIVE_ID, 0), (.rec_STANDBY_ID, 1)]
    let s := forEach ((List.finRange 62).filter (fun u => u.val != 25)) (fun u s => s.applyVerdict (verdictOf vs u)) s
    let s := if s.get .unit_STATUS 26 = 1 then s.setAll 0 [(.rec_ACTIVE_ID, 1), (.rec_STANDBY_ID, 0)] else s
    let s := s.applyVerdict (verdictOf vs 25)
    (s.set .start_SELF_TESTED 0 1).writeHealth 2

/-- M1 to M6 and START_UP, and the ML-KEM pair (12 R378, R386). -/
def State.setMeasurements (s : State) (sl : Nat) : State :=
  let f := s.flash
  let ms := [f.digest sl, Sha.sha256 (f.bytes 0 sl 48 48), f.measure sl [2], f.measure sl [0x10, 0x11], f.measure sl [4],
    Sha.sha256 (f.health.getD s.health.copy [])]
  let s := forEach (ms.zipIdx 1) (fun (d, m) s => s.set .wmeas_MEAS m (ofBytes d)) s
  (s.set .wedge_START_UP 0 0).newKem 1

/-! ## Steps 8 to 10 -/

/-- Logical numbers (01 R60), arrays, ageing and repairs of the bents. -/
def State.assignBents (s : State) : State :=
  let ps := s.logicalBents
  forEach (List.range 8) (fun n s =>
    match ps[n]? with
    | some p =>
      let s := s.setAll n [(.bent_PRESENT, 1), (.bent_PHYSICAL, p), (.bent_INCARNATION, 1), (.scarf_SEG_CAPABLE, b2n (n < 2)),
        (.dowel_LOFT_SPARE_ROWS, s.spareRows p)]
      ((s.setArrays n p).setAge n p).set .inc_OCCUPANT n p
    | none => s.setAll n [(.bent_PRESENT, 0), (.bent_PHYSICAL, 0), (.bent_INCARNATION, 0), (.scarf_SEG_CAPABLE, 0), (.inc_OCCUPANT, 0)]) s

/-- The roles of the Foremen (17 R492). -/
def State.assignForemen (s : State) : State :=
  let fs := [0, 1, 2].filter (fun f => s.usable (25 + f))
  let a := fs.getD 0 0
  let b := fs.getD 1 3
  let s := s.setAll 0 [(.rec_ACTIVE_ID, a), (.rec_STANDBY_ID, b)]
  (s.set .inc_OCCUPANT 24 (25 + a)).set .inc_OCCUPANT 25 (if b = 3 then 0 else 25 + b)

/-- Incarnations are 1, and the slots without spares have their units (17 R487). -/
def State.assignSlots (s : State) : State :=
  let s := forEach (List.range 29) (fun i s => s.set .inc_INCARNATION i 1) s
  forEach (rangeFrom 8 16 ++ [26, 27, 28]) (fun i s => s.set .inc_OCCUPANT i (if i < 24 then i + 1 else if i = 28 then 33 else i + 2)) s

/-- Units of Table Spares-1 that do what REDUCE_CAUSE bits 2 to 6 say. -/
def reduceUnits : List (Nat × List Nat) :=
  [(2, rangeFrom 9 8), (3, rangeFrom 34 24), (4, rangeFrom 58 4), (5, rangeFrom 17 8), (6, [31, 32])]

/-- REDUCE_CAUSE (Table Spares-8). -/
def State.assignReduce (s : State) : State :=
  let ns := (List.range 8).filter (fun n => s.on .bent_PRESENT n)
  let causes := [(0, decide (ns.length < 8)), (1, ns.any (fun n => s.get .mor_ARRAYS n < 16)), (8, s.get .rec_STANDBY_ID == 3),
    (9, [29, 30].any (fun u => !s.usable u || s.on .unit_FAIL_CODE u))] ++
    reduceUnits.map (fun p => (p.1, p.2.any (fun u => !s.usable u)))
  forEach causes (fun p s => if p.2 then s.reduce p.1 else s) s

/-- Domains that Foreman keeps OFF (15 Table Clocks-8): of units out of service, of spares, and of what the image does not use. -/
def State.heldOff (s : State) : List Nat :=
  let out := (List.range 62).filter (fun u => u != 29 && u != 30 && !s.usable u)
  let spareBents := (List.range 9).filter (fun p => (s.logicalOf p).isNone)
  let spareForemen := [0, 1, 2].filter (fun f => f != s.get .rec_ACTIVE_ID && f != s.get .rec_STANDBY_ID)
  let ports := (List.range 24).filter (fun p => !s.on .port_ENABLED p)
  let kports := (List.range 8).filter (fun k => !s.on .kport_ENABLED k)
  let spares := [0, 1].filter (fun g => !(rangeFrom (4 * g) 4).any (fun k => s.on .kport_SPARE_ASSIGNED k))
  let buses := (List.range 4).filter (fun g => !(rangeFrom (6 * g) 6).any (fun b => s.on .i3c_ENABLED b))
  let groups := (List.range 4).filter (fun g => !bit (s.get .rasp_ACTIVE_GROUPS) g)
  out.flatMap unitDomains ++ spareBents.flatMap bentDomains ++ spareForemen.map (141 + ·) ++ ports.map (85 + ·) ++
    kports.flatMap (fun k => [122 + k, 130 + k]) ++ spares.map (138 + ·) ++ buses.map (111 + ·) ++ groups.map (115 + ·) ++
    (if s.on .plumb_HOP_MS then [] else [121]) ++ (if s.on .rasp_ACTIVE_GROUPS then [] else [119])

/-- HELD_OFF and ALWAYS_ON, and the domains that come ON; Jointers wait for their streams (15 R461). -/
def State.assignDomains (s : State) : State :=
  let held := s.heldOff
  let always := s.alwaysOn
  let s := forEach (List.range 152) (fun d s => s.setAll d [(.dom_HELD_OFF, b2n (held.contains d)), (.dom_ALWAYS_ON, b2n (always.contains d))]) s
  s.setDoms ((List.range 152).filter (fun d => !held.contains d && !(69 ≤ d && d < 85))) 2

/-- Step 9: every page is scrubbed, and the retired ones stay out of the free pool (06 R207, R223). -/
def State.startMemory (s : State) : State :=
  let s : State := { s with memory := { host := s.memory.host }, refresh := .active }
  let retired := ((List.range 1024).filter (fun i => s.on .ret_VALID i)).length
  let s := s.setAll 0 [(.mem_RETIRED, retired), (.mem_PAGES_TOTAL, s.allocatable - retired)]
  s.set .mem_PAGES_FREE 0 s.freePages.length

/-- Step 10: ports and Jointers, and ENTDAA on every enabled bus (09 R292). -/
def State.startPorts (s : State) (targets : List (Nat × List I3cTarget)) : State :=
  let s := forEach (List.range 8) (fun j s => s.setAll j [(.jnt_PRESENT, b2n (s.usable (9 + j))), (.jnt_GLANCE_CAPABLE, b2n (j == 0))]) s
  let s := forEach (List.range 24) (fun p s => if s.usable (34 + p) then s else s.set .port_ENABLED p 0) s
  forEach ((List.range 24).filter (fun b => s.domainOn (111 + b / 6))) (fun b s =>
    s.runDaa b (((targets.find? (fun t => t.1 == b)).map (·.2)).getD [])) s

/-- Steps 8 to 10 of Table Start-6. Without a usable Foreman the last-resort sequencer acts (17 R499); with COOLANT_OK low the
start-up waits (18 R513). -/
def State.startUnits (s : State) (targets : List (Nat × List I3cTarget)) : State :=
  let s := ((s.assignSlots.assignBents).assignForemen).assignReduce
  let s := (s.assignDomains.showBents).startMemory
  let s := ((s.startPorts targets).capEffective).showForemen
  let s := if s.pins.coolant then s else s.coolantStop false
  if [25, 26, 27].all (fun u => !s.usable u) then s.lastResort 2 else s

/-! ## The start-up sequence -/

/-- Steps 7 to 10 for the slot that runs. -/
def State.runSlot (s : State) (sl pref : Nat) (env : BootEnv) : State :=
  let img := s.flash.within sl (s.slotCheck sl (env.given sl)).image
  let s := (s.runImage sl pref).startTest env.verdicts
  let s : State := { s with boot := { s.boot with
    units := (List.range 62).map (fun u => (u, s.get .unit_STATUS u)), good := s.health.good
    subVendor := img.subVendor.toNat, subId := img.subId.toNat } }
  ((s.setMeasurements sl).applyImage img).startUnits env.targets

/-- Steps 4 to 10: the slots in order (R425). -/
def State.chooseSlot (s : State) (env : BootEnv) : State :=
  let pref := s.flash.dirInForce.1
  let fresh := s.flash.dirCopy = 2
  let (s, a, b) := s.slotOrder
  match s.trySlot a env with
  | (s, true) => s.runSlot a pref env
  | (s, false) =>
    match s.trySlot b env with
    | (s, true) =>
      let s : State := if fresh then s else { s with flash := s.flash.dirWrite b false 0 }
      s.runSlot b pref env
    | (s, false) =>
      let s := s.setAll 0 [(.start_START_FAILED, 1), (.start_START_REASON, 0x0115)]
      ({ s with boot := { s.boot with phase := .failed } } : State).appendRecord

/-- Size code of a flash that serves (R418), or none when it stops start-up: no answer, below 512 Mb, no 4 KiB erase, or a page size other
than 256 bytes. A size between two of the four counts as the lower one (log entry 119). -/
def flashSize (x : Sfdp) : Option (Fin 4) :=
  if !x.answers || x.megabits < 512 || !x.erase4K || x.pageBytes ≠ 256 then none
  else if 4096 ≤ x.megabits then some 3
  else if 2048 ≤ x.megabits then some 2
  else if 1024 ≤ x.megabits then some 1
  else some 0

/-- Start-up from step 3 (R418). -/
def State.startFrom3 (s : State) (env : BootEnv) : State :=
  let s := (s.setDoms [150, 146, 149, 147, 148, 54] 2).clearStart
  match flashSize env.flash with
  | none => s.flashStops
  | some k => (({ s with flash := { s.flash with size := k.val } } : State).set .start_FLASH_SIZE 0 k.val).chooseSlot env

/-- Start-up from the release of a reset (R426, R430). -/
def State.startUp (s : State) (straps : Nat) (env : BootEnv) (cold : Bool) : State :=
  let s := (s.sampleStraps straps env).readOtp cold
  let lc := s.get .wedge_LIFE_CYCLE
  if lc = 0 ∨ lc = 4 then
    let s := s.setDoms [150, 149, 147, 148] 2
    { s with boot := { s.boot with phase := .halted } }
  else s.startFrom3 env

/-- Meaning of PORST_N_RELEASE. -/
def execPorstNRelease (straps : BitVec 9) (env : BootEnv) (s : State) : Host.Outcome State Fault Refusal :=
  .next (if s.boot.phase = .reset then (s.startUp straps.toNat env true).dropAll env.late else s)

/-- Meaning of WARM_RST_N_RELEASE. -/
def execWarmRstNRelease (straps : BitVec 9) (env : BootEnv) (s : State) : Host.Outcome State Fault Refusal :=
  .next (if s.boot.phase = .warm then (s.startUp straps.toNat env false).dropAll env.late else s)

/-- RESTART (R429): only while START_FAILED is 1. -/
def State.restart (s : State) (env : BootEnv) : State :=
  if !s.on .start_START_FAILED then s
  else
    let s := s.abandonUpdate
    let s : State := { s with staging := [], boot := { since := s.now, phase := .ready }, wedge := { s.wedge with stagedSvn := 0 } }
    let s := s.resetFields 0 [.start_UPD_OP, .start_UPD_SLOT, .start_UPD_AREA, .start_UPD_BUSY, .start_UPD_OVERRUN, .start_UPD_REASON,
      .start_UPD_OFFSET, .start_UPD_BYTES, .wedge_STAGED_DIGEST]
    s.startFrom3 env

/-- Meaning of RESTART. -/
def execRestart (env : BootEnv) (s : State) : Host.Outcome State Fault Refusal := .next (s.hostWrite .startUp (fun s => s.restart env))

/-- A confirmed image's SVN_LOCK and REVOKE reach OTP (R431). -/
def State.confirmOtp (s : State) : State :=
  let o := s.wedge.otp
  let svn := s.get .start_RUN_SVN
  let o := if s.boot.svnLock && decide (o.minSvn < svn) && decide (0 < o.svnWrites) then { o with minSvn := svn, svnWrites := o.svnWrites - 1 } else o
  let keys := (maskList 4 s.boot.revoke).filter (fun i => i != s.get .start_RUN_KEY && !o.revoked.contains i)
  ({ s with wedge := { s.wedge with otp := { o with revoked := o.revoked ++ keys } } } : State).showOtp

/-- The directory at step 11 (R420, R431): a fresh one where none was valid, or the confirmation of a pending image. -/
def State.confirm (s : State) : State :=
  let sl := s.get .start_RUN_SLOT
  if s.flash.dirCopy = 2 then { s with flash := s.flash.dirWrite sl false 0 }
  else
    let (pref, pending, _) := s.flash.dirInForce
    if pending && pref == sl then ({ s with flash := s.flash.dirWrite sl false 0 } : State).confirmOtp else s

/-- START_UP_COMPLETE: step 11 of Table Start-6. Its record and directory write wait for an update operation in progress (R436). -/
def State.startUpComplete (s : State) : State :=
  if s.boot.phase ≠ .ready || s.on .pwr_COOLANT_STOP || s.boot.lastResort || s.boot.sillLost || s.boot.update.isSome then s
  else
    let ms := min 0xFFFF ((s.now - s.boot.since) / 614400)
    let s := s.setAll 0 [(.froe_OFF_START_UP, 0), (.host_DEV_STATE, 1), (.rasp_AFN, 0), (.start_START_MS, ms)]
    let s := (s.compOff.appendRecord).confirm
    let s := s.set .rec_LR_ACTED 0 0
    ({ s with boot := { s.boot with phase := .running } } : State).floorRecompute

/-- Meaning of START_UP_COMPLETE. -/
def execStartUpComplete (s : State) : Host.Outcome State Fault Refusal := .next s.startUpComplete

/-! ## Update operations (R434 to R436) -/

/-- The rule of an operation is broken (Table Start-9). -/
def State.updateRange (s : State) (op slot area : Nat) : Bool :=
  let o := s.get .start_UPD_OFFSET
  let n := s.get .start_UPD_BYTES
  let size := 1 ≤ n && decide (n ≤ 65536)
  match op with
  | 1 => area != 0
  | 2 => area != 0 || o % 256 != 0 || !size || decide (slotBytes s.flash.size < o + n)
  | 3 => (area == 0 && slot != s.get .start_STAGED_SLOT) || !size || decide (s.flash.areaBytes area < o + n)
  | 4 => area != 0 || slot != s.get .start_STAGED_SLOT
  | _ => false

/-- The check of UPD_GO (R434). Operations 5 and 6 name no slot of UPD_SLOT. -/
def State.updateCheck (s : State) (op slot area : Nat) : Nat :=
  firstCode
    [(0x0118, op < 5 && area == 0 && slot == s.get .start_RUN_SLOT && s.get .host_DEV_STATE == 1), (0x0119, s.updateRange op slot area),
      (0x011A, (op == 5 && s.get .start_UPDATE_STATUS != 2) || (op == 6 && s.get .start_UPDATE_STATUS != 3))]

/-- A write of UPD_GO with an operation. -/
def State.updateGo (s : State) (op slot area : Nat) : State :=
  let s := s.setAll 0 [(.start_UPD_OP, op), (.start_UPD_SLOT, slot), (.start_UPD_AREA, area)]
  if s.on .start_UPD_BUSY then s.set .start_UPD_OVERRUN 0 1
  else
    match s.updateCheck op slot area with
    | 0 =>
      let s := (s.set .start_UPD_BUSY 0 1).demand 146
      let u : Update := { op := op, slot := slot, area := area, offset := s.get .start_UPD_OFFSET, bytes := s.get .start_UPD_BYTES }
      { s with boot := { s.boot with update := some u } }
    | code => s.refuse .start_UPD_REASON 0 code

/-- Meaning of ERASE. -/
def execEraseSlot (slot : Fin 2) (area : Fin 4) (s : State) : Host.Outcome State Fault Refusal :=
  .next (s.hostWrite .startUp (fun s => s.updateGo 1 slot.val area.val))

/-- Meaning of PROGRAM. -/
def execProgram (slot : Fin 2) (area : Fin 4) (s : State) : Host.Outcome State Fault Refusal :=
  .next (s.hostWrite .startUp (fun s => s.updateGo 2 slot.val area.val))

/-- Meaning of READ. -/
def execReadFlash (slot : Fin 2) (area : Fin 4) (s : State) : Host.Outcome State Fault Refusal :=
  .next (s.hostWrite .startUp (fun s => s.updateGo 3 slot.val area.val))

/-- Meaning of VERIFY. -/
def execVerify (slot : Fin 2) (area : Fin 4) (s : State) : Host.Outcome State Fault Refusal :=
  .next (s.hostWrite .startUp (fun s => s.updateGo 4 slot.val area.val))

/-- Meaning of COMMIT. -/
def execCommit (slot : Fin 2) (area : Fin 4) (s : State) : Host.Outcome State Fault Refusal :=
  .next (s.hostWrite .startUp (fun s => s.updateGo 5 slot.val area.val))

/-- Meaning of CANCEL. -/
def execCancel (slot : Fin 2) (area : Fin 4) (s : State) : Host.Outcome State Fault Refusal :=
  .next (s.hostWrite .startUp (fun s => s.updateGo 6 slot.val area.val))

/-- ERASE and PROGRAM take the verified state away from the slot (R435). -/
def State.stage (s : State) (slot : Nat) : State :=
  s.setAll 0 [(.start_UPDATE_STATUS, 0), (.start_STAGED_SLOT, slot), (.wedge_STAGED_DIGEST, 0)]

/-- The statuses and repairs by which VERIFY counts bents: those of the map that the running start-up used (R432). -/
def State.startHealth (s : State) : State :=
  if s.boot.units.isEmpty then s
  else
    let s := forEach s.boot.units (fun p s => s.set .unit_STATUS p.1 p.2) s
    { s with health := { s.health with good := s.boot.good } }

/-- Effect of VERIFY: digest, STAGED_SVN, then the image checks. The digest of an image whose IMAGE_BYTES is out of range is a free
value (log entry 42). -/
def State.verifySlot (s : State) (slot : Nat) (c : SlotCheck) : State :=
  let f := s.flash
  let (d, s) : List Byte × State := if f.lengthOk slot then (f.digest slot, s) else s.random 32
  let c := s.slotCheck slot c
  let s := s.seeSlot slot c
  let code := s.startHealth.imageCheck slot c
  let s := s.setAll 0 [(.wedge_STAGED_DIGEST, ofBytes d), (.start_UPDATE_STATUS, if code = 0 then 2 else 1), (.start_UPD_REASON, code)]
  { s with wedge := { s.wedge with stagedSvn := f.svn slot } }

/-- The bytes of an operation that succeeds (Table Start-9). -/
def State.updateEffect (s : State) (u : Update) (c : SlotCheck) : State :=
  let f := s.flash
  match u.op with
  | 1 => { s with flash := f.setSlot u.slot [] }.stage u.slot
  | 2 =>
    let old := f.bytes 0 u.slot u.offset u.bytes
    let new := Mem.readBytes 0 s.staging 0 u.bytes
    let bs := ((old.zip new).zipIdx).map (fun x => programByte s.free x.2 x.1.1 x.1.2)
    ({ s with flash := f.setSlot u.slot (splice (f.slot u.slot) u.offset bs), free := s.free + 1 } : State).stage u.slot
  | 3 => { s with staging := Mem.writeBytes 0 s.staging 0 (f.bytes u.area u.slot u.offset u.bytes) }
  | 4 => s.verifySlot u.slot c
  | 5 => ({ s with flash := f.dirWrite (s.get .start_STAGED_SLOT) true 3 } : State).set .start_UPDATE_STATUS 0 3
  | _ => ({ s with flash := f.dirWrite (s.get .start_RUN_SLOT) false 0 } : State).set .start_UPDATE_STATUS 0 2

/-- UPD_DONE: the operation ends with its outcome, which is FLASH when the flash fails (R434). -/
def State.updateDone (s : State) (flashOk : Bool) (c : SlotCheck) : State :=
  match s.boot.update with
  | none => s
  | some u =>
    if !s.domainOn 146 then s
    else
      let s := s.setAll 0 [(.start_UPD_BUSY, 0), (.start_UPD_REASON, 0)]
      let s :=
        if flashOk then ({ s with boot := { s.boot with update := none } } : State).updateEffect u c
        else
          let s := (s.abandonUpdate.set .start_UPD_REASON 0 0x0117).bump .start_FLASH_ERRORS
          if u.op < 3 then s.stage u.slot else s
      s.shutdownStart

/-- Meaning of UPD_DONE. -/
def execUpdDone (flashOk : Bool) (check : SlotCheck) (s : State) : Host.Outcome State Fault Refusal := .next (s.updateDone flashOk check)

/-- KEYDIG_GO (R424). -/
def State.keydigGo (s : State) (slot : Nat) : State :=
  let s := s.set .start_KEYDIG_SLOT 0 slot
  let o := s.wedge.otp
  if s.get .wedge_LIFE_CYCLE ≠ 1 || o.keys.any (fun p => p.1 == slot) then s.refuse .start_KEYDIG_REASON 0 0x011B
  else
    let s : State := { s with wedge := { s.wedge with otp := { o with keys := o.keys ++ [(slot, toBytes 32 (s.get .start_KEYDIG))] } } }
    s.showOtp.set .start_KEYDIG_REASON 0 0

/-- Meaning of KEYDIG_GO. -/
def execKeydigGo (slot : Fin 4) (s : State) : Host.Outcome State Fault Refusal :=
  .next (s.hostWrite .startUp (fun s => s.keydigGo slot.val))

end Sys2Proof.Machine
end

