-- ==== Sys2Proof/Machine/Dispatch.lean ====
section
/-! DEFINITION. The dispatch: one arm per command, one call of its meaning. -/

namespace Sys2Proof.Machine


/-- The effect of a command on everything but the queue. -/
def exec (i : Instr) (s : State) : Host.Outcome State Fault Refusal :=
  match i with
  | .registerWrite bar off width value => Sys2Proof.Machine.execRegisterWrite bar off width value s
  | .clippedLoRead n => Sys2Proof.Machine.execClippedLoRead n s
  | .histSamplesLoRead n => Sys2Proof.Machine.execHistSamplesLoRead n s
  | .jobEntryEnable c e => Sys2Proof.Machine.execJobEntryEnable c e s
  | .jobEntryDisable c e => Sys2Proof.Machine.execJobEntryDisable c e s
  | .jobDb t value => Sys2Proof.Machine.execJobDb t value s
  | .ringDb t value => Sys2Proof.Machine.execRingDb t value s
  | .pegEnable p value => Sys2Proof.Machine.execPegEnable p value s
  | .pegDisable p => Sys2Proof.Machine.execPegDisable p s
  | .pegCountWrite p value => Sys2Proof.Machine.execPegCountWrite p value s
  | .pegThreshWrite p value => Sys2Proof.Machine.execPegThreshWrite p value s
  | .pegAddAliasWrite p value => Sys2Proof.Machine.execPegAddAliasWrite p value s
  | .pegEvqHeadWrite h => Sys2Proof.Machine.execPegEvqHeadWrite h s
  | .pegWaitComplete k => Sys2Proof.Machine.execPegWaitComplete k s
  | .jobStart c env => Sys2Proof.Machine.execJobStart c env s
  | .contextResident j n => Sys2Proof.Machine.execContextResident j n s
  | .contextRestored n sl => Sys2Proof.Machine.execContextRestored n sl s
  | .tileCompute n st env => Sys2Proof.Machine.execTileCompute n st env s
  | .hostReadTimeout j => Sys2Proof.Machine.execHostReadTimeout j s
  | .tableBuildDone sl => Sys2Proof.Machine.execTableBuildDone sl s
  | .tableSlotRetire sl => Sys2Proof.Machine.execTableSlotRetire sl s
  | .jobTimeout j => Sys2Proof.Machine.execJobTimeout j s
  | .resultSlotWrite j => Sys2Proof.Machine.execResultSlotWrite j s
  | .deferredReclaim c => Sys2Proof.Machine.execDeferredReclaim c s
  | .stateFetchDone n layer mem => Sys2Proof.Machine.execStateFetchDone n layer mem s
  | .chunkCommit sn => Sys2Proof.Machine.execChunkCommit sn s
  | .swapOut sn n => Sys2Proof.Machine.execSwapOut sn n s
  | .weightStreamRead n env => Sys2Proof.Machine.execWeightStreamRead n env s
  | .arrayRetire n a during => Sys2Proof.Machine.execArrayRetire n a during s
  | .poolEnable c => Sys2Proof.Machine.execPoolEnable c s
  | .poolReady c => Sys2Proof.Machine.execPoolReady c s
  | .poolDisable c => Sys2Proof.Machine.execPoolDisable c s
  | .sessionEnable sn value => Sys2Proof.Machine.execSessionEnable sn value s
  | .sessionDisable sn => Sys2Proof.Machine.execSessionDisable sn s
  | .streamEnable sn value => Sys2Proof.Machine.execStreamEnable sn value s
  | .streamDisable sn => Sys2Proof.Machine.execStreamDisable sn s
  | .resetPendingWrite sn => Sys2Proof.Machine.execResetPendingWrite sn s
  | .openSeq sn seq src => Sys2Proof.Machine.execOpenSeq sn seq src s
  | .closeSeq sn seq src => Sys2Proof.Machine.execCloseSeq sn seq src s
  | .truncateSeq sn seq src => Sys2Proof.Machine.execTruncateSeq sn seq src s
  | .forkSeq sn seq src => Sys2Proof.Machine.execForkSeq sn seq src s
  | .editDone sn => Sys2Proof.Machine.execEditDone sn s
  | .regionEnable c r value => Sys2Proof.Machine.execRegionEnable c r value s
  | .regionReady c r => Sys2Proof.Machine.execRegionReady c r s
  | .regionDisable c r => Sys2Proof.Machine.execRegionDisable c r s
  | .scrubPageDone => Sys2Proof.Machine.execScrubPageDone s
  | .patrolRead outcome => Sys2Proof.Machine.execPatrolRead outcome s
  | .channelRetrain ch ok pa => Sys2Proof.Machine.execChannelRetrain ch ok pa s
  | .selfRefreshEntry => Sys2Proof.Machine.execSelfRefreshEntry s
  | .selfRefreshExit => Sys2Proof.Machine.execSelfRefreshExit s
  | .csiFrameStart p vc hdr number => Sys2Proof.Machine.execCsiFrameStart p vc hdr number s
  | .csiFrameEnd p vc hdr => Sys2Proof.Machine.execCsiFrameEnd p vc hdr s
  | .csiLinePacket p vc dt hdr crcOk payload => Sys2Proof.Machine.execCsiLinePacket p vc dt hdr crcOk payload s
  | .csiEmbeddedPacket p vc hdr crcOk payload => Sys2Proof.Machine.execCsiEmbeddedPacket p vc hdr crcOk payload s
  | .csiLineStartEnd p vc hdr => Sys2Proof.Machine.execCsiLineStartEnd p vc hdr s
  | .idleTimeout k => Sys2Proof.Machine.execIdleTimeout k s
  | .lineSetServe j => Sys2Proof.Machine.execLineSetServe j s
  | .frameRecordWrite k => Sys2Proof.Machine.execFrameRecordWrite k s
  | .reentrySetServe j => Sys2Proof.Machine.execReentrySetServe j s
  | .glancePeriodExpiry => Sys2Proof.Machine.execGlancePeriodExpiry s
  | .glanceFrame => Sys2Proof.Machine.execGlanceFrame s
  | .glanceSrcWrite value => Sys2Proof.Machine.execGlanceSrcWrite value s
  | .cameraStreamEnable k => Sys2Proof.Machine.execCameraStreamEnable k s
  | .cameraStreamDisable k => Sys2Proof.Machine.execCameraStreamDisable k s
  | .loopEnable k => Sys2Proof.Machine.execLoopEnable k s
  | .loopDisable k => Sys2Proof.Machine.execLoopDisable k s
  | .loopStopped k => Sys2Proof.Machine.execLoopStopped k s
  | .loopJobStart k env => Sys2Proof.Machine.execLoopJobStart k env s
  | .i3cRecordTransfer b acks => Sys2Proof.Machine.execI3cRecordTransfer b acks s
  | .i3cIbi b addr mdb => Sys2Proof.Machine.execI3cIbi b addr mdb s
  | .hotJoin b => Sys2Proof.Machine.execHotJoin b s
  | .daaGo b targets => Sys2Proof.Machine.execDaaGo b targets s
  | .manGo b => Sys2Proof.Machine.execManGo b s
  | .pdmFrameBoundary frame => Sys2Proof.Machine.execPdmFrameBoundary frame s
  | .beamCommit => Sys2Proof.Machine.execBeamCommit s
  | .awlHop scores => Sys2Proof.Machine.execAwlHop scores s
  | .rung1JobStart env => Sys2Proof.Machine.execRung1JobStart env s
  | .rung2JobStart env => Sys2Proof.Machine.execRung2JobStart env s
  | .rung2HoldExpiry => Sys2Proof.Machine.execRung2HoldExpiry s
  | .release => Sys2Proof.Machine.execRelease s
  | .rung3JobStart env => Sys2Proof.Machine.execRung3JobStart env s
  | .cascadeEnable => Sys2Proof.Machine.execCascadeEnable s
  | .cascadeDisable => Sys2Proof.Machine.execCascadeDisable s
  | .cascadeCleared => Sys2Proof.Machine.execCascadeCleared s
  | .routeEnable d => Sys2Proof.Machine.execRouteEnable d s
  | .routeDisable d => Sys2Proof.Machine.execRouteDisable d s
  | .fabricJobEnable c list => Sys2Proof.Machine.execFabricJobEnable c list s
  | .fabricJobDisable c => Sys2Proof.Machine.execFabricJobDisable c s
  | .testRuleEnable k r value => Sys2Proof.Machine.execTestRuleEnable k r value s
  | .reorderRelease k => Sys2Proof.Machine.execReorderRelease k s
  | .kertikLinkUp k badLanes => Sys2Proof.Machine.execKertikLinkUp k badLanes s
  | .kertikLinkDown k fecUncorrected => Sys2Proof.Machine.execKertikLinkDown k fecUncorrected s
  | .kertikDataRx k f => Sys2Proof.Machine.execKertikDataRx k f s
  | .kertikAckRx k f => Sys2Proof.Machine.execKertikAckRx k f s
  | .kertikPegRx k f => Sys2Proof.Machine.execKertikPegRx k f s
  | .kertikKeepaliveRx k f => Sys2Proof.Machine.execKertikKeepaliveRx k f s
  | .kertikAbortRx k f => Sys2Proof.Machine.execKertikAbortRx k f s
  | .kertikDataTx c chan late => Sys2Proof.Machine.execKertikDataTx c chan late s
  | .ackDelayExpiry c flow => Sys2Proof.Machine.execAckDelayExpiry c flow s
  | .rtoExpiry c flow => Sys2Proof.Machine.execRtoExpiry c flow s
  | .flowTimeout c flow => Sys2Proof.Machine.execFlowTimeout c flow s
  | .keepaliveTx k => Sys2Proof.Machine.execKeepaliveTx k s
  | .peerSilent k => Sys2Proof.Machine.execPeerSilent k s
  | .barrierArrive c => Sys2Proof.Machine.execBarrierArrive c s
  | .fillerStart n => Sys2Proof.Machine.execFillerStart n s
  | .fillerLimitExpiry n => Sys2Proof.Machine.execFillerLimitExpiry n s
  | .tenantEnable t => Sys2Proof.Machine.execTenantEnable t s
  | .quotaWrite t dw4 value => Sys2Proof.Machine.execQuotaWrite t dw4 value s
  | .tenantDisable t => Sys2Proof.Machine.execTenantDisable t s
  | .contextEnable c => Sys2Proof.Machine.execContextEnable c s
  | .contextDisable c => Sys2Proof.Machine.execContextDisable c s
  | .keyGo eraseSlot => Sys2Proof.Machine.execKeyGo eraseSlot s
  | .keyDeliveryDone tagOk => Sys2Proof.Machine.execKeyDeliveryDone tagOk s
  | .keyErase slot => Sys2Proof.Machine.execKeyErase slot s
  | .attestGo value => Sys2Proof.Machine.execAttestGo value s
  | .attestSignStart => Sys2Proof.Machine.execAttestSignStart s
  | .attestSignDone => Sys2Proof.Machine.execAttestSignDone s
  | .kemCertSignDone => Sys2Proof.Machine.execKemCertSignDone s
  | .bufFree b => Sys2Proof.Machine.execBufFree b s
  | .lcGo target confirm tokenOk => Sys2Proof.Machine.execLcGo target confirm tokenOk s
  | .ringEnable r => Sys2Proof.Machine.execRingEnable r s
  | .ringReady r => Sys2Proof.Machine.execRingReady r s
  | .ringDisable r => Sys2Proof.Machine.execRingDisable r s
  | .ucieLinkTrain m0 m1 => Sys2Proof.Machine.execUcieLinkTrain m0 m1 s
  | .hotReset d3 => Sys2Proof.Machine.execHotReset d3 s
  | .l1Entry => Sys2Proof.Machine.execL1Entry s
  | .capHostWrite value => Sys2Proof.Machine.execCapHostWrite value s
  | .smbusStatus => Sys2Proof.Machine.execSmbusStatus s
  | .smbusCapTrayWrite value pecOk => Sys2Proof.Machine.execSmbusCapTrayWrite value pecOk s
  | .smbusCapTrayRead => Sys2Proof.Machine.execSmbusCapTrayRead s
  | .smbusPwr10ms => Sys2Proof.Machine.execSmbusPwr10ms s
  | .smbusFloorW => Sys2Proof.Machine.execSmbusFloorW s
  | .smbusCapReason => Sys2Proof.Machine.execSmbusCapReason s
  | .smbusHottest => Sys2Proof.Machine.execSmbusHottest s
  | .smbusSensors => Sys2Proof.Machine.execSmbusSensors s
  | .smbusFaultInfo => Sys2Proof.Machine.execSmbusFaultInfo s
  | .smbusTimeout => Sys2Proof.Machine.execSmbusTimeout s
  | .eraseSlot slot area => Sys2Proof.Machine.execEraseSlot slot area s
  | .program slot area => Sys2Proof.Machine.execProgram slot area s
  | .readFlash slot area => Sys2Proof.Machine.execReadFlash slot area s
  | .verify slot area => Sys2Proof.Machine.execVerify slot area s
  | .commit slot area => Sys2Proof.Machine.execCommit slot area s
  | .cancel slot area => Sys2Proof.Machine.execCancel slot area s
  | .updDone flashOk check => Sys2Proof.Machine.execUpdDone flashOk check s
  | .restart env => Sys2Proof.Machine.execRestart env s
  | .keydigGo slot => Sys2Proof.Machine.execKeydigGo slot s
  | .porstNAssert => Sys2Proof.Machine.execPorstNAssert s
  | .warmRstNAssert => Sys2Proof.Machine.execWarmRstNAssert s
  | .porstNRelease straps env => Sys2Proof.Machine.execPorstNRelease straps env s
  | .warmRstNRelease straps env => Sys2Proof.Machine.execWarmRstNRelease straps env s
  | .startUpComplete => Sys2Proof.Machine.execStartUpComplete s
  | .domainEntryRequest d off => Sys2Proof.Machine.execDomainEntryRequest d off s
  | .domainIsolate d => Sys2Proof.Machine.execDomainIsolate d s
  | .domainEntryDone d => Sys2Proof.Machine.execDomainEntryDone d s
  | .domainExitRequest d => Sys2Proof.Machine.execDomainExitRequest d s
  | .domainExitDone d => Sys2Proof.Machine.execDomainExitDone d s
  | .idleRetExpiry d => Sys2Proof.Machine.execIdleRetExpiry d s
  | .idleOffExpiry d => Sys2Proof.Machine.execIdleOffExpiry d s
  | .wakePeg p => Sys2Proof.Machine.execWakePeg p s
  | .wakeActivity => Sys2Proof.Machine.execWakeActivity s
  | .wakeDemand d => Sys2Proof.Machine.execWakeDemand d s
  | .wakeHostLink m => Sys2Proof.Machine.execWakeHostLink m s
  | .wakeGlanceTimer => Sys2Proof.Machine.execWakeGlanceTimer s
  | .wakePowerEvent => Sys2Proof.Machine.execWakePowerEvent s
  | .wakeI3cIbi b => Sys2Proof.Machine.execWakeI3cIbi b s
  | .wakeCsiSot p => Sys2Proof.Machine.execWakeCsiSot p s
  | .clockFault => Sys2Proof.Machine.execClockFault s
  | .referenceAbsent => Sys2Proof.Machine.execReferenceAbsent s
  | .powerSample watts => Sys2Proof.Machine.execPowerSample watts s
  | .controlPeriod => Sys2Proof.Machine.execControlPeriod s
  | .opChange n op => Sys2Proof.Machine.execOpChange n op s
  | .opChangeDone n => Sys2Proof.Machine.execOpChangeDone n s
  | .droopFire n => Sys2Proof.Machine.execDroopFire n s
  | .stretchEnd n cycles => Sys2Proof.Machine.execStretchEnd n cycles s
  | .tempSample temps => Sys2Proof.Machine.execTempSample temps s
  | .coolantOkFall => Sys2Proof.Machine.execCoolantOkFall s
  | .coolantResume => Sys2Proof.Machine.execCoolantResume s
  | .foremanPoll silent errors => Sys2Proof.Machine.execForemanPoll silent errors s
  | .unitFenced u => Sys2Proof.Machine.execUnitFenced u s
  | .spareBentInService n => Sys2Proof.Machine.execSpareBentInService n s
  | .heartbeatAdd active => Sys2Proof.Machine.execHeartbeatAdd active s
  | .heartbeatSample byStandby error => Sys2Proof.Machine.execHeartbeatSample byStandby error s
  | .coldSpareLoaded => Sys2Proof.Machine.execColdSpareLoaded s
  | .lastResort cause => Sys2Proof.Machine.execLastResort cause s
  | .healthMapUpdate ok => Sys2Proof.Machine.execHealthMapUpdate ok s
  | .shutdownGo => Sys2Proof.Machine.execShutdownGo s
  | .shutdownDone verdicts ok => Sys2Proof.Machine.execShutdownDone verdicts ok s
  | .tsUnit => Sys2Proof.Machine.execTsUnit s
  | .tsLoftMarch => Sys2Proof.Machine.execTsLoftMarch s
  | .tsLinkLoopback => Sys2Proof.Machine.execTsLinkLoopback s
  | .tsProgramDone verdicts elapsed ok => Sys2Proof.Machine.execTsProgramDone verdicts elapsed ok s
  | .mainPllRelock => Sys2Proof.Machine.execMainPllRelock s
  | .configSpaceWrite w d0 => Sys2Proof.Machine.execConfigSpaceWrite w d0 s
  | .editGo sn op seq src => Sys2Proof.Machine.execEditGo sn op seq src s
  | .tsGo prog => Sys2Proof.Machine.execTsGo prog s

end Sys2Proof.Machine
end

