-- ==== Sys2Proof/Machine/Tick.lean ====
section
/-! DEFINITION. The passing of time while no command waits. -/

namespace Sys2Proof.Machine

/-- One cycle of CK_CTL: two periods of 1/614.4 MHz, or 25 while CK_CTL runs on the reference (15 R460; log entry 10). With it a new cycle
begins (00 R10). -/
def State.tick (s : State) : State := { s with before := s.regs, now := s.now + (if s.on .clk_CK_CTL_ON_REF then 25 else 2) }

end Sys2Proof.Machine
end

