-- ==== Sys2Proof/Safety.lean ====
section
/-! DEFINITION. What counts as a safe run, in the terms that claims use: a step that answers a next state, a state whose stores are
in their canonical form, and OTP that only ever takes more. -/

namespace Sys2Proof

/-- The step answers a next state: no fault and no refusal. -/
def Machine.State.runs (s : Machine.State) : Prop := ∃ t, Machine.step s = .next t

namespace Machine

/-- Value that key `k` of the register store reads as when it is not listed. -/
def regDefault (k : Nat) : Nat := (Reg.ofNat (k % 1024)).resetAt (k / 1024)

/-- The register store is in its canonical form, and every field holds a value of its width (00 R7, R8). -/
def RegsOk (l : List (Nat × Nat)) : Prop :=
  Store.wf regDefault l = true ∧ ∀ (r : Reg) (i : Nat), Store.get (r.resetAt i) l (regKey r i) < 2 ^ r.width

/-- The registers are, and so are the memories that are read and written by address: GDDR6 with its check symbols, host memory, BAR4,
the staging buffer and the two image slots of the flash. -/
def CanonicalParts (regs : List (Nat × Nat)) (ddr : Mem) (check : List (Nat × Nat)) (host bar4 staging slot0 slot1 : Mem) : Prop :=
  RegsOk regs ∧ (Mem.wf 0 ddr = true ∧ Mem.wf 0 host = true ∧ Mem.wf 0 bar4 = true ∧ Store.wf (fun _ => 0) check = true) ∧
    Mem.wf 0 staging = true ∧ Mem.wf 0xFF slot0 = true ∧ Mem.wf 0xFF slot1 = true

/-- Every store of the state is in its canonical form. -/
def State.Canonical (s : State) : Prop :=
  CanonicalParts s.regs s.memory.ddr s.memory.check s.memory.host s.memory.bar4 s.staging s.flash.slot0 s.flash.slot1

/-- OTP holds what programming can leave in it (12 Table Tenants-10, 14 R424): one digest of 32 bytes a key slot, at most three returns
and 32 writes of the least security version, and a life-cycle state. -/
structure Otp.Ok (o : Otp) : Prop where
  keys : (o.keys.map (·.1)).Nodup
  digests : ∀ p ∈ o.keys, p.1 < 4 ∧ p.2.length = 32
  lifeCycle : o.lifeCycle ≤ 4
  returns : o.returns ≤ 3
  svnWrites : o.svnWrites ≤ 32

/-- OTP only ever takes more (14 R424): a digest stays as it was programmed, a revocation stays, the least security version never
falls, and what is left of returns and version writes never rises. -/
structure Otp.Grows (o p : Otp) : Prop where
  keys : o.keys <+: p.keys
  revoked : o.revoked <+: p.revoked
  minSvn : o.minSvn ≤ p.minSvn
  returns : p.returns ≤ o.returns
  svnWrites : p.svnWrites ≤ o.svnWrites

/-- Host writes to every part of the device take effect: start-up is over, no shutdown program has been asked for or runs, and no
coolant stop is in force (13 R415; 14 R427, R430; 16 Table Power-5; 17 R497). -/
def State.running (s : State) : Bool :=
  s.boot.phase != .halted && s.get .host_DEV_STATE == 1 && s.get .rec_SHUTDOWN_STATE == 0 && !s.shutdownHeld &&
    !s.on .pwr_COOLANT_STOP

/-- The value of a counter after `n` more: it stops at its largest value or wraps (00 Table Scope-5). -/
def Reg.counted (r : Reg) (v n : Nat) : Nat := if r.info.stops then min (v + n) (2 ^ r.width - 1) else (v + n) % 2 ^ r.width

/-- `t` is `s` with the listed (field, index, value) in its registers: each holds its value, every other register field holds what
it held in `s`, and so does everything of the state that is no register field. -/
structure State.Writes (s t : State) (l : List (Reg × Nat × Nat)) : Prop where
  rest : t = { s with regs := t.regs }
  values : ∀ p ∈ l, t.get p.1 p.2.1 = p.2.2
  frame : ∀ r i, (∀ p ∈ l, p.1 ≠ r ∨ p.2.1 ≠ i) → t.get r i = s.get r i

/-- `t` is `s` with the listed fields in its registers and with what writes to GDDR6 change: its bytes, check symbols, bad blocks and
STORED marks, and the two fields that tell of a write that met a part of a coded block (07 R241). -/
structure State.Stores (s t : State) (l : List (Reg × Nat × Nat)) : Prop where
  rest : t = { s with
    regs := t.regs
    memory := { s.memory with ddr := t.memory.ddr, check := t.memory.check, bad := t.memory.bad, stored := t.memory.stored } }
  values : ∀ p ∈ l, t.get p.1 p.2.1 = p.2.2
  frame : ∀ r i, r ≠ .froe_PARTIAL_WRITES → r ≠ .froe_PARTIAL_WRITE_SEEN → (∀ p ∈ l, p.1 ≠ r ∨ p.2.1 ≠ i) → t.get r i = s.get r i

/-- Command `c` in state `s` answers a next state, and that state is `u` with the listed fields in its registers. -/
def State.Does (s : State) (c : Instr) (u : State) (l : List (Reg × Nat × Nat)) : Prop :=
  ∃ t, exec c s = .next t ∧ u.Writes t l

/-- The same, and then the shared operation `k` runs: an EVENT bit is set, FLOOR_W is recomputed, a peg tells of its change. -/
def State.DoesThen (s : State) (c : Instr) (u : State) (l : List (Reg × Nat × Nat)) (k : State → State) : Prop :=
  ∃ t, exec c s = .next (k t) ∧ u.Writes t l

/-- Part of the device that a command writes when the command is a host write with a row of its own (13, 14, 19); none for every
other command. -/
def hostTarget : Instr → Option Target
  | .glanceSrcWrite _ => some .other
  | .cameraStreamEnable _ => some .other
  | .cameraStreamDisable _ => some .other
  | .loopEnable _ => some .other
  | .loopDisable _ => some .other
  | .daaGo _ _ => some .other
  | .manGo _ => some .other
  | .cascadeEnable => some .other
  | .cascadeDisable => some .other
  | .release => some .other
  | .beamCommit => some .other
  | .routeEnable _ => some .other
  | .routeDisable _ => some .other
  | .fabricJobEnable _ _ => some .other
  | .fabricJobDisable _ => some .other
  | .testRuleEnable _ _ _ => some .other
  | .poolEnable _ => some .other
  | .poolDisable _ => some .other
  | .sessionEnable _ _ => some .other
  | .sessionDisable _ => some .other
  | .streamEnable _ _ => some .other
  | .streamDisable _ => some .other
  | .resetPendingWrite _ => some .other
  | .openSeq _ _ _ => some .other
  | .closeSeq _ _ _ => some .other
  | .truncateSeq _ _ _ => some .other
  | .forkSeq _ _ _ => some .other
  | .editGo _ _ _ _ => some .other
  | .pegEnable _ _ => some .other
  | .pegDisable _ => some .other
  | .pegCountWrite _ _ => some .other
  | .pegThreshWrite _ _ => some .other
  | .pegAddAliasWrite _ _ => some .other
  | .pegEvqHeadWrite _ => some .other
  | .regionEnable _ _ _ => some .other
  | .regionDisable _ _ => some .other
  | .ringEnable _ => some .other
  | .ringDisable _ => some .other
  | .jobDb _ _ => some .other
  | .ringDb _ _ => some .other
  | .jobEntryEnable _ _ => some .other
  | .jobEntryDisable _ _ => some .other
  | .tenantEnable _ => some .other
  | .quotaWrite _ _ _ => some .other
  | .tenantDisable _ => some .other
  | .contextEnable _ => some .other
  | .contextDisable _ => some .other
  | .capHostWrite _ => some .power
  | .shutdownGo => some .foreman
  | .tsUnit => some .foreman
  | .tsLoftMarch => some .foreman
  | .tsLinkLoopback => some .foreman
  | .tsGo _ => some .foreman
  | .restart _ => some .startUp
  | .eraseSlot _ _ => some .startUp
  | .program _ _ => some .startUp
  | .readFlash _ _ => some .startUp
  | .verify _ _ => some .startUp
  | .commit _ _ => some .startUp
  | .cancel _ _ => some .startUp
  | .keydigGo _ => some .startUp
  | .keyGo _ => some .wedge
  | .keyErase _ => some .wedge
  | .attestGo _ => some .wedge
  | .bufFree _ => some .wedge
  | .lcGo _ _ _ => some .wedge
  | _ => none

end Machine

end Sys2Proof
end

