-- ==== Sys2Proof/Certificates/Slice0/Obligations.lean ====
section
/-! DEFINITION. The statements for the provers. `s.Does c u l` says that command `c` in state `s` answers a next state, and that this
state is `u` but for the register fields that `l` lists with their new values (Safety.lean): what it does not list is unchanged. -/

open Sys2Proof Sys2Proof.Machine

/-! ## The machine -/

/-- A step takes the command at the front of the queue and runs it with the rest of the queue. With nothing waiting it lets one cycle of
CK_CTL pass and changes nothing else: 2 periods of 614.4 MHz, 25 while CK_CTL runs on the reference clock; that an empty queue lets time
pass is the model's own choice (log entry 10). -/
def Obligations.StepRunsFront : Prop :=
  (∀ (c : Instr) (q : List Instr) (s : State), step { s with pending := c :: q } = exec c { s with pending := q }) ∧
  (∀ s : State, s.pending = [] → step s = .next { s with now := s.now + (if s.get .clk_CK_CTL_ON_REF = 0 then 2 else 25) })

/-- After PORST_N every register field reads the value of its Reset column, an incarnation reads 1, every MSI-X vector is masked, the
device is in START_UP, nothing is enabled, no job is started, no command waits, and no memory holds anything. -/
def Obligations.ResetState : Prop :=
  (∀ (r : Reg) (i : Nat), State.reset.get r i = r.resetAt i) ∧
  (∀ i, State.reset.get .inc_INCARNATION i = 1 ∧ State.reset.get .msix_CTRL_MASK i = 1 ∧ State.reset.get .host_DEV_STATE = 0 ∧
    State.reset.get .ten_ENABLE i = 0 ∧ State.reset.get .ctx_ENABLE i = 0 ∧ State.reset.get .peg_ENABLE i = 0 ∧
    State.reset.get .rgn_ENABLE i = 0 ∧ State.reset.get .ring_ENABLE i = 0 ∧ State.reset.get .bent_LOGICAL i = i % 8) ∧
  State.reset.jobs = [] ∧ State.reset.waits = [] ∧ State.reset.pending = [] ∧ State.reset.outbox = [] ∧
  State.reset.memory.ddr = [] ∧ State.reset.staging = [] ∧ State.reset.busMaster = false

/-- No command touches the queue of waiting commands. -/
def Obligations.QueueUntouched : Prop :=
  ∀ (c : Instr) (s t : State), exec c s = .next t → t.pending = s.pending

/-- Every command but REGISTER_WRITE answers a next state in every state; REGISTER_WRITE does exactly where its bytes lie within the
BAR (Table Host-1 gives the sizes), and stops by name where they do not. -/
def Obligations.EveryCommandRuns : Prop :=
  (∀ (c : Instr) (s : State), (∀ bar off width value, c ≠ .registerWrite bar off width value) → ∃ t, exec c s = .next t) ∧
  (∀ (bar : Bar) (off : Nat) (width : Width) (value : DWord) (s : State),
    off + width.bytes ≤ barBytes bar → ∃ t, exec (.registerWrite bar off width value) s = .next t) ∧
  (∀ (bar : Bar) (off : Nat) (width : Width) (value : DWord) (s : State),
    barBytes bar < off + width.bytes → exec (.registerWrite bar off width value) s = .fault .outsideBar)

/-- Every step keeps every store in its canonical form and every register field within its width. -/
def Obligations.StepKeepsCanonical : Prop :=
  ∀ s t : State, s.Canonical → step s = .next t → t.Canonical

/-- The state after PORST_N is canonical, and OTP of a part that has never been programmed meets the invariant of OTP. -/
def Obligations.ResetInvariants : Prop :=
  (State.reset.Canonical) ∧
  (State.reset.wedge.otp.Ok)

/-- Every step keeps OTP within what programming can leave in it, and takes nothing back out of it. -/
def Obligations.StepKeepsOtp : Prop :=
  (∀ s t : State, s.wedge.otp.Ok → step s = .next t → t.wedge.otp.Ok) ∧
  (∀ s t : State, step s = .next t → s.wedge.otp.Grows t.wedge.otp)

/-- Host writes that the device does not take, by the part they write: while DEV_STATE is START_UP everything but Wedge, the start-up
block and the staging buffer, in BLANK everything but Wedge and in DECOMMISSIONED everything, in FOREMAN_LOST everything but Wedge, and
from SHUTDOWN_GO on everything but Wedge, the start-up and Foreman blocks and the power block: each is discarded and counted. During a
coolant stop a write to any part but the power block has no effect. ATTEST_GO in DECOMMISSIONED is refused with the code that R383 names for
that state, which is the model's choice (log entry 88); it is stated with ATTEST_GO. -/
def Obligations.HostWritesGated : Prop :=
  ∀ (c : Instr) (part : Target) (s : State), hostTarget c = some part →
    (s.boot.phase = .halted → ((s.get .wedge_LIFE_CYCLE = 4 ∧ ∀ v, c ≠ .attestGo v) ∨ part ≠ .wedge) → exec c s = .next s.accessError) ∧
    (s.boot.phase ≠ .halted → s.get .host_DEV_STATE = 0 → part ≠ .wedge → part ≠ .startUp → part ≠ .staging →
      exec c s = .next s.accessError) ∧
    (s.boot.phase ≠ .halted → s.get .host_DEV_STATE = 2 → part ≠ .wedge → exec c s = .next s.accessError) ∧
    (s.boot.phase ≠ .halted → s.get .host_DEV_STATE = 1 → (s.get .rec_SHUTDOWN_STATE ≠ 0 ∨ s.shutdownHeld = true) →
      part = .other → exec c s = .next s.accessError) ∧
    (s.boot.phase ≠ .halted → s.get .host_DEV_STATE = 1 → s.get .rec_SHUTDOWN_STATE = 0 → s.shutdownHeld = false →
      s.get .pwr_COOLANT_STOP ≠ 0 → part ≠ .power → exec c s = .next s)

/-- A discarded access goes up one in ACCESS_ERRORS, which stops at its largest value, and sets the EVENT bit ACCESS_ERROR. An EVENT bit
that becomes set and is not masked sends the message of DEV_VECTOR; one that is set already or masked sends nothing. A message on an
unmasked vector, while MSI-X is enabled and not masked as a whole (PCIe's rules, log entry 38) and the device may issue requests, writes its
data to its address in host memory; otherwise it waits in the PBA. -/
def Obligations.EventsAndMessages : Prop :=
  (∀ s : State, s.accessError = (s.set .host_ACCESS_ERRORS 0 (min (s.get .host_ACCESS_ERRORS + 1) (2 ^ 32 - 1))).event .host_ACCESS_ERROR) ∧
  (∀ (s : State) (r : Reg), r ∈ [Reg.host_ACCESS_ERROR, .host_DOORBELL_FAULT, .host_MISROUTE, .host_EVQ_OVERFLOW, .host_FOREMAN_LOST_EV,
      .host_LINK_DEGRADED] →
    (s.get r ≠ 0 → s.Writes (s.event r) [(r, 0, 1)]) ∧
    (bit (s.get .host_EVENT_MASK) (r.info.bit - Reg.host_ACCESS_ERROR.info.bit) = true → s.Writes (s.event r) [(r, 0, 1)]) ∧
    (s.get r = 0 → bit (s.get .host_EVENT_MASK) (r.info.bit - Reg.host_ACCESS_ERROR.info.bit) = false →
      s.event r = (s.set r 0 1).message (s.get .host_DEV_VECTOR))) ∧
  (∀ (s : State) (v : Nat),
    (s.get .msix_CTRL_MASK v ≠ 0 ∨ s.config.msixEnable = false ∨ s.config.functionMask = true ∨ s.busMaster = false ∨ s.d3hot = true) →
    s.Writes (s.message v) [(.pba_PENDING, v, 1)]) ∧
  (∀ (s : State) (v : Nat), s.get .msix_CTRL_MASK v = 0 → s.config.msixEnable = true → s.config.functionMask = false → s.busMaster = true →
    s.d3hot = false →
    let a := s.get .msix_ADDR_LO v + 2 ^ 32 * s.get .msix_ADDR_HI v
    (s.message v).regs = s.regs ∧ (s.message v).outbox = s.outbox ++ [.msix v a (s.get .msix_DATA v)] ∧
    Mem.readBytes 0 (s.message v).memory.host a 4 = toBytes 4 (s.get .msix_DATA v) ∧
    ∀ b, b < a ∨ a + 4 ≤ b → Mem.read 0 (s.message v).memory.host b = Mem.read 0 s.memory.host b)

/-! ## Tenants and contexts (12) -/

/-- TENANT_ENABLE. The checks run in the order of the table and the first that applies decides the code; a refusal changes REASON alone. On
acceptance the usage fields are 0 and STATE is 1. A write of 1 to an ENABLE that is set has no effect. -/
def Obligations.TenantEnable : Prop :=
  ∀ (t : Fin 4096) (s : State), s.running = true →
    let k := s.get .ten_CLASS t
    let above := s.get .cls_MAX_MEM_PAGES k < s.get .ten_Q_MEM_PAGES t ∨ s.get .cls_MAX_SESSIONS k < s.get .ten_Q_SESSIONS t ∨
      s.get .cls_MAX_PEGS k < s.get .ten_Q_PEGS t ∨ s.get .cls_MAX_STREAMS k < s.get .ten_Q_STREAMS t ∨
      s.get .cls_MAX_CONTEXTS k < s.get .ten_Q_CONTEXTS t
    let refused := fun code => s.Does (.tenantEnable t) s [(.ten_REASON, t, code)]
    (s.get .ten_ENABLE t ≠ 0 → exec (.tenantEnable t) s = .next s) ∧
    (s.get .ten_ENABLE t = 0 →
      if s.get .ten_STATE t = 2 then refused 0x0207
      else if s.get .cls_VALID k = 0 then refused 0x0201
      else if s.get .ten_PASID t = 0 then refused 0x0202
      else if ∃ u ∈ s.indices .ten_STATE, u ≠ t ∧ s.get .ten_PASID u = s.get .ten_PASID t then refused 0x0203
      else if above then refused 0x0204
      else s.Does (.tenantEnable t) s
        [(.ten_ENABLE, t, 1), (.ten_STATE, t, 1), (.ten_REASON, t, 0), (.ten_MEM_USED, t, 0), (.ten_SESSIONS_USED, t, 0),
          (.ten_PEGS_USED, t, 0), (.ten_STREAMS_USED, t, 0), (.ten_CONTEXTS_USED, t, 0), (.ten_FROE_USED, t, 0)])

/-- QUOTA_WRITE. While ENABLE is 0 the quotas of the DW are stored as written. While ENABLE is 1 a quota takes effect only when it is at
least its usage and at most its class maximum; otherwise it keeps its value and REASON takes 0x0206 or 0x0204. That each quota of a DW is
checked alone, and that REASON then shows the first refusal of the write, is the model's choice (log entry 16). -/
def Obligations.QuotaWrite : Prop :=
  ∀ (t : Fin 4096) (value : Word) (s : State), s.running = true →
    let k := s.get .ten_CLASS t
    let pages := bits value.toNat 0 16
    let sessions := bits value.toNat 16 12
    let code := fun (v used top : Nat) => if v < used then 0x0206 else if top < v then 0x0204 else 0
    let c0 := code pages (s.get .ten_MEM_USED t) (s.get .cls_MAX_MEM_PAGES k)
    let c1 := code sessions (s.get .ten_SESSIONS_USED t) (s.get .cls_MAX_SESSIONS k)
    let kept := fun (r : Reg) (v c : Nat) => if c = 0 then v else s.get r t
    let pegs := bits value.toNat 0 17
    let streams := bits value.toNat 17 7
    let contexts := bits value.toNat 24 5
    let d0 := code pegs (s.get .ten_PEGS_USED t) (s.get .cls_MAX_PEGS k)
    let d1 := code streams (s.get .ten_STREAMS_USED t) (s.get .cls_MAX_STREAMS k)
    let d2 := code contexts (s.get .ten_CONTEXTS_USED t) (s.get .cls_MAX_CONTEXTS k)
    (s.get .ten_ENABLE t = 0 →
      s.Does (.quotaWrite t false value) s [(.ten_Q_MEM_PAGES, t, pages), (.ten_Q_SESSIONS, t, sessions)] ∧
      s.Does (.quotaWrite t true value) s [(.ten_Q_PEGS, t, pegs), (.ten_Q_STREAMS, t, streams), (.ten_Q_CONTEXTS, t, contexts)]) ∧
    (s.get .ten_ENABLE t ≠ 0 →
      s.Does (.quotaWrite t false value) s
        [(.ten_Q_MEM_PAGES, t, kept .ten_Q_MEM_PAGES pages c0), (.ten_Q_SESSIONS, t, kept .ten_Q_SESSIONS sessions c1),
          (.ten_REASON, t, if c0 = 0 then c1 else c0)] ∧
      s.Does (.quotaWrite t true value) s
        [(.ten_Q_PEGS, t, kept .ten_Q_PEGS pegs d0), (.ten_Q_STREAMS, t, kept .ten_Q_STREAMS streams d1),
          (.ten_Q_CONTEXTS, t, kept .ten_Q_CONTEXTS contexts d2),
          (.ten_REASON, t, if d0 = 0 then (if d1 = 0 then d2 else d1) else d0)])

/-- TENANT_DISABLE. Refused with 0x0205 while CONTEXTS_USED is above 0. A tenant without loaded keys and rings closes at once when MEM_USED
is 0 and is in STATE 2 otherwise; in every accepted case ENABLE is 0, no key slot of the tenant is LOADED and none of its rings enabled. -/
def Obligations.TenantDisable : Prop :=
  ∀ (t : Fin 4096) (s : State), s.running = true →
    (s.get .ten_ENABLE t = 0 → exec (.tenantDisable t) s = .next s) ∧
    (s.get .ten_ENABLE t ≠ 0 → s.get .ten_CONTEXTS_USED t ≠ 0 → s.Does (.tenantDisable t) s [(.ten_REASON, t, 0x0205)]) ∧
    (s.get .ten_ENABLE t ≠ 0 → s.get .ten_CONTEXTS_USED t = 0 → s.ringsOf t = [] →
      (∀ k < 256, s.get .wkey_SLOT_STATE k ≠ 1 ∨ s.get .wkey_SLOT_TENANT k ≠ t) →
      s.Does (.tenantDisable t) s
        [(.ten_ENABLE, t, 0), (.ten_STATE, t, if s.get .ten_MEM_USED t = 0 then 0 else 2), (.ten_REASON, t, 0)]) ∧
    (s.get .ten_ENABLE t ≠ 0 → s.get .ten_CONTEXTS_USED t = 0 →
      ∃ u, exec (.tenantDisable t) s = .next u ∧ u.get .ten_ENABLE t = 0 ∧
        (∀ k < 256, u.get .wkey_SLOT_STATE k ≠ 1 ∨ u.get .wkey_SLOT_TENANT k ≠ t) ∧
        ∀ r ∈ s.ringsOf t, u.get .ring_ENABLE r = 0 ∧ u.get .ring_STATE r = 0)

/-- CONTEXT_ENABLE. The checks run in the order of the table. On acceptance the read-only fields of the entry and every field of its 16
job entries take their Reset values, the next job takes JOB_SEQ 0, STATE is 1, the tenant uses one context more, and FLOOR_W is
recomputed.
CONTEXT_DISABLE. Refused with 0x0314 while the context has anything of R371. Otherwise ENABLE and STATE are 0, the tenant uses one
context less, and the Froe slots of the context are SUPERSEDED. -/
def Obligations.ContextEnableDisable : Prop :=
  (∀ (c : Fin 16384) (s : State), s.running = true →
      let t := s.get .ctx_TENANT c
      let refused := fun code => s.Does (.contextEnable c) s [(.ctx_REASON, c, code)]
      (s.get .ctx_ENABLE c ≠ 0 → exec (.contextEnable c) s = .next s) ∧
      (s.get .ctx_ENABLE c = 0 →
        if s.get .ctx_STATE c = 2 then refused 0x0313
        else if s.get .ten_STATE t ≠ 1 then refused 0x0310
        else if s.get .ctx_PRIO c < s.get .cls_PRIO_MIN (s.get .ten_CLASS t) then refused 0x0312
        else if s.get .ten_CONTEXTS_USED t = s.get .ten_Q_CONTEXTS t then refused 0x0311
        else s.DoesThen (.contextEnable c)
          { s with stopped := s.stopped.filter (fun k => k / 16 != c), jobSeq := Store.put 0 s.jobSeq c 0 }
          ([(.ctx_ENABLE, c.val, 1), (.ctx_STATE, c, 1), (.ctx_REASON, c, 0), (.ctx_HEAD, c, 0), (.ctx_TAIL, c, 0), (.ctx_DB_REASON, c, 0),
            (.ctx_RESIDENT_MASK, c, 0), (.ctx_JOBS_DONE, c, 0), (.ctx_LAST_FAULT, c, 0),
            (.ten_CONTEXTS_USED, t, (s.get .ten_CONTEXTS_USED t + 1) % 32)] ++
            (List.range 16).flatMap (fun e => jobFields.map (fun r => (r, 16 * c.val + e, r.resetAt (16 * c.val + e)))))
          State.floorRecompute)) ∧
  (∀ (c : Fin 16384) (s : State), s.running = true →
      let t := s.get .ctx_TENANT c
      (s.get .ctx_ENABLE c = 0 → exec (.contextDisable c) s = .next s) ∧
      (s.get .ctx_ENABLE c ≠ 0 → s.contextInUse c = true → s.Does (.contextDisable c) s [(.ctx_REASON, c, 0x0314)]) ∧
      (s.get .ctx_ENABLE c ≠ 0 → s.contextInUse c = false →
        (∀ k < 64, s.get .ftab_OWNER k ≠ c ∨ (s.get .ftab_VALID k = 0 ∧ s.get .ftab_BUILDING k = 0)) →
        s.DoesThen (.contextDisable c) s
          [(.ctx_ENABLE, c, 0), (.ctx_STATE, c, 0), (.ctx_REASON, c, 0),
            (.ten_CONTEXTS_USED, t, (s.get .ten_CONTEXTS_USED t - 1) % 32)] State.floorRecompute) ∧
      (s.get .ctx_ENABLE c ≠ 0 → s.contextInUse c = false →
        ∃ u, exec (.contextDisable c) s = .next u ∧ u.get .ctx_ENABLE c = 0 ∧ u.get .ctx_STATE c = 0 ∧
          ∀ k < 64, u.get .ftab_OWNER k = c → u.get .ftab_VALID k ≠ 0 ∨ u.get .ftab_BUILDING k ≠ 0 →
            u.get .ftab_SUPERSEDED k ≠ 0))

/-- FLOOR_W takes the sum of R471, and FLOOR_OVER_CAP says whether it lies above CAP_EFFECTIVE; that 0 in CAP_EFFECTIVE stands for no cap
is the model's choice (log entry 51). -/
def Obligations.FloorRecomputed : Prop :=
  ∀ s : State,
    let w := s.floorWatts % 2 ^ 16
    s.Writes s.floorRecompute [(.pwr_FLOOR_W, 0, w),
      (.pwr_FLOOR_OVER_CAP, 0, if s.get .pwr_CAP_EFFECTIVE ≠ 0 ∧ s.get .pwr_CAP_EFFECTIVE < w then 1 else 0)]

/-! ## Pegs (01 R31 to R45, 13 R412) -/

/-- The rules of a peg. A 32-bit counter value C has reached a target T when (C - T) mod 2^32 is below 2^31. A change of COUNT or THRESH
tells the host only when REACHED goes from 0 to 1 with IRQ_EN set, and asks for rung 3 when it reaches peg 66 of an enabled cascade with
RUNG3_EN: one cause for each unit that COUNT grew by. The entry of the event queue holds the phase, the peg and its tenant; an event that
finds the queue full is counted as lost. -/
def Obligations.PegRules : Prop :=
  (∀ C T : Nat, C < 2 ^ 32 → T < 2 ^ 32 → (hasReached 32 C T = true ↔ ((C : Int) - T) % 2 ^ 32 < 2 ^ 31)) ∧
  (∀ (s : State) (i : Nat), s.reached i = true ↔
    s.get .peg_ENABLE i ≠ 0 ∧ hasReached 32 (s.get .peg_COUNT i) (s.get .peg_THRESH i) = true) ∧
  (∀ (old s : State) (i : Nat), i ≠ 66 →
    State.afterPeg old s i =
      if old.reached i = false ∧ s.reached i = true ∧ s.get .peg_IRQ_EN i ≠ 0 then s.pegEvent i else s) ∧
  (∀ (old s : State), s.get .peg_IRQ_EN 66 = 0 →
    if s.reached 66 = true ∧ s.get .casc_ENABLE ≠ 0 ∧ s.get .casc_RUNG3_EN ≠ 0 then
      let n := (s.get .peg_COUNT 66 + 2 ^ 32 - old.get .peg_COUNT 66) % 2 ^ 32
      ({ s with audio := { s.audio with causes := s.audio.causes ++ if n = 0 then [] else [(3, n)] } } : State).Writes
        (State.afterPeg old s 66) [(.casc_RUNG3_ACTIVE, 0, 1)]
    else State.afterPeg old s 66 = s) ∧
  (∀ (s : State) (i : Nat),
    let t := s.get .host_PEG_EVQ_TAIL
    let a := 0x800000 + t % 4096 * 8
    ((t + 2 ^ 16 - s.get .host_PEG_EVQ_HEAD) % 2 ^ 16 < 4096 →
      ∃ u : State, s.pegEvent i = State.message u (s.get .host_PEG_VECTOR) ∧
        ({ s with memory := { s.memory with bar4 := u.memory.bar4 } } : State).Writes u [(.host_PEG_EVQ_TAIL, 0, (t + 1) % 2 ^ 16)] ∧
        Mem.readBytes 0 u.memory.bar4 a 4 = toBytes 4 (if t / 4096 % 2 = 0 then 1 else 0) ∧
        Mem.readBytes 0 u.memory.bar4 (a + 4) 4 = toBytes 4 (i + 2 ^ 16 * s.get .peg_TENANT i) ∧
        ∀ b, b < a ∨ a + 8 ≤ b → Mem.read 0 u.memory.bar4 b = Mem.read 0 s.memory.bar4 b) ∧
    (4096 ≤ (t + 2 ^ 16 - s.get .host_PEG_EVQ_HEAD) % 2 ^ 16 →
      s.pegEvent i = (s.bump .host_PEG_EVENTS_LOST).event .host_EVQ_OVERFLOW))

/-- Host writes to COUNT, THRESH and the ADD alias. They act only on a peg from 1,024 up whose ENABLE and HOST_ACCESS are 1: SET, SET_THRESHOLD
and ADD modulo 2^32; receive flows of the peg's context whose CREDIT has risen with it acknowledge. Any other is discarded and counted. -/
def Obligations.PegHostWrites : Prop :=
  ∀ (i : Fin 65536) (value : Word) (s : State), s.running = true →
    (1024 ≤ i.val → s.get .peg_ENABLE i ≠ 0 → s.get .peg_HOST_ACCESS i ≠ 0 →
      let k := fun (t : State) => (State.afterPeg s t i).creditAcks (s.get .peg_CONTEXT i)
      s.DoesThen (.pegCountWrite i value) s [(.peg_COUNT, i, value.toNat)] k ∧
      s.DoesThen (.pegThreshWrite i value) s [(.peg_THRESH, i, value.toNat)] k ∧
      s.DoesThen (.pegAddAliasWrite i value) s [(.peg_COUNT, i, (s.get .peg_COUNT i + value.toNat) % 2 ^ 32)] k) ∧
    (i.val < 1024 ∨ s.get .peg_ENABLE i = 0 ∨ s.get .peg_HOST_ACCESS i = 0 →
      ∀ c ∈ [Instr.pegCountWrite i value, .pegThreshWrite i value, .pegAddAliasWrite i value],
        s.Does c s [(.pstore_PEG_ACCESS_FAULTS, 0, min (s.get .pstore_PEG_ACCESS_FAULTS + 1) (2 ^ 32 - 1)),
          (.pstore_ACCESS_EVENT, 0, 1)])

/-- PEG_ENABLE and PEG_DISABLE. On pegs below 1,024 both are refused with 0x030B and counted. The fields of an enable are stored before the
check runs on them. An accepted enable sets ENABLE and uses one peg of the tenant's quota; an accepted disable clears the counts and gives
it back; a disable of a peg that is in use is refused with 0x030F. -/
def Obligations.PegEnableDisable : Prop :=
  ∀ (i : Fin 65536) (value : Word) (s : State), s.running = true →
    let v := value.toNat
    let c := bits v 8 14
    let t := s.get .peg_TENANT i
    let fields : List (Reg × Nat × Nat) := [(.peg_HOST_ACCESS, i, bits v 1 1), (.peg_REMOTE_ACCESS, i, bits v 2 1), (.peg_IRQ_EN, i, bits v 3 1),
      (.peg_WAKE, i, bits v 4 1), (.peg_CONTEXT, i, c)]
    let faults := min (s.get .pstore_PEG_ACCESS_FAULTS + 1) (2 ^ 32 - 1)
    (i.val < 1024 → ∀ k ∈ [Instr.pegEnable i value, .pegDisable i],
      s.Does k s [(.peg_REASON, i, 0x030B), (.pstore_PEG_ACCESS_FAULTS, 0, faults), (.pstore_ACCESS_EVENT, 0, 1)]) ∧
    (1024 ≤ i.val → s.get .peg_ENABLE i ≠ 0 → exec (.pegEnable i value) s = .next s) ∧
    (1024 ≤ i.val → s.get .peg_ENABLE i = 0 →
      let refused := fun code => s.Does (.pegEnable i value) s (fields ++ [(.peg_REASON, i.val, code)])
      if s.get .ctx_ENABLE c = 0 ∨ s.get .ctx_TENANT c ≠ t then refused 0x030C
      else if bits v 4 1 = 1 then refused 0x030D
      else if s.get .ten_Q_PEGS t ≤ s.get .ten_PEGS_USED t then refused 0x030E
      else
        ∃ u : State, s.Writes u fields ∧ s.DoesThen (.pegEnable i value) s
          (fields ++ [(.peg_ENABLE, i.val, 1), (.peg_REASON, i.val, 0), (.ten_PEGS_USED, t, (s.get .ten_PEGS_USED t + 1) % 2 ^ 17)])
          (fun w => State.afterPeg u w i)) ∧
    (1024 ≤ i.val → s.get .peg_ENABLE i = 0 → exec (.pegDisable i) s = .next s) ∧
    (1024 ≤ i.val → s.get .peg_ENABLE i ≠ 0 → (s.jobsNamePeg (s.get .peg_CONTEXT i) i = true ∨ s.entryNamesPeg i = true) →
      s.Does (.pegDisable i) s [(.peg_REASON, i, 0x030F)]) ∧
    (1024 ≤ i.val → s.get .peg_ENABLE i ≠ 0 → s.jobsNamePeg (s.get .peg_CONTEXT i) i = false → s.entryNamesPeg i = false →
      s.Does (.pegDisable i) s
        [(.peg_ENABLE, i, 0), (.peg_REASON, i, 0), (.peg_COUNT, i, 0), (.peg_THRESH, i, 0),
          (.ten_PEGS_USED, t, (s.get .ten_PEGS_USED t - 1) % 2 ^ 17)])

/-! ## Doorbells and result rings (13) -/

/-- PEG_EVQ_HEAD_WRITE and RING_DB. A head h is accepted when (h - head) mod 2^16 <= (tail - head) mod 2^16, and then the head becomes h;
otherwise the head stays, and a ring counts the refusal. A RING_DB with a reserved bit set, or that names a ring not in STATE 1 or of
another tenant, is discarded. -/
def Obligations.HeadDoorbells : Prop :=
  ∀ (t : Fin 4096) (value : Word) (h : BitVec 16) (s : State), s.running = true →
    let dist := fun (a head : Nat) => (a + 2 ^ 16 - head) % 2 ^ 16
    let r := bits value.toNat 0 12
    let n := bits value.toNat 16 16
    let evHead := s.get .host_PEG_EVQ_HEAD
    (if dist h.toNat evHead ≤ dist (s.get .host_PEG_EVQ_TAIL) evHead then
      s.Does (.pegEvqHeadWrite h) s [(.host_PEG_EVQ_HEAD, 0, h.toNat)]
     else exec (.pegEvqHeadWrite h) s = .next s) ∧
    (if bits value.toNat 12 4 ≠ 0 ∨ s.get .ring_STATE r ≠ 1 ∨ s.get .ring_TENANT r ≠ t then
      s.DoesThen (.ringDb t value) s
        [(.host_DOORBELL_FAULTS, 0, min (s.get .host_DOORBELL_FAULTS + 1) (2 ^ 32 - 1)), (.host_LAST_DB_TENANT, 0, t)]
        (·.event .host_DOORBELL_FAULT)
     else if dist n (s.get .ring_HEAD r) ≤ dist (s.get .ring_TAIL r) (s.get .ring_HEAD r) then
      s.Does (.ringDb t value) s [(.ring_HEAD, r, n)]
     else s.Does (.ringDb t value) s [(.ring_HEAD_REFUSED, r, (s.get .ring_HEAD_REFUSED r + 1) % 2 ^ 32)])

/-- JOB_DB. A tail more than 16 past the head, or that would move backward, is refused with 0x0309 and the tail stays. An accepted doorbell
takes the tail, marks the enabled entries between head and tail as queued, and makes the device examine a stopped queue again. A doorbell
with a reserved bit set, or for a context that is not enabled or of another tenant, is discarded. That the entries are marked at the
doorbell is the model's choice (log entry 14). -/
def Obligations.JobDoorbell : Prop :=
  ∀ (t : Fin 4096) (value : Word) (s : State), s.running = true →
    let c := bits value.toNat 0 14
    let tail := bits value.toNat 16 5
    let d := (tail + 32 - s.get .ctx_HEAD c) % 32
    let bad := bits value.toNat 14 2 ≠ 0 ∨ bits value.toNat 21 11 ≠ 0 ∨ s.get .ctx_ENABLE c = 0 ∨ s.get .ctx_TENANT c ≠ t
    (bad → s.DoesThen (.jobDb t value) s
        [(.host_DOORBELL_FAULTS, 0, min (s.get .host_DOORBELL_FAULTS + 1) (2 ^ 32 - 1)), (.host_LAST_DB_TENANT, 0, t)]
        (·.event .host_DOORBELL_FAULT)) ∧
    (¬bad → 16 < d ∨ d < (s.get .ctx_TAIL c + 32 - s.get .ctx_HEAD c) % 32 →
      s.Does (.jobDb t value) s [(.ctx_DB_REASON, c, 0x0309)]) ∧
    (¬bad → d ≤ 16 → (s.get .ctx_TAIL c + 32 - s.get .ctx_HEAD c) % 32 ≤ d →
      ∃ u : State, exec (.jobDb t value) s = .next u ∧ u.get .ctx_TAIL c = tail ∧ u.get .ctx_DB_REASON c = 0 ∧
        u.get .ctx_HEAD c = s.get .ctx_HEAD c ∧
        u = { s with regs := u.regs, stopped := u.stopped } ∧
        (∀ r j, r ≠ .ctx_TAIL → r ≠ .ctx_DB_REASON → r ≠ .job_STATE → u.get r j = s.get r j) ∧
        (∀ e ∈ u.ringEntries c, s.get .job_STATE (16 * c + e) = 1 → u.get .job_STATE (16 * c + e) = 2) ∧
        (∀ k ∈ u.stopped, k / 16 = c → u.get .job_ENABLE k = 0))

/-- RING_ENABLE, RING_READY and RING_DISABLE. The checks run in the order of the table. An accepted enable puts HEAD and TAIL at 0 and, for
a mailbox ring, takes the first pages that fit; the ring is in STATE 1 once its zeroing writes are visible: every byte of a mailbox ring is
0, and DW0 of every slot of a ring in host memory, by posted writes with the PASID of the ring's tenant. A disable of a ring in use is
refused with 0x0334; an accepted one leaves STATE 0 and zeroes a mailbox ring. -/
def Obligations.ResultRings : Prop :=
  ∀ (r : Fin 4096) (s : State),
    let n := 2 ^ s.get .ring_SLOTS_LOG2 r
    let sb := 64 * 4 ^ s.get .ring_SLOT_SIZE r
    let host := s.get .ring_LOCATION r ≠ 0
    let page := s.get .ring_MBX_PAGE r * 4096
    let pasid := s.get .ten_PASID (s.get .ring_TENANT r)
    let refused := fun code => s.Does (.ringEnable r) s [(.ring_REASON, r, code)]
    (s.running = true → s.get .ring_ENABLE r ≠ 0 → exec (.ringEnable r) s = .next s) ∧
    (s.running = true → s.get .ring_ENABLE r = 0 →
      if s.get .ten_STATE (s.get .ring_TENANT r) ≠ 1 then refused 0x0330
      else if s.get .ring_SLOTS_LOG2 r < 4 ∨ 15 < s.get .ring_SLOTS_LOG2 r ∨ n * sb < 4096 ∨ ¬host ∧ 2 ^ 18 < n * sb then refused 0x0331
      else if host ∧ s.get .ring_HOST_ADDR r % 4096 ≠ 0 then refused 0x0332
      else if ¬host ∧ s.mailboxFit (n * sb / 4096) = none then refused 0x0333
      else
        s.Does (.ringEnable r) { s with ringsOpening := s.ringsOpening ++ [r.val] }
          [(.ring_ENABLE, r, 1), (.ring_STATE, r, 0), (.ring_REASON, r, 0), (.ring_HEAD, r, 0), (.ring_TAIL, r, 0),
            (.ring_MBX_PAGE, r, if host then 0 else (s.mailboxFit (n * sb / 4096)).getD 0 % 2 ^ 11)]) ∧
    (r.val ∈ s.ringsOpening → ¬host →
      ∃ u : State, exec (.ringReady r) s = .next u ∧
        ({ s with ringsOpening := s.ringsOpening.filter (· != r.val),
                  memory := { s.memory with bar4 := u.memory.bar4 } } : State).Writes u [(.ring_STATE, r, 1)] ∧
        ∀ a, Mem.read 0 u.memory.bar4 a = if page ≤ a ∧ a < page + n * sb then 0 else Mem.read 0 s.memory.bar4 a) ∧
    (r.val ∈ s.ringsOpening → host → s.busMaster = true → s.d3hot = false →
      let dw0 := fun (i : Nat) => s.get .ring_HOST_ADDR r + i * sb
      let key := fun (i : Nat) => pasid * 2 ^ 64 + dw0 i % 2 ^ 64
      ∃ u : State, exec (.ringReady r) s = .next u ∧
        ({ s with ringsOpening := s.ringsOpening.filter (· != r.val), memory := { s.memory with host := u.memory.host }, outbox := u.outbox } : State).Writes u
          [(.ring_STATE, r, 1)] ∧
        (s.get .ring_HOST_ADDR r % 4096 = 0 →
          u.outbox = s.outbox ++ (List.range n).map (fun i => .hostWrite pasid (dw0 i) [0, 0, 0, 0])) ∧
        (∀ i < n, Mem.readBytes 0 u.memory.host (key i) 4 = [0, 0, 0, 0]) ∧
        ∀ a, (∀ i < n, a < key i ∨ key i + 4 ≤ a) → Mem.read 0 u.memory.host a = Mem.read 0 s.memory.host a) ∧
    (r.val ∈ s.ringsOpening → host → s.busMaster = false ∨ s.d3hot = true → exec (.ringReady r) s = .next s) ∧
    (r.val ∉ s.ringsOpening → exec (.ringReady r) s = .next s) ∧
    (s.running = true → s.get .ring_ENABLE r = 0 → exec (.ringDisable r) s = .next s) ∧
    (s.running = true → s.get .ring_ENABLE r ≠ 0 → s.ringInUse r = true → s.Does (.ringDisable r) s [(.ring_REASON, r, 0x0334)]) ∧
    (s.running = true → s.get .ring_ENABLE r ≠ 0 → s.ringInUse r = false →
      ∃ u : State, exec (.ringDisable r) s = .next u ∧
        ({ s with ringsOpening := s.ringsOpening.filter (· != r.val),
                  memory := { s.memory with bar4 := u.memory.bar4 } } : State).Writes u
          [(.ring_ENABLE, r, 0), (.ring_STATE, r, 0), (.ring_REASON, r, 0)] ∧
        ∀ a, Mem.read 0 u.memory.bar4 a = if ¬host ∧ page ≤ a ∧ a < page + n * sb then 0 else Mem.read 0 s.memory.bar4 a)

/-! ## Jobs (01 R46 to R60) -/

/-- JOB_ENTRY_ENABLE and JOB_ENTRY_DISABLE. A refused enable changes REASON alone: 0x0303 for a context that is not enabled, 0x0301 for a graph
that the image does not have, and so on down the table. An accepted entry is enabled, or queued when the doorbell has handed it over and
the queue has not stopped at it. A disable in STATE 1 or 2 withdraws the job, and the queue stops at an entry between head and tail; in
STATE 3 it cancels the job with 0x0335; in STATE 0 and 4 it has no effect. -/
def Obligations.JobEntries : Prop :=
  ∀ (c : Fin 16384) (e : Fin 16) (s : State), s.running = true →
    let k := 16 * c.val + e.val
    let code := s.jobCheck c k
    (s.get .job_ENABLE k ≠ 0 → exec (.jobEntryEnable c e) s = .next s) ∧
    (s.get .job_ENABLE k = 0 → code ≠ 0 → s.Does (.jobEntryEnable c e) s [(.job_REASON, k, code)]) ∧
    (s.get .ctx_ENABLE c = 0 → code = 0x0303) ∧
    (s.get .ctx_ENABLE c ≠ 0 → s.graph (s.get .job_GRAPH k) = none → code = 0x0301) ∧
    (s.get .job_ENABLE k = 0 → code = 0 →
      s.Does (.jobEntryEnable c e) s
        [(.job_ENABLE, k, 1), (.job_REASON, k, 0),
          (.job_STATE, k, if e.val ∈ s.ringEntries c ∧ k ∉ s.stopped then 2 else 1)]) ∧
    ((s.get .job_STATE k = 1 ∨ s.get .job_STATE k = 2) →
      s.Does (.jobEntryDisable c e)
        { s with stopped := if e.val ∈ s.ringEntries c ∧ k ∉ s.stopped then s.stopped ++ [k] else s.stopped }
        [(.job_ENABLE, k, 0), (.job_STATE, k, 0)]) ∧
    (s.get .job_STATE k = 3 → exec (.jobEntryDisable c e) s = .next (s.faultJob (.ring c) 0x0335)) ∧
    ((s.get .job_STATE k = 0 ∨ s.get .job_STATE k = 4) → exec (.jobEntryDisable c e) s = .next s)

/-- JOB_START. The queue takes the entry at its head when the entry is enabled, the queue has not stopped at it, no earlier job of the ring
is left, no edit of its session from an earlier cycle is in progress, the bents of its mask that Foreman is still bringing in are not
needed, and GDDR6 admits accesses. STATE becomes 3, the job takes the next JOB_SEQ of its context, and it starts with the names of its
entry. An empty queue, and one whose head entry is not enabled, takes nothing; one whose job could start while GDDR6 is in self-refresh
asks for the exit.
What starting a job does, whatever its kind. A job whose start fails (its binding lists cannot be read, or a check of its start names
a code) runs no tile: its peg block is reset, and it faults with that code. A reset leaves COUNT and THRESH of every peg of the block at
0. -/
def Obligations.JobStart : Prop :=
  (∀ (c : Fin 16384) (env : StartEnv) (s : State) (g : Graph) (e : Nat) (rest : List Nat),
      s.ringEntries c = e :: rest → s.graph (s.get .job_GRAPH (16 * c.val + e)) = some g →
      let k := 16 * c.val + e
      let seq := Store.get 0 s.jobSeq c
      (s.get .job_ENABLE k ≠ 0 → k ∉ s.stopped → s.ringBusy c = false →
        (g.bind = .session → s.editing (s.get .job_BINDING k) = false) →
        (s.awaitsBent (s.get .job_BENT_MASK k) = true → g.bentsNeeded ≤ (s.presentIn (s.get .job_BENT_MASK k)).length) →
        s.get .host_DEV_STATE = 1 → s.get .pwr_COOLANT_STOP = 0 → seq < 2 ^ 32 →
        (s.refresh ≠ .active → exec (.jobStart c env) s = .next s.exitSelfRefresh) ∧
        (s.refresh = .active →
        s.DoesThen (.jobStart c env) { s with jobSeq := Store.put 0 s.jobSeq c ((seq + 1) % 2 ^ 32) }
          [(.job_STATE, k, 3), (.job_JOB_SEQ, k, seq)]
          (fun t => t.startJob
            { id := .ring c, ctx := c, entry := e, graph := s.get .job_GRAPH k, pegBase := s.get .job_PEG_BASE k,
              donePeg := s.get .job_DONE_PEG k, ring := s.get .job_RESULT_RING k, tag := s.get .job_JOB_TAG k, seq := seq,
              binding := s.get .job_BINDING k, prio := s.get .ctx_PRIO c, mask := s.get .job_BENT_MASK k,
              inList := s.get .job_IN_LIST k, outList := s.get .job_OUT_LIST k } env (fun _ => none)))) ∧
      (s.get .job_ENABLE k = 0 ∨ k ∈ s.stopped ∨ s.ringBusy c = true → exec (.jobStart c env) s = .next s)) ∧
  ((∀ (s : State) (r : StartReq) (env : StartEnv) (subst : Binding → Option Nat) (g : Graph),
      s.graph r.graph = some g → (s.jobs.all (fun x => x.id != r.id)) = true → s.mayRead r.ctx r.inList 64 = false →
      r.inList < 2 ^ 64 →
      ∃ u : State, s.startJob r env subst = u.faultJob r.id 0x032A ∧ ((u.job r.id).map (·.fault)) = some 0 ∧
        ((u.job r.id).map (fun j => (j.ctx, j.graph, j.pegBase, j.donePeg, j.ring, j.tag, j.seq))) =
          some (r.ctx, r.graph, r.pegBase, r.donePeg, r.ring, r.tag, r.seq)) ∧
    (∀ (s : State) (r : StartReq) (env : StartEnv) (subst : Binding → Option Nat) (g : Graph),
      s.graph r.graph = some g → (∀ x ∈ s.jobs, x.id ≠ r.id) →
      ∃ j : Job, (s.startJob r env subst).job r.id = some j ∧ j.id = r.id ∧ j.start = s.now ∧ j.prio = r.prio ∧ j.binding = r.binding ∧
        j.buf = r.buf ∧ (j.ctx, j.graph, j.pegBase, j.donePeg, j.ring, j.tag, j.seq) = (r.ctx, r.graph, r.pegBase, r.donePeg, r.ring, r.tag, r.seq)) ∧
    (∀ (s : State) (base n i : Nat), base ≤ i → i < base + n →
      (s.resetPegs base n).get .peg_COUNT i = 0 ∧ (s.resetPegs base n).get .peg_THRESH i = 0))

/-- A started job that faults keeps its first fault, is at step 1 of leaving the queue, and is named in LAST_FAULT of its context; the entry
of a ring job is in STATE 4 with the code in FAULT, and its WAITs and the table builds of its operands are gone. JOB_TIMEOUT faults a job
that has not written its last output tile with 0x030A. A second fault changes nothing. -/
def Obligations.JobFaults : Prop :=
  ∀ (s : State) (id : JobId) (j : Job) (code : Nat), s.job id = some j → 0 < code → code < 2 ^ 16 →
    (j.fault ≠ 0 ∨ j.finished = true → s.faultJob id code = s) ∧
    (j.fault = 0 → j.finished = false →
      ((s.faultJob id code).job id).map (fun x => (x.fault, x.finished)) = some (code, true) ∧
      (s.faultJob id code).get .ctx_LAST_FAULT j.ctx = code ∧
      (∀ c, j.id = .ring c → (s.faultJob id code).get .job_STATE (16 * c.val + j.entry) = 4 ∧
        (s.faultJob id code).get .job_FAULT (16 * c.val + j.entry) = code) ∧
      (∀ w ∈ (s.faultJob id code).waits, w.job ≠ some id) ∧ ∀ b ∈ (s.faultJob id code).froeBuilds, b.job ≠ id) ∧
    (j.finished = true → exec (.jobTimeout id) s = .next s) ∧
    (j.finished = false →
      ∃ u : State, exec (.jobTimeout id) s = .next (u.faultJob id 0x030A) ∧
        s.Writes u (j.bents.map (fun n => (Reg.bent_TIMEOUT_SEEN, n, 1))))

/-- RESULT_SLOT_WRITE. A job that has not reached step 1 stays. One whose ring does not take its result completes without it and is counted in
MISROUTED. One whose ring is full waits, counted once, and so does one that holds a page-list snapshot while GDDR6 admits no accesses.
Otherwise the slot is written: TAIL and RESULTS go up by one, and the bytes of the slot are those of the result, in the mailbox or by posted
writes with the PASID of the ring's tenant, DW0 last; then the job leaves: DONE_PEG grows by 1, and the entry of a ring job is idle and
disabled. -/
def Obligations.ResultWritten : Prop :=
  ∀ (s : State) (id : JobId) (j : Job) (wr : WriteOutcome), s.job id = some j → j.id = id → s.memory.wrote = none →
    let t := s.get .ring_TAIL j.ring
    let n := 2 ^ s.get .ring_SLOTS_LOG2 j.ring
    let sb := 64 * 4 ^ s.get .ring_SLOT_SIZE j.ring
    let takes := j.ring < 4096 ∧ s.get .ring_STATE j.ring = 1 ∧ s.get .ring_TENANT j.ring = s.get .ctx_TENANT j.ctx
    let full := n ≤ (t + 2 ^ 16 - s.get .ring_HEAD j.ring) % 2 ^ 16
    let after := fun (u : State) => match id with
      | .ring _ => u
      | .loop k => u.loopDone k j
      | .rung m => u.rungDone m j
    let c : Instr := .resultSlotWrite ⟨id, .clean, wr, .clean⟩
    let leaves := j.finished = true ∧ s.boot.lastResort = false ∧ (j.snapshot = none ∨ s.refresh = .active)
    let slot := j.result.encode sb t n
    (j.finished = false → s.jobDone j = false → exec c s = .next s) ∧
    (j.finished = true → s.boot.lastResort = true → exec c s = .next s) ∧
    (j.finished = true → s.boot.lastResort = false → j.snapshot ≠ none → s.refresh ≠ .active → exec c s = .next s.exitSelfRefresh) ∧
    (leaves → takes → full → j.waited = true → exec c s = .next s) ∧
    (leaves → takes → full → j.waited = false →
      s.Does c (s.updJob id (fun x => { x with waited := true }))
        [(.ring_FULL_WAITS, j.ring, (s.get .ring_FULL_WAITS j.ring + 1) % 2 ^ 32)]) ∧
    (leaves → takes → ¬full → s.get .ring_LOCATION j.ring ≠ 0 → s.busMaster = false ∨ s.d3hot = true → exec c s = .next s) ∧
    (j.snapshot = none → leaves → ¬takes →
      ∃ u : State, s.Writes u [(.host_MISROUTED, 0, min (s.get .host_MISROUTED + 1) (2 ^ 32 - 1))] ∧
        exec c s = .next ((after (u.event .host_MISROUTE)).leaveQueue j)) ∧
    (j.snapshot = none → leaves → takes → ¬full → s.get .ring_LOCATION j.ring = 0 → s.get .ring_IRQ_EN j.ring = 0 →
      ∃ u : State, ({ s with memory := { s.memory with bar4 := u.memory.bar4 } } : State).Writes u
          [(.ring_TAIL, j.ring, (t + 1) % 2 ^ 16), (.ring_RESULTS, j.ring, (s.get .ring_RESULTS j.ring + 1) % 2 ^ 32)] ∧
        u.memory.bar4 = Mem.writeBytes 0 s.memory.bar4 (s.get .ring_MBX_PAGE j.ring * 4096 + t % n * sb) slot ∧
        exec c s = .next ((after u).leaveQueue j)) ∧
    (j.snapshot = none → leaves → takes → ¬full → s.get .ring_LOCATION j.ring ≠ 0 → s.busMaster = true → s.d3hot = false →
      s.get .ring_IRQ_EN j.ring = 0 →
      let a := s.get .ring_HOST_ADDR j.ring + t % n * sb
      let key := s.get .ten_PASID (s.get .ring_TENANT j.ring) * 2 ^ 64
      ∃ u : State, ({ s with memory := { s.memory with host := u.memory.host }, outbox := u.outbox } : State).Writes u
          [(.ring_TAIL, j.ring, (t + 1) % 2 ^ 16), (.ring_RESULTS, j.ring, (s.get .ring_RESULTS j.ring + 1) % 2 ^ 32)] ∧
        u.memory.host = Mem.writeBytes 0 (Mem.writeBytes 0 s.memory.host (key + (a + 4) % 2 ^ 64) (slot.drop 4)) (key + a % 2 ^ 64)
          (slot.take 4) ∧
        exec c s = .next ((after u).leaveQueue j))

/-- PEG_WAIT_COMPLETE. A WAIT whose peg has not reached its target stays, and so does the peg: a WAIT neither uses nor changes THRESH. One
that has reached it completes, a member that waited for RELEASE counts its barrier, and filler that bridged it ends; then every job whose last
output tile is now written reaches step 1 of leaving the queue. -/
def Obligations.WaitCompletes : Prop :=
  ∀ (s : State) (k : Nat),
    (s.waits[k]? = none → exec (.pegWaitComplete k) s = .next s.settleAll) ∧
    (∀ w, s.waits[k]? = some w → ¬((s.get .peg_COUNT w.peg : Int) - w.target) % 2 ^ 32 < 2 ^ 31 → w.target < 2 ^ 32 →
      s.get .peg_COUNT w.peg < 2 ^ 32 → exec (.pegWaitComplete k) s = .next s.settleAll) ∧
    (∀ w, s.waits[k]? = some w → ((s.get .peg_COUNT w.peg : Int) - w.target) % 2 ^ 32 < 2 ^ 31 → w.target < 2 ^ 32 →
      s.get .peg_COUNT w.peg < 2 ^ 32 →
      let u : State := { s with waits := s.waits.eraseIdx k }
      (w.job.bind s.job = none ∨ w.who = .block ∨ (∃ o, w.who = .op o) → exec (.pegWaitComplete k) s = .next u.settleAll) ∧
      (w.job.bind s.job ≠ none → (∃ b g, w.who = .release b g) →
        s.DoesThen (.pegWaitComplete k) u [(.fab_BARRIERS, 0, (s.get .fab_BARRIERS + 1) % 2 ^ 32)] (fun t => t.fillersEnd.settleAll)))

/-! ## Loft, context slots and tiles (01 R22 to R27, R55; 06 R211 to R216) -/

/-- CONTEXT_RESIDENT and CONTEXT_RESTORED. A started job takes the first free slot of its bent, with Loft space first-fit and region entries
for its graph; the slot shows the job, in STATE 1 while saved lines are to be restored and 2 otherwise, and frames that arrived for the job go
into its regions. With no slot free and no victim the job waits and SLOT_WAIT is set. A job that has finished, or is placed elsewhere, or is
resident already, takes nothing. A restore ends in STATE 2 with the count of tiles as it was saved, and the save pages enter scrubbing. While
GDDR6 admits no accesses, a restore and an eviction wait and ask for the exit from self-refresh. -/
def Obligations.ContextSlots : Prop :=
  ∀ (id : JobId) (n : Fin 8) (sl : Fin 64) (rd : ReadOutcome) (wr : WriteOutcome) (lo : LoftOutcome) (s : State),
    let resident : Instr := .contextResident id ⟨n, rd, wr, lo⟩
    let restored : Instr := .contextRestored ⟨n, rd, wr, lo⟩ sl
    (∀ j, s.job id = some j →
      (j.finished = true ∨ n.val ∉ j.bents ∨ (s.resident id n).isSome ∨ s.get .bent_PRESENT n = 0) → exec resident s = .next s) ∧
    (∀ j x rest base, s.job id = some j → j.finished = false → n.val ∈ j.bents → s.resident id n = none → s.get .bent_PRESENT n ≠ 0 →
      s.freeSlots n = x :: rest → s.loftFit n (((s.graph j.graph).map (·.loftLines)).getD 0) = some base →
      (s.regionsOn j n).length ≤ (s.freeRegionEntries n).length →
      let k := 64 * n.val + x
      ∃ u : State, exec resident s = .next ((u.receiveHeld id).fillersEnd) ∧
        u.get .slot_STATE k = (if s.saves.any (fun v => v.job == j.id && v.bent == n.val) then 1 else 2) ∧
        u.get .slot_CONTEXT k = j.ctx % 2 ^ 14 ∧ u.get .slot_GRAPH k = j.graph % 2 ^ 12 ∧ u.get .slot_JOB_SEQ k = j.seq % 2 ^ 32 ∧
        u.get .slot_LOFT_BASE k = base % 2 ^ 20 ∧
        u.get .slot_TILES k =
          ((s.saves.find? (fun v => v.job == j.id && v.bent == n.val)).map (·.progress)).getD 0 % 2 ^ 32 ∧
        (∀ y ≠ k, u.get .slot_STATE y = s.get .slot_STATE y) ∧ u.jobs = s.jobs ∧ u.memory = s.memory ∧ u.waits = s.waits) ∧
    (∀ j, s.job id = some j → j.finished = false → n.val ∈ j.bents → s.resident id n = none → s.get .bent_PRESENT n ≠ 0 →
      s.freeSlots n = [] →
      (s.refresh ≠ .active → exec resident s = .next s.exitSelfRefresh) ∧
      (s.refresh = .active → s.victim n = none → s.Does resident s [(.bent_SLOT_WAIT, n, 1)])) ∧
    (s.refresh ≠ .active → exec restored s = .next s.exitSelfRefresh) ∧
    (s.refresh = .active → s.get .slot_STATE (64 * n.val + sl.val) ≠ 1 → exec restored s = .next s) ∧
    (∀ x, s.refresh = .active → s.get .slot_STATE (64 * n.val + sl.val) = 1 →
      s.residents.find? (fun y => y.bent == n.val && y.slot == sl.val) = some x →
      (s.saves.find? (fun v => v.job == x.job && v.bent == n.val) = none →
        s.DoesThen restored s [(.slot_STATE, 64 * n.val + sl.val, 2)] (fun t => (t.dowelCurrent n).receiveHeld x.job)) ∧
      (∀ v, s.saves.find? (fun v => v.job == x.job && v.bent == n.val) = some v →
        ∃ u : State, exec restored s = .next (u.receiveHeld x.job) ∧ u.get .slot_STATE (64 * n.val + sl.val) = 2 ∧
          u.get .slot_TILES (64 * n.val + sl.val) = v.progress % 2 ^ 32 ∧
          u.memory.scrub = s.memory.scrub ++ v.pages.map (fun p => ⟨p, none⟩) ∧
          (rd = .clean → s.memory.bad = [] → u.memory.ddr = s.memory.ddr) ∧
          u.saves = s.saves.filter (fun y => !(y.job == x.job && y.bent == n.val)) ∧
          u.get .mem_PAGES_SCRUBBING = (s.get .mem_PAGES_SCRUBBING + v.pages.length) % 2 ^ 16))

/-- A Loft line returns its data to the context that wrote it and zeros to every other context, and a write of whole lines changes no other
line. A cleared line returns zeros to every context. -/
def Obligations.LoftLines : Prop :=
  ∀ (l : Lofts) (n line c d : Nat) (bs : List Byte), line + cdiv bs.length 64 ≤ 2 ^ 20 →
    (∀ i, 64 * i + 64 ≤ bs.length → (l.writeLines n line c bs).readLine n (line + i) c = (bs.drop (64 * i)).take 64) ∧
    (∀ i, 64 * i < bs.length → c ≠ d → (l.writeLines n line c bs).readLine n (line + i) d = List.replicate 64 0) ∧
    (∀ m x, x < 2 ^ 20 → (m ≠ n ∨ x < line ∨ line + cdiv bs.length 64 ≤ x) →
      (l.writeLines n line c bs).readLine m x d = l.readLine m x d) ∧
    (∀ k x, line ≤ x → x < line + k → (l.clearLines n line k).readLine n x d = List.replicate 64 0)

/-- TILE_COMPUTE and HOST_READ_TIMEOUT. A transaction whose incarnation differs from its slot's current value changes nothing but the counts
of its receiver and of the slot. A bent that may not compute takes no tile, and one with a ready tile demands its domains. A station that has
no tile ready does nothing more. Otherwise the station takes the tile that the priority order gives, which ends filler on the bent, and runs
it; a tile that reads or writes GDDR6 waits while no access is admitted. A tile of Mortise or Plane counts in TILE_COUNT, and its output
tile stands in the region of its operator, for its context, with its number. A host read without an answer for 50 ms gives its tile no data:
HOST_FAULT_SEEN is set, the failed read counts, and the output tile is POISON with HOST_FAULT. -/
def Obligations.TileCompute : Prop :=
  ∀ (n : Fin 8) (st : Station) (env : TileEnv) (id : JobId) (s : State),
    let t := s.dropAll env.late
    let c : Instr := .tileCompute n st env
    let phys := s.get .bent_PHYSICAL n
    (s.get .bent_PRESENT n = 0 ∨ s.get .bent_PWR n ≠ 2 ∨ s.get .dom_CHANGING phys ≠ 0 ∨ s.get .unit_IN_RESET phys ≠ 0 ∨
        (∃ p ∈ s.power.changing, p.1 = n.val) ∨ s.clocks.stopped = true ∨ s.get .pwr_COOLANT_STOP ≠ 0 →
      exec c s = .next (t.demandBent n) ∧ ((∀ x, t.pickWork n x = none) → t.demandBent n = t)) ∧
    (t.bentComputes n = true → t.pickWork n st = none → exec c s = .next t) ∧
    (∀ w, t.bentComputes n = true → t.pickWork n st = some w →
      t.workReady w = true ∧ w.bent = n.val ∧
      exec c s = .next (if t.touchesMemory w = true ∧ t.refresh ≠ .active then t.exitSelfRefresh else (t.takeTile n st).runWork w env)) ∧
    (∀ w, t.bentComputes n = true → t.pickWork n st = some w →
      ((∃ o, w.defn.kind = .mortise o) ∨ ∃ o, w.defn.kind = .plane o) →
      ∃ u, exec c s = .next u ∧ u.get .bent_TILE_COUNT n = Reg.counted .bent_TILE_COUNT (s.get .bent_TILE_COUNT n) 1 ∧
        ∀ r, w.defn.out.bind (t.regionRef w.job) = some r →
          (u.tileAt r w.q).map (fun x => (x.desc.seq, x.desc.region, x.desc.ctx)) = some (w.q, r.defn.num, r.ctx)) ∧
    (∀ l : Late,
      let count := fun (r : Reg) (i : Nat) => (r, i, min (s.get r i + 1) (2 ^ 32 - 1))
      let fields : List (Reg × Nat × Nat) := match l.receiver with
        | .station b => [count .bent_STALE_DROPS b, (.bent_STALE_SEEN, b, 1)]
        | .dowel b => [count .bent_STALE_DROPS b, (.bent_STALE_SEEN, b, 1)]
        | .pegStore => [count .pstore_PEG_STALE_DROPS 0, (.pstore_STALE_EVENT, 0, 1)]
        | .port k => [count .kport_STALE_DROPS k, (.kport_STALE_SEEN, k, 1)]
        | .loft => []
      (l.inc.toNat = s.get .inc_INCARNATION l.slot → s.dropLate l = s) ∧
      (l.inc.toNat ≠ s.get .inc_INCARNATION l.slot → s.Writes (s.dropLate l) (count .stale_STALE_COUNT l.slot :: fields))) ∧
    (s.hostLoad id = none → exec (.hostReadTimeout id) s = .next s) ∧
    (∀ w, s.hostLoad id = some w → exec (.hostReadTimeout id) s = .next (s.runWork w { host := .noAnswer }) ∧ w.job.id = id) ∧
    (∀ w o, s.hostLoad id = some w → w.defn.kind = .load o → w.audioRing = none →
      let a := w.job.address o.addr + o.offs.getD w.q 0
      a < 2 ^ 64 → s.mayRead w.job.ctx a (tileLines w.shape.fmt w.shape.h w.shape.w w.shape.c w.shape.layout * 64) = true →
      ∃ u, exec (.hostReadTimeout id) s = .next u ∧ u.get .dowel_HOST_FAULT_SEEN w.bent = 1 ∧
        u.get .dowel_POISONED_READS w.bent = Reg.counted .dowel_POISONED_READS (s.get .dowel_POISONED_READS w.bent) 1 ∧
        u.get .bent_TILE_COUNT w.bent = Reg.counted .bent_TILE_COUNT (s.get .bent_TILE_COUNT w.bent) 1 ∧
        ∀ r, w.defn.out.bind (s.regionRef w.job) = some r →
          (u.tileAt r w.q).map (fun x => (x.desc.poison, x.desc.reason)) = some (true, 0x032C))

/-- What a finished work item leaves in the Loft. A POISON tile carries its reason and no data, a SKIPPED tile its origin and no data; both read
as zeros. The descriptor in the slot of the tile is the one written, completed with the region's numbers, and no other slot of any region
changes. -/
def Obligations.TileWritten : Prop :=
  (∀ (s : State) (w : Work) (f : Flags) (r : Nat),
    (s.finishTile w f (.poison r)).1 = s ∧ (s.finishTile w f (.poison r)).2.desc.poison = true ∧
      (s.finishTile w f (.poison r)).2.desc.reason = r ∧ (s.finishTile w f (.poison r)).2.bytes = []) ∧
  (∀ (s : State) (w : Work) (f : Flags) (o : Nat × Nat),
    (s.finishTile w f (.skipped o)).1 = s ∧ (s.finishTile w f (.skipped o)).2.desc.skipped = true ∧
      (s.finishTile w f (.skipped o)).2.desc.oy = o.1 ∧ (s.finishTile w f (.skipped o)).2.desc.ox = o.2) ∧
  (∀ (s : State) (r r' : RegionRef) (q q' : Nat) (d : TileDesc) (data : List Byte) (marks : List Bool) (guarded : Bool),
    ((s.putTile r q d data marks guarded).tileAt r q).map (fun t => (t.desc.poison, t.desc.reason, t.desc.skipped, t.desc.seq, t.desc.ctx)) =
      some (d.poison, d.reason, d.skipped, q, r.ctx) ∧
    (r'.bent ≠ r.bent ∨ r'.slot ≠ r.slot ∨ r'.defn.num ≠ r.defn.num ∨ q' % r'.defn.nslots ≠ q % r.defn.nslots →
      (s.putTile r q d data marks guarded).tileAt r' q' = s.tileAt r' q') ∧
    (d.poison = true ∨ d.skipped = true → (s.putTile r q d data marks guarded).lofts.data = s.lofts.data))

/-- WEIGHT_STREAM_READ. With nothing to read, or no room in a ring, or on a bent that takes no new work, nothing changes. Otherwise the next
block of the operand enters the ring of each bent that receives it, with its number in the graph's order, and the bent moves on to the
following block. The read finds VERSIONED regions as they stood at the job's start. A read that no line was miscorrected in leaves GDDR6 as
it was. While GDDR6 admits no accesses the read waits and asks for the exit from self-refresh. -/
def Obligations.WeightStream : Prop :=
  ∀ (n : Fin 8) (env : TileEnv) (s : State),
    let c : Instr := .weightStreamRead n env
    (s.refresh ≠ .active → exec c s = .next s.exitSelfRefresh) ∧
    (s.refresh = .active →
      s.get .bent_PRESENT n = 0 ∨ s.get .bent_PWR n ≠ 2 ∨ s.get .dom_CHANGING (s.get .bent_PHYSICAL n) ≠ 0 ∨ s.clocks.stopped = true →
      exec c s = .next s) ∧
    (s.refresh = .active → s.nextStream n = none → exec c s = .next s) ∧
    (∀ j g k d i, s.refresh = .active → s.dowelRuns n = true → s.nextStream n = some (j, g, k, d, i) →
      let dests := if d.broadcast then j.receivers g d else [n.val]
      let block := d.blocks.getD i (0, 0)
      let read := (s.withHalves j.id (fun s => s.dowelRead n j.ctx (j.address d.addr + block.1) block.2 env.mem env.host)).2
      ∃ u : State, exec c s = .next u ∧
        u.wring = s.wring ++ dests.map (fun r =>
          ({ bent := r, job := j.id, stream := k, number := i, bytes := read.bytes, reason := read.code } : RingBlock)) ∧
        (∀ x, u.job j.id = some x → Store.get 0 x.streamed (8 * k + n.val) = i + 1) ∧
        ((∀ pa bs, env.mem ≠ .miscorrected pa bs) → u.memory.ddr = s.memory.ddr))

/-- Froe's tables and Mortise's arrays. TABLE_BUILD_DONE waits for the whole sample, and drops the builds of a job that is gone; otherwise
the slot holds a VALID table and supersedes an older one of its owner and id. TABLE_SLOT_RETIRE frees a SUPERSEDED slot that is not
referenced: VALID and its other fields but DECODES read 0 and the tenant that took it has one slot less in use. ARRAY_RETIRE puts the spare
array in the place of the failed one; with no spare left the station runs with one array less, which is reported. -/
def Obligations.TablesAndArrays : Prop :=
  (∀ (sl : Fin 64) (rd : ReadOutcome) (wr : WriteOutcome) (lo : LoftOutcome) (s : State),
    let c : Instr := .tableBuildDone ⟨sl, rd, wr, lo⟩
    (s.froeBuilds.find? (fun b => b.slot == sl.val) = none → exec c s = .next s) ∧
    (∀ b, s.froeBuilds.find? (fun b => b.slot == sl.val) = some b → s.job b.job = none → exec c s = .next (s.dropBuilds b.job)) ∧
    (∀ b j g, s.froeBuilds.find? (fun b => b.slot == sl.val) = some b → s.job b.job = some j → s.graph j.graph = some g →
      (s.sampleComplete b = false → exec c s = .next s) ∧
      (s.sampleComplete b = true →
        ∃ u : State, exec c s = .next u ∧ u.get .ftab_VALID sl = 1 ∧ u.get .ftab_BUILDING sl = 0 ∧
          ∀ x < 64, x ≠ sl.val → (∀ y ∈ s.froeBuilds, y.slot ≠ x) → s.get .ftab_VALID x ≠ 0 →
            s.get .ftab_OWNER x = s.get .ftab_OWNER sl → s.get .ftab_TABLE_ID x = s.get .ftab_TABLE_ID sl → u.get .ftab_SUPERSEDED x ≠ 0))) ∧
  (∀ (sl : Fin 64) (s : State), let t := Store.get 0 s.froeTenant sl
    ((s.get .ftab_SUPERSEDED sl = 0 ∨ s.get .ftab_BUILDING sl ≠ 0 ∨ s.get .ftab_REFS sl ≠ 0) →
      exec (.tableSlotRetire sl) s = .next s) ∧
    (s.get .ftab_SUPERSEDED sl ≠ 0 → s.get .ftab_BUILDING sl = 0 → s.get .ftab_REFS sl = 0 →
      s.Does (.tableSlotRetire sl)
        { s with froeTables := s.froeTables.filter (fun p => p.1 != sl.val), froeTenant := Store.erase s.froeTenant sl }
        [(.ftab_VALID, sl, 0), (.ftab_SUPERSEDED, sl, 0), (.ftab_BUILDING, sl, 0), (.ftab_TABLE_ID, sl, 0), (.ftab_GEN, sl, 0),
          (.ftab_OWNER, sl, 0), (.ftab_REFS, sl, 0),
          (.froe_SLOTS_SUPERSEDED, 0, (s.get .froe_SLOTS_SUPERSEDED - 1) % 2 ^ 7),
          (.froe_RETIREMENTS, 0, (s.get .froe_RETIREMENTS + 1) % 2 ^ 32), (.ten_FROE_USED, t, (s.get .ten_FROE_USED t - 1) % 2 ^ 7)])) ∧
  (∀ (n : Fin 8) (a : Fin 17) (during : Bool) (s : State),
    let m := s.get .mor_ARRAY_IN_SERVICE n
    let sp := s.get .mor_SPARE_ARRAY n
    let out := setBits m a 1 0
    let repeats := if during then (s.get .mor_REPEATS n + 1) % 2 ^ 32 else s.get .mor_REPEATS n
    (bit m a = false ∨ s.get .bent_PRESENT n = 0 → exec (.arrayRetire n a during) s = .next s) ∧
    (bit m a = true → s.get .bent_PRESENT n ≠ 0 → sp < 17 → s.get .mor_SPARE_USED n = 0 →
      s.Does (.arrayRetire n a during) s
        [(.mor_ARRAY_RETIRED, n, 1), (.mor_REPEATS, n, repeats), (.mor_ARRAY_IN_SERVICE, n, setBits out sp 1 1 % 2 ^ 17),
          (.mor_SPARE_ARRAY, n, 31), (.mor_SPARE_USED, n, 1)]) ∧
    (bit m a = true → s.get .bent_PRESENT n ≠ 0 → 17 ≤ sp ∨ s.get .mor_SPARE_USED n ≠ 0 →
      s.DoesThen (.arrayRetire n a during) s
        [(.mor_ARRAY_RETIRED, n, 1), (.mor_REPEATS, n, repeats), (.mor_ARRAY_IN_SERVICE, n, out % 2 ^ 17),
          (.mor_ARRAYS, n, popcount 17 out % 2 ^ 5), (.rec_ARRAYS_IN_SERVICE, 0, (s.get .rec_ARRAYS_IN_SERVICE - 1) % 2 ^ 8)]
        (·.reduce 1)))

/-! ## Page pools, sessions and recurrent streams (04, 05) -/

/-- POOL_ENABLE, POOL_READY, POOL_DISABLE and DEFERRED_RECLAIM. The checks run in the order of the table. An accepted pool is in STATE 1
until Dowel has written its stacks, which waits while GDDR6 admits no accesses; then it is in STATE 2 with every page and chunk frame free.
A disable is refused with 0x0413 while a session of the context is enabled or DEFERRED is not 0. Reclaiming with nothing due changes
nothing; otherwise what is due leaves the queue, and the rest stays in its order. With no error on the way the two write nothing but GDDR6
and the counts of the pool. -/
def Obligations.PagePools : Prop :=
  ∀ (c : Fin 16384) (rd : ReadOutcome) (wr : WriteOutcome) (lo : LoftOutcome) (s : State),
    let ready : Instr := .poolReady ⟨c, rd, wr, lo⟩
    let reclaim : Instr := .deferredReclaim ⟨c, rd, wr, lo⟩
    let sound := rd = .clean ∧ wr = .clean ∧ s.memory.bad = []
    let k := s.get .pool_KV_CLASS c
    let p := s.get .pool_PAGES c
    let n := s.get .pool_CHUNKS c
    let refused := fun code => s.Does (.poolEnable c) s [(.pool_REASON, c, code)]
    let due := fun (d : Deferred) => d.ctx == c.val && hasReached 32 (s.get .peg_COUNT (s.relPeg d.session)) d.target
    (s.running = true → s.get .pool_ENABLE c ≠ 0 → exec (.poolEnable c) s = .next s) ∧
    (s.running = true → s.get .pool_ENABLE c = 0 →
      if s.get .ctx_ENABLE c = 0 then refused 0x0401
      else if s.get .kvc_VALID k = 0 ∨ bit (s.get .cls_KV_CLASSES (s.classOf c)) k = false then refused 0x0402
      else if p < 1 ∨ 2 ^ 20 < p ∨ n < 8 ∨ 2 ^ 16 < n then refused 0x0406
      else if s.get .pool_BASE c % 4096 ≠ 0 ∨ s.inPrivate c (s.get .pool_BASE c) (s.get .pool_POOL_BYTES c) = false then refused 0x0405
      else s.Does (.poolEnable c) s
        [(.pool_ENABLE, c, 1), (.pool_STATE, c, 1), (.pool_REASON, c, 0), (.pool_FREE_PAGES, c, 0), (.pool_FREE_CHUNKS, c, 0),
          (.pool_DEFERRED, c, 0)]) ∧
    (s.refresh ≠ .active → exec ready s = .next s.exitSelfRefresh ∧ exec reclaim s = .next s.exitSelfRefresh) ∧
    (s.refresh = .active → s.get .pool_STATE c ≠ 1 → exec ready s = .next s) ∧
    (s.refresh = .active → s.get .pool_STATE c = 1 →
      ∃ u : State, exec ready s = .next u ∧ u.get .pool_STATE c = 2 ∧ u.get .pool_FREE_PAGES c = p % 2 ^ 21 ∧
        u.get .pool_FREE_CHUNKS c = n % 2 ^ 17 ∧
        (sound → s.Stores u [(.pool_STATE, c, 2), (.pool_FREE_PAGES, c, p % 2 ^ 21), (.pool_FREE_CHUNKS, c, n % 2 ^ 17)])) ∧
    (s.running = true → s.get .pool_ENABLE c = 0 → exec (.poolDisable c) s = .next s) ∧
    (s.running = true → s.get .pool_ENABLE c ≠ 0 →
      (if s.get .pool_DEFERRED c ≠ 0 ∨ ∃ e ∈ s.indices .ses_ENABLE, s.get .ses_TYPE e = 1 ∧ s.get .ses_CONTEXT e = c then
        s.Does (.poolDisable c) s [(.pool_REASON, c, 0x0413)]
       else s.Does (.poolDisable c) s [(.pool_ENABLE, c, 0), (.pool_STATE, c, 0), (.pool_REASON, c, 0)])) ∧
    (s.refresh = .active → s.reclaim.filter due = [] → exec reclaim s = .next s) ∧
    (s.refresh = .active → s.reclaim.filter due ≠ [] → s.get .pool_DEFERRED c < 2 ^ 22 →
      ∃ u : State, exec reclaim s = .next u ∧ u.reclaim = s.reclaim.filter (fun d => !due d) ∧
        u.get .pool_DEFERRED c = s.get .pool_DEFERRED c - (s.reclaim.filter due).length ∧
        (sound → ({ s with reclaim := s.reclaim.filter (fun d => !due d) } : State).Stores u
          [(.pool_DEFERRED, c, s.get .pool_DEFERRED c - (s.reclaim.filter due).length),
            (.pool_FREE_PAGES, c, u.get .pool_FREE_PAGES c), (.pool_FREE_CHUNKS, c, u.get .pool_FREE_CHUNKS c)]))

/-- SESSION_ENABLE and STREAM_ENABLE: TYPE is stored before the check of that type runs. A refusal changes REASON beside TYPE, and for a
stream its computed size. An accepted session has ACQ and the COUNT of its REL_PEG at 0 and no STALLED sequence; an accepted stream has
NEXT_CHUNK, STEPS, FETCHES, ABORTS and RESET_PENDING at 0. Either uses one session of the tenant's quota. The first descriptors, and a first
record that no region supplies, change nothing else but GDDR6 where no error meets them; while GDDR6 admits no accesses they wait.
SESSION_DISABLE and STREAM_DISABLE. Each acts on an enabled entry of its own type. A session in use by a queued or running job, or with an
edit in progress, is refused with 0x0409, a stream in use with 0x0505. An accepted session closes its open sequences, which waits while
GDDR6 admits no accesses; an accepted stream leaves no resident part in any Truss cache. -/
def Obligations.SessionEnableDisable : Prop :=
  (∀ (sn : Fin 3072) (value : Word) (rd : ReadOutcome) (wr : WriteOutcome) (lo : LoftOutcome) (s : State), s.running = true →
      let ty := bits value.toNat 1 2
      let u := s.set .ses_TYPE sn ty
      let v := u.streamSize sn
      let t := s.get .ctx_TENANT (s.get .ses_CONTEXT sn)
      let admitted := s.exitSelfRefresh.refresh = .active
      ∀ c ∈ [Instr.sessionEnable ⟨sn, rd, wr, lo⟩ value, .streamEnable ⟨sn, rd, wr, lo⟩ value],
        (s.get .ses_ENABLE sn ≠ 0 → exec c s = .next s) ∧
        (s.get .ses_ENABLE sn = 0 → ty ≠ 2 → u.sessionCheck sn ≠ 0 →
          s.Does c s [(.ses_TYPE, sn, ty), (.ses_REASON, sn, u.sessionCheck sn)]) ∧
        (s.get .ses_ENABLE sn = 0 → ty ≠ 2 → u.sessionCheck sn = 0 →
          ∃ w : State, exec c s = .next w ∧ w.get .ses_ENABLE sn = 1 ∧ w.get .ses_TYPE sn = ty ∧ w.get .ses_REASON sn = 0 ∧
            w.get .ses_ACQ sn = 0 ∧ w.get .ses_STALLED_SEQS sn = 0 ∧ w.get .peg_COUNT (s.relPeg sn) = 0 ∧
            w.get .ten_SESSIONS_USED t = (s.get .ten_SESSIONS_USED t + 1) % 2 ^ 12 ∧
            (∀ e, e ≠ sn.val → w.get .ses_ENABLE e = s.get .ses_ENABLE e) ∧ w.jobs = s.jobs ∧ w.reclaim = s.reclaim ∧
            (¬admitted → w.memory.waiting = s.memory.waiting ++ [.sequences sn])) ∧
        (s.get .ses_ENABLE sn = 0 → ty = 2 → v.streamCheck sn ≠ 0 →
          s.Does c s [(.ses_TYPE, sn, 2), (.str_STATE_BYTES, sn, v.get .str_STATE_BYTES sn), (.ses_REASON, sn, v.streamCheck sn)]) ∧
        (s.get .ses_ENABLE sn = 0 → ty = 2 → v.streamCheck sn = 0 →
          ∃ w : State, exec c s = .next w ∧ w.get .ses_ENABLE sn = 1 ∧ w.get .ses_REASON sn = 0 ∧ w.get .str_NEXT_CHUNK sn = 0 ∧
            w.get .str_RESET_PENDING sn = 0 ∧ w.get .ten_SESSIONS_USED t = (s.get .ten_SESSIONS_USED t + 1) % 2 ^ 12 ∧
            w.jobs = s.jobs ∧ w.parts = s.parts ∧ (¬admitted → w.memory.waiting = s.memory.waiting ++ [.record sn]) ∧
            (s.refresh = .active → s.initMode sn ≠ 1 → rd = .clean → wr = .clean → s.memory.bad = [] →
              s.Stores w
                [(.ses_TYPE, sn, 2), (.str_STATE_BYTES, sn, v.get .str_STATE_BYTES sn), (.ses_ENABLE, sn, 1), (.ses_REASON, sn, 0),
                  (.str_NEXT_CHUNK, sn, 0), (.str_STEPS, sn, 0), (.str_FETCHES, sn, 0), (.str_ABORTS, sn, 0), (.str_RESET_PENDING, sn, 0),
                  (.ten_SESSIONS_USED, t, (s.get .ten_SESSIONS_USED t + 1) % 2 ^ 12)]))) ∧
  (∀ (sn : Fin 3072) (rd : ReadOutcome) (wr : WriteOutcome) (lo : LoftOutcome) (s : State), s.running = true →
      let c := s.get .ses_CONTEXT sn
      let t := s.get .ctx_TENANT c
      let busy := (∃ e ∈ s.busyEntries c, s.get .job_BINDING (16 * c + e) = sn) ∨ ∃ j ∈ s.jobs, j.ctx = c ∧ j.binding = sn
      let disable : Instr := .sessionDisable ⟨sn, rd, wr, lo⟩
      let mine := s.get .ses_ENABLE sn ≠ 0 ∧ s.get .ses_TYPE sn = 1
      let free := mine ∧ ¬busy ∧ s.get .ses_EDIT_BUSY sn = 0
      let e := s.exitSelfRefresh
      (¬mine → exec disable s = .next s) ∧
      (mine → busy ∨ s.get .ses_EDIT_BUSY sn ≠ 0 → s.Does disable s [(.ses_REASON, sn, 0x0409)]) ∧
      (free → e.refresh ≠ .active → exec disable s = .next { e with memory := { e.memory with waiting := e.memory.waiting ++ [.disable sn] } }) ∧
      (free → e.refresh = .active →
        ∃ u : State, exec disable s = .next u ∧ u.get .ses_ENABLE sn = 0 ∧ u.get .ses_REASON sn = 0 ∧ u.get .ses_STALLED sn = 0 ∧
          u.get .ses_STALLED_SEQS sn = 0 ∧ u.get .ten_SESSIONS_USED t = (s.get .ten_SESSIONS_USED t - 1) % 2 ^ 12 ∧ u.jobs = s.jobs) ∧
      (free → e.refresh = .active → (∀ i < s.nseq sn, (s.seqDesc sn i).state = 0) →
        s.Does disable e
          [(.ses_ENABLE, sn, 0), (.ses_REASON, sn, 0), (.ses_STALLED, sn, 0), (.ses_STALLED_SEQS, sn, 0),
            (.ten_SESSIONS_USED, t, (s.get .ten_SESSIONS_USED t - 1) % 2 ^ 12)]) ∧
      (s.get .ses_ENABLE sn = 0 ∨ s.get .ses_TYPE sn ≠ 2 → exec (.streamDisable sn) s = .next s) ∧
      (s.get .ses_ENABLE sn ≠ 0 → s.get .ses_TYPE sn = 2 → busy → s.Does (.streamDisable sn) s [(.ses_REASON, sn, 0x0505)]) ∧
      (s.get .ses_ENABLE sn ≠ 0 → s.get .ses_TYPE sn = 2 → ¬busy →
        ∃ u : State, exec (.streamDisable sn) s = .next u ∧ u.get .ses_ENABLE sn = 0 ∧ u.get .ses_REASON sn = 0 ∧
          u.parts = s.parts.filter (fun q => q.stream != sn.val) ∧ u.memory = s.memory ∧ u.jobs = s.jobs ∧
          u.get .ten_SESSIONS_USED t = (s.get .ten_SESSIONS_USED t - 1) % 2 ^ 12))

/-- OPEN, CLOSE, TRUNCATE, FORK and EDIT_GO with another operation. An edit while one is in progress sets EDIT_OVERRUN; on an entry that is not
enabled it is discarded with 0x040F; one that its check refuses leaves the code in EDIT_REASON and in LAST_REASON of the sequence. An
accepted edit is in progress, with EDIT_BUSY 1, until EDIT_DONE; its check waits with EDIT_BUSY 1 while GDDR6 admits no accesses. OPEN is
accepted for an IDLE sequence while a page is free, CLOSE for one that is not IDLE, TRUNCATE to a length that the sequence has and without
evictions, FORK from a sequence that is OPEN into an IDLE one, each with the chunk frames that it takes; an operation code outside 1 to 4 is
refused. EDIT_DONE carries the edit out as soon as GDDR6 admits accesses: OPEN writes an empty descriptor; CLOSE empties the list, gives its
pages and frames back, and raises GEN by 1; TRUNCATE and FORK write the new list. -/
def Obligations.SequenceEdits : Prop :=
  (∀ (sn : Fin 3072) (seq src : Byte) (op : BitVec 4) (s : State), s.running = true →
    let q := seq.toNat
    let fields := fun (o busy : Nat) =>
      [(Reg.ses_EDIT_OP, sn.val, o), (.ses_EDIT_SEQ, sn, q), (.ses_EDIT_SRC, sn, src.toNat), (.ses_EDIT_BUSY, sn, busy)]
    let check := fun (o : Nat) => s.editCheck sn o q src.toNat
    let e := s.exitSelfRefresh
    let ready := s.get .ses_TYPE sn ≠ 2 ∧ s.get .ses_EDIT_BUSY sn = 0 ∧ s.get .ses_ENABLE sn ≠ 0
    let arg := s.get .ses_EDIT_ARG sn
    let takes := fun (c : Instr) (o : Nat) =>
      s.Does c { e with edits := s.edits ++ [{ session := sn, op := o, seq := q, src := src.toNat, arg := arg, since := s.now }] }
        (fields o 1 ++ [(Reg.ses_EDIT_GO, sn.val, 0), (.ses_EDIT_REASON, sn, 0)])
    (∀ p ∈ [(Instr.openSeq sn seq src, 1), (.closeSeq sn seq src, 2), (.truncateSeq sn seq src, 3), (.forkSeq sn seq src, 4),
        (.editGo sn op seq src, op.toNat)],
      (s.get .ses_TYPE sn = 2 → exec p.1 s = .next s) ∧
      (s.get .ses_TYPE sn ≠ 2 → s.get .ses_EDIT_BUSY sn ≠ 0 → s.Does p.1 s [(.ses_EDIT_OVERRUN, sn, 1)]) ∧
      (s.get .ses_TYPE sn ≠ 2 → s.get .ses_EDIT_BUSY sn = 0 → s.get .ses_ENABLE sn = 0 →
        s.Does p.1 s [(.ses_EDIT_REASON, sn.val, 0x040F)]) ∧
      (ready → e.refresh ≠ .active →
        s.Does p.1 { e with memory := { e.memory with waiting := e.memory.waiting ++ [.edit sn p.2 q src.toNat s.now] } } (fields p.2 1)) ∧
      (ready → e.refresh = .active → check p.2 ≠ 0 →
        s.DoesThen p.1 e (fields p.2 0 ++ [(.ses_EDIT_REASON, sn.val, check p.2)])
          (fun t => if q < t.nseq sn then t.setReason sn q (check p.2) else t)) ∧
      (ready → e.refresh = .active → check p.2 = 0 → takes p.1 p.2)) ∧
    (s.nseq sn ≤ q → check 1 = 0x040F ∧ check 2 = 0x040F ∧ check 3 = 0x040F ∧ check 4 = 0x040F) ∧
    (op.toNat = 0 ∨ 4 < op.toNat → check op.toNat = 0x040F ∧
      (ready → e.refresh = .active →
        s.DoesThen (.editGo sn op seq src) e (fields op.toNat 0 ++ [(.ses_EDIT_REASON, sn.val, 0x040F)])
          (fun t => if q < t.nseq sn then t.setReason sn q 0x040F else t))) ∧
    (ready → e.refresh = .active → q < s.nseq sn →
      let c := s.get .ses_CONTEXT sn
      let d := s.seqDesc sn q
      let spare := fun (frames : Nat) => s.promised c + frames ≤ s.get .pool_FREE_CHUNKS c
      (d.state = 0 → s.get .pool_FREE_PAGES c ≠ 0 → spare 0 → takes (.openSeq sn seq src) 1) ∧
      (d.state ≠ 0 → spare 0 → takes (.closeSeq sn seq src) 2) ∧
      (d.evicted = 0 → arg ≤ d.len → spare (if arg = 0 then 0 else 1) → takes (.truncateSeq sn seq src) 3) ∧
      (d.state = 0 → src.toNat < s.nseq sn → src ≠ seq → (s.seqDesc sn src.toNat).state = 1 →
        spare (((s.seqDesc sn src.toNat).npages + 255) / 256) → takes (.forkSeq sn seq src) 4))) ∧
  (∀ (sn : Fin 3072) (rd : ReadOutcome) (wr : WriteOutcome) (lo : LoftOutcome) (s : State),
    let c : Instr := .editDone ⟨sn, rd, wr, lo⟩
    (s.refresh ≠ .active → exec c s = .next s.exitSelfRefresh) ∧
    (s.refresh = .active → (∀ e ∈ s.edits, e.session ≠ sn.val) → s.Does c s [(.ses_EDIT_BUSY, sn, 0)]) ∧
    (s.refresh = .active → ∃ u : State, exec c s = .next u ∧ u.get .ses_EDIT_BUSY sn = 0) ∧
    (∀ e : PendingEdit, s.refresh = .active → s.edits.filter (fun x => x.session == sn.val) = [e] →
      rd = .clean → wr = .clean → s.memory.bad = [] → s.memory.wrote = none →
      let u : State := { s with edits := s.edits.filter (· != e), memory := { s.memory with wrote := some [] } }
      let d := s.seqDesc sn e.seq
      let shows := fun (t : State) => exec c s = .next (({ t with memory := { t.memory with wrote := none } } : State).set .ses_EDIT_BUSY sn 0)
      (e.op = 1 → shows (u.putSeq sn e.seq { d with state := 1, len := 0, fill := 0, npages := 0, evicted := 0, chunks := [] })) ∧
      (e.op = 2 → shows (((u.putSeq sn e.seq { lastReason := d.lastReason, gen := (d.gen + 1) % 2 ^ 32, evicted := d.evicted }).dropTail
        sn d 0 []).countStalled sn)) ∧
      (e.op = 3 → shows (u.truncateSeq sn e.seq e.arg)) ∧
      (e.op = 4 → shows (u.forkSeq sn e.seq e.src))))

/-- A page-list descriptor reads back as it was written: for every value that its fields can hold, the 128 bytes decode to the same
descriptor. -/
def Obligations.DescriptorRoundTrip : Prop :=
  ∀ d : SeqDesc, d.state < 4 → d.lastReason < 2 ^ 16 → d.gen < 2 ^ 32 → d.len < 2 ^ 31 → d.fill < 2 ^ 18 → d.npages < 2 ^ 12 →
    d.evicted < 2 ^ 32 → d.chunks.length = 8 → (∀ a ∈ d.chunks, a < 2 ^ 64) → d.encode.length = 128 ∧ SeqDesc.decode d.encode = d

/-- RESET_PENDING_WRITE, STATE_FETCH_DONE, CHUNK_COMMIT and SWAP_OUT. A write of RESET_PENDING reaches a stream's entry alone, and the value
before it is kept for a chunk that starts in the same cycle. A fetch that no waiting layer takes changes nothing; one without error puts the
bytes of the state record into the cache; an uncorrectable block is marked and reported. A chunk commits only when every layer has produced
its last step: NEXT_CHUNK and STEPS advance and IN_FLIGHT clears. Both wait while GDDR6 admits no accesses. A swap-out drops the stream's
parts on the bent, and waits while a chunk of the stream is in flight. -/
def Obligations.RecurrentStreams : Prop :=
  (∀ (sn : Fin 3072) (s : State), s.running = true →
    let again := s.resets.any (fun r => r.1 == sn.val && r.2.1 == s.now)
    let u : State := if again = true then s
      else { s with resets := (sn.val, s.now, s.get .str_RESET_PENDING sn != 0) :: s.resets.filter (fun r => r.1 != sn.val) }
    (s.get .ses_TYPE sn = 2 → s.Does (.resetPendingWrite sn) u [(.str_RESET_PENDING, sn, 1)]) ∧
    (s.get .ses_TYPE sn ≠ 2 → exec (.resetPendingWrite sn) s = .next s)) ∧
  (∀ (n layer : Fin 8) (mem : ReadOutcome) (s : State),
    let waiting := fun (j : Job) => !j.finished && match j.chunk.bind (·.head n) with
      | some x => x.layer == layer.val && !x.ready
      | none => false
    (s.refresh ≠ .active → exec (.stateFetchDone n layer mem) s = .next s.exitSelfRefresh) ∧
    (s.refresh = .active → s.jobs.find? waiting = none → exec (.stateFetchDone n layer mem) s = .next s) ∧
    (∀ j ch, s.refresh = .active → s.jobs.find? waiting = some j → j.chunk = some ch → ch.aborted = 0 →
      let k := ch.stream
      let c := s.get .ses_CONTEXT k
      let bytes := s.batch k * s.lrow k layer
      let lines := s.linesFor c [(s.layerAddr k layer, bytes)]
      s.get .truss_CACHE_USED n + cdiv bytes 64 ≤ s.get .truss_CACHE_LINES n → (∀ b ∈ lines, b ∉ s.memory.bad) →
      (s.codedIn c [(s.layerAddr k layer, bytes)] = [] →
        ∃ u : State, exec (.stateFetchDone n layer .clean) s = .next u ∧ u.memory = s.memory ∧
          (∃ p ∈ u.parts, p.stream = k ∧ p.layer = layer.val ∧ p.bent = n.val ∧ p.tag = s.get .str_NEXT_CHUNK k ∧
            p.data = s.readVA c (s.layerAddr k layer) bytes) ∧
          u.get .str_FETCHES k = (s.get .str_FETCHES k + 1) % 2 ^ 32 ∧
          u.get .truss_CACHE_USED n = (s.get .truss_CACHE_USED n + cdiv bytes 64) % 2 ^ 15) ∧
      (∀ pa, pa / 64 ∈ lines →
        ∃ u : State, exec (.stateFetchDone n layer (.uncorrectable pa false)) s = .next u ∧
          u.get .truss_FETCH_ERROR_SEEN n = 1 ∧ pa / 64 ∈ u.memory.bad ∧
          (s.job j.id = some j → u.get .str_LAST_REASON k = 0x0509 ∧ u.get .str_IN_FLIGHT k = 0)))) ∧
  (∀ (sn : Fin 3072) (rd : ReadOutcome) (wr : WriteOutcome) (lo : LoftOutcome) (s : State),
    let flying := fun (j : Job) => match j.inFlight with | some ch => ch.stream == sn.val | none => false
    let c : Instr := .chunkCommit ⟨sn, rd, wr, lo⟩
    let settled := fun (u : State) => exec c s = .next (u.settleContext (s.get .ses_CONTEXT sn))
    (s.refresh ≠ .active → exec c s = .next s.exitSelfRefresh) ∧
    (s.refresh = .active → s.jobs.find? flying = none → settled s) ∧
    (∀ j ch, s.refresh = .active → s.jobs.find? flying = some j → j.inFlight = some ch →
      (ch.layers.all (fun l => l.done && l.poison == 0) = false → settled s) ∧
      (ch.layers.all (fun l => l.done && l.poison == 0) = true → s.job j.id = some j → (∀ pa, wr ≠ .failed pa) →
        (∀ l ∈ ch.layers, s.partialWrite (s.get .ses_CONTEXT sn) (s.layerAddr sn l.layer) l.state.length = false) →
        ∃ u : State, settled u ∧ u.get .str_NEXT_CHUNK sn = (s.get .str_NEXT_CHUNK sn + 1) % 2 ^ 32 ∧ u.get .str_IN_FLIGHT sn = 0 ∧
          u.get .str_STEPS sn = (s.get .str_STEPS sn + ch.nsteps) % 2 ^ 32 ∧ ∀ x ∈ u.jobs, x.id = j.id → x.chunk = none))) ∧
  (∀ (sn : Fin 3072) (n : Fin 8) (s : State),
    let mine := fun (p : TrussPart) => p.stream == sn.val && p.bent == n.val
    (s.parts.filter mine = [] → exec (.swapOut sn n) s = .next s) ∧
    (s.parts.filter mine ≠ [] → s.get .str_IN_FLIGHT sn ≠ 0 →
      s.Does (.swapOut sn n) { s with swaps := s.swaps ++ [(sn.val, n.val)] }
        [(.str_SWAP_DEFERRED, sn, 1), (.truss_SWAP_DEFERRALS, n, (s.get .truss_SWAP_DEFERRALS n + 1) % 2 ^ 32)]) ∧
    (s.parts.filter mine ≠ [] → s.get .str_IN_FLIGHT sn = 0 →
      ∃ u : State, exec (.swapOut sn n) s = .next u ∧ u.parts = s.parts.filter (fun p => !mine p) ∧ u.memory = s.memory ∧
        u.get .truss_SWAPOUTS n = (s.get .truss_SWAPOUTS n + (s.parts.filter mine).length) % 2 ^ 32))

/-! ## Regions and GDDR6 (06) -/

/-- REGION_ENABLE and REGION_READY. KIND, WRITABLE and PROTECTED are stored before the check runs. A refusal changes REASON beside them. An
accepted SHARE raises SHARERS of its source by one and is in STATE 2, an accepted HOST region is in STATE 2, and an accepted PRIVATE or
VERSIONED region takes its pages from the free pool, each once and retire-pending ones among them, is in STATE 1, and uses the tenant's
memory quota; REGION_READY makes that STATE 2 unless GDDR6 is in self-refresh. Every accepted enable asks for an exit from self-refresh.
REGION_DISABLE. A region in use is refused with 0x0328. A SHARE entry lowers SHARERS of its source, and it and a HOST entry return to STATE
0. The pages of a PRIVATE or VERSIONED region leave it and enter scrubbing in their order, behind what is scrubbed already, in STATE 3. -/
def Obligations.RegionEnableDisable : Prop :=
  (∀ (c : Fin 16384) (r : Fin 32) (value : Word) (s : State), s.Canonical →
      let k := 32 * c.val + r.val
      let kind := bits value.toNat 1 3
      let fields := [(Reg.rgn_KIND, k, kind), (.rgn_WRITABLE, k, bits value.toNat 4 1), (.rgn_PROTECTED, k, bits value.toNat 5 1)]
      let u := s.setAll k (fields.map (fun x => (x.1, x.2.2)))
      let taken := fields ++ [(Reg.rgn_ENABLE, k, 1), (.rgn_REASON, k, 0), (.rgn_ACTIVE, k, 0), (.rgn_SHARERS, k, 0), (.rgn_VERSION, k, 0)]
      let ready := taken ++ [(Reg.rgn_RETIRE_PENDING, k, 0)]
      let src := 32 * s.get .rgn_SRC_CONTEXT k + s.get .rgn_SRC_REGION k
      let t := s.get .ctx_TENANT c
      (s.running = true → s.get .rgn_ENABLE k ≠ 0 → exec (.regionEnable c r value) s = .next s) ∧
      (s.running = true → s.get .rgn_ENABLE k = 0 →
        (u.regionCheck c r ≠ 0 → s.Does (.regionEnable c r value) s (fields ++ [(.rgn_REASON, k, u.regionCheck c r)])) ∧
        (u.regionCheck c r = 0 → kind = 2 →
          s.Does (.regionEnable c r value) s.exitSelfRefresh
            (ready ++ [(.rgn_STATE, k, 2), (.rgn_SHARERS, src, (s.get .rgn_SHARERS src + 1) % 2 ^ 12)])) ∧
        (u.regionCheck c r = 0 → kind = 3 → s.Does (.regionEnable c r value) s.exitSelfRefresh (ready ++ [(.rgn_STATE, k, 2)])) ∧
        (u.regionCheck c r = 0 → kind = 1 ∨ kind = 4 → u.pagesNeeded k ≤ s.freePages.length →
          ∃ ps : List Nat, ps.length = u.pagesNeeded k ∧ ps.Nodup ∧ (∀ p ∈ ps, p ∈ s.freePages) ∧
            let bad := ps.filter (fun p => s.memory.pending.contains p)
            s.Does (.regionEnable c r value)
              { s.exitSelfRefresh with free := s.free + 1, memory := { s.memory with pages := s.memory.pages ++ [⟨k, ps⟩] } }
              (taken ++ [(.rgn_STATE, k, 1), (.rgn_RETIRE_PENDING, k, if bad = [] then 0 else 1),
                (.mem_RETIRE_PENDING, 0, (s.get .mem_RETIRE_PENDING + bad.length) % 2 ^ 16), (.mem_PAGES_FREE, 0, (s.get .mem_PAGES_FREE - u.pagesNeeded k) % 2 ^ 16),
                (.ten_MEM_USED, t, (s.get .ten_MEM_USED t + u.pagesNeeded k) % 2 ^ 16)]))) ∧
      (s.get .rgn_STATE k = 1 → s.refresh = .active → s.Does (.regionReady c r) s [(.rgn_STATE, k, 2)]) ∧
      (s.get .rgn_STATE k ≠ 1 ∨ s.refresh ≠ .active → exec (.regionReady c r) s = .next s)) ∧
  (∀ (c : Fin 16384) (r : Fin 32) (s : State), s.running = true →
      let k := 32 * c.val + r.val
      let src := 32 * s.get .rgn_SRC_CONTEXT k + s.get .rgn_SRC_REGION k
      let ps := s.rgnPages k
      let kind := s.get .rgn_KIND k
      (s.get .rgn_ENABLE k = 0 → exec (.regionDisable c r) s = .next s) ∧
      (s.get .rgn_ENABLE k ≠ 0 → s.regionInUse c r = true → s.Does (.regionDisable c r) s [(.rgn_REASON, k, 0x0328)]) ∧
      (s.get .rgn_ENABLE k ≠ 0 → s.regionInUse c r = false → kind = 2 →
        s.Does (.regionDisable c r) s
          [(.rgn_ENABLE, k, 0), (.rgn_REASON, k, 0), (.rgn_STATE, k, 0), (.rgn_SHARERS, src, (s.get .rgn_SHARERS src - 1) % 2 ^ 12)]) ∧
      (s.get .rgn_ENABLE k ≠ 0 → s.regionInUse c r = false → kind = 3 →
        s.Does (.regionDisable c r) s [(.rgn_ENABLE, k, 0), (.rgn_REASON, k, 0), (.rgn_STATE, k, 0)]) ∧
      (s.get .rgn_ENABLE k ≠ 0 → s.regionInUse c r = false → kind = 1 ∨ kind = 4 →
        s.Does (.regionDisable c r)
          { s with memory := { s.memory with
              pages := s.memory.pages.filter (fun p => p.key != k), scrub := s.memory.scrub ++ ps.map (fun p => ⟨p, some k⟩)
              leaving := s.memory.leaving ++ [(k, ps.length, s.get .ctx_TENANT c)] } }
          [(.rgn_ENABLE, k, 0), (.rgn_REASON, k, 0), (.rgn_STATE, k, 3), (.rgn_RETIRE_PENDING, k, 0),
            (.mem_RETIRE_PENDING, 0, (s.get .mem_RETIRE_PENDING - (ps.filter (fun p => s.memory.pending.contains p)).length) % 2 ^ 16),
            (.mem_PAGES_SCRUBBING, 0, (s.get .mem_PAGES_SCRUBBING + ps.length) % 2 ^ 16)]))

/-- SCRUB_PAGE_DONE. With nothing to scrub, or in self-refresh, nothing changes. Otherwise every byte of the page at the front reads zero
and no other byte of GDDR6 changes; a page that is not to be retired is free; and when it was the last of its region, the region is in STATE
0 and the tenant that its pages counted for has them back. -/
def Obligations.ScrubPage : Prop :=
  ∀ s : State, s.Canonical →
    (s.memory.scrub = [] ∨ s.refresh ≠ .active → exec .scrubPageDone s = .next s) ∧
    (∀ f rest, s.memory.scrub = f :: rest → s.refresh = .active →
      ∃ u : State, exec .scrubPageDone s = .next u ∧ u.memory.scrub = rest ∧
        (∀ a, Mem.read 0 u.memory.ddr a = if f.page * 2 ^ 21 ≤ a ∧ a < (f.page + 1) * 2 ^ 21 then 0 else Mem.read 0 s.memory.ddr a) ∧
        u.get .mem_PAGES_SCRUBBING = (s.get .mem_PAGES_SCRUBBING - 1) % 2 ^ 16 ∧
        (f.page ∉ s.memory.pending → u.get .mem_PAGES_FREE = (s.get .mem_PAGES_FREE + 1) % 2 ^ 16) ∧
        (f.page ∈ s.memory.pending → u.get .mem_PAGES_FREE = s.get .mem_PAGES_FREE ∧ f.page ∉ u.memory.pending) ∧
        (∀ k, f.region = some k → (∀ x ∈ rest, x.region ≠ some k) → u.get .rgn_STATE k = 0 ∧
          ∀ x, s.memory.leaving.find? (fun x => x.1 == k) = some x →
            u.get .ten_MEM_USED x.2.2 = (s.get .ten_MEM_USED x.2.2 - x.2.1) % 2 ^ 16) ∧
        u.memory.host = s.memory.host ∧ u.memory.bar4 = s.memory.bar4 ∧ u.jobs = s.jobs)

/-- PATROL_READ, CHANNEL_RETRAIN, SELF_REFRESH_ENTRY and SELF_REFRESH_EXIT. The patrol pauses in self-refresh; a clean read moves it on by one
place, and a corrected one also counts CE_TOTAL and the channel's CH_CE. An uncorrectable data block reads as uncorrectable from then on, and
after an uncorrectable check block so does every block that it covers. A retraining that helps counts eight repeats and one retraining; one
that does not makes the failed write uncorrectable. Entry into self-refresh is held while jobs are left; its exit clears SELF_REFRESH. -/
def Obligations.MemoryUpkeep : Prop :=
  (∀ (o : ReadOutcome) (s : State),
    (s.refresh ≠ .active → exec (.patrolRead o) s = .next s) ∧
    (s.refresh = .active → (∀ b ∈ patrolBlocks s.memory.patrol, b ∉ s.memory.bad) → o = .clean →
      exec (.patrolRead o) s = .next { s with memory := { s.memory with patrol := (s.memory.patrol + 1) % s.patrolPlaces } }) ∧
    (∀ pa check, s.refresh = .active → (∀ b ∈ patrolBlocks s.memory.patrol, b ∉ s.memory.bad) → o = .uncorrectable pa check →
      pa / 64 ∈ patrolBlocks s.memory.patrol →
      ∃ u : State, exec (.patrolRead o) s = .next u ∧ u.get .mem_UE_SEEN = 1 ∧
        u.memory.patrol = (s.memory.patrol + 1) % s.patrolPlaces ∧
        (s.memory.patrol % 16 ≠ 15 → check = false → pa / 64 ∈ u.memory.bad ∧ u.get .mem_LAST_ERR_TYPE = 1) ∧
        (s.memory.patrol % 16 = 15 → (∀ b ∈ coveredBlocks pa, b ∈ u.memory.bad) ∧ u.get .mem_LAST_ERR_TYPE = 3)) ∧
    (∀ pa, s.refresh = .active → (∀ b ∈ patrolBlocks s.memory.patrol, b ∉ s.memory.bad) → o = .corrected pa →
      pa / 64 ∈ patrolBlocks s.memory.patrol →
      Store.get 0 s.memory.pageCE (pa / 2 ^ 21) + 1 ≠ s.ceRetire →
      ∃ u : State, exec (.patrolRead o) s = .next u ∧
        ({ s with memory := u.memory } : State).Writes u
          [(.mem_CE_TOTAL, 0, (s.get .mem_CE_TOTAL + 1) % 2 ^ 32), (.memch_CH_CE, paChannel pa, (s.get .memch_CH_CE (paChannel pa) + 1) % 2 ^ 32),
            (.mem_CE_SEEN, 0, 1)] ∧
        u.memory.ddr = s.memory.ddr ∧ u.memory.patrol = (s.memory.patrol + 1) % s.patrolPlaces)) ∧
  (∀ (ch : Fin 32) (r : Retry) (s : State),
    let counts := [(Reg.mem_EDC_RETRIES, 0, (s.get .mem_EDC_RETRIES + 8) % 2 ^ 32),
      (.memch_CH_EDC_RETRIES, ch.val, (s.get .memch_CH_EDC_RETRIES ch + 8) % 2 ^ 32),
      (.memch_CH_RETRAINS, ch.val, (s.get .memch_CH_RETRAINS ch + 1) % 2 ^ 32), (.mem_RETRAIN_SEEN, 0, 1)]
    s.Does (.channelRetrain ch true r) s counts ∧
    (r.job = none → s.DoesThen (.channelRetrain ch false r) s counts (·.writeFailed r.pa)) ∧
    (∀ j, r.job = some j → s.DoesThen (.channelRetrain ch false r) s counts (fun t => (t.writeFailed r.pa).faultJob j 0x032B))) ∧
  (∀ s : State,
    (s.refresh = .asleep ∨ s.refresh = .exiting ∨ s.boot.lastResort = true → exec .selfRefreshEntry s = .next s) ∧
    (s.refresh = .active → s.boot.lastResort = false → s.jobs ≠ [] →
      exec .selfRefreshEntry s = .next { s with refresh := .entering }) ∧
    ((s.refresh = .active ∧ s.jobs = []) ∨ s.refresh = .entering → s.boot.lastResort = false →
      ∃ u : State, exec .selfRefreshEntry s = .next u ∧ u.refresh = .asleep ∧ u.get .mem_SELF_REFRESH = 1 ∧ u.memory = s.memory ∧
        ∀ d, 55 ≤ d → d < 67 → u.get .dom_STATE d = 1) ∧
    (s.boot.lastResort = true ∨ s.get .pwr_COOLANT_STOP ≠ 0 ∨ s.refresh = .active → exec .selfRefreshExit s = .next s.serveWaiting) ∧
    (s.boot.lastResort = false → s.get .pwr_COOLANT_STOP = 0 → s.refresh = .entering →
      exec .selfRefreshExit s = .next ({ s with refresh := .active } : State).serveWaiting) ∧
    (s.boot.lastResort = false → s.get .pwr_COOLANT_STOP = 0 → s.refresh = .asleep ∨ s.refresh = .exiting →
      ∃ u : State, exec .selfRefreshExit s = .next u.serveWaiting ∧ u.refresh = .active ∧ u.get .mem_SELF_REFRESH = 0 ∧
        u.memory = s.memory ∧ ∀ d, 55 ≤ d → d < 67 → u.get .dom_STATE d = 2) ∧
    (s.memory.waiting = [] ∨ s.refresh ≠ .active → s.serveWaiting = s) ∧
    (∀ c a bs, s.memory.waiting = [.write c a bs none] → s.refresh = .active →
      s.serveWaiting = ({ s with memory := { s.memory with waiting := [] } } : State).writeVA c a bs))

/-! ## The host port (00 R7 to R11, 13) -/

/-- Host writes that the device does not perform: one narrower than 32 bits, one not aligned to its width, one to BAR4, one outside every
block of BAR0, and one to a reserved offset of a doorbell page. Each is counted in ACCESS_ERRORS and changes nothing else but ACCESS_ERROR. -/
def Obligations.WritesDiscarded : Prop :=
  ∀ (bar : Bar) (off : Nat) (width : Width) (value : DWord) (s : State), off + width.bytes ≤ barBytes bar →
    (width = .w8 ∨ width = .w16 ∨ off % width.bytes ≠ 0 ∨ bar = .bar4 →
      exec (.registerWrite bar off width value) s = .next s.accessError) ∧
    (width = .w32 → off % 4 = 0 → bar = .bar0 → inBlock off = false → exec (.registerWrite bar off width value) s = .next s.accessError) ∧
    (width = .w32 → off % 4 = 0 → bar = .bar2 → 8 ≤ off % 4096 → exec (.registerWrite bar off width value) s = .next s.accessError) ∧
    (width = .w64 → off % 8 = 0 → bar = .bar0 → inBlock off = false → inBlock (off + 4) = false →
      exec (.registerWrite bar off width value) s = .next s.accessError.accessError)

/-- REGISTER_WRITE by field type, on the fields of the host port block, the tenant table and a peg entry's neighbours. An RW field takes the
bits written, a W1C bit clears where a 1 is written, but for one that the device has set in the same cycle; an RO field does not change; an
RWL field takes the bits while the entry's ENABLE is 0 and keeps them while it is 1; a write to the staging buffer writes its four bytes.
CLIPPED_LO_READ and HIST_SAMPLES_LO_READ latch the upper half of their counter and change nothing else; those of a bent that is not present
do nothing. -/
def Obligations.RegisterWriteTypes : Prop :=
  (∀ (value : DWord) (s : State), s.running = true →
      let v := value.toNat % 2 ^ 32
      let stood := fun (r : Reg) => Store.get 0 s.before (regKey r 0) % 2
      s.Does (.registerWrite .bar0 0x0F040020 .w32 value) s [(.host_EVENT_MASK, 0, v % 2 ^ 6)] ∧
      (∀ u : State, exec (.registerWrite .bar0 0x0F04001C .w32 value) s = .next u →
        (v % 2 = 1 → stood .host_ACCESS_ERROR = 1 → u.get .host_ACCESS_ERROR = 0) ∧
        (v % 2 = 0 ∨ stood .host_ACCESS_ERROR = 0 → u.get .host_ACCESS_ERROR = s.get .host_ACCESS_ERROR % 2) ∧
        (v / 2 % 2 = 1 → stood .host_DOORBELL_FAULT = 1 → u.get .host_DOORBELL_FAULT = 0) ∧
        ∀ r i, r ∉ [Reg.host_ACCESS_ERROR, .host_DOORBELL_FAULT, .host_MISROUTE, .host_EVQ_OVERFLOW, .host_FOREMAN_LOST_EV,
          .host_LINK_DEGRADED] → u.get r i = s.get r i) ∧
      s.Does (.registerWrite .bar0 0x0F040008 .w32 value) s [] ∧
      (∀ t : Fin 4096,
        (s.get .ten_ENABLE t = 0 →
          s.Does (.registerWrite .bar0 (0x10000000 + 64 * t.val + 8) .w32 value) s [(.ten_PASID, t, v % 2 ^ 20)] ∧
          s.Does (.registerWrite .bar0 (0x10000000 + 64 * t.val) .w64 value) s
            [(.ten_CLASS, t, value.toNat / 2 ^ 32 % 2 ^ 6)]) ∧
        (s.get .ten_ENABLE t ≠ 0 → s.Does (.registerWrite .bar0 (0x10000000 + 64 * t.val + 8) .w32 value) s [])) ∧
      (∀ off < 65536, off % 4 = 0 →
        exec (.registerWrite .bar0 (0x0F070000 + off) .w32 value) s =
          .next { s with staging := Mem.writeNum 0 s.staging off 4 v })) ∧
  (∀ (n : Fin 8) (s : State),
      (s.get .bent_PRESENT n = 0 → exec (.clippedLoRead n) s = .next s ∧ exec (.histSamplesLoRead n) s = .next s) ∧
      (s.get .bent_PRESENT n ≠ 0 →
        s.Does (.clippedLoRead n) s [(.gauge_CLIPPED_HI, n, Store.get 0 s.clippedHigh n % 2 ^ 32)] ∧
        s.Does (.histSamplesLoRead n) s [(.hist_HIST_SAMPLES_HI, n, Store.get 0 s.histHigh n % 2 ^ 32)]))

/-- UCIE_LINK_TRAIN, HOT_RESET, CONFIG_SPACE_WRITE and L1_ENTRY. The link takes the highest rate of the list that both modules reach, and
runs on one module, with LINK_DEGRADED, when the other does not train; the lanes that a module repaired stand in its health record. A hot
reset, and entry into D3hot, returns the configuration space to its reset values and changes nothing else. A configuration write in D0
stores its fields, a BAR without the bits below its size, and messages that nothing holds any more go out. L1 is entered only while every
queue of the host port is empty, no request is outstanding and the domains of the link are ON. -/
def Obligations.HostLink : Prop :=
  (∀ (m0 m1 : ModuleTrain) (s : State),
    let r0 := linkRate m0.rate.toNat
    let r1 := linkRate m1.rate.toNat
    let u : State := { s with health := { s.health with
      good := Store.put 0 (Store.put 0 s.health.good 31 m0.repairs.toNat) 32 m1.repairs.toNat } }
    let l := [(Reg.host_LINK_RATE, 0, if r0 ≠ 0 ∧ r1 ≠ 0 then min r0 r1 else max r0 r1), (.host_MOD0_UP, 0, if r0 = 0 then 0 else 1),
      (.host_MOD1_UP, 0, if r1 = 0 then 0 else 1), (.host_MOD0_REPAIRED, 0, if m0.repairs ≠ 0 ∧ r0 ≠ 0 then 1 else 0),
      (.host_MOD1_REPAIRED, 0, if m1.repairs ≠ 0 ∧ r1 ≠ 0 then 1 else 0)]
    (r0 ≠ 0 ∧ r1 ≠ 0 ∨ r0 = 0 ∧ r1 = 0 → s.Does (.ucieLinkTrain m0 m1) u l) ∧
    (r0 ≠ 0 ∧ r1 = 0 ∨ r0 = 0 ∧ r1 ≠ 0 → s.DoesThen (.ucieLinkTrain m0 m1) u l (·.event .host_LINK_DEGRADED))) ∧
  (∀ r, linkRate r ∈ [0, 4, 8, 12, 16, 24, 32] ∧ linkRate r ≤ r ∧ ∀ x ∈ [4, 8, 12, 16, 24, 32], x ≤ r → x ≤ linkRate r) ∧
  (∀ (d3 : Bool) (s : State), exec (.hotReset d3) s = .next { s with busMaster := false, d3hot := d3, config := {} }) ∧
  (∀ (w : ConfigWrite) (s : State),
    let base := fun (a : BitVec 64) (size : Nat) => a.toNat - a.toNat % size
    let u : State := { s with busMaster := w.busMaster, d3hot := false, config :=
      { memorySpace := w.memorySpace, msixEnable := w.msixEnable, functionMask := w.functionMask, pasidEnable := w.pasidEnable,
        bar0 := base w.bar0 (2 ^ 29), bar2 := base w.bar2 (2 ^ 24), bar4 := base w.bar4 (2 ^ 24) } }
    exec (.configSpaceWrite w false) s = .next { s with busMaster := false, d3hot := true, config := {} } ∧
    (s.indices .pba_PENDING = [] ∨ w.busMaster = false ∨ w.msixEnable = false ∨ w.functionMask = true →
      exec (.configSpaceWrite w true) s = .next u) ∧
    exec (.configSpaceWrite w true) s = .next ((s.indices .pba_PENDING).foldl (fun t v => t.flushVector v) u)) ∧
  (∀ s : State,
    let free := s.hostPortIdle = true ∧ ∀ d ∈ [147, 148, 149], s.get .dom_STATE d = 2 ∧ s.get .dom_CHANGING d = 0
    (s.hostPortIdle = true ↔ s.indices .pba_PENDING = [] ∧ s.ringsOpening = [] ∧
      s.get .host_PEG_EVQ_HEAD = s.get .host_PEG_EVQ_TAIL ∧ ∀ j ∈ s.jobs, j.finished = false ∧ s.hostLoad j.id = none) ∧
    (¬free → exec .l1Entry s = .next s) ∧
    (free →
      ∃ u : State, exec .l1Entry s = .next u ∧ u.get .dom_STATE 147 = 1 ∧ u.get .dom_STATE 148 = 1 ∧ u.get .dom_STATE 149 = 1 ∧
        u.get .host_DEV_STATE = s.get .host_DEV_STATE ∧ u = { s with regs := u.regs }))

/-! ## Camera ingest and the Jointers (08, 09) -/

/-- CSI_FRAME_START, CSI_FRAME_END, CSI_LINE_START_END, CSI_LINE_PACKET, CSI_EMBEDDED_PACKET and IDLE_TIMEOUT. A port that is off, or whose
domain is not ON, takes nothing. A bad header is dropped and counted; every other packet is counted, and one that no enabled stream binds is
counted as unbound. Frame Start opens a frame, after closing with FS_MISSED one that is open; Frame End and the idle timeout close it, short
when lines are missing; a Frame End in the cycle of a timeout counts in its place. Streams that share a virtual channel open and close
together. Packets outside a frame are discarded. Embedded bytes are taken up to EMB_MAX. A line is cut or filled to WIDTH. -/
def Obligations.CameraPackets : Prop :=
  ∀ (p : Fin 24) (vc : Fin 32) (h : HdrState) (number : BitVec 16) (dt : BitVec 6) (ok : Bool) (payload : List Byte) (s : State),
    let up := s.get .port_ENABLED p ≠ 0 ∧ s.get .dom_STATE (85 + p.val) = 2
    let fs := Instr.csiFrameStart p vc h number
    let fe := Instr.csiFrameEnd p vc h
    let ls := Instr.csiLineStartEnd p vc h
    let lp := Instr.csiLinePacket p vc dt h ok payload
    let ep := Instr.csiEmbeddedPacket p vc h ok payload
    let one := fun (r : Reg) (i : Nat) => (r, i, r.counted (s.get r i) 1)
    let seen := one .port_PACKETS p :: (if h = .corrected then [one .port_HDR_CORRECTED p] else [])
    let crc := if ok = true then [] else [one .port_CRC_ERRORS p, (.port_CRC_SEEN, p.val, 1)]
    let closing := fun (k flag : Nat) (frames : List CamFrame) =>
      let height := s.get .tmpl_HEIGHT_M1 (s.get .cam_TEMPLATE k) + 1
      mapWhere (fun x => x.stream == k && !x.closed)
        (fun (x : CamFrame) =>
          let pad := x.cutAt.isNone && decide (x.received < height)
          { x with
            closed := true, t0 := s.now, flags := x.flags ||| flag ||| (if pad then 2 else 0), waiting := [],
            padded := if pad then x.padded + (height - x.received) else x.padded }) frames
    let opens := (s.shortBound p vc).filter (fun k => s.expVC k 0 == vc.val)
    let whole := fun (k : Nat) => ∃ f, s.openFrame k = some f ∧ f.skipped = false ∧ f.waiting.all List.isEmpty = true
    (¬up → ∀ c ∈ [fs, fe, ls, lp, ep], exec c s = .next s) ∧
    (up → h = .bad → ∀ c ∈ [fs, fe, ls, lp, ep], s.Does c s [one .port_HDR_DROPPED p, (.port_HDR_DROP_SEEN, p, 1)]) ∧
    (up → h ≠ .bad → s.shortBound p vc = [] → ∀ c ∈ [fs, fe, ls], s.Does c s (seen ++ [one .port_UNBOUND_PACKETS p])) ∧
    (up → h ≠ .bad → s.shortBound p vc ≠ [] → s.Does ls s seen) ∧
    (up → h ≠ .bad → s.shortBound p vc ≠ [] → opens = [] → s.Does fs s seen ∧ s.Does fe s seen) ∧
    (up → h ≠ .bad → (s.shortBound p vc).Nodup →
      ∃ u v : State, exec fs s = .next u ∧ exec fe s = .next v ∧
        ∀ k ∈ opens, s.get .jnt_PRESENT (s.get .cam_JOINTER k) ≠ 0 →
          (s.get .cam_STATE k = 1 → u.get .cam_STATE k = 2 ∧ u.get .cam_FRAME_SEQ k = (s.get .cam_FRAME_SEQ k + 1) % 2 ^ 32) ∧
          (s.get .cam_STATE k = 2 → s.openFrame k ≠ none → v.get .cam_STATE k = 1)) ∧
    (∀ k, up → h ≠ .bad → opens = [k] →
      (s.get .jnt_PRESENT (s.get .cam_JOINTER k) = 0 →
        s.Does fs s (seen ++ [one .cam_DISCARDED_PACKETS k]) ∧ s.Does fe s (seen ++ [one .cam_DISCARDED_PACKETS k])) ∧
      (s.get .jnt_PRESENT (s.get .cam_JOINTER k) ≠ 0 →
        (s.get .cam_STATE k = 3 →
          s.Does fs s (seen ++ [one .cam_DISCARDED_PACKETS k]) ∧ s.Does fe s (seen ++ [one .cam_DISCARDED_PACKETS k])) ∧
        (s.get .cam_STATE k = 1 → s.timedOutNow k = false →
          s.Does fe s (seen ++ [one .port_ORPHAN_PACKETS p, one .cam_DISCARDED_PACKETS k])) ∧
        (s.timedOutNow k = true →
          let timed := fun (f : CamFrame) => f.stream == k && f.closed && f.t0 == s.now && bit f.flags 8
          s.Does fe { s with camera := { s.camera with
            frames := mapWhere timed (fun f => { f with flags := f.flags - 0x100 }) s.camera.frames } } seen) ∧
        (s.get .cam_STATE k = 2 → whole k →
          s.Does fe { s with camera := { s.camera with frames := closing k 0 s.camera.frames } } (seen ++ [(.cam_STATE, k, 1)])) ∧
        (s.get .cam_STATE k = 1 ∨ (s.get .cam_STATE k = 2 ∧ whole k) → s.get .jnt_GLANCE_ACTIVE = 0 → s.get .loop_ENABLE k = 0 →
          let c := s.camera
          let n := s.get .tmpl_NEXP_M1 (s.get .cam_TEMPLATE k) + 1
          let last := Store.get 0 c.lastNo k
          let gap := number.toNat ≠ 0 ∧ last ≠ 0 ∧ number.toNat ≠ (last + 1) % 2 ^ 16
          s.DoesThen fs
            { s with camera := { c with
                frames := (if s.get .cam_STATE k = 1 then c.frames else closing k 0x80 c.frames) ++
                  [{ stream := k, seq := s.get .cam_FRAME_SEQ k, csiNo := number.toNat, flags := if gap then 0x400 else 0,
                     counts := List.replicate n 0, waiting := List.replicate n [], last := List.replicate n [] }],
                lastNo := if number.toNat = 0 then c.lastNo else Store.put 0 c.lastNo k number.toNat } }
            (seen ++ [(.cam_FRAME_SEQ, k, (s.get .cam_FRAME_SEQ k + 1) % 2 ^ 32), (.cam_STATE, k, 2)])
            (·.demand (69 + s.get .cam_JOINTER k))) ∧
        (s.get .cam_STATE k = 1 →
          ∃ u : State, exec fs s = .next u ∧ u.get .cam_STATE k = 2 ∧ u.get .cam_FRAME_SEQ k = (s.get .cam_FRAME_SEQ k + 1) % 2 ^ 32 ∧
            (s.get .jnt_GLANCE_ACTIVE = 0 → s.get .loop_ENABLE k ≠ 0 →
              let turn := Store.get 0 s.camera.rotation k
              let buf := if turn = 0 then 0 else turn % s.tapFrames k
              u.get .loop_CUR_BUF k = buf % 2 ^ Reg.loop_CUR_BUF.width ∧ u.get .peg_COUNT (s.get .loop_BAND_PEG_BASE k + buf) = 0)))) ∧
    (up → h ≠ .bad → dt.toNat ≠ 0x12 → dtBits dt.toNat = none →
      s.Does lp s (seen ++ crc ++ [one .port_UNSUPPORTED_DT p, (.port_UNSUPPORTED_SEEN, p, 1)])) ∧
    (∀ c t, (c = lp ∧ t = dt.toNat ∧ (t = 0x12 ∨ dtBits t ≠ none)) ∨ (c = ep ∧ t = 0x12) → up → h ≠ .bad →
      let bound := (s.portStreams p).find? (fun k => (s.camPairs k).contains (vc.val, t))
      (bound = none → s.Does c s (seen ++ crc ++ [one .port_UNBOUND_PACKETS p])) ∧
      (∀ k, bound = some k →
        (s.get .jnt_PRESENT (s.get .cam_JOINTER k) = 0 → s.Does c s (seen ++ crc ++ [one .cam_DISCARDED_PACKETS k])) ∧
        (s.get .jnt_PRESENT (s.get .cam_JOINTER k) ≠ 0 →
          (s.get .cam_STATE k = 1 → s.Does c s (seen ++ crc ++ [one .port_ORPHAN_PACKETS p, one .cam_DISCARDED_PACKETS k])) ∧
          (s.get .cam_STATE k = 3 → s.Does c s (seen ++ crc ++ [one .cam_DISCARDED_PACKETS k])) ∧
          (s.get .cam_STATE k = 2 → t = 0x12 →
            let emb := fun (f : CamFrame) =>
              let room := s.get .tmpl_EMB_MAX (s.get .cam_TEMPLATE k) - f.emb.length
              if f.skipped = true then f
              else { f with
                emb := f.emb ++ payload.take room,
                flags := f.flags ||| (if room < payload.length then 0x800 else 0) ||| (if ok = true then 0 else 0x1000) }
            s.Does c { s with camera := { s.camera with
              frames := mapWhere (fun x => x.stream == k && !x.closed) emb s.camera.frames } } (seen ++ crc)) ∧
          (s.get .cam_STATE k = 2 → t ≠ 0x12 →
            s.DoesThen c s (seen ++ crc) (·.takeLine k ((s.camPairs k).findIdx (fun x => x == (vc.val, t))) ok payload))))) ∧
    (∀ k : Fin 96, (s.get .cam_STATE k ≠ 2 ∨ s.get .tmpl_IDLE_TIMEOUT (s.get .cam_TEMPLATE k) = 0 → exec (.idleTimeout k) s = .next s) ∧
      (s.get .cam_STATE k = 2 → s.get .tmpl_IDLE_TIMEOUT (s.get .cam_TEMPLATE k) ≠ 0 → whole k →
        s.Does (.idleTimeout k) { s with camera := { s.camera with frames := closing k 0x100 s.camera.frames } } [(.cam_STATE, k, 1)])) ∧
    (∀ (k i : Nat) (l : List Nat) (f : CamFrame), s.openFrame k = some f → f.skipped = false → f.cutAt = none → f.waiting = [[]] →
      f.counts = [i] → f.last = [l] → i ≤ s.get .tmpl_HEIGHT_M1 (s.get .cam_TEMPLATE k) → s.slotsUsed k < 64 →
      let t := s.get .cam_TEMPLATE k
      let w := s.get .tmpl_WIDTH_M1 t + 1
      let b := (dtBits (s.expDT t 0)).getD 8
      let n := payload.length * 8 / b
      let got := csiSamples b (min n w) payload
      let pad := s.get .tmpl_PAD_VALUE t
      let line :=
        if ok = true then got ++ List.replicate (w - got.length) (if s.get .tmpl_LINE_PAD t ≠ 0 ∨ got = [] then pad else got.getLastD 0)
        else if s.get .tmpl_LINE_PAD t ≠ 0 ∨ l = [] then List.replicate w pad else l
      let filled : CamFrame := { f with
        counts := [i + 1], last := [line], lastSet := [line], received := f.received + 1,
        sets := f.sets ++ [⟨f.received, [line], { padded := !ok || decide (n < w), cut := ok && decide (w < n) }⟩],
        short := f.short + b2n (ok && decide (n < w)), long := f.long + b2n (ok && decide (w < n)), crc := f.crc + b2n (!ok) }
      (s.takeLine k 0 ok payload).openFrame k = some filled ∧
      (up → h ≠ .bad → dt.toNat ≠ 0x12 → dtBits dt.toNat ≠ none →
        (s.portStreams p).find? (fun k => (s.camPairs k).contains (vc.val, dt.toNat)) = some k →
        (s.camPairs k).findIdx (fun x => x == (vc.val, dt.toNat)) = 0 → s.get .jnt_PRESENT (s.get .cam_JOINTER k) ≠ 0 → s.get .cam_STATE k = 2 →
        ∃ u : State, exec lp s = .next u ∧ u.openFrame k = some filled ∧
          u.get .port_PACKETS p = Reg.port_PACKETS.counted (s.get .port_PACKETS p) 1))

/-- CAMERA_STREAM_ENABLE, CAMERA_STREAM_DISABLE, FRAME_RECORD_WRITE, LINE_SET_SERVE, REENTRY_SET_SERVE, GLANCE_SRC_WRITE,
GLANCE_PERIOD_EXPIRY and GLANCE_FRAME. A stream that passes its check starts with its counts at 0 in STATE 1, and asks for its Jointer and
its port; a disable with an open frame waits in STATE 3 for the record of that frame. A record is written once every set of the oldest frame
has been served, at REC_NEXT of the ring, and counts FRAME_PEG up. A Jointer that is ON, and that no entry has begun to lower, serves one
set of one stream. -/
def Obligations.CameraStreams : Prop :=
  ∀ s : State,
    let one := fun (r : Reg) (i : Nat) => (r, i, r.counted (s.get r i) 1)
    (∀ k : Fin 96, s.running = true →
      let t := s.get .ctx_TENANT (s.get .cam_CONTEXT k)
      let j := s.get .cam_JOINTER k
      let again := s.get .tmpl_REENTRY_AT (s.get .cam_TEMPLATE k) ≠ 0
      (s.get .cam_ENABLE k ≠ 0 → exec (.cameraStreamEnable k) s = .next s) ∧
      (s.get .cam_ENABLE k = 0 → s.camCheck k ≠ 0 → s.Does (.cameraStreamEnable k) s [(.cam_REASON, k, s.camCheck k)]) ∧
      (s.get .cam_ENABLE k = 0 → s.camCheck k = 0 → 96 ≤ s.get .jnt_GLANCE_SRC → s.get .jnt_GLANCE_ACTIVE = 0 →
        s.DoesThen (.cameraStreamEnable k)
          { s with camera := { s.camera with lastNo := Store.put 0 s.camera.lastNo k 0, glanceDue := false } }
          ([(.cam_ENABLE, k.val, 1), (.cam_STATE, k, 1), (.cam_REASON, k, 0), (.cam_FRAME_SEQ, k, 0), (.cam_FRAMES_FLAGGED, k, 0),
            (.cam_OVERRUNS, k, 0), (.cam_DISCARDED_PACKETS, k, 0), (.cam_REC_NEXT, k, 0), (.jnt_GLANCE_ACTIVE, 0, 0),
            one .ten_STREAMS_USED t, one .jnt_STREAMS j] ++ (if again then [one .jnt_REENTRY_STREAMS j] else []))
          (fun u => ((((u.demand (69 + j)).demand (77 + j)).demand (85 + s.get .cam_PORT k)).demand 109).floorRecompute)) ∧
      (s.get .cam_ENABLE k = 0 → s.camCheck k = 0 →
        ∃ u : State, exec (.cameraStreamEnable k) s = .next u ∧ u.get .cam_ENABLE k = 1 ∧ u.get .cam_STATE k = 1 ∧
          u.get .jnt_GLANCE_ACTIVE = b2n u.glanceHolds ∧ (s.get .jnt_GLANCE_ACTIVE ≠ 0 → u.get .jnt_GLANCE_EXIT = 1)) ∧
      (s.get .cam_ENABLE k = 0 → exec (.cameraStreamDisable k) s = .next s) ∧
      (s.get .cam_ENABLE k ≠ 0 → s.get .loop_ENABLE k ≠ 0 → s.Does (.cameraStreamDisable k) s [(.cam_REASON, k, 0x0616)]) ∧
      (s.get .cam_ENABLE k ≠ 0 → s.get .loop_ENABLE k = 0 → s.get .cam_STATE k = 1 →
        ∃ u : State, exec (.cameraStreamDisable k) s = .next u ∧ u.get .cam_ENABLE k = 0 ∧ u.get .cam_STATE k = 0 ∧ u.get .cam_REASON k = 0 ∧
          u.get .ten_STREAMS_USED t = (s.get .ten_STREAMS_USED t - 1) % 2 ^ 7 ∧ u.camera.frames = s.camera.frames.filter (fun f => f.stream != k.val) ∧
          u.get .jnt_GLANCE_ACTIVE = b2n u.glanceHolds) ∧
      (s.get .cam_ENABLE k ≠ 0 → s.get .loop_ENABLE k = 0 → s.get .cam_STATE k = 3 →
        s.Does (.cameraStreamDisable k) s [(.cam_REASON, k, 0)]) ∧
      (∀ f, s.get .cam_ENABLE k ≠ 0 → s.get .loop_ENABLE k = 0 → s.get .cam_STATE k = 2 → s.openFrame k = some f → f.skipped = false →
        f.waiting.all List.isEmpty = true →
        ∃ u : State, exec (.cameraStreamDisable k) s = .next u ∧
          ({ s with camera := { s.camera with frames := u.camera.frames } } : State).Writes u [(.cam_STATE, k, 3), (.cam_REASON, k, 0)] ∧
          ∃ g ∈ u.camera.frames, g.stream = k.val ∧ g.seq = f.seq ∧ g.closed = true ∧ g.flags &&& 0x200 = 0x200)) ∧
    (∀ (k : Fin 96) (rd : ReadOutcome) (wr : WriteOutcome) (lo : LoftOutcome),
      let cmd : Instr := .frameRecordWrite ⟨k, rd, wr, lo⟩
      (s.streamFrames k = [] → exec cmd s = .next s) ∧
      (∀ f rest, s.streamFrames k = f :: rest →
        (f.closed = false ∨ f.served < s.tmplHeight (s.camTmpl k) → exec cmd s = .next s) ∧
        (f.closed = true → s.tmplHeight (s.camTmpl k) ≤ f.served → s.refresh ≠ .active →
          exec cmd s = .next s.exitSelfRefresh) ∧
        (f.closed = true → s.tmplHeight (s.camTmpl k) ≤ f.served → s.refresh = .active → s.get .loop_ENABLE k = 0 →
          s.get .cam_STATE k ≠ 3 → (∀ x ∈ s.camera.heldControls, x.stream ≠ k.val ∨ x.seq ≠ f.seq) →
          let c := s.get .cam_CONTEXT k
          let slot := s.get .cam_REC_NEXT k
          let peg := s.get .cam_FRAME_PEG k
          ∃ u : State, exec cmd s = .next u ∧
            (rd = .clean → wr = .clean → s.memory.bad = [] → u.memory.ddr =
              (s.writeVA c (s.get .cam_REC_RING k + slot * (64 + s.get .tmpl_EMB_MAX (s.camTmpl k))) f.record).memory.ddr) ∧
            u.get .cam_REC_NEXT k = (if slot = s.get .cam_REC_SLOTS_M1 k then 0 else (slot + 1) % 2 ^ Reg.cam_REC_NEXT.width) ∧
            u.get .cam_FRAMES_FLAGGED k = (if f.recordFlags = 0 then s.get .cam_FRAMES_FLAGGED k else
              Reg.cam_FRAMES_FLAGGED.counted (s.get .cam_FRAMES_FLAGGED k) 1) ∧
            u.get .peg_COUNT peg = (s.get .peg_COUNT peg + 1) % 2 ^ 32 ∧
            u.camera.frames = s.camera.frames.filter (fun x => !(x.stream == k.val && x.seq == f.seq && !x.skipped)) ∧
            u.jobs = s.jobs))) ∧
    (∀ (j : Fin 8) (rd : ReadOutcome) (wr : WriteOutcome) (lo : LoftOutcome),
      let serve : Instr := .lineSetServe ⟨j, rd, wr, lo⟩
      let reserve : Instr := .reentrySetServe ⟨j, rd, wr, lo⟩
      let off := fun (d : Nat) =>
        s.get .dom_STATE d ≠ 2 ∨ s.get .dom_CHANGING d ≠ 0 ∨ s.get .jnt_PRESENT j = 0 ∨ s.clocks.stopped = true
      let ready := (s.jointerStreams j).filter (fun k => ((s.servedFrame k).bind s.nextSet).isSome)
      let again := (s.jointerStreams j).filter (fun k => (s.reentryReady k).isSome)
      (off (69 + j.val) ∨ nextTurn ready (Store.get 0 s.camera.turn j) = none → exec serve s = .next s) ∧
      (∀ k f set padding, ¬off (69 + j.val) → nextTurn ready (Store.get 0 s.camera.turn j) = some k → s.servedFrame k = some f →
        s.nextSet f = some (set, padding) →
        (s.refresh ≠ .active → exec serve s = .next s.exitSelfRefresh) ∧
        (s.refresh = .active →
          ∃ u : State, exec serve s = .next u ∧
            u.get .jnt_SETS_SERVED j = Reg.jnt_SETS_SERVED.counted (s.get .jnt_SETS_SERVED j) 1 ∧
            u.get .jnt_PAD_SETS j = (if padding = true then Reg.jnt_PAD_SETS.counted (s.get .jnt_PAD_SETS j) 1 else s.get .jnt_PAD_SETS j) ∧
            u.camera.turn = Store.put 0 s.camera.turn j (k + 1) ∧ u.jobs = s.jobs ∧
            ∃ g ∈ u.camera.frames, g.stream = k ∧ g.seq = f.seq ∧ g.served = f.served + 1)) ∧
      (off (77 + j.val) ∨ nextTurn again (Store.get 0 s.camera.turn (8 + j.val)) = none → exec reserve s = .next s) ∧
      (∀ k r, ¬off (77 + j.val) → nextTurn again (Store.get 0 s.camera.turn (8 + j.val)) = some k → s.reentryReady k = some r →
        let me := fun (x : ReentryFrame) => x.stream == k && x.seq == r.seq
        let row := s.reentryRow k ((s.areaAddr k r.buf .reentry).getD 0) r.served
        (s.refresh ≠ .active → exec reserve s = .next s.exitSelfRefresh) ∧
        (s.refresh = .active → r.served + 1 < s.tmplHeight (s.camTmpl k) → rd = .clean → wr = .clean → s.memory.bad = [] →
          s.Does reserve
            { s with camera := { s.camera with
                turn := Store.put 0 s.camera.turn (8 + j.val) (k + 1),
                reentry := mapWhere me (fun _ => { r with
                  served := r.served + 1, rows := r.rows ++ [row.1], marks := r.marks ++ [row.2.1]
                  poison := if r.poison = 0 then row.2.2 else r.poison }) s.camera.reentry } }
            [one .jnt_REENTRY_SETS j]) ∧
        (s.refresh = .active → r.served + 1 < s.tmplHeight (s.camTmpl k) →
          ∃ u : State, exec reserve s = .next u ∧ (∃ x ∈ u.camera.reentry, me x = true ∧ x.served = r.served + 1) ∧
            u.get .jnt_REENTRY_SETS j = Reg.jnt_REENTRY_SETS.counted (s.get .jnt_REENTRY_SETS j) 1 ∧ u.jobs = s.jobs) ∧
        (s.refresh = .active → s.tmplHeight (s.camTmpl k) ≤ r.served + 1 →
          ∃ u : State, exec reserve s = .next u ∧ u.camera.reentry = s.camera.reentry.filter (fun x => !me x) ∧
            u.get .jnt_REENTRY_SETS j = Reg.jnt_REENTRY_SETS.counted (s.get .jnt_REENTRY_SETS j) 1 ∧
            u.get .peg_COUNT (s.get .loop_VIEW_PEG k) = (s.get .peg_COUNT (s.get .loop_VIEW_PEG k) + 1) % 2 ^ 32))) ∧
    (exec .glancePeriodExpiry s =
      .next (if s.get .jnt_GLANCE_ACTIVE = 0 then s else { s with camera := { s.camera with glanceDue := true } })) ∧
    (let due := s.camera.frames.find? (fun f => f.glance && f.fine.length == s.tmplHeight (s.camTmpl f.stream))
     (due = none → exec .glanceFrame s = .next s) ∧
     (∀ f, due = some f →
       let t := s.camTmpl f.stream
       ∃ u : State, exec .glanceFrame s = .next u ∧ u.camera.glanceNew = true ∧
         u.camera.glance =
           glanceReduce f.fine (s.tmplHeight t) (s.tmplWidth t) (s.get .tmpl_GLANCE_F t) (s.get .tmpl_TAP_SHIFT t) ∧
         u.get .jnt_GLANCE_FRAMES = Reg.jnt_GLANCE_FRAMES.counted (s.get .jnt_GLANCE_FRAMES) 1 ∧
         (s.get .jnt_GLANCE_ACTIVE ≠ 0 → u.get .dom_STATE 69 = 1) ∧ u.memory = s.memory)) ∧
    (∀ v : BitVec 7, s.running = true →
      (s.get .dom_STATE 69 = 2 →
        let u := s.set .jnt_GLANCE_SRC 0 v.toNat
        s.Does (.glanceSrcWrite v) { s with camera := { s.camera with glanceDue := s.camera.glanceDue && u.glanceHolds } }
          [(.jnt_GLANCE_SRC, 0, v.toNat), (.jnt_GLANCE_ACTIVE, 0, b2n u.glanceHolds)]) ∧
      (s.get .dom_STATE 69 ≠ 2 →
        exec (.glanceSrcWrite v) s = .next (({ s with deferred := s.deferred ++ [(69, .glanceSrc v.toNat)] } : State).demand 69)))

/-! ## Loops and I3C (09) -/

/-- LOOP_ENABLE, LOOP_DISABLE, LOOP_STOPPED and LOOP_JOB_START. An entry that passes its check is armed with its counts at 0; a disable of
an armed entry stops it, and it goes off once it has no job, no re-entry frame and no control record left. The stream's oldest waiting job
starts when none of its loop jobs runs and the bents that it needs are present; while GDDR6 is in self-refresh it asks for the exit instead.
-/
def Obligations.Loops : Prop :=
  ∀ (k : Fin 96) (s : State),
    let one := fun (r : Reg) (i : Nat) => (r, i, r.counted (s.get r i) 1)
    let cleat := s.get .loop_CLEAT_EN k ≠ 0
    let bus := s.get .loop_BUS k
    (s.running = true →
      (s.get .loop_ENABLE k ≠ 0 → exec (.loopEnable k) s = .next s) ∧
      (s.get .loop_ENABLE k = 0 → s.loopCheck k ≠ 0 → s.Does (.loopEnable k) s [(.loop_REASON, k, s.loopCheck k)]) ∧
      (s.get .loop_ENABLE k = 0 → s.loopCheck k = 0 →
        s.DoesThen (.loopEnable k)
          { s with camera := { s.camera with
              rotation := Store.put 0 s.camera.rotation k 0, opened := Store.put 0 s.camera.opened k 0,
              boxes := Store.put 0 s.camera.boxes k 0 } }
          ([(.loop_ENABLE, k.val, 1), (.loop_STATE, k, 1), (.loop_REASON, k, 0),
            (.loop_FRAME_BYTES, k, s.frameBytes (s.get .cam_TEMPLATE k) % 2 ^ Reg.loop_FRAME_BYTES.width), (.loop_LOOP_JOBS, k, 0),
            (.loop_LOOPS_SKIPPED, k, 0), (.loop_CTRL_SENT, k, 0), (.loop_LAST_CTRL_CODE, k, 0), (.loop_MAX_LAT_US, k, 0),
            (.loop_LAST_CTRL_SEQ, k, 0), (.loop_FOCUS_FALLBACKS, k, 0), (.loop_CUR_BUF, k, 0)] ++
            (if cleat then [one .i3c_LOOPS bus] else []))
          (fun u => (if cleat then (u.demand 110).demand (111 + bus / 6) else u).floorRecompute)) ∧
      (s.get .loop_STATE k = 1 → s.Does (.loopDisable k) s [(.loop_STATE, k, 2), (.loop_REASON, k, 0)]) ∧
      (s.get .loop_STATE k ≠ 1 → exec (.loopDisable k) s = .next s)) ∧
    (s.get .loop_STATE k ≠ 2 ∨ s.loopPending k = true → exec (.loopStopped k) s = .next s) ∧
    (s.get .loop_STATE k = 2 → s.loopPending k = false →
      let area := s.frameBuffers k
      s.DoesThen (.loopStopped k)
        { s with camera := { s.camera with
            frames := mapWhere (fun f => f.stream == k.val) (fun f => { f with buf := none }) s.camera.frames,
            marks := s.camera.marks.filter
              (fun m => !(m.ctx == area.1 && decide (area.2.1 ≤ m.addr ∧ m.addr < area.2.1 + area.2.2))),
            notes := s.camera.notes.filter (fun n => n.stream != k.val) } }
        ([(.loop_ENABLE, k.val, 0), (.loop_STATE, k, 0)] ++
          (if cleat then [(.i3c_LOOPS, bus, (s.get .i3c_LOOPS bus - 1) % 2 ^ Reg.i3c_LOOPS.width)] else []))
        State.floorRecompute) ∧
    (∀ env : StartEnv,
      let mask := s.get .loop_BENT_MASK k
      let needed := ((s.graph (s.get .loop_GRAPH k)).map (·.bentsNeeded)).getD 1
      let held := (s.job (.loop k)).isSome = true ∨ (s.awaitsBent mask = true ∧ (s.presentIn mask).length < needed) ∨
        s.get .host_DEV_STATE ≠ 1 ∨ s.get .pwr_COOLANT_STOP ≠ 0
      (s.camera.waiting.find? (fun w => w.stream == k.val) = none → exec (.loopJobStart k env) s = .next s) ∧
      (∀ w, s.camera.waiting.find? (fun w => w.stream == k.val) = some w →
        (held → exec (.loopJobStart k env) s = .next s) ∧
        (¬held → s.refresh ≠ .active → exec (.loopJobStart k env) s = .next s.exitSelfRefresh) ∧
        (¬held → s.refresh = .active →
          let t := s.get .cam_TEMPLATE k
          let own := s.boxesUsable w
          s.DoesThen (.loopJobStart k env)
            { s with camera := { s.camera with waiting := s.camera.waiting.filter (fun x => x != w) } }
            (one .loop_LOOP_JOBS k :: (if s.get .tmpl_FOCUS_MODE t ≠ 0 ∧ own = none then [one .loop_FOCUS_FALLBACKS k] else []))
            (fun u => u.startJob
              { id := .loop k, ctx := s.get .cam_CONTEXT k, graph := s.get .loop_GRAPH k, pegBase := s.get .loop_PEG_BASE k,
                donePeg := s.get .loop_DONE_PEG k, ring := s.get .loop_RESULT_RING k, tag := w.frameSeq, mask := mask,
                inList := s.get .loop_IN_LIST k, outList := s.get .loop_OUT_LIST k, buf := w.buf } env
              (u.loopSubst w (own.getD (focusAddr (s.get .tmpl_FOCUS_TABLE t))))))))

/-- I3C_RECORD_TRANSFER, I3C_IBI, HOT_JOIN, DAA_GO and MAN_GO. The oldest record of the bus goes out as one sequence, each entry to the
dynamic address of its target slot; an entry is tried twice, and one that is not acknowledged either time abandons the record. An interrupt
is accepted from a target that may send one. Address assignment gives answering targets the free slots in order, with dynamic address 0x10 +
slot. A manual record is tested, then queued behind what is queued. On a bus whose domain is not ON, DAA_GO and MAN_GO wait for it. -/
def Obligations.I3cBuses : Prop :=
  (∀ (bus a : Nat) (bs : List Byte) (es : List (Nat × List Byte)) (acks : List Bool),
    let rest := sendEntries bus es acks
    sendEntries bus [] acks = ([], true) ∧
      sendEntries bus ((a, bs) :: es) (true :: acks) = (.i3c bus a (some bs) :: rest.1, rest.2) ∧
      sendEntries bus ((a, bs) :: es) (false :: true :: acks) = (.i3c bus a none :: .i3c bus a (some bs) :: rest.1, rest.2) ∧
      sendEntries bus ((a, bs) :: es) (false :: false :: acks) = ([.i3c bus a none, .i3c bus a none], false)) ∧
  ∀ (b : Fin 24) (s : State),
    let one := fun (r : Reg) (i : Nat) => (r, i, r.counted (s.get r i) 1)
    let d := 111 + b.val / 6
    (∀ acks : List Bool,
      let first := s.camera.queue.find? (fun r => r.bus == b.val)
      (first = none ∨ s.get .dom_STATE d ≠ 2 → exec (.i3cRecordTransfer b acks) s = .next s) ∧
      (∀ r, first = some r → s.get .dom_STATE d = 2 →
        let out := sendEntries b (r.entries.map (fun e => (s.get .i3ct_DYN_ADDR (b * 16 + e.1), e.2))) acks
        let sent := out.2
        let u : State := { s with camera := { s.camera with queue := s.camera.queue.erase r }, outbox := s.outbox ++ out.1 }
        let count := if sent = true then [one .i3c_RECORDS_SENT b] else [one .i3c_NACKS b, (.i3c_NACK_SEEN, b.val, 1)]
        let code := if sent = true then (if r.late = true then 0x0619 else 0) else 0x061C
        (r.source = none →
          s.Does (.i3cRecordTransfer b acks) u (count ++ [(.i3c_MAN_GO, b.val, 0), (.i3c_MAN_BUSY, b, 0), (.i3c_MAN_REASON, b, code)])) ∧
        (∀ k seq, r.source = some (k, seq) →
          s.Does (.i3cRecordTransfer b acks) u
            (count ++ (if sent = true then [one .loop_CTRL_SENT k] else []) ++
              [(.loop_MAX_LAT_US, k, max (s.get .loop_MAX_LAT_US k) (min 0xFFFF ((s.now - r.t0) * 10 / 6144)) % 2 ^ 16),
                (.loop_LAST_CTRL_CODE, k, code), (.loop_LAST_CTRL_SEQ, k, seq % 2 ^ Reg.loop_LAST_CTRL_SEQ.width)])))) ∧
    (∀ (addr : BitVec 7) (mdb : Byte),
      let slot := (List.range 16).find? (fun i => s.get .i3ct_VALID (b * 16 + i) != 0 && s.get .i3ct_DYN_ADDR (b * 16 + i) == addr.toNat)
      let allowed := ∃ i, slot = some i ∧ s.get .i3c_ENABLED b ≠ 0 ∧ bit (s.get .i3ct_BCR (b * 16 + i)) 1 = true
      (allowed → s.Does (.i3cIbi b addr mdb) s
        [one .i3c_IBIS b, (.i3c_IBI_SEEN, b, 1), (.i3c_LAST_IBI_ADDR, b, addr.toNat), (.i3c_LAST_IBI_MDB, b, mdb.toNat)]) ∧
      (¬allowed → exec (.i3cIbi b addr mdb) s = .next s)) ∧
    (s.get .i3c_ENABLED b ≠ 0 → s.Does (.hotJoin b) s [(.i3c_HOTJOIN_SEEN, b, 1)]) ∧
    (s.get .i3c_ENABLED b = 0 → exec (.hotJoin b) s = .next s) ∧
    (∀ targets : List I3cTarget, s.running = true →
      let free := (List.range 16).filter (fun i => s.get .i3ct_VALID (b * 16 + i) == 0)
      (s.get .dom_STATE d ≠ 2 →
        exec (.daaGo b targets) s = .next (({ s with deferred := s.deferred ++ [(d, .daaGo b targets)] } : State).demand d)) ∧
      (s.get .dom_STATE d = 2 → s.get .i3c_ENABLED b = 0 → exec (.daaGo b targets) s = .next s) ∧
      (s.get .dom_STATE d = 2 → s.get .i3c_ENABLED b ≠ 0 →
        s.Does (.daaGo b targets) s
          ((free.zip targets).flatMap (fun (i, t) =>
            let j := b.val * 16 + i
            [(.i3ct_DYN_ADDR, j, 0x10 + i), (.i3ct_VALID, j, 1), (.i3ct_BCR, j, t.bcr.toNat), (.i3ct_DCR, j, t.dcr.toNat),
              (.i3ct_PID_LO, j, t.pid.toNat % 2 ^ 32), (.i3ct_PID_HI, j, t.pid.toNat / 2 ^ 32)])))) ∧
    (s.running = true →
      let bs := toBytes 128 (s.get .i3c_MAN_RECORD b)
      let entries := ctrlEntries bs
      let dw := ctrlDW bs 1
      (s.get .dom_STATE d ≠ 2 →
        exec (.manGo b) s = .next (({ s with deferred := s.deferred ++ [(d, .manGo b)] } : State).demand d)) ∧
      (s.get .dom_STATE d = 2 →
        (s.get .i3c_ENABLED b = 0 → exec (.manGo b) s = .next s) ∧
        (s.get .i3c_ENABLED b ≠ 0 →
          if s.get .i3c_MAN_BUSY b ≠ 0 then s.Does (.manGo b) s [(.i3c_MAN_OVERRUN, b, 1)]
          else if ctrlReserved bs = true then s.Does (.manGo b) s [(.i3c_MAN_REASON, b, 0x0617)]
          else if entries = [] then s.Does (.manGo b) s [(.i3c_MAN_REASON, b, 0)]
          else if s.get .dom_HELD_OFF d ≠ 0 then s.Does (.manGo b) s [(.i3c_MAN_REASON, b, 0x0C04)]
          else
            s.Does (.manGo b)
              { s with camera := { s.camera with queue := s.camera.queue ++
                [{ bus := b, source := none, entries := entries.map (fun e => (if e.1 then bits dw 4 4 else bits dw 0 4, e.2)) }] } }
              [(.i3c_MAN_GO, b, 1), (.i3c_MAN_BUSY, b, 1)])))

/-! ## Audio and the wake cascade (10) -/

/-- PDM_FRAME_BOUNDARY, BEAM_COMMIT and AWL_HOP. Frame 0 begins at the first boundary while DEV_STATE is RUNNING. At every boundary mode
changes and a pending commit take effect; a step down waits while ACTIVITY is set. Every later boundary also ends a frame: AFN goes up, the
Plumb ring takes the frame of a listening group, and in STATE 2 or 3 the last frame of a block adds it to the low-power ring, and to the
other ring while every frame of it was clean. A hop takes its scores, keeping those of a glance class that did not run; a class hits after
CONSEC hops in a row at its threshold outside its refractory time, and the first that hits is the detection. -/
def Obligations.Audio : Prop :=
  (∀ (f : AudioFrame) (s : State),
    let afn := s.get .rasp_AFN
    let a := s.audio
    let lg := s.get .rasp_LISTEN_GROUP
    let held := fun (g m : Nat) => if s.get .dom_HELD_OFF (115 + g) ≠ 0 then 0 else m
    (a.running = false → s.get .host_DEV_STATE ≠ 1 → exec (.pdmFrameBoundary f) s = .next s) ∧
    let full := ∃ g ∈ s.activeGroups, s.groupMode g = 2
    let takesEffect := fun (u : State) =>
      u.get .rasp_PENDING = 0 ∧ u.jobs = s.jobs ∧
      (s.get .rasp_PENDING = 0 → u.audio.applied = a.applied) ∧
      (s.get .rasp_PENDING ≠ 0 →
        u.get .rasp_COMMIT = 0 ∧ u.get .rasp_BEAM_REASON = s.beamCheck ∧
        (s.beamCheck ≠ 0 → u.get .rasp_BEAM_REFUSED = 1 ∧ u.audio.applied = a.applied) ∧
        (s.beamCheck = 0 → ∀ p ∈ stagedRegs, ∀ i < p.2, u.applied p.1 i = s.get p.1 i)) ∧
      (a.wish = .none → a.starting = false → ∀ g < 4, u.groupMode g = s.groupMode g) ∧
      (a.wish = .none → a.starting = true → u.groupMode lg = held lg 1) ∧
      (a.wish = .up ∨ a.wish = .upThenDown →
        u.audio.wish = (if a.wish = .up then .none else .down) ∧
        (∀ g ∈ s.activeGroups, s.groupMode g ≠ 2 → u.groupMode g = held g 2) ∧
        (a.starting = false → ∀ g ∈ s.activeGroups, s.groupMode g = 2 → u.groupMode g = 2)) ∧
      (a.wish = .down → a.starting = false → ¬full →
        u.audio.wish = .none ∧ u.get .rasp_STEP_DOWN_DEFERRED = 0 ∧ ∀ g < 4, u.groupMode g = s.groupMode g) ∧
      (a.wish = .down → a.starting = false → full → s.get .plumb_ACTIVITY = 0 →
        u.audio.wish = .none ∧ u.get .rasp_STEP_DOWN_DEFERRED = 0 ∧
        ∀ g ∈ s.activeGroups, let m := if g = lg then 1 else 0
          u.groupMode g = if s.groupMode g = m then m else held g m) ∧
      (a.wish = .down → a.starting = false → full → s.get .plumb_ACTIVITY ≠ 0 →
        u.audio.wish = .down ∧ u.get .rasp_STEP_DOWN_DEFERRED = 1 ∧ ∀ g < 4, u.groupMode g = s.groupMode g) ∧
      (a.wish = .off → u.audio.clearing = true ∧ ∀ g < 4, u.groupMode g = 0)
    (a.running = false → s.get .host_DEV_STATE = 1 → lg < 4 →
      ∃ u : State, exec (.pdmFrameBoundary f) s = .next u ∧ takesEffect u ∧ u.get .rasp_AFN = 0 ∧ u.audio.running = true ∧
        u.audio.hqClean = true ∧ u.audio.ring = a.ring ∧ u.memory = s.memory ∧ ∀ i, u.get .peg_COUNT i = s.get .peg_COUNT i) ∧
    (a.running = true → lg < 4 → ∃ u : State, exec (.pdmFrameBoundary f) s = .next u ∧ takesEffect u ∧
      u.get .rasp_AFN = (afn + 1) % 2 ^ 32 ∧
      u.audio.ring =
        (if s.get .casc_ENABLE ≠ 0 ∧ s.groupMode lg ≠ 0 then
          (({ afn := afn, seam := s.settling lg, mode := s.groupMode lg, clips := (s.lpSamples f).2, samples := (s.lpSamples f).1 } : RingFrame)
            :: a.ring).take 2000
        else a.ring) ∧
      (s.get .casc_ENABLE ≠ 0 → s.groupMode lg ≠ 0 → s.settling lg = true →
        u.get .rasp_SEAM_FRAMES = Reg.rasp_SEAM_FRAMES.counted (s.get .rasp_SEAM_FRAMES) 1) ∧
      (a.wish = .none → a.starting = false → ∀ g < 4, Store.get 0 u.audio.settle g = Store.get 0 a.settle g - 1) ∧
      (s.get .casc_STATE < 2 ∨ afn % 16 ≠ 15 → u.memory.ddr = s.memory.ddr ∧ ∀ i, u.get .peg_COUNT i = s.get .peg_COUNT i) ∧
      (2 ≤ s.get .casc_STATE → afn % 16 = 15 → s.refresh = .asleep ∨ s.refresh = .exiting →
        u.memory.ddr = s.memory.ddr ∧ (∀ i, u.get .peg_COUNT i = s.get .peg_COUNT i) ∧
        ∃ l, u.memory.waiting = s.memory.waiting ++ l ∧ l.length = (if a.hqClean = true ∧ s.allFull = true then 2 else 1)) ∧
      (2 ≤ s.get .casc_STATE → afn % 16 = 15 → s.refresh = .active → s.get .casc_LP_PEG ≠ s.get .casc_HQ_PEG →
        u.get .peg_COUNT (s.get .casc_LP_PEG) = (s.get .peg_COUNT (s.get .casc_LP_PEG) + 1) % 2 ^ 32 ∧
        (a.hqClean = true → s.allFull = true →
          u.get .peg_COUNT (s.get .casc_HQ_PEG) = (s.get .peg_COUNT (s.get .casc_HQ_PEG) + 1) % 2 ^ 32) ∧
        (a.hqClean = false ∨ s.allFull = false → u.get .peg_COUNT (s.get .casc_HQ_PEG) = s.get .peg_COUNT (s.get .casc_HQ_PEG))))) ∧
  (∀ s : State, s.running = true →
    (s.get .dom_STATE 119 = 2 → s.Does .beamCommit s [(.rasp_COMMIT, 0, 1), (.rasp_PENDING, 0, 1)]) ∧
    (s.get .dom_STATE 119 ≠ 2 →
      exec .beamCommit s = .next (({ s with deferred := s.deferred ++ [(119, .beamCommit)] } : State).demand 119))) ∧
  (∀ s : State,
    let a := s.audio
    let own := a.net.run s.netInputs
    let glance := a.glanceNet.run s.glanceInputs
    let score := fun (l : List (Nat × Nat)) (c : Nat) => ((l.find? (fun p => p.1 == c)).map (·.2)).getD 0 % 2 ^ 16
    let due := s.get .casc_ENABLE ≠ 0 ∧ s.get .dom_STATE 121 = 2 ∧ s.get .dom_CHANGING 121 = 0 ∧ a.running = true ∧ a.hopRun = false ∧ s.get .plumb_HOP_MS ≤ a.hopFrame + 1
    (¬due → exec (.awlHop ()) s = .next s) ∧
    (due → ∃ u : State, exec (.awlHop ()) s = .next u ∧
      let n := fun c => if s.get .plumbc_THRESH c ≤ u.get .plumbs_SCORE c then Store.get 0 a.runs c + 1 else 0
      let rest := fun c => Store.get 0 a.refractory c
      let hit := fun c => rest c = 0 ∧ bit (s.get .plumb_HIT_CLASSES) c = true ∧ s.get .plumbc_CONSEC c ≤ n c ∧ n c ≠ 0
      let v := u.get .plumbs_SCORE (s.get .plumb_ACT_CLASS)
      let d := s.get .casc_DETECTIONS
      u.get .plumb_HOPS = Reg.plumb_HOPS.counted (s.get .plumb_HOPS) 1 ∧ u.audio.hopRun = true ∧ u.camera.glanceNew = false ∧ u.jobs = s.jobs ∧
      (∀ c < 16, u.get .plumbs_SCORE c =
        if bit a.glanceClasses c = true then (if s.glanceRuns = true then score glance.2 c else s.get .plumbs_SCORE c)
        else score own.2 c) ∧
      u.audio.activations = own.1 ++ (if s.glanceRuns = true then glance.1 else []) ∧
      (∀ c < 16,
        (rest c ≠ 0 → Store.get 0 u.audio.refractory c = rest c - 1 ∧ Store.get 0 u.audio.runs c = 0) ∧
        (hit c → Store.get 0 u.audio.refractory c = s.get .plumbc_REFRACT_HOPS c ∧ Store.get 0 u.audio.runs c = 0) ∧
        (rest c = 0 → ¬hit c → Store.get 0 u.audio.refractory c = 0 ∧ Store.get 0 u.audio.runs c = n c)) ∧
      (s.get .plumb_ACT_ON ≤ v → u.get .plumb_ACTIVITY = 1) ∧
      (v < s.get .plumb_ACT_ON → v < s.get .plumb_ACT_OFF → s.get .plumb_ACT_HANG_HOPS ≤ a.hang + 1 → u.get .plumb_ACTIVITY = 0) ∧
      (v < s.get .plumb_ACT_ON → s.get .plumb_ACT_OFF ≤ v → u.get .plumb_ACTIVITY = s.get .plumb_ACTIVITY ∧ u.audio.hang = 0) ∧
      ((∀ c < 16, ¬hit c) → u.get .casc_DETECTIONS = d ∧ u.get .plumb_HITS = s.get .plumb_HITS ∧ u.audio.waiting = a.waiting) ∧
      (∀ c < 16, hit c → (∀ b < c, ¬hit b) →
        u.get .casc_DETECTIONS = Reg.casc_DETECTIONS.counted d 1 ∧ u.get .plumb_HIT_SEEN = 1 ∧
        u.get .det_CLASS (d % 32) = c ∧ u.get .det_HIT_FRAME (d % 32) = s.get .rasp_AFN % 2 ^ 32 ∧
        u.get .det_REPLAY_FIRST (d % 32) = (s.get .rasp_AFN + 2 ^ 32 - 1499) % 2 ^ 32 ∧
        (s.get .casc_STATE = 3 → u.get .det_OUTCOME (d % 32) = 5 ∧ u.audio.waiting = a.waiting) ∧
        (s.get .casc_STATE = 2 → a.waiting ≠ [] → u.get .det_OUTCOME (d % 32) = 4 ∧ u.audio.waiting = a.waiting ∧
          u.get .casc_HITS_DROPPED = Reg.casc_HITS_DROPPED.counted (s.get .casc_HITS_DROPPED) 1) ∧
        (s.get .casc_STATE = 1 ∨ (s.get .casc_STATE = 2 ∧ a.waiting = []) →
          u.get .det_OUTCOME (d % 32) = 0 ∧ u.audio.waiting = a.waiting ++ [(d, s.get .rasp_AFN)] ∧ u.get .plumb_HIT_PENDING = 1 ∧
          u.audio.causes = a.causes ++ [(1, 1)] ∧
          u.get .peg_COUNT 64 = (s.get .peg_COUNT 64 + 1) % 2 ^ 32))))

/-- CASCADE_ENABLE, CASCADE_DISABLE, CASCADE_CLEARED, RUNG1_JOB_START, RUNG2_JOB_START, RUNG3_JOB_START, RELEASE and RUNG2_HOLD_EXPIRY. An
accepted enable gives the three cascade pegs to the context, WAKE set and nothing served, and is in STATE 1. A rung job starts when its
request waits, no other rung job runs and its bents are ON; it serves its peg, rung 1 after the copy of its replay blocks, rung 2 after the
hits that wait have become ABSORBED. STATE 3 ends with RELEASE or, when the job of rung 2 does not run, with the hold time. -/
def Obligations.Cascade : Prop :=
  ∀ s : State,
    let c := s.get .casc_CONTEXT
    let a := s.audio
    (s.running = true →
      (s.get .casc_ENABLE ≠ 0 → exec .cascadeEnable s = .next s) ∧
      (s.get .casc_ENABLE = 0 → s.cascadeCheck ≠ 0 → s.Does .cascadeEnable s [(.casc_REASON, 0, s.cascadeCheck)]) ∧
      (s.get .casc_ENABLE = 0 → s.cascadeCheck = 0 →
        ∃ u : State, exec .cascadeEnable s = .next u ∧ u.get .casc_ENABLE = 1 ∧ u.get .casc_STATE = 1 ∧ u.get .casc_REASON = 0 ∧
          u.get .casc_DETECTIONS = 0 ∧ u.get .casc_CONFIRMS = 0 ∧ u.get .casc_REJECTS = 0 ∧ u.get .casc_HITS_DROPPED = 0 ∧
          u.get .plumb_HIT_PENDING = 0 ∧ u.get .peg_COUNT (s.get .casc_LP_PEG) = 0 ∧ u.get .peg_COUNT (s.get .casc_HQ_PEG) = 0 ∧
          (∀ i ∈ [64, 65, 66], u.get .peg_ENABLE i = 1 ∧ u.get .peg_CONTEXT i = c % 2 ^ 14 ∧ u.get .peg_WAKE i = 1 ∧
            u.get .peg_COUNT i = 0 ∧ u.get .peg_THRESH i = 1 ∧ u.get .peg_HOST_ACCESS i = 0 ∧ u.get .peg_IRQ_EN i = 0 ∧
            u.get .peg_REMOTE_ACCESS i = (if i = 66 ∧ s.get .casc_RUNG3_EN ≠ 0 then 1 else 0)) ∧
          u.audio = { a with
            ring := [], starting := true, wish := .none, deferred := false, runs := [], refractory := [], hang := 0, waiting := [],
            causes := [], current := 0, currentHit := 0, confirmed := none, lpFirst := 0, hqFirst := 0 } ∧ u.jobs = s.jobs) ∧
      (s.get .casc_ENABLE = 0 → exec .cascadeDisable s = .next s) ∧
      (s.get .casc_ENABLE ≠ 0 → 2 ≤ s.get .casc_STATE ∨ s.rungBusy = true → s.Does .cascadeDisable s [(.casc_REASON, 0, 0x0705)]) ∧
      (s.get .casc_ENABLE ≠ 0 → s.get .casc_STATE < 2 → s.rungBusy = false →
        s.DoesThen .cascadeDisable { s with audio := { a with wish := .off } }
          ([(.casc_ENABLE, 0, 0), (.casc_REASON, 0, 0)] ++ [64, 65, 66].flatMap (fun i =>
            [(.peg_CONTEXT, i, 0), (.peg_TENANT, i, 0)]))
          State.floorRecompute)) ∧
    (a.clearing = false → exec .cascadeCleared s = .next s) ∧
    (a.clearing = true →
      s.Does .cascadeCleared
        { s with
          audio := { a with
            ring := [], clearing := false, hq := [], past := [], activations := [], current := 0, currentHit := 0, runs := [],
            refractory := [] }
          camera := { s.camera with glance := {}, glanceOld := {}, glanceNew := false } }
        [(.casc_STATE, 0, 0)]) ∧
    (∀ env : StartEnv,
      let busy := (∃ x ∈ s.jobs, ∃ n, x.id = .rung n) ∨ s.refresh ≠ .active
      let afn := s.get .rasp_AFN
      let on := s.onBents (s.get .casc_RUNG1_MASK)
      let bent := if s.get .casc_STATE = 2 ∧ a.rungBent ∈ on then some a.rungBent else on.head?
      let first := fun (r : Nat) => a.causes.takeWhile (fun x => x.1 != r) = []
      (a.waiting = [] ∨ on = [] ∨ busy ∨ a.confirmed ≠ none ∨ s.get .casc_STATE = 3 ∨ ¬first 1 →
        exec (.rung1JobStart env) s = .next s) ∧
      (∀ d hit rest b, a.waiting = (d, hit) :: rest → bent = some b → ¬busy → a.confirmed = none →
        s.get .casc_STATE ≠ 3 → first 1 → s.get .peg_IRQ_EN 64 = 0 →
        s.DoesThen (.rung1JobStart env)
          { s with audio := { a with
              waiting := rest, causes := dropCause 1 a.causes, rungBent := b, hqFirst := if s.get .casc_STATE = 1 then s.get .peg_COUNT (s.get .casc_HQ_PEG) else a.hqFirst } }
          ([(.plumb_HIT_PENDING, 0, if rest = [] then 0 else 1), (.peg_THRESH, 64, (s.get .peg_THRESH 64 + 1) % 2 ^ 32), (.casc_STATE, 0, 2)] ++
            (if s.logged d = true then [(.det_DECIDED_FRAME, d % 32, afn % 2 ^ 32), (.det_OUTCOME, d % 32, 1)] else []))
          (fun t => ((t.writes none env.walkMem env.wr (fun u => u.replay d hit)).startRung 1 (s.get .casc_RUNG1_GRAPH) (2 ^ b) d 0xFFFF
            env).showHq.floorRecompute)) ∧
      (∀ d hit, s.refresh = .active →
        let t := s.replay d hit
        let rf := (hit + 2 ^ 32 - 1499) % 2 ^ 32
        let first := rf - rf % 16
        let n := (afn - afn % 16 + 2 ^ 32 - first) % 2 ^ 32 / 16
        let p := s.get .casc_LP_PEG
        t.audio.current = d ∧ t.audio.currentHit = hit ∧ t.audio.lpFirst = s.get .peg_COUNT p ∧ t.audio.ring = a.ring ∧
        (s.get .peg_COUNT p < 2 ^ 32 → t.get .peg_COUNT p = (s.get .peg_COUNT p + n) % 2 ^ 32) ∧
        ((∃ i < 16 * n, s.ringFrame (first + i) = none) → t.get .plumb_REPLAY_SHORT_SEEN = 1 ∧
          (s.logged d = true → t.get .det_REPLAY_SHORT (d % 32) = 1)) ∧
        ((∀ i < 16 * n, s.ringFrame (first + i) ≠ none) ∨ s.logged d = false →
          t.get .det_REPLAY_SHORT (d % 32) = s.get .det_REPLAY_SHORT (d % 32))) ∧
      (∀ (d : Nat), s.logged d = true ↔ s.get .det_DET_SEQ (d % 32) = d % 2 ^ 32) ∧
      (let mask := s.get .casc_RUNG2_MASK
       let edited := (∃ g, s.graph (s.get .casc_RUNG2_GRAPH) = some g ∧ g.bind = .session) ∧ s.editing (s.get .casc_RUNG2_SESSION) = true
       let ready := s.presentIn mask ≠ [] ∧ (s.presentIn mask).all s.bentOn = true ∧ ¬edited
       (a.confirmed = none ∨ ¬ready ∨ busy ∨ ¬first 2 → exec (.rung2JobStart env) s = .next s) ∧
       (∀ d, a.confirmed = some d → ready → ¬busy → first 2 → s.get .peg_IRQ_EN 65 = 0 →
         s.DoesThen (.rung2JobStart env) { s with audio := { a with confirmed := none, causes := dropCause 2 a.causes } }
           [(.peg_THRESH, 65, (s.get .peg_THRESH 65 + 1) % 2 ^ 32), (.casc_STATE, 0, 3)]
           (fun t => (t.absorbWaiting.startRung 2 (s.get .casc_RUNG2_GRAPH) mask d (s.get .casc_RUNG2_SESSION) env).showHq.floorRecompute))) ∧
      (s.absorbWaiting.audio.waiting = [] ∧ s.absorbWaiting.audio.causes = a.causes.filter (fun x => x.1 != 1) ∧ s.absorbWaiting.get .plumb_HIT_PENDING = 0 ∧
        ∀ w ∈ a.waiting, s.logged w.1 = true → s.absorbWaiting.get .det_OUTCOME (w.1 % 32) = 5) ∧
      (let mask := s.get .casc_RUNG3_MASK
       let ready := s.presentIn mask ≠ [] ∧ (s.presentIn mask).all s.bentOn = true
       let asked := s.get .casc_ENABLE ≠ 0 ∧ s.get .casc_RUNG3_EN ≠ 0 ∧ s.reached 66 = true
       (¬asked ∨ ¬ready ∨ busy ∨ ¬first 3 → exec (.rung3JobStart env) s = .next s) ∧
       (asked → ready → ¬busy → first 3 → s.get .peg_IRQ_EN 66 = 0 →
         s.DoesThen (.rung3JobStart env) { s with audio := { a with causes := dropCause 3 a.causes } }
           [(.peg_THRESH, 66, (s.get .peg_THRESH 66 + 1) % 2 ^ 32), (.casc_RUNG3_ACTIVE, 0, 1)]
           (fun t => t.startRung 3 (s.get .casc_RUNG3_GRAPH) mask (s.get .peg_COUNT 66) 0xFFFF env)))) ∧
    (let back := fun (i : Instr) =>
       let wish : StepWish := match a.wish with
         | .off => .off
         | .up => .upThenDown
         | .upThenDown => .upThenDown
         | _ => .down
       s.DoesThen i { s with audio := { a with wish := wish, deferred := false } }
         [(.casc_STATE, 0, 1), (.rasp_HQ_RUNNING, 0, 0)] State.floorRecompute
     (s.running = true → s.get .casc_STATE = 3 → back .release) ∧
     (s.running = true → s.get .casc_STATE ≠ 3 → exec .release s = .next s) ∧
     ((s.job (.rung 2)).isSome = true ∨ s.get .casc_STATE ≠ 3 → exec .rung2HoldExpiry s = .next s) ∧
     (s.job (.rung 2) = none → s.get .casc_STATE = 3 → back .rung2HoldExpiry))

/-! ## The Kertik fabric (11) -/

/-- ROUTE_ENABLE, ROUTE_DISABLE, FABRIC_JOB_ENABLE, FABRIC_JOB_DISABLE and TEST_RULE_ENABLE. A route that an enabled fabric-job entry lists
stays; an accepted fabric-job entry copies its member list and key and starts one control flow to and one from each other member at PSN 0;
its disable is refused while a job of the context is queued or running, and gives its flow records back and erases its key. A test rule that
may not inject keeps EN at 0, and a rule of a port whose domain is not ON waits for it. -/
def Obligations.FabricTables : Prop :=
  ∀ s : State, s.running = true →
    let one := fun (r : Reg) (i : Nat) => (r, i, r.counted (s.get r i) 1)
    (∀ d : Fin 512,
      let valid := (List.range 8).filter (fun p => s.get .routep_VALID (d * 8 + p) != 0)
      let code := if d.val = s.get .fab_DEV_ID then 0x080C
        else if valid = [] ∨ (∃ p ∈ valid, s.get .kport_ENABLED p = 0) ∨ s.get .route_HOPS d = 0 then 0x080D else 0
      (s.get .route_ENABLE d ≠ 0 → exec (.routeEnable d) s = .next s) ∧
      (s.get .route_ENABLE d = 0 → code ≠ 0 → s.Does (.routeEnable d) s [(.route_REASON, d, code)]) ∧
      (s.get .route_ENABLE d = 0 → code = 0 → s.Does (.routeEnable d) s [(.route_ENABLE, d, 1), (.route_REASON, d, 0)]) ∧
      (s.get .route_ENABLE d = 0 → exec (.routeDisable d) s = .next s) ∧
      (s.get .route_ENABLE d ≠ 0 → (∃ m ∈ s.fabric.members, d.val ∈ m.2) → s.Does (.routeDisable d) s [(.route_REASON, d, 0x080E)]) ∧
      (s.get .route_ENABLE d ≠ 0 → (∀ m ∈ s.fabric.members, d.val ∉ m.2) →
        let gone := s.fabric.forwards.filter (fun x => hdrDstDev x.hdr == d.val)
        (gone = [] → s.Does (.routeDisable d) s [(.route_ENABLE, d, 0), (.route_REASON, d, 0)]) ∧
        ∃ u : State, exec (.routeDisable d) s = .next u ∧ u.get .route_ENABLE d = 0 ∧ u.get .route_REASON d = 0 ∧
          u.fabric = { s.fabric with forwards := s.fabric.forwards.filter (fun x => hdrDstDev x.hdr != d.val) } ∧ u.jobs = s.jobs ∧
          ∀ p, let n := (gone.filter (fun x => x.port == p)).length
            n ≠ 0 → u.get .kport_HOP_EXPIRED p = Reg.kport_HOP_EXPIRED.counted (s.get .kport_HOP_EXPIRED p) n)) ∧
    (∀ (c : Fin 16384) (list : List (BitVec 16)),
      let ws := s.memberWords c (list.map (·.toNat))
      let asked := if s.fabricCheck c ws = 0 ∨ 0x0803 ≤ s.fabricCheck c ws then s.askMembers c else s
      let ks := s.get .fjob_KEY_SLOT c
      let key := ((s.jobKeys.find? (fun k => k.1 == ks)).map (·.2)).getD []
      let peers := ws.filter (· != s.get .fab_DEV_ID)
      let f := s.fabric
      let mine := f.flows.filter (fun x => x.ctx == c.val)
      (s.get .fjob_ENABLE c ≠ 0 → exec (.fabricJobEnable c list) s = .next s) ∧
      (s.get .fjob_ENABLE c = 0 → s.fabricCheck c ws ≠ 0 →
        s.Does (.fabricJobEnable c list) asked [(.fjob_REASON, c, s.fabricCheck c ws)]) ∧
      ((∀ h, s.place c (s.get .fjob_MEMBERS c) ≠ some (.host h)) ∨ s.busMaster = false ∨ s.d3hot = true → s.askMembers c = s) ∧
      (∀ h, s.place c (s.get .fjob_MEMBERS c) = some (.host h) → s.busMaster = true → s.d3hot = false →
        let parts := partsBy 512 (h % 2 ^ 64) (2 * (s.get .fjob_NMEMBERS_M1 c + 1))
        s.askMembers c = { s with outbox := s.outbox ++ parts.map (fun p => .hostRead (s.pasidOf c) p.1 p.2) }) ∧
      (s.get .fjob_ENABLE c = 0 → s.fabricCheck c ws = 0 →
        s.DoesThen (.fabricJobEnable c list)
          { asked with fabric := { f with
              members := f.members ++ [(c.val, ws)], keys := f.keys ++ [(c.val, key)],
              flows := f.flows ++ peers.flatMap (fun d =>
                [{ ctx := c, flow := 0xFFFF, peer := d, send := true, rto := s.get .fab_RTO_US },
                 { ctx := c, flow := 0xFFFF, peer := d, send := false }]),
              txc := (List.range 8).foldl (fun m p => Store.put 0 m (c.val * 8 + p) 0) f.txc } }
          [(.wkey_SLOT_STATE, ks, 2), (.fjob_ENABLE, c, 1), (.fjob_STATE, c, 1), (.fjob_REASON, c, 0), (.fjob_RUN, c, 0),
            (.fab_FLOW_RECORDS_FREE, 0, (s.get .fab_FLOW_RECORDS_FREE - 2 * peers.length) % 2 ^ 14), one .fab_ENTRIES_ENABLED 0]
          State.floorRecompute) ∧
      (s.get .fjob_ENABLE c = 0 → exec (.fabricJobDisable c) s = .next s) ∧
      (s.get .fjob_ENABLE c ≠ 0 → s.contextBusy c = true → s.Does (.fabricJobDisable c) s [(.fjob_REASON, c, 0x0807)]) ∧
      (s.get .fjob_ENABLE c ≠ 0 → s.contextBusy c = false →
        s.DoesThen (.fabricJobDisable c)
          { s with
            jobKeys := s.jobKeys.filter (fun x => x.1 != ks)
            fabric := { f with
              flows := f.flows.filter (fun x => x.ctx != c.val), members := f.members.filter (fun m => m.1 != c.val),
              keys := f.keys.filter (fun k => k.1 != c.val) } }
          [(.wkey_SLOT_STATE, ks, 0), (.wkey_SLOT_TENANT, ks, 0), (.wkey_SLOT_FJOB_ID, ks, 0), (.fjob_ENABLE, c, 0), (.fjob_STATE, c, 0),
            (.fjob_REASON, c, 0), (.fab_FLOW_RECORDS_FREE, 0, (s.get .fab_FLOW_RECORDS_FREE + mine.length) % 2 ^ 14),
            (.fab_ENTRIES_ENABLED, 0, (s.get .fab_ENTRIES_ENABLED - 1) % 2 ^ 9)]
          State.floorRecompute)) ∧
    (∀ (p i : Fin 8) (value : Word),
      let k := p.val * 8 + i.val
      let v := value.toNat
      let id := s.get .krule_FJOB_ID k
      let fields := [(Reg.krule_DIR, k, bits v 1 1), (.krule_ACTION, k, bits v 2 2), (.krule_KIND, k, bits v 4 4),
        (.krule_ANY_FLOW, k, bits v 8 1), (.krule_FLOW, k, bits v 16 16)]
      let barred := s.get .fab_INJECT_ALLOWED = 0 ∨ (s.get .wedge_LIFE_CYCLE = 2 ∧ (id = 0 ∨
        ¬∃ c ∈ s.indices .fjob_ENABLE, s.get .fjob_FJOB_ID c = id ∧ s.get .cls_TEST_RULES_EN (s.classOf c) ≠ 0))
      (s.get .dom_STATE (122 + p.val) ≠ 2 →
        exec (.testRuleEnable p i value) s =
          .next (({ s with deferred := s.deferred ++ [(122 + p.val, .testRule p i v)] } : State).demand (122 + p.val))) ∧
      (s.get .dom_STATE (122 + p.val) = 2 → s.get .krule_EN k ≠ 0 → exec (.testRuleEnable p i value) s = .next s) ∧
      (s.get .dom_STATE (122 + p.val) = 2 → s.get .krule_EN k = 0 → barred →
        s.Does (.testRuleEnable p i value) s (fields ++ [(.kport_RULE_REASON, p.val, 0x080B)])) ∧
      (s.get .dom_STATE (122 + p.val) = 2 → s.get .krule_EN k = 0 → ¬barred →
        s.Does (.testRuleEnable p i value)
          { s with fabric := { s.fabric with matched := Store.put 0 s.fabric.matched k 0 } }
          (fields ++ [(.krule_EN, k, 1), (.kport_RULE_REASON, p.val, 0)])))

/-- KERTIK_LINK_UP, KERTIK_LINK_DOWN, KEEPALIVE_TX, PEER_SILENT, KERTIK_DATA_RX, KERTIK_ACK_RX, KERTIK_PEG_RX, KERTIK_KEEPALIVE_RX,
KERTIK_ABORT_RX and REORDER_RELEASE. A link comes up when its lanes suffice, the spare of a DIRECT port standing for one of them. A frame
with a codeword that the FEC could not correct is discarded and counted. Any other frame passes the rows of Table Fabric-5 in their order;
the first that applies disposes of it. A frame that passes them all acts by its KIND. What an acknowledgement or a released frame ends is
settled afterwards. -/
def Obligations.FabricLinks : Prop :=
  ∀ (k : Fin 8) (s : State),
    let one := fun (r : Reg) (i : Nat) => (r, i, r.counted (s.get r i) 1)
    let quiet := (∀ i < 8, s.get .krule_EN (8 * k.val + i) = 0) ∧ s.fabric.held = []
    (∀ bad : List (Fin 5),
      let spare := s.get .kport_SPARE_ASSIGNED k ≠ 0 ∧ s.get .kport_SWITCHED k = 0
      let lanes := (List.range 4).filter (fun l => (bad.map (·.val)).contains l)
      let fails := (spare ∧ 2 ≤ lanes.length + (if 4 ∈ bad then 1 else 0)) ∨ (¬spare ∧ lanes ≠ [])
      let idle := s.get .kport_ENABLED k ≠ 0 ∧ s.get .kport_LINK_UP k = 0 ∧ s.get .dom_HELD_OFF (122 + k.val) = 0
      (¬idle ∨ fails → exec (.kertikLinkUp k bad) s = .next s) ∧
      (idle → ¬fails → lanes = [] →
        s.DoesThen (.kertikLinkUp k bad) s
          [(.kport_SPARE_IN_USE, k, 0), (.kport_REPLACED_LANE, k, 7), (.kport_LINK_UP, k, 1)] State.sendWaiting) ∧
      (∀ l, idle → ¬fails → lanes = [l] →
        s.DoesThen (.kertikLinkUp k bad) s
          [(.kport_SPARE_IN_USE, k, 1), (.kport_REPLACED_LANE, k, l), (.kport_SPARE_SEEN, k, 1), (.kport_LINK_UP, k, 1)]
          State.sendWaiting)) ∧
    (∀ fec : Bool,
      (s.get .kport_LINK_UP k = 0 → exec (.kertikLinkDown k fec) s = .next s) ∧
      (s.get .kport_LINK_UP k ≠ 0 →
        s.Does (.kertikLinkDown k fec) s
          ([(.kport_LINK_UP, k.val, 0), (.kport_LINK_DOWN_SEEN, k, 1), one .kport_RETRAINS k] ++
            (if fec = true then [one .kport_FEC_UNCORRECTED k, (.kport_FEC_UE_SEEN, k.val, 1)] else [])))) ∧
    (s.get .kport_ENABLED k = 0 → exec (.peerSilent k) s = .next s) ∧
    (s.get .kport_ENABLED k ≠ 0 → s.Does (.peerSilent k) s [(.kport_PEER_SILENT, k, 1)]) ∧
    (let sends := s.get .kport_ENABLED k ≠ 0 ∧ s.get .kport_SWITCHED k = 0 ∧ s.get .kport_LINK_UP k ≠ 0
     let known := s.fabric.peers.contains k.val
     let d := s.get .kport_PEER_DEV k
     (¬sends → exec (.keepaliveTx k) s = .next s) ∧
     (sends → quiet →
       let hdr := frameHeader { kind := 3 } false 0 (s.get .fab_DEV_ID) k (if known then d else 0) 0 0 0 0
       let dst := if known then some (d * 8 + s.get .kport_PEER_PORT k) else none
       let mac := s.macHeader k dst
       let zeros : List Byte := List.replicate (64 - 36 - mac.length) 0
       mac.length = (if s.get .kport_VLAN_EN k = 0 then 14 else 18) ∧
       s.Does (.keepaliveTx k)
         { s with outbox := s.outbox ++ [.frame k dst mac hdr zeros (frameCheck (mac ++ toBytes 32 hdr ++ zeros))] }
         [one .kport_TX_FRAMES k])) ∧
    (∀ (f : Frame) (c : Instr) (kind : Nat),
      (c, kind) ∈ [(Instr.kertikDataRx k f, 0), (.kertikAckRx k f, 1), (.kertikPegRx k f, 2), (.kertikKeepaliveRx k f, 3),
        (.kertikAbortRx k f, 4)] →
      let after := fun (t : State) => if kind = 1 then t.settleAll else t
      let h := f.hdr.toNat
      let comes := (hdrKind h = kind ∨ 4 < hdrKind h) ∧ s.get .kport_LINK_UP k ≠ 0
      let fixed : List (Reg × Nat × Nat) := if f.fecCorrected = 0 then []
        else [(.kport_FEC_CORRECTED, k, Reg.kport_FEC_CORRECTED.counted (s.get .kport_FEC_CORRECTED k) f.fecCorrected)]
      let heard := fixed ++ [(.kport_PEER_SILENT, k.val, 0)]
      let foreign := f.dest = .other ∨ (f.dest = .broadcast ∧ s.get .kport_SWITCHED k ≠ 0) ∨ f.etherType.toNat ≠ s.get .fab_ETHERTYPE ∨
        f.macControl = true
      let fits := if kind = 3 then f.payload = [] else 16 ≤ f.raw.length ∧ lengthFits kind (f.raw.length - 16) = true
      let bad := bits h 0 4 ≠ 1 ∨ 4 < hdrKind h ∨ hdrReserved h = true ∨ ¬fits ∨ (f.dest = .broadcast ∧ kind ≠ 3)
      let mine := hdrDstDev h = s.get .fab_DEV_ID
      let way := s.egress (hdrDstDev h) (hdrFjob h) (hdrFlow h)
      let spent := hdrHops h ≤ 1 ∨ s.get .route_ENABLE (hdrDstDev h) = 0
      let onward : Forward := { port := k, hdr := setBits h 12 4 (hdrHops h - 1), payload := f.raw }
      (¬comes → exec c s = .next (after s)) ∧
      (comes → f.fecBad ≠ 0 →
        s.DoesThen c s (fixed ++ [(Reg.kport_FEC_UNCORRECTED, k.val, Reg.kport_FEC_UNCORRECTED.counted (s.get .kport_FEC_UNCORRECTED k) f.fecBad),
          (Reg.kport_FEC_UE_SEEN, k.val, 1)]) after) ∧
      (comes → f.fecBad = 0 → f.fcsOk = false → s.DoesThen c s (heard ++ [one .kport_FCS_ERRORS k]) after) ∧
      (comes → f.fecBad = 0 → f.fcsOk = true → quiet →
        (foreign → s.DoesThen c s (heard ++ [one .kport_FOREIGN_FRAMES k]) after) ∧
        (¬foreign → bad → s.DoesThen c s (heard ++ [one .kport_BAD_HEADERS k]) after) ∧
        (¬foreign → ¬bad → kind ≠ 3 → ¬mine → spent → s.DoesThen c s (heard ++ [one .kport_HOP_EXPIRED k]) after) ∧
        (¬foreign → ¬bad → kind ≠ 3 → ¬mine → ¬spent → way = none →
          s.DoesThen c { s with fabric := { s.fabric with forwards := s.fabric.forwards ++ [onward] } } heard after) ∧
        (∀ q, ¬foreign → ¬bad → kind ≠ 3 → ¬mine → ¬spent → way = some q →
          s.DoesThen c s (heard ++ [one .kport_FORWARDED k])
            (fun t => after (t.txRaw q (some (s.nextHop q (hdrDstDev h))) onward.hdr f.raw))) ∧
        (¬foreign → ¬bad → kind = 3 →
          s.Does c
            { s with fabric := { s.fabric with
                peers := if k.val ∈ s.fabric.peers then s.fabric.peers else s.fabric.peers ++ [k.val] } }
            (heard ++ [(Reg.kport_PEER_DEV, k.val, hdrSrcDev h), (Reg.kport_PEER_PORT, k.val, hdrSrcPort h)])) ∧
        (¬foreign → ¬bad → kind ≠ 3 → mine → s.entryOf (hdrFjob h) = none →
          s.DoesThen c s (heard ++ [one .kport_UNKNOWN_JOB k]) after) ∧
        (∀ x, ¬foreign → ¬bad → kind ≠ 3 → mine → s.entryOf (hdrFjob h) = some x →
          let paired := ∀ j ch, kind = 0 → s.fabricJob x = some j →
            (s.channels j).find? (fun ch => ch.num == hdrFlow h && !ch.send) = some ch → s.channelPeer x ch = hdrSrcDev h
          (hdrSrcDev h ∉ s.members x ∨ ¬paired → s.DoesThen c s (heard ++ [one .kport_UNKNOWN_JOB k]) after) ∧
          (hdrSrcDev h ∈ s.members x → paired → f.raw ≠ protect (s.fabricKey x) h f.payload →
            s.DoesThen c s (heard ++ [one .kport_AUTH_FAILS k, (.kport_AUTH_SEEN, k, 1), one .fjob_AUTH_FAILS x]) after) ∧
          (hdrSrcDev h ∈ s.members x → paired → f.raw = protect (s.fabricKey x) h f.payload → s.DoesThen c s heard (fun t => after (t.rxFlow k x h f.payload))) ∧
          (hdrSrcDev h ∈ s.members x → paired → f.raw = protect (s.fabricKey x) h f.payload →
            let flow := hdrFlow h
            let peer := hdrSrcDev h
            let b := hdrBody h f.payload
            let counted := fun (u : State) => u.get .kport_RX_FRAMES k = Reg.kport_RX_FRAMES.counted (s.get .kport_RX_FRAMES k) 1
            b.run = s.get .fjob_RUN x % 2 ^ 16 →
            (∀ fl, kind ≠ 1 → s.flow x flow peer false = some fl → fl.psn = hdrPsn h → fl.early = [] →
              ∃ u : State, exec c s = .next u ∧ counted u ∧
                (∃ g, u.flow x flow peer false = some g ∧ g.psn = (fl.psn + 1) % 2 ^ 32 ∧ g.early = [] ∧
                  (kind = 0 → g.delivered = fl.delivered + (if b.last = true then 1 else 0) ∧
                    (b.last = false → g.parts = fl.parts ++ [b]))) ∧
                (let i := ofBytes (f.payload.take 4) % 2 ^ 16
                 kind = 2 → f.payload.length = 8 → s.pegOwned i x = true → s.get .peg_REMOTE_ACCESS i ≠ 0 →
                 u.get .peg_COUNT i = (if bit (ofBytes (f.payload.take 4)) 16 = true then ofBytes (f.payload.drop 4)
                   else s.get .peg_COUNT i + ofBytes (f.payload.drop 4)) % 2 ^ 32) ∧
                (∀ j, kind = 4 → s.fabricJob x = some j → s.job j.id = some j → j.fault = 0 → j.finished = false →
                  (u.job j.id).map (·.fault) = some 0x0810)) ∧
            (∀ fl, kind = 1 → s.flow x flow peer true = some fl → s.fabricJob x = none →
              ∃ u g : _, exec c s = .next (State.settleAll u) ∧ counted u ∧ u.flow x flow peer true = some g ∧ g.psn = fl.psn ∧
                ∀ w ∈ g.unacked, hasReached 32 w.psn (hdrPsn h) = true))))) ∧
    (let first := s.fabric.held.find? (fun h => h.port == k.val)
     (first = none → exec (.reorderRelease k) s = .next s.settleAll) ∧
     (∀ h, first = some h →
       let u : State := { s with fabric := { s.fabric with held := s.fabric.held.erase h } }
       (∀ f, h.frame = some f → exec (.reorderRelease k) s = .next (u.rxChecks k f).settleAll) ∧
       (h.frame = none →
         let mac := s.macHeader k h.dst
         s.DoesThen (.reorderRelease k)
           { u with outbox := s.outbox ++ [.frame k h.dst mac h.hdr h.payload (frameCheck (mac ++ toBytes 32 h.hdr ++ h.payload))] }
           [one .kport_TX_FRAMES k] State.settleAll)))

/-- What an authenticated frame does to its flow (Table Fabric-5 rows 8 to 11): a frame of an earlier run, one received already and one
below the cumulative point are acknowledged again and dropped; one 256 or more above it is dropped; the next in order moves the cumulative
point and acts: a remote peg operation on a peg that allows it sets or adds to COUNT, and any other is counted as refused. An
acknowledgement ends every frame that it covers and carries a credit. -/
def Obligations.FabricFlows : Prop :=
  (∀ (p c h : Nat) (payload : List Byte) (s : State),
    let one := fun (r : Reg) (i : Nat) => (r, i, r.counted (s.get r i) 1)
    let flow := hdrFlow h
    let peer := hdrSrcDev h
    let psn := hdrPsn h
    let b := hdrBody h payload
    let run := s.get .fjob_RUN c % 2 ^ 16
    let past := flow ≠ 0xFFFF ∧ runEarlier b.run run = true
    (b.kind = 1 → past → s.Writes (s.rxFlow p c h payload) [one .kport_DUPLICATES p]) ∧
    (b.kind = 1 → ¬past → ∃ u : State, s.Writes u [one .kport_RX_FRAMES p] ∧ s.rxFlow p c h payload = u.ackRx c flow peer psn payload) ∧
    let later := runEarlier run b.run = true
    let early := b.kind = 2 ∧ b.runb = true ∧ later
    let closed := ∃ u : State, s.Writes u [one .kport_DUPLICATES p] ∧ s.rxFlow p c h payload = u.ackClosed c flow peer psn
    let beyond := flow ≠ 0xFFFF ∧ later
    (b.kind ≠ 1 → past → closed) ∧
    (b.kind ≠ 1 → ¬past → beyond → early → s.Writes (s.rxFlow p c h payload) [one .kport_EARLY_PEG p]) ∧
    (b.kind ≠ 1 → ¬past → beyond → ¬early → s.Writes (s.rxFlow p c h payload) [one .kport_DUPLICATES p]) ∧
    (b.kind ≠ 1 → ¬past → ¬beyond → s.flow c flow peer false = none → closed) ∧
    (∀ f, b.kind ≠ 1 → ¬past → ¬beyond → s.flow c flow peer false = some f →
      let d := (psn + 2 ^ 32 - f.psn) % 2 ^ 32
      let old := 2 ^ 31 ≤ d ∨ ∃ e ∈ f.early, e.1 = psn
      (old → ∃ u : State, s.Writes u [one .kport_DUPLICATES p] ∧ s.rxFlow p c h payload = u.sendAck c flow peer false) ∧
      (¬old → 256 ≤ d → s.Writes (s.rxFlow p c h payload) [one .kport_DUPLICATES p]) ∧
      (¬old → d < 256 → early → s.Writes (s.rxFlow p c h payload) [one .kport_EARLY_PEG p]) ∧
      (¬old → d < 256 → ¬early →
        ∃ u : State, s.Writes u [one .kport_RX_FRAMES p] ∧ s.rxFlow p c h payload = u.acceptFrame c flow peer psn b)) ∧
    (∀ f, s.flow c flow peer false = some f → f.psn = psn → f.early = [] →
      ((s.acceptFrame c flow peer psn b).flow c flow peer false).map (·.psn) = some ((psn + 1) % 2 ^ 32))) ∧
  (∀ (c : Nat) (op : List Byte) (s : State),
    let one := fun (r : Reg) (i : Nat) => (r, i, r.counted (s.get r i) 1)
    let i := ofBytes (op.take 4) % 2 ^ 16
    let v := ofBytes (op.drop 4)
    let allowed := s.pegOwned i c = true ∧ s.get .peg_REMOTE_ACCESS i ≠ 0
    (¬allowed → s.Writes (s.remotePegOp c op) [one .pstore_PEG_REMOTE_REFUSED 0]) ∧
    (allowed → (s.remotePegOp c op).get .pstore_PEG_REMOTE_IN = Reg.pstore_PEG_REMOTE_IN.counted (s.get .pstore_PEG_REMOTE_IN) 1 ∧
      (s.remotePegOp c op).get .peg_COUNT i =
        (if bit (ofBytes (op.take 4)) 16 = true then v else s.get .peg_COUNT i + v) % 2 ^ 32)) ∧
  (∀ (c run : Nat) (s : State),
    (∀ j, s.fabricJob c = some j → s.get .fjob_RUN c % 2 ^ 16 = run → j.fault = 0 → j.finished = false →
      ∃ u : State, s.Writes u [(.fab_PEER_ABORTS, 0, Reg.fab_PEER_ABORTS.counted (s.get .fab_PEER_ABORTS) 1), (.fab_ABORT_SEEN, 0, 1)] ∧
        s.peerAbort c run = u.faultJob j.id 0x0810) ∧
    (s.fabricJob c = none ∨ s.get .fjob_RUN c % 2 ^ 16 ≠ run → s.peerAbort c run = s)) ∧
  (∀ (c flow peer cum : Nat) (payload : List Byte) (f : Flow) (s : State), s.flow c flow peer true = some f → s.fabricJob c = none →
    let sack := ofBytes (payload.take 8)
    let dw3 := ofBytes (payload.drop 12)
    let got := fun (p : Nat) => !hasReached 32 p cum ||
      (p != cum && decide ((p + 2 ^ 32 - cum) % 2 ^ 32 ≤ 64) && bit sack ((p + 2 ^ 32 - cum) % 2 ^ 32 - 1))
    let left := f.unacked.filter (fun u => !got u.psn)
    ∃ g, (s.ackRx c flow peer cum payload).flow c flow peer true = some g ∧
        g.unacked.map (fun u => (u.psn, u.body)) = left.map (fun u => (u.psn, u.body)) ∧ g.psn = f.psn ∧
        (sack = 0 → bit dw3 16 = false → (∀ u ∈ f.unacked, u.sent = true) → g.unacked = left) ∧
        (left.length < f.unacked.length → g.rto = s.get .fab_RTO_US) ∧
        ((∃ u ∈ f.unacked, hasReached 32 u.psn cum = false) → g.advanced = s.now) ∧
        g.credit = (if flow ≠ 0xFFFF ∧ dw3 % 2 ^ 16 = s.get .fjob_RUN c % 2 ^ 16 then ofBytes ((payload.drop 8).take 4) else f.credit))

/-- KERTIK_DATA_TX, ACK_DELAY_EXPIRY, RTO_EXPIRY, FLOW_TIMEOUT and BARRIER_ARRIVE. A channel sends the next frame of the tile that it may
consume, within its credit and its window of 256 frames; the frame stays until it is acknowledged. Stale send requests that come in are
discarded and counted. A frame goes out on the port that R337 chooses, and waits while no port is up. The retransmission time doubles up to
1 ms, and the frames that were sent longest ago go out again. A flow that does not advance fails with the job of its run. -/
def Obligations.FabricSends : Prop :=
  (∀ (c : Fin 16384) (chan : Fin 256) (env : SendEnv) (s₀ : State),
    let s := s₀.dropAll env.late
    let job := s.fabricJob c
    (job = none → exec (.kertikDataTx c chan env) s₀ = .next s) ∧
    (∀ j ch f r, job = some j → (s.channels j).find? (fun ch => ch.num == chan.val && ch.send) = some ch →
      s.flow c chan (s.channelPeer c ch) true = some f → s.regionRef j ch.region = some r →
      let held := j.finished = true ∨ f.credit ≤ f.tile ∨ 256 ≤ f.unacked.length ∨ s.mayConsume r f.tile = false
      (held ∨ s.tileAt r f.tile = none → exec (.kertikDataTx c chan env) s₀ = .next s) ∧
      (∀ t, ¬held → s.tileAt r f.tile = some t →
        let lines := fun (n y : Nat) =>
          n == r.bent && decide (r.tileLine f.tile ≤ y) && decide (y < r.tileLine f.tile + t.desc.lenLines)
        let read := if f.block = 0 then s.loftRead lines env.loft else (s, 0)
        let desc := if read.2 = 0 then t.desc else { t.desc with poison := true, reason := read.2, lenLines := 0 }
        let all := if desc.poison = true ∨ desc.skipped = true then []
          else codedBlocks (s.on .froe_COMP_OFF || r.defn.protect || t.guarded) (s.tileData r f.tile)
        let head := if f.block = 0 then desc.encode else []
        let rest := all.drop f.block
        let n := fitBlocks (4144 - head.length) rest
        let last := decide (rest.length ≤ n)
        exec (.kertikDataTx c chan env) s₀ =
          .next ((read.1.sendOn c chan (s.channelPeer c ch)
            { kind := 0, first := f.block == 0, last := last, run := s.get .fjob_RUN c, block := f.block, tile := f.tile,
              payload := head ++ (rest.take n).flatten }).updFlow c chan (s.channelPeer c ch) true (fun f =>
                if last then { f with tile := f.tile + 1, block := 0 } else { f with block := f.block + n })) ∧
        ∃ (u : State) (g : Flow), exec (.kertikDataTx c chan env) s₀ = .next u ∧ u.flow c chan (s.channelPeer c ch) true = some g ∧
          g.psn = (f.psn + 1) % 2 ^ 32 ∧ g.unacked.length = f.unacked.length + 1 ∧ g.credit = f.credit ∧
          (g.tile, g.block) = (if last = true then (f.tile + 1, 0) else (f.tile, f.block + n))))) ∧
  (∀ (c flow d : Nat) (b : FrameBody) (f : Flow) (s : State), s.flow c flow d true = some f →
    ∃ g, (s.sendOn c flow d b).flow c flow d true = some g ∧ g.psn = (f.psn + 1) % 2 ^ 32 ∧
      let sent := decide (f.unacked.length < 256) && (s.egress d (s.get .fjob_FJOB_ID c) flow).isSome
      g.unacked = f.unacked ++ [{ psn := f.psn, body := b, sent := sent, once := sent, time := s.now }]) ∧
  (∀ (c flow d psn : Nat) (b : FrameBody) (retx : Bool) (s : State),
    let fjob := s.get .fjob_FJOB_ID c
    (s.egress d fjob flow = none → s.txFrame c flow d psn b retx = (s, false)) ∧
    (∀ p, s.egress d fjob flow = some p → (∀ i < 8, s.get .krule_EN (8 * p + i) = 0) → s.fabric.held = [] →
      let txc := Store.get 0 s.fabric.txc (c * 8 + p)
      let hdr := frameHeader b retx (s.get .route_HOPS d) (s.get .fab_DEV_ID) p d flow fjob psn txc
      let key := ((s.fabric.keys.find? (fun k => k.1 == c)).map (·.2)).getD []
      let mac := s.macHeader p (some (s.nextHop p d))
      let bytes := protect key hdr b.payload
      bytes.length = b.payload.length + 16 ∧
      ∃ u : State, s.txFrame c flow d psn b retx = (u, true) ∧
        u.outbox = s.outbox ++
          [.frame p (some (s.nextHop p d)) mac hdr bytes (frameCheck (mac ++ toBytes 32 hdr ++ bytes))] ∧
        Store.get 0 u.fabric.txc (c * 8 + p) = txc + 1 ∧ u.fabric.flows = s.fabric.flows ∧
        u.get .kport_TX_FRAMES p = Reg.kport_TX_FRAMES.counted (s.get .kport_TX_FRAMES p) 1 ∧
        u.get .kport_RETRANSMITS p =
          (if retx = true then Reg.kport_RETRANSMITS.counted (s.get .kport_RETRANSMITS p) 1 else s.get .kport_RETRANSMITS p) ∧
        u.get .fjob_RETRANSMITS c =
          (if retx = true then Reg.fjob_RETRANSMITS.counted (s.get .fjob_RETRANSMITS c) 1 else s.get .fjob_RETRANSMITS c))) ∧
  (∀ (c : Fin 16384) (i : Nat) (s : State),
    let one := fun (r : Reg) (i : Nat) => (r, i, r.counted (s.get r i) 1)
    let failed := [one .fjob_FLOWS_FAILED c, one .fab_FLOWS_FAILED 0, (.fab_FLOW_FAIL_SEEN, 0, 1)]
    ((∀ f, s.nthFlow c i false = some f → f.unackedRx = 0) → exec (.ackDelayExpiry c i) s = .next s) ∧
    (∀ f, s.nthFlow c i false = some f → f.unackedRx ≠ 0 → exec (.ackDelayExpiry c i) s = .next (s.sendAck c f.flow f.peer false)) ∧
    ((∀ f, s.nthFlow c i true = some f → f.unacked.all (fun u => !u.sent)) → exec (.rtoExpiry c i) s = .next s) ∧
    (∀ f x, s.nthFlow c i true = some f → x ∈ f.unacked → x.sent = true → (∀ y ∈ f.unacked, y.sent = true → x.time ≤ y.time) →
      exec (.rtoExpiry c i) s =
        .next ((f.unacked.filter (fun y => y.sent && y.time == x.time)).foldl (fun s y => s.resend c f.flow f.peer y)
          (s.updFlow c f.flow f.peer true (fun f => { f with rto := min 1000 (2 * f.rto) })))) ∧
    ((∀ f, s.nthFlow c i true = some f → f.unacked = []) → exec (.flowTimeout c i) s = .next s) ∧
    (∀ f, s.nthFlow c i true = some f → f.unacked ≠ [] →
      (s.fabricJob c = none → s.Does (.flowTimeout c i) s failed) ∧
      (∀ j, s.fabricJob c = some j → s.DoesThen (.flowTimeout c i) s failed (·.faultJob j.id 0x080F)))) ∧
  (∀ (c : Fin 16384) (s : State),
    (s.fabricJob c = none → exec (.barrierArrive c) s = .next s.settleAll) ∧
    (∀ j, s.fabricJob c = some j → s.job j.id = some j →
      let sent := ∀ f ∈ s.fabric.flows, f.ctx = c.val → f.send = true → f.flow ≠ 0xFFFF → ∀ u ∈ f.unacked, u.body.kind ≠ 0
      let next := (s.jobBarriers j).zipIdx.find? (fun x => s.atBarrier j x.1 x.2)
      let root := (s.members c).getD 0 0
      (next = none ∨ ¬sent → exec (.barrierArrive c) s = .next s.settleAll) ∧
      (∀ b k, next = some (b, k) → sent →
        let g := Store.get 0 j.barriers k + 1
        ∃ u : State, exec (.barrierArrive c) s = .next u.settleAll ∧
          (root ≠ s.get .fab_DEV_ID →
            u.waits = s.waits ++ [{ peg := j.pegBase + b.release, target := g, job := some j.id, who := .release k g }]) ∧
          (root = s.get .fab_DEV_ID → s.pegOwned (j.pegBase + b.arrive) c = true → j.pegBase + b.arrive < 65536 →
            u.waits = s.waits ++
              [{ peg := j.pegBase + b.release, target := g, job := some j.id, who := .release k g },
               { peg := j.pegBase + b.arrive, target := g * (s.members c).length, job := some j.id, who := .arrive k g }] ∧
            u.get .peg_COUNT (j.pegBase + b.arrive) = (s.get .peg_COUNT (j.pegBase + b.arrive) + 1) % 2 ^ 32) ∧
          (u.job j.id).map (fun x => Store.get 0 x.barriers k) = some g)) ∧
    (∀ (j : Job) (b : BarrierDef) (k : Nat),
      s.atBarrier j b k = true ↔ j.finished = false ∧
        (∀ w ∈ s.waits, w.job = some j.id → ∀ i, w.who ≠ .release k i) ∧
        ∃ ops, b.after[Store.get 0 j.barriers k]? = some ops ∧ ∀ o ∈ ops, o.2 ≤ j.tilesDone o.1))

/-! ## Wedge (12) -/

/-- KEY_GO, KEY_DELIVERY_DONE, KEY_ERASE, KEYDIG_GO and LC_GO. A delivery is checked once at a time; its outcome is in KEY_REASON and the
window is zeroed. An accepted record fills its slot, and the 4,096th fingerprint rotates the KEM key. A LOADED slot is erased, a slot in use
is not. A digest is programmed only in the state that allows it and only once a slot. A life-cycle request that is accepted is in OTP at
once. Whether a tag or a token verifies comes with the command the first time, and the same bytes give the same again, which is the model's
own choice (log entry 12). -/
def Obligations.KeysAndLifeCycle : Prop :=
  ∀ s : State,
    let one := fun (r : Reg) (i : Nat) => (r, i, r.counted (s.get r i) 1)
    let w := s.wedge
    let o := w.otp
    let lc := s.get .wedge_LIFE_CYCLE
    let stopped := s.get .host_DEV_STATE ≠ 0 ∧ s.get .host_DEV_STATE ≠ 2 ∧ s.get .pwr_COOLANT_STOP ≠ 0
    let taken := ¬(s.boot.phase = .halted ∧ lc = 4) ∧ ¬stopped
    (∀ e : Byte, taken →
      (s.get .wedge_KEY_BUSY ≠ 0 → s.Does (.keyGo e) s [(.wedge_ERASE_SLOT, 0, e.toNat)]) ∧
      (s.get .wedge_KEY_BUSY = 0 → s.Does (.keyGo e) s [(.wedge_ERASE_SLOT, 0, e.toNat), (.wedge_KEY_BUSY, 0, 1)]) ∧
      (s.get .wkey_SLOT_STATE e.toNat = 0 → s.Does (.keyErase e) s [(.wedge_ERASE_SLOT, 0, e.toNat), (.wedge_KEY_REASON, 0, 0)]) ∧
      (s.get .wkey_SLOT_STATE e.toNat = 1 →
        s.Does (.keyErase e) { s with jobKeys := s.jobKeys.filter (fun x => x.1 != e.toNat) }
          [(.wedge_ERASE_SLOT, 0, e.toNat), (.wedge_KEY_REASON, 0, 0), (.wkey_SLOT_STATE, e.toNat, 0), (.wkey_SLOT_TENANT, e.toNat, 0),
            (.wkey_SLOT_FJOB_ID, e.toNat, 0)]) ∧
      (2 ≤ s.get .wkey_SLOT_STATE e.toNat →
        s.Does (.keyErase e) s [(.wedge_ERASE_SLOT, 0, e.toNat), (.wedge_KEY_REASON, 0, 0x0908)])) ∧
    (∀ tagOk : Bool,
      let ok := s.tagOutcome tagOk
      let seen : State := { s with known := { s.known with tags := (w.dk, s.get .wedge_KEY_WINDOW, ok) :: s.known.tags } }
      let code := s.keyCheck ok
      let slot := ofBytes (s.keyWindow 12 1)
      let key := s.unwrap
      let prints := w.fingerprints ++ [fingerprint key]
      let ends := [(Reg.wedge_KEY_BUSY, 0, 0), (.wedge_KEY_REASON, 0, code), (.wedge_KEY_WINDOW, 0, 0)]
      let accepted := fun (k : State → State) =>
        s.DoesThen (.keyDeliveryDone tagOk)
          { seen with
            jobKeys := s.jobKeys.filter (fun x => x.1 != slot) ++ [(slot, key)]
            wedge := { w with fingerprints := prints } }
          (ends ++ [(.wkey_SLOT_STATE, slot, 1), (.wkey_SLOT_TENANT, slot, bits (ofBytes (s.keyWindow 12 4)) 8 12),
            (.wkey_SLOT_FJOB_ID, slot, ofBytes (s.keyWindow 16 4) % 2 ^ 32), one .wedge_KEYS_ACCEPTED 0]) k
      (s.get .wedge_KEY_BUSY = 0 → exec (.keyDeliveryDone tagOk) s = .next s) ∧
      (s.get .wedge_KEY_BUSY ≠ 0 → code ≠ 0 →
        s.Does (.keyDeliveryDone tagOk) seen (ends ++ [one .wedge_KEYS_REFUSED 0, (.wedge_KEY_REFUSED_SEEN, 0, 1)])) ∧
      (s.get .wedge_KEY_BUSY ≠ 0 → code = 0 → prints.length < 4096 → accepted id) ∧
      (s.get .wedge_KEY_BUSY ≠ 0 → code = 0 → 4096 ≤ prints.length →
        accepted (fun t => (t.newKem (s.get .wedge_KEM_EPOCH + 1)).set .wedge_KEM_ROTATED 0 1)) ∧
      ((∀ x ∈ s.known.tags, x.1 ≠ w.dk ∨ x.2.1 ≠ s.get .wedge_KEY_WINDOW) → ok = tagOk) ∧
      (∀ (u : State) (given : Bool), u.known = seen.known → u.wedge.dk = w.dk → u.get .wedge_KEY_WINDOW = s.get .wedge_KEY_WINDOW →
        u.tagOutcome given = ok)) ∧
    (∀ epoch : Nat,
      let u := s.newKem epoch
      u.get .wedge_KEM_EPOCH = epoch % 2 ^ 32 ∧ u.get .wedge_KEM_READY = 1 ∧ u.get .wedge_CERT_READY = 0 ∧ u.wedge.fingerprints = [] ∧
        u.wedge.queue = w.queue.filter (· != .cert) ++ [.cert] ∧ u.get .wedge_QUEUE = u.wedge.queue.length % 2 ^ 5 ∧
        u.wedge.ek.length = 1184 ∧ u.wedge.dk.length = 2400 ∧ u.wedge.otp = o) ∧
    (∀ slot : Fin 4, s.boot.phase ≠ .halted → s.get .host_DEV_STATE = 0 ∨ (s.get .host_DEV_STATE = 1 ∧ s.get .pwr_COOLANT_STOP = 0) →
      let digest := toBytes 32 (s.get .start_KEYDIG)
      let keys := o.keys ++ [(slot.val, digest)]
      (lc ≠ 1 ∨ (∃ p ∈ o.keys, p.1 = slot.val) →
        s.Does (.keydigGo slot) s [(.start_KEYDIG_SLOT, 0, slot), (.start_KEYDIG_REASON, 0, 0x011B)]) ∧
      (lc = 1 → (∀ p ∈ o.keys, p.1 ≠ slot.val) →
        s.Does (.keydigGo slot) { s with wedge := { w with otp := { o with keys := keys } } }
          [(.start_KEYDIG_SLOT, 0, slot), (.start_KEYDIG_REASON, 0, 0), (.start_KEY_PROGRAMMED, 0, listMask (keys.map (·.1)) % 2 ^ 4),
            (.wedge_SERIAL_LO, 0, serial % 2 ^ 32), (.wedge_SERIAL_HI, 0, serial / 2 ^ 32), (.wedge_RETURNS_LEFT, 0, o.returns % 2 ^ 2),
            (.start_MIN_SVN, 0, o.minSvn % 2 ^ 16), (.start_SVN_WRITES_LEFT, 0, o.svnWrites % 2 ^ 6),
            (.start_KEY_REVOKED, 0, listMask o.revoked % 2 ^ 4)])) ∧
    (∀ (target : BitVec 3) (confirm : BitVec 12) (tokenOk : Bool), taken →
      let dst := target.toNat
      let ok := s.tokenOutcome tokenOk
      let seen : State := { s with known := { s.known with tokens := (s.get .wedge_LC_TOKEN, ok) :: s.known.tokens } }
      let code := s.lcCheck dst confirm.toNat ok
      let asked := [(Reg.wedge_LC_TARGET, 0, dst), (.wedge_LC_CONFIRM, 0, confirm.toNat), (.wedge_LC_REASON, 0, code)]
      let returns := if lc = 3 ∧ dst = 2 then o.returns - 1 else o.returns
      let secret := if lc = 0 then (List.range 32).map (fun i => BitVec.ofNat 8 (Config.freeValue s.free i))
        else if dst = 4 then List.replicate 32 0xFF else o.secret
      ((∀ x ∈ s.known.tokens, x.1 ≠ s.get .wedge_LC_TOKEN) → ok = tokenOk) ∧
      (∀ (u : State) (given : Bool), u.known = seen.known → u.get .wedge_LC_TOKEN = s.get .wedge_LC_TOKEN → u.tokenOutcome given = ok) ∧
      (code ≠ 0 → s.Does (.lcGo target confirm tokenOk) seen asked) ∧
      (code = 0 →
        s.Does (.lcGo target confirm tokenOk)
          { seen with
            free := if lc = 0 then s.free + 1 else s.free
            wedge := { w with otp := { o with lifeCycle := dst, secret := secret, returns := returns } } }
          (asked ++ [(.wedge_LC_NEXT, 0, dst), (.wedge_RETURNS_LEFT, 0, returns % 2 ^ 2)]))) ∧
    (∀ (dst confirm : Nat) (ok : Bool), s.lcCheck dst confirm ok = 0 ↔
      s.get .wedge_LC_NEXT = 7 ∧ s.indices .ten_STATE = [] ∧
        ((lc = 0 ∧ dst = 1) ∨
         (ok = true ∧ s.tokenHeader lc dst = true ∧ ((lc = 1 ∧ dst = 2) ∨ (lc = 2 ∧ dst = 3) ∨ (lc = 3 ∧ dst = 2 ∧ o.returns ≠ 0))) ∨
         (1 ≤ lc ∧ lc ≤ 3 ∧ dst = 4 ∧ confirm = 0xDEC)))

/-- ATTEST_GO, ATTEST_SIGN_START, ATTEST_SIGN_DONE, KEM_CERT_SIGN_DONE and BUF_FREE. A request that passes its check is queued with the
nonce as it stands at the write. In DECOMMISSIONED it is refused with the code that R383 names for that state, which is the model's choice
(log entry 88). Items are signed one at a time, in order, over a body taken as the signing starts. A finished report is in its buffer,
READY, and adds 1 to peg 80; a certificate is readable when it is still that of the current epoch. Only a READY buffer is freed. -/
def Obligations.Attestation : Prop :=
  ∀ s : State,
    let one := fun (r : Reg) (i : Nat) => (r, i, r.counted (s.get r i) 1)
    let w := s.wedge
    let stopped := s.get .host_DEV_STATE ≠ 0 ∧ s.get .host_DEV_STATE ≠ 2 ∧ s.get .pwr_COOLANT_STOP ≠ 0
    let taken := ¬(s.boot.phase = .halted ∧ s.get .wedge_LIFE_CYCLE = 4) ∧ ¬stopped
    (∀ value : Word, taken →
      let b := bits value.toNat 0 3
      let named := bit value.toNat 3
      let t := bits value.toNat 4 12
      let code := if s.get .wedge_LIFE_CYCLE = 0 ∨ 3 < s.get .wedge_LIFE_CYCLE then 0x0904 else if s.get .wbuf_BUF_STATE b ≠ 0 then 0x0902
        else if named = true ∧ s.get .ten_STATE t ≠ 1 then 0x0903 else if 16 ≤ (w.queue.filter (· != .cert)).length then 0x0901 else 0
      let asked := [(Reg.wedge_BUF, 0, b), (.wedge_TENANT_VALID, 0, if named = true then 1 else 0), (.wedge_TENANT, 0, t),
        (.wedge_ATTEST_REASON, 0, code)]
      (code ≠ 0 → s.Does (.attestGo value) s (asked ++ [(.wedge_ATTEST_REFUSED_SEEN, 0, 1)])) ∧
      (code = 0 →
        s.Does (.attestGo value)
          { s with wedge := { w with queue := w.queue ++
            [.report b (toBytes 32 (s.get .wedge_NONCE)) (if named = true then some t else none)] } }
          (asked ++ [(.wbuf_BUF_STATE, b, 1), (.wedge_QUEUE, 0, (w.queue.length + 1) % 2 ^ 5)]))) ∧
    (∀ value : Word, s.boot.phase = .halted → s.get .wedge_LIFE_CYCLE = 4 →
      s.Does (.attestGo value) s [(.wedge_ATTEST_REASON, 0, 0x0904), (.wedge_ATTEST_REFUSED_SEEN, 0, 1)]) ∧
    (w.signing ≠ none ∨ w.queue = [] → exec .attestSignStart s = .next s) ∧
    (∀ b n t rest, w.signing = none → w.queue = .report b n t :: rest →
      s.Does .attestSignStart { s with wedge := { w with queue := rest, signing := some (.report b n t, s.reportBody n t) } }
        [(.wbuf_BUF_STATE, b, 2), (.wedge_QUEUE, 0, rest.length % 2 ^ 5)]) ∧
    (∀ rest, w.signing = none → w.queue = .cert :: rest →
      s.Does .attestSignStart { s with wedge := { w with queue := rest, signing := some (.cert, s.certBody) } }
        [(.wedge_QUEUE, 0, rest.length % 2 ^ 5)]) ∧
    ((∀ b n t body, w.signing ≠ some (.report b n t, body)) → exec .attestSignDone s = .next s) ∧
    (∀ b n t body, w.signing = some (.report b n t, body) →
      s.DoesThen .attestSignDone { s with wedge := { w with signing := none } }
        [(.wrep_REPORT, b, ofBytes (body ++ slhSign w.identity "QX-ATTEST" body) % 2 ^ Reg.wrep_REPORT.width), (.wbuf_BUF_STATE, b, 3),
          one .wedge_ATTESTS 0] (·.pegAdd 80 1)) ∧
    ((∀ body, w.signing ≠ some (.cert, body)) → exec .kemCertSignDone s = .next s) ∧
    (∀ body, w.signing = some (.cert, body) →
      let u : State := { s with wedge := { w with signing := none } }
      (body ≠ s.certBody → exec .kemCertSignDone s = .next u) ∧
      (body = s.certBody →
        s.Does .kemCertSignDone u
          [(.wedge_KEM_CERT, 0, ofBytes (body ++ slhSign w.identity "QX-KEMCERT" body) % 2 ^ Reg.wedge_KEM_CERT.width),
            (.wedge_CERT_READY, 0, 1)])) ∧
    (∀ b : Fin 8, taken →
      (s.get .wbuf_BUF_STATE b = 3 → s.Does (.bufFree b) s [(.wbuf_BUF_STATE, b, 0)]) ∧
      (s.get .wbuf_BUF_STATE b ≠ 3 → exec (.bufFree b) s = .next s)) ∧
    (∀ n t, (s.reportBody n t).length = 512) ∧ s.certBody.length = 1248

/-! ## Flash, resets and start-up (14, 18) -/

/-- ERASE, PROGRAM, READ, VERIFY, COMMIT and CANCEL with UPD_GO, and UPD_DONE. A write while an operation runs is an overrun; otherwise the
check of the operation decides. An operation that succeeds erases its slot, programs its bytes, fills the staging buffer, or writes the copy
of the directory that is not in force; one that the flash fails ends with 0x0117. What a failed operation leaves in its bytes is open. -/
def Obligations.ImageUpdates : Prop :=
  (∀ (slot : Fin 2) (area : Fin 4) (s : State), s.boot.phase ≠ .halted →
    s.get .host_DEV_STATE = 0 ∨ (s.get .host_DEV_STATE = 1 ∧ s.get .pwr_COOLANT_STOP = 0) →
    ∀ c op, (c, op) ∈ [(Instr.eraseSlot slot area, 1), (.program slot area, 2), (.readFlash slot area, 3), (.verify slot area, 4),
      (.commit slot area, 5), (.cancel slot area, 6)] →
      let asked := [(Reg.start_UPD_OP, 0, op), (.start_UPD_SLOT, 0, slot.val), (.start_UPD_AREA, 0, area.val)]
      let n := s.get .start_UPD_BYTES
      let at0 := s.get .start_UPD_OFFSET
      let sized := 1 ≤ n ∧ n ≤ 65536
      let running := op ≤ 4 ∧ area.val = 0 ∧ slot.val = s.get .start_RUN_SLOT ∧ s.get .host_DEV_STATE = 1
      let inRange :=
        if op = 1 then area.val = 0
        else if op = 2 then area.val = 0 ∧ at0 % 256 = 0 ∧ sized ∧ at0 + n ≤ slotBytes s.flash.size
        else if op = 3 then (area.val = 0 → slot.val = s.get .start_STAGED_SLOT) ∧ sized ∧ at0 + n ≤ s.flash.areaBytes area
        else if op = 4 then area.val = 0 ∧ slot.val = s.get .start_STAGED_SLOT
        else True
      let inState := (op = 5 → s.get .start_UPDATE_STATUS = 2) ∧ (op = 6 → s.get .start_UPDATE_STATUS = 3)
      (s.get .start_UPD_BUSY ≠ 0 → s.Does c s (asked ++ [(.start_UPD_OVERRUN, 0, 1)])) ∧
      (s.get .start_UPD_BUSY = 0 → running → s.Does c s (asked ++ [(.start_UPD_REASON, 0, 0x0118)])) ∧
      (s.get .start_UPD_BUSY = 0 → ¬running → ¬inRange → s.Does c s (asked ++ [(.start_UPD_REASON, 0, 0x0119)])) ∧
      (s.get .start_UPD_BUSY = 0 → ¬running → inRange → ¬inState → s.Does c s (asked ++ [(.start_UPD_REASON, 0, 0x011A)])) ∧
      (s.get .start_UPD_BUSY = 0 → ¬running → inRange → inState →
        s.DoesThen c { s with boot := { s.boot with update := some { op := op, slot := slot, area := area, offset := at0, bytes := n } } }
          (asked ++ [(.start_UPD_BUSY, 0, 1)]) (·.demand 146))) ∧
  (∀ (ok : Bool) (check : SlotCheck) (s : State),
    (s.boot.update = none ∨ s.get .dom_STATE 146 ≠ 2 → exec (.updDone ok check) s = .next s) ∧
    (∀ u, s.boot.update = some u → s.get .dom_STATE 146 = 2 →
      (ok = true → s.DoesThen (.updDone ok check) { s with boot := { s.boot with update := none } }
        [(.start_UPD_BUSY, 0, 0), (.start_UPD_REASON, 0, 0)] (fun t => (t.updateEffect u check).shutdownStart)) ∧
      (ok = true → ∃ t : State, exec (.updDone ok check) s = .next t ∧ t.boot.update = none ∧ t.get .start_UPD_BUSY = 0 ∧
        (u.op = 1 → t.flash = s.flash.setSlot u.slot [] ∧ t.get .start_UPDATE_STATUS = 0) ∧
        (u.op = 2 → t.get .start_UPDATE_STATUS = 0 ∧ t.get .start_STAGED_SLOT = u.slot % 2) ∧
        (u.op = 3 → t.flash = s.flash ∧ t.staging = Mem.writeBytes 0 s.staging 0 (s.flash.bytes u.area u.slot u.offset u.bytes)) ∧
        (u.op = 4 → t.flash = s.flash ∧ t.wedge.stagedSvn = s.flash.svn u.slot ∧
          (t.get .start_UPDATE_STATUS = 2 ↔ t.get .start_UPD_REASON = 0)) ∧
        (u.op = 5 → t.flash = s.flash.dirWrite (s.get .start_STAGED_SLOT) true 3 ∧ t.get .start_UPDATE_STATUS = 3) ∧
        (u.op = 6 → t.flash = s.flash.dirWrite (s.get .start_RUN_SLOT) false 0 ∧ t.get .start_UPDATE_STATUS = 2)) ∧
      (ok = false → ∃ t : State, exec (.updDone ok check) s = .next t.shutdownStart ∧ t.boot.update = none ∧ t.get .start_UPD_BUSY = 0 ∧
        t.get .start_UPD_REASON = 0x0117 ∧ t.get .start_FLASH_ERRORS = Reg.start_FLASH_ERRORS.counted (s.get .start_FLASH_ERRORS) 1 ∧
        (u.op < 3 → t.get .start_UPDATE_STATUS = 0 ∧ t.get .wedge_STAGED_DIGEST = 0) ∧
        t.wedge = s.wedge ∧ t.flash.health = s.flash.health ∧ t.flash.records = s.flash.records))) ∧
  (∀ (u : Update) (check : SlotCheck) (s : State),
    let t := s.updateEffect u check
    let f := s.flash
    let staged := t.get .start_UPDATE_STATUS = 0 ∧ t.get .start_STAGED_SLOT = u.slot % 2 ∧ t.get .wedge_STAGED_DIGEST = 0
    (u.op = 1 → t.flash = f.setSlot u.slot [] ∧ staged) ∧
    (u.op = 2 → Mem.wf 0xFF (f.slot u.slot) = true →
      staged ∧ (∀ a, a < u.offset ∨ u.offset + u.bytes ≤ a → Mem.read 0xFF (t.flash.slot u.slot) a = Mem.read 0xFF (f.slot u.slot) a) ∧
      ∀ i < u.bytes, let old := Mem.read 0xFF (f.slot u.slot) (u.offset + i)
        let new := Mem.read 0 s.staging i
        old &&& new = new → Mem.read 0xFF (t.flash.slot u.slot) (u.offset + i) = new) ∧
    (u.op = 3 → t.flash = f ∧ t.regs = s.regs ∧ t.staging = Mem.writeBytes 0 s.staging 0 (f.bytes u.area u.slot u.offset u.bytes)) ∧
    (u.op = 4 → t.flash = f ∧ t.wedge.stagedSvn = f.svn u.slot ∧
      (f.lengthOk u.slot = true → t.get .wedge_STAGED_DIGEST = ofBytes (f.digest u.slot) % 2 ^ 256) ∧
      let v := if f.lengthOk u.slot = true then s else (s.random 32).2
      let c := v.slotCheck u.slot check
      let code := (v.seeSlot u.slot c).startHealth.imageCheck u.slot c
      (code = 0 → t.get .start_UPDATE_STATUS = 2 ∧ t.get .start_UPD_REASON = 0) ∧
      (code ≠ 0 → t.get .start_UPDATE_STATUS = 1 ∧ t.get .start_UPD_REASON = code % 2 ^ 16) ∧
      (∀ (x : State) (given : SlotCheck), x.known = t.known → x.flash = f → x.slotCheck u.slot given = c)) ∧
    (u.op = 5 → t.flash = f.dirWrite (s.get .start_STAGED_SLOT) true 3 ∧ t.get .start_UPDATE_STATUS = 3) ∧
    (u.op = 6 → t.flash = f.dirWrite (s.get .start_RUN_SLOT) false 0 ∧ t.get .start_UPDATE_STATUS = 2))

/-- PORST_N_ASSERT, PORST_N_RELEASE, WARM_RST_N_ASSERT, WARM_RST_N_RELEASE, RESTART and START_UP_COMPLETE. PORST_N returns everything to its
reset value but OTP, the flash, what lies outside the device and the model's record of what checks came out as (log entry 12); WARM_RST_N
leaves Wedge's block and the fields of the shadow store. A release samples the straps and reads OTP; BLANK and DECOMMISSIONED go no further;
otherwise the slots are tried in the order of the directory, and start-up ends in a slot whose check reads 0 or fails with both outcomes
shown. START_UP_COMPLETE makes DEV_STATE RUNNING. -/
def Obligations.StartUp : Prop :=
  (∀ s : State,
    (s.boot.phase = .reset → exec .porstNAssert s = .next s) ∧
    (s.boot.phase ≠ .reset → s.boot.update = none →
      exec .porstNAssert s =
        .next { State.reset with
          pending := s.pending, now := s.now, free := s.free, flash := s.flash, outbox := s.outbox, pins := s.pins,
          memory := { host := s.memory.host }, wedge := { otp := s.wedge.otp }, known := s.known }) ∧
    (s.boot.phase ≠ .reset → ∃ u : State, exec .porstNAssert s = .next u ∧ (∀ r i, u.get r i = r.resetAt i) ∧ u.wedge.otp = s.wedge.otp ∧
      u.memory.host = s.memory.host ∧ u.memory.ddr = [] ∧ u.flash.health = s.flash.health ∧ u.flash.records = s.flash.records ∧
      u.jobs = [] ∧ u.boot.phase = .reset) ∧
    (s.boot.phase = .reset ∨ s.boot.phase = .warm → exec .warmRstNAssert s = .next s) ∧
    (s.boot.phase ≠ .reset → s.boot.phase ≠ .warm → ∃ u : State, exec .warmRstNAssert s = .next u ∧ u.boot.phase = .warm ∧
      u.get .wedge_START_UP = 1 ∧ u.get .wedge_STAGED_DIGEST = 0 ∧ u.get .clk_DOMAINS_ON = 1 ∧ u.get .clk_DOMAINS_OFF = 151 ∧
      u.get .dom_STATE 144 = 2 ∧ u.wedge.otp = s.wedge.otp ∧ u.memory.ddr = [] ∧ u.jobs = [] ∧
      u.clippedHigh = s.clippedHigh ∧ u.histHigh = s.histHigh ∧
      (∀ r ∈ [Reg.wedge_LIFE_CYCLE, .wedge_BOOT_ID, .wedge_KEM_EPOCH, .wedge_QUEUE, .wedge_IDENT_PK, .pwr_COOLANT_STOP, .pwr_THERMAL_TRIP,
        .host_ACCESS_ERRORS, .pwr_CAP_UNMET_MS], ∀ i, u.get r i = s.get r i) ∧
      (∀ r ∈ [Reg.ten_ENABLE, .ctx_ENABLE, .peg_ENABLE, .rgn_ENABLE, .job_ENABLE, .host_DEV_STATE, .cam_ENABLE, .ring_ENABLE, .wkey_SLOT_STATE],
        ∀ i, u.get r i = r.resetAt i))) ∧
  (∀ (straps : BitVec 9) (env : BootEnv) (c : Instr) (cold : Bool) (s : State),
    (c, cold) ∈ [(Instr.porstNRelease straps env, true), (.warmRstNRelease straps env, false)] →
    let lc := if cold = true then s.wedge.otp.lifeCycle % 2 ^ 3 else s.get .wedge_LIFE_CYCLE
    let waits := s.boot.phase = (if cold = true then .reset else .warm)
    (¬waits → exec c s = .next s) ∧
    (waits → ∃ u : State, exec c s = .next u ∧ u.get .fab_DEV_ID = straps.toNat ∧ u.get .pwr_COOLANT_OK = (if env.coolant = true then 1 else 0) ∧
      u.get .wedge_LIFE_CYCLE = lc ∧ u.get .wedge_SERIAL_LO = serial % 2 ^ 32 ∧ u.get .start_MIN_SVN = s.wedge.otp.minSvn % 2 ^ 16 ∧
      u.get .dom_STATE 144 = 2 ∧ u.wedge.otp = s.wedge.otp ∧ u.boot.since = s.now ∧
      (lc = 0 ∨ lc = 4 → u.boot.phase = .halted ∧ u.flash = s.flash) ∧
      (lc ≠ 0 → lc ≠ 4 → flashSize env.flash = none → u.boot.phase = .failed ∧ u.get .start_START_FAILED = 1 ∧ u.get .start_START_REASON = 0x0117) ∧
      (∀ k : Fin 4, lc ≠ 0 → lc ≠ 4 → flashSize env.flash = some k → u.get .start_FLASH_SIZE = k.val ∧
        ((u.boot.phase = .failed ∧ u.get .start_START_FAILED = 1 ∧ u.get .start_START_REASON = 0x0115 ∧
            u.get .start_SLOT0_REASON ≠ 0 ∧ u.get .start_SLOT1_REASON ≠ 0) ∨
         (u.boot.phase = .ready ∧ u.get .start_START_FAILED = 0 ∧ u.get .wedge_START_UP = 0 ∧ u.get .wedge_KEM_EPOCH = 1 ∧
            ((u.get .start_RUN_SLOT = 0 ∧ u.get .start_SLOT0_REASON = 0) ∨ (u.get .start_RUN_SLOT = 1 ∧ u.get .start_SLOT1_REASON = 0))))))) ∧
  (∀ (env : BootEnv) (s : State), s.boot.phase ≠ .halted → s.get .host_DEV_STATE = 0 →
    (s.get .start_START_FAILED = 0 → exec (.restart env) s = .next s) ∧
    (s.get .start_START_FAILED ≠ 0 → ∃ u : State, exec (.restart env) s = .next u ∧ u.get .start_UPD_BUSY = 0 ∧ u.boot.since = s.now ∧
      u.boot.update = none ∧ u.get .wedge_BOOT_ID = s.get .wedge_BOOT_ID ∧ u.wedge.otp = s.wedge.otp ∧
      (flashSize env.flash = none → u.boot.phase = .failed ∧ u.get .start_START_REASON = 0x0117) ∧
      (flashSize env.flash ≠ none → u.boot.phase = .failed ∨ u.boot.phase = .ready))) ∧
  (∀ s : State,
    let held := s.boot.phase ≠ .ready ∨ s.get .pwr_COOLANT_STOP ≠ 0 ∨ s.boot.lastResort = true ∨ s.boot.sillLost = true ∨ s.boot.update ≠ none
    let sl := s.get .start_RUN_SLOT
    let dir := s.flash.dirInForce
    (held → exec .startUpComplete s = .next s) ∧
    (¬held → ∃ u : State, exec .startUpComplete s = .next u ∧ u.boot.phase = .running ∧ u.get .host_DEV_STATE = 1 ∧ u.get .froe_OFF_START_UP = 0 ∧
      u.get .froe_COMP_OFF = (if s.get .froe_OFF_SELF_TEST ≠ 0 ∨ s.get .froe_OFF_RECOVERY ≠ 0 then 1 else 0) ∧
      u.get .start_START_MS = min 0xFFFF ((s.now - s.boot.since) / 614400) ∧ u.get .rec_LR_ACTED = 0 ∧ u.jobs = s.jobs ∧
      u.flash.nextRecord = s.flash.nextRecord + 1 ∧ u.flash.slot0 = s.flash.slot0 ∧ u.flash.slot1 = s.flash.slot1 ∧
      (s.flash.dirCopy ≠ 2 → (dir.2.1 = false ∨ dir.1 ≠ sl) → u.flash.directory = s.flash.directory ∧ u.wedge = s.wedge) ∧
      (s.flash.dirCopy = 2 → u.flash.directory = (s.flash.dirWrite sl false 0).directory ∧ u.wedge = s.wedge) ∧
      (s.flash.dirCopy ≠ 2 → dir.2.1 = true → dir.1 = sl →
        u.flash.directory = (s.flash.dirWrite sl false 0).directory ∧
        u.wedge.otp.minSvn = (if s.boot.svnLock = true ∧ s.wedge.otp.minSvn < s.get .start_RUN_SVN ∧ 0 < s.wedge.otp.svnWrites
          then s.get .start_RUN_SVN else s.wedge.otp.minSvn))))

/-! ## Domains and wakes (15) -/

/-- DOMAIN_ENTRY_REQUEST, IDLE_RET_EXPIRY, IDLE_OFF_EXPIRY, DOMAIN_ISOLATE, DOMAIN_ENTRY_DONE, DOMAIN_EXIT_REQUEST, DOMAIN_EXIT_DONE,
WAKE_PEG, WAKE_ACTIVITY, WAKE_DEMAND, WAKE_HOST_LINK, WAKE_GLANCE_TIMER, WAKE_POWER_EVENT, WAKE_I3C_IBI and WAKE_CSI_SOT. A domain goes
lower only when nothing holds it; STATE takes TARGET at the end of an entry, and is ON at the end of an exit, where the writes that waited
take effect. An exit takes the parents along. A wake leaves its record and its counts; of the wakes of one cycle the lowest code is recorded
(that one cycle is one value of the model's time, and that a lower code that comes later replaces the record, is the model's reading, log
entry 52). An edge in the first cycles of an entry is lost. -/
def Obligations.DomainsAndWakes : Prop :=
  ∀ s : State,
    let up := s.foremanUp = true
    let k := s.clocks
    (∀ d : Fin 152,
      let idle := s.policy.idle.any (fun p => p.1 == d.val)
      let lowers := fun (c : Instr) (off : Bool) (asked : Prop) =>
        let target := if off = true then 0 else 1
        let goes := up ∧ asked ∧ s.get .dom_CHANGING d = 0 ∧ target < s.get .dom_STATE d ∧ s.mayLower d off = true
        (goes → s.Does c s [(.dom_TARGET, d.val, target), (.dom_CHANGING, d, 1)]) ∧ (¬goes → exec c s = .next s)
      (∀ off, lowers (.domainEntryRequest d off) off True) ∧
      lowers (.idleRetExpiry d) false (idle = true) ∧ lowers (.idleOffExpiry d) true (idle = true) ∧
      (∀ off, s.mayLower d off = true → d.val ∉ s.alwaysOn ∧ ownSteps d = false ∧ ¬(off = true ∧ d.val = 150) ∧
        ∀ c < 152, d.val ∈ domParents c → s.get .dom_TARGET c ≤ (if off = true then 0 else 1)) ∧
      (let below := ∀ c ∈ domChildren d, s.get .dom_STATE c ≤ s.get .dom_TARGET d
       let goes := s.get .dom_CHANGING d ≠ 0 ∧ s.get .dom_TARGET d < s.get .dom_STATE d ∧ s.isolated d = false ∧ s.drained d = true
       (goes → below →
         exec (.domainIsolate d) s =
           .next { s with clocks := { k with isolated := k.isolated ++ [(d.val, s.now)], latched := k.latched.filter (· != d.val) } }) ∧
       (¬goes ∨ ¬below → exec (.domainIsolate d) s = .next s)) ∧
      (s.isolated d = false → exec (.domainEntryDone d) s = .next s) ∧
      (s.isolated d = true →
        ∃ u : State, exec (.domainEntryDone d) s = .next u ∧ u.get .dom_STATE d = s.get .dom_TARGET d % 4 ∧ u.isolated d = false ∧
          d.val ∉ u.clocks.latched ∧ u.jobs.map (·.id) = s.jobs.map (·.id) ∧ u.memory = s.memory ∧
          (d.val ∉ k.latched → u.get .dom_TARGET d = s.get .dom_TARGET d % 4 ∧ u.get .dom_CHANGING d = 0) ∧
          (s.get .dom_TARGET d = 1 → u.lofts = s.lofts ∧ u.jobs = s.jobs) ∧
          (∀ p n, s.get .dom_TARGET d = 0 → 18 ≤ d.val → domBent d = some p → s.logicalOf p = some n →
            u.lofts.data = s.lofts.data.filter (fun x => x.1 / 2 ^ 26 != n) ∧ u.lofts.tiles = s.lofts.tiles.filter (fun t => t.bent != n))) ∧
      (¬up → exec (.domainExitRequest d) s = .next s) ∧
      (up →
        ∃ u : State, exec (.domainExitRequest d) s = .next u ∧ u.memory = s.memory ∧ u.jobs = s.jobs ∧
          ∀ e < 152, let on := e = d.val ∨ e ∈ domAncestors 5 d
            (¬on ∨ s.get .dom_HELD_OFF e ≠ 0 → u.get .dom_TARGET e = s.get .dom_TARGET e ∧ u.get .dom_CHANGING e = s.get .dom_CHANGING e) ∧
            (on → s.get .dom_HELD_OFF e = 0 → e < 55 ∨ 66 < e →
              (s.isolated e = false → u.get .dom_TARGET e = 2) ∧ (s.isolated e = true → e ∈ u.clocks.latched))) ∧
      (let goes := s.get .dom_CHANGING d ≠ 0 ∧ s.get .dom_TARGET d = 2 ∧ s.get .dom_STATE d ≠ 2 ∧
         ∀ e ∈ domParents d, s.get .dom_STATE e = 2 ∧ s.isolated e = false
       (¬goes → exec (.domainExitDone d) s = .next s) ∧
       (goes →
         ∃ t : State, exec (.domainExitDone d) s = .next (t.applyDeferred d) ∧ t.get .dom_STATE d = 2 ∧ t.get .dom_TARGET d = 2 ∧
           t.get .dom_CHANGING d = 0 ∧ t.demands = s.demands.filter (· != d.val) ∧ t.deferred = s.deferred ∧
           t.get .dom_TRANSITIONS d = Reg.dom_TRANSITIONS.counted (s.get .dom_TRANSITIONS d) 1 ∧ t.memory = s.memory ∧ t.jobs = s.jobs ∧
           (d.val = 150 → t.get .clk_MAIN_LOCKED = 1 ∧ t.get .clk_CK_CTL_ON_REF = 0 ∧
             (s.get .dom_STATE d = 1 → t.get .clk_MAIN_RELOCKS = Reg.clk_MAIN_RELOCKS.counted (s.get .clk_MAIN_RELOCKS) 1)))) ∧
      ((∀ p ∈ s.deferred, p.1 ≠ d.val) → s.applyDeferred d = s)) ∧
    (∀ (src arg : Nat) (ds : List Nat), src < 9 →
      let u := s.wake src arg ds
      let recorded := u.get .clk_LAST_SRC = src ∧ u.get .clk_LAST_LEVEL = (if src < 7 then 1 else 0) ∧ u.get .clk_LAST_ARG = arg % 2 ^ 16 ∧
        u.get .clk_WAKE_SEEN = 1 ∧ u.clocks.lastWake = some (s.now, src) ∧
        (∀ d, s.lowestBrought ds = some d → u.get .clk_LAST_DOMAIN = d % 2 ^ 8)
      u.get .wsrc_WAKES_SRC src = Reg.wsrc_WAKES_SRC.counted (s.get .wsrc_WAKES_SRC src) 1 ∧ u.jobs = s.jobs ∧ u.memory = s.memory ∧
        ((∀ c, k.lastWake ≠ some (s.now, c)) →
          recorded ∧ u.get .clk_WAKE_SEQ = Reg.clk_WAKE_SEQ.counted (s.get .clk_WAKE_SEQ) 1) ∧
        (∀ c, k.lastWake = some (s.now, c) → u.get .clk_WAKE_SEQ = s.get .clk_WAKE_SEQ ∧ (src < c → recorded) ∧
          (c ≤ src → ∀ r ∈ [Reg.clk_LAST_SRC, .clk_LAST_LEVEL, .clk_LAST_ARG, .clk_LAST_DOMAIN, .clk_WAKE_SEEN], u.get r = s.get r))) ∧
    (∀ i : Fin 65536,
      let asks := up ∧ s.get .peg_WAKE i ≠ 0 ∧ s.reached i = true
      (¬asks → exec (.wakePeg i) s = .next s) ∧
      (asks → i.val < 64 ∨ 66 < i.val → exec (.wakePeg i) s = .next (s.wake 1 i [])) ∧
      (asks → 64 ≤ i.val → i.val ≤ 66 →
        let rung := i.val - 63
        (s.rungBents rung = none → exec (.wakePeg i) s = .next ((s.wake 1 i []).rungPowerFails rung)) ∧
        (∀ ns, s.rungBents rung = some ns →
          let short := s.get .pwr_COOLANT_STOP ≠ 0 ∨ (ns ≠ [] ∧ s.bentOverCap = true)
          (short → rung = 3 → exec (.wakePeg i) s = .next (s.wake 1 i [])) ∧
          (short → rung ≠ 3 → exec (.wakePeg i) s = .next ((s.wake 1 i []).rungPowerFails rung)) ∧
          (¬short → exec (.wakePeg i) s = .next (s.wake 1 i (s.bentsUp ns ++ rangeFrom 55 12)))))) ∧
    exec .wakeActivity s = .next (if s.foremanUp && s.get .plumb_ACTIVITY != 0 then s.wake 2 0 [] else s) ∧
    (∀ d : Fin 152,
      (¬up ∨ d.val ∉ s.demands → exec (.wakeDemand d) s = .next s) ∧
      (up → d.val ∈ s.demands →
        exec (.wakeDemand d) s = .next (({ s with demands := s.demands.filter (· != d.val) } : State).wake 3 d [d.val]))) ∧
    (∀ m : Fin 2,
      (up → s.get .dom_STATE (147 + m.val) = 1 → exec (.wakeHostLink m) s = .next (s.wake 4 m [147, 148, 149])) ∧
      (¬up ∨ s.get .dom_STATE (147 + m.val) ≠ 1 → exec (.wakeHostLink m) s = .next s)) ∧
    (up → s.camera.glanceDue = true →
      exec .wakeGlanceTimer s = .next (s.wake 5 0 [69, 85 + s.get .cam_PORT (s.get .jnt_GLANCE_SRC)])) ∧
    (¬up ∨ s.camera.glanceDue = false → exec .wakeGlanceTimer s = .next s) ∧
    (¬up ∨ s.power.events = [] → exec .wakePowerEvent s = .next s) ∧
    (∀ a rest, up → s.power.events = a :: rest →
      exec .wakePowerEvent s = .next (({ s with power := { s.power with events := rest } } : State).wake 6 a
        (if a = 4 then s.servingDomains else []))) ∧
    (∀ (src arg d : Nat) (c : Instr) (heard : Prop),
      (∃ b : Fin 24, c = .wakeI3cIbi b ∧ src = 7 ∧ arg = b.val ∧ d = 111 + b.val / 6 ∧ (heard ↔ up)) ∨
      (∃ p : Fin 24, c = .wakeCsiSot p ∧ src = 8 ∧ arg = p.val ∧ d = 85 + p.val ∧ (heard ↔ (up ∧ s.portStreams p ≠ []))) →
      let cycle := if s.get .clk_CK_CTL_ON_REF = 0 then 2 else 25
      let entry := k.isolated.find? (fun p => p.1 == d)
      (¬heard → exec c s = .next s) ∧
      (heard → entry = none → s.get .dom_STATE d = 1 → exec c s = .next (s.wake src arg [d])) ∧
      (heard → entry = none → s.get .dom_STATE d ≠ 1 → exec c s = .next s) ∧
      (∀ p, heard → entry = some p →
        (s.now < p.2 + 4 * cycle ∨ s.get .dom_TARGET d ≠ 1 → exec c s = .next s) ∧
        (p.2 + 4 * cycle ≤ s.now → s.get .dom_TARGET d = 1 → exec c s = .next (s.wake src arg [d]))))

/-! ## Power, clocks, temperature and SMBus (11, 15, 16, 18) -/

/-- CLOCK_FAULT, MAIN_PLL_RELOCK, REFERENCE_ABSENT, POWER_SAMPLE, CONTROL_PERIOD, OP_CHANGE, OP_CHANGE_DONE, DROOP_FIRE, STRETCH_END,
TEMP_SAMPLE, COOLANT_OK_FALL, COOLANT_RESUME, FILLER_START, FILLER_LIMIT_EXPIRY, CAP_HOST_WRITE and the ten SMBus commands. A period above
the cap raises OP_LIMIT to 5 and then lowers DUTY, which shows in every bent's THROTTLED; below 0.95 of it, after ten quiet periods, it goes
back. Where no source sets a cap there is none (log entry 51). A cap outside 20 to 1,000 W or below the floor is refused. A coolant stop
faults every job and takes the links down. An SMBus read answers its bytes, or is not acknowledged. -/
def Obligations.PowerAndClocks : Prop :=
  ∀ s : State,
    let one := fun (r : Reg) (i : Nat) => (r, i, r.counted (s.get r i) 1)
    let k := s.clocks
    let p := s.power
    let up := s.foremanUp = true
    (s.get .dom_STATE 150 = 2 → k.stopped = false →
      s.Does .clockFault { s with clocks := { k with stopped := true } }
        [one .clk_CLOCK_FAULTS 0, (.clk_CLOCK_FAULT_SEEN, 0, 1), (.clk_MAIN_LOCKED, 0, 0)]) ∧
    (s.get .dom_STATE 150 ≠ 2 ∨ k.stopped = true → exec .clockFault s = .next s) ∧
    (k.stopped = true → s.Does .mainPllRelock { s with clocks := { k with stopped := false } } [(.clk_MAIN_LOCKED, 0, 1)]) ∧
    (k.stopped = false → exec .mainPllRelock s = .next s) ∧
    (s.get .clk_REF_OK ≠ 0 → s.Does .referenceAbsent { s with boot := { s.boot with sillLost := true } } [(.clk_REF_OK, 0, 0)]) ∧
    (s.get .clk_REF_OK = 0 → exec .referenceAbsent s = .next s) ∧
    (∀ w : BitVec 16,
      let l := (w.toNat :: p.samples).take 100
      s.Does (.powerSample w) { s with power := { p with samples := l } }
        [(.pwr_PWR_1MS, 0, (l.take 10).sum / (l.take 10).length % 2 ^ 16), (.pwr_PWR_10MS, 0, l.sum / l.length % 2 ^ 16)]) ∧
    (let cap := s.get .pwr_CAP_EFFECTIVE * 8
     let now := s.get .pwr_PWR_1MS
     let limit := s.get .pwr_OP_LIMIT
     let duty := s.get .pwr_DUTY
     let capped := cap ≠ 0
     let beyond := capped ∧ cap < now
     let quiet := (¬capped ∨ now * 1000 < cap * 950) ∧ 10 ≤ p.quiet
     (¬up → exec .controlPeriod s = .next s) ∧
     (up → limit ≤ 5 → duty ≤ 16 → ∃ u : State, exec .controlPeriod s = .next u ∧ u.jobs = s.jobs ∧ u.memory = s.memory ∧
       (let unmet := beyond ∧ limit = 5
        (unmet → u.get .pwr_CAP_UNMET = 1 ∧ u.power.unmet = p.unmet + 1 ∧
          u.get .pwr_CAP_UNMET_MS = Reg.pwr_CAP_UNMET_MS.counted (s.get .pwr_CAP_UNMET_MS) 1 ∧
          ((p.unmet + 1) % 100 = 0 → bit (s.get .pwr_PARKED_CLASSES) 3 = false →
            u.get .pwr_PARKED_CLASSES = (s.get .pwr_PARKED_CLASSES ||| 8) % 2 ^ 4 ∧
            u.get .pwr_PARK_EVENTS = Reg.pwr_PARK_EVENTS.counted (s.get .pwr_PARK_EVENTS) 1)) ∧
        (¬unmet → u.get .pwr_CAP_UNMET = 0 ∧ u.power.unmet = 0 ∧ u.get .pwr_CAP_UNMET_MS = s.get .pwr_CAP_UNMET_MS)) ∧
       (beyond → limit < 5 → u.get .pwr_OP_LIMIT = limit + 1 ∧ u.get .pwr_DUTY = duty ∧ u.power.quiet = 0) ∧
       (beyond → limit = 5 → 2 < duty → u.get .pwr_OP_LIMIT = limit ∧ u.get .pwr_DUTY = duty - 1 ∧ u.power.quiet = 0 ∧
         ∀ n < 8, u.get .bent_THROTTLED n = 1) ∧
       (beyond → limit = 5 → duty ≤ 2 → u.get .pwr_OP_LIMIT = limit ∧ u.get .pwr_DUTY = duty ∧ u.power.quiet = p.quiet + 1) ∧
       (quiet → duty < 16 → s.get .pwr_TEMP_HIGH = 0 → u.get .pwr_OP_LIMIT = limit ∧ u.get .pwr_DUTY = duty + 1 ∧
         ∀ n < 8, u.get .bent_THROTTLED n = (if duty = 15 then 0 else 1)) ∧
       (quiet → duty < 16 → s.get .pwr_TEMP_HIGH ≠ 0 → u.get .pwr_OP_LIMIT = limit ∧ u.get .pwr_DUTY = duty) ∧
       (quiet → duty = 16 → u.get .pwr_OP_LIMIT = limit - 1 ∧ u.get .pwr_DUTY = duty) ∧
       (¬beyond → ¬quiet → u.get .pwr_OP_LIMIT = limit ∧ u.get .pwr_DUTY = duty ∧ u.power.quiet = p.quiet + 1))) ∧
    (∀ (n : Fin 8) (op : Fin 6),
      let pref := match s.prefOp n with | some o => [(Reg.pwrb_PREF_OP, n.val, o % 2 ^ 3)] | none => []
      let moves := up ∧ s.get .bent_PWR n = 2 ∧ (∀ x ∈ p.changing, x.1 ≠ n.val) ∧ op.val ≠ s.get .bent_OP n ∧ op.val = s.opWanted n
      (moves → s.Does (.opChange n op) { s with power := { p with changing := p.changing ++ [(n.val, op.val)] } } pref) ∧
      (¬moves → s.Does (.opChange n op) s pref) ∧
      ((∀ x ∈ p.changing, x.1 ≠ n.val) → exec (.opChangeDone n) s = .next s) ∧
      (∀ x, p.changing.find? (fun x => x.1 == n.val) = some x →
        s.Does (.opChangeDone n) { s with power := { p with changing := p.changing.filter (fun x => x.1 != n.val) } }
          [(.bent_OP, n, x.2 % 2 ^ Reg.bent_OP.width)])) ∧
    (∀ (n : Fin 8) (c : Word),
      (s.get .bent_PWR n ≠ 2 → exec (.droopFire n) s = .next s) ∧
      (s.get .bent_PWR n = 2 →
        s.Does (.droopFire n) { s with power := { p with stretched := (n.val :: p.stretched).eraseDups } } [one .pwrb_DROOP_EVENTS n]) ∧
      (n.val ∉ p.stretched ∨ c.toNat < 64 → exec (.stretchEnd n c) s = .next s) ∧
      (n.val ∈ p.stretched → 64 ≤ c.toNat →
        let l := (n.val, s.now, c.toNat) :: p.stretches.filter (fun x => decide (s.now < x.2.1 + 614400))
        let mine := ((l.filter (fun x => x.1 == n.val)).map (fun x => x.2.2)).sum
        s.Does (.stretchEnd n c) { s with power := { p with stretched := p.stretched.filter (· != n.val), stretches := l } }
          ((.pwrb_STRETCH_CYCLES, n.val, Reg.pwrb_STRETCH_CYCLES.counted (s.get .pwrb_STRETCH_CYCLES n) c.toNat) ::
            (if 4915200 < mine * 200 * opDivider (s.get .bent_OP n) then [(.pwr_DROOP_SEEN, 0, 1)] else [])))) ∧
    (∀ temps : List (BitVec 16), temps ≠ [] →
      ∃ u : State, exec (.tempSample temps) s = .next u ∧
        let h := u.get .pwr_HOTTEST_SENSOR
        (∀ i < 48, (∀ t, temps[i]? = some t → u.get .temp_TEMP i = t.toNat ∧ u.get .temp_VALID i = 1) ∧
          (temps[i]? = none → u.get .temp_TEMP i = s.get .temp_TEMP i)) ∧
        u.get .pwr_HOTTEST_T = u.get .temp_TEMP h % 2 ^ 16 ∧ (∀ i < 48, u.get .temp_VALID i ≠ 0 → u.temp i ≤ u.temp h) ∧
        (s.tjMax ≤ u.temp h → u.get .pwr_TEMP_HIGH = 1 ∧ u.get .pwr_DUTY = 2) ∧
        (s.tjMax + 80 ≤ u.temp h → u.get .pwr_COOLANT_STOP = 1 ∧ u.get .pwr_THERMAL_TRIP = 1) ∧
        (u.temp h < s.tjMax → s.get .pwr_TEMP_HIGH = 0 → u.get .pwr_TEMP_HIGH = 0 ∧ u.get .pwr_DUTY = s.get .pwr_DUTY ∧
          ∀ n < 8, s.get .bent_PRESENT n ≠ 0 → 8 * (s.get .pwr_T_THROTTLE : Int) < u.temp (2 * s.get .bent_PHYSICAL n) →
            u.get .pwrb_THERM_LIMIT n = min 5 (s.get .pwrb_THERM_LIMIT n + 1))) ∧
    (let u : State := { s with pins := { s.pins with coolant := false } }
     let stop := [(Reg.pwr_COOLANT_OK, 0, 0), (.pwr_COOLANT_STOP, 0, 1), one .pwr_COOLANT_STOPS 0, (.pwr_COOLANT_SEEN, 0, 1)]
     (s.get .pwr_COOLANT_STOP ≠ 0 ∨ (s.boot.phase ≠ .running ∧ s.boot.phase ≠ .ready) → s.Does .coolantOkFall u [(.pwr_COOLANT_OK, 0, 0)]) ∧
     (s.get .pwr_COOLANT_STOP = 0 → s.boot.phase = .ready → s.Does .coolantOkFall { u with power := { p with events := p.events ++ [3] } } stop) ∧
     (s.get .pwr_COOLANT_STOP = 0 → s.boot.phase = .running →
       ∃ t : State, exec .coolantOkFall s = .next t ∧ t.get .pwr_COOLANT_STOP = 1 ∧ t.get .pwr_COOLANT_OK = 0 ∧ t.refresh = .asleep ∧
         t.get .mem_SELF_REFRESH = 1 ∧ (∀ q < 8, t.get .kport_LINK_UP q = 0) ∧ t.power.events = p.events ++ [3] ∧ t.power.changing = [] ∧
         (∀ j, s.job j.id = some j → j.fault = 0 → j.finished = false → (t.job j.id).map (·.fault) = some 0x0A03)) ∧
     (let w : State := { s with pins := { s.pins with coolant := true } }
      let stays := s.get .pwr_COOLANT_STOP = 0 ∨ s.allCool (s.tjMax - 120) = false
      (stays → s.Does .coolantResume w [(.pwr_COOLANT_OK, 0, 1)]) ∧
      (¬stays →
        let v : State := { w with power := { p with events := p.events ++ [4] } }
        let ends := [(Reg.pwr_COOLANT_OK, 0, 1), (.pwr_COOLANT_STOP, 0, 0), (.pwr_THERMAL_TRIP, 0, 0)]
        (s.boot.phase ≠ .running → s.Does .coolantResume v ends) ∧
        (s.boot.phase = .running → s.DoesThen .coolantResume v ends (fun t =>
          (s.neededDomains ++ (if s.indices .ctx_ENABLE = [] then [] else withParents [67, 68]) ++
            s.recovery.bringIns.flatMap (fun x => bentDomains x.2)).foldl State.demand t.capEffective.exitSelfRefresh))))) ∧
    (∀ n : Fin 8,
      let waits := s.barrierWaits n
      let idle := [Station.mortise, .plane, .scribe, .auger, .scarf, .truss, .dowel, .froe, .gauge].all (fun st => (s.pickWork n st).isNone)
      let spent := fun (w : Nat × Nat) => ∃ u ∈ p.fillerUsed, u.bent = n.val ∧ u.wait = w ∧ s.get .pwr_FILLER_MAX_US ≤ u.us
      let starts := s.bentComputes n = true ∧ s.get .pwr_TEMP_HIGH = 0 ∧ idle = true ∧ (∃ w ∈ waits, ¬spent w) ∧
        ∀ f ∈ p.fillers, f.bent ≠ n.val
      let last := Store.get 0 p.mortiseTiles n
      let worked := last ≠ 0 ∧ microseconds (last - 1) s.now < 20
      let limit := min (s.get .pwr_FILLER_LEVEL_MAX) (s.get .pwr_DUTY)
      (¬starts → exec (.fillerStart n) s = .next s) ∧
      (starts → ¬worked → exec (.fillerStart n) s =
        .next { s with power := { p with fillers := p.fillers ++ [{ bent := n, since := s.now, waits := waits, level := 0 }] } }) ∧
      (starts → worked → exec (.fillerStart n) s =
        .next { s with
          free := s.free + 1
          power := { p with fillers := p.fillers ++
            [{ bent := n, since := s.now, waits := waits, level := min (Config.freeValue s.free 0 % 17) limit }] } }) ∧
      ((∀ f ∈ p.fillers, f.bent = n.val → f.ramp ≠ none) → exec (.fillerLimitExpiry n) s = .next s) ∧
      ((∃ f ∈ p.fillers, f.bent = n.val ∧ f.ramp = none) →
        s.Does (.fillerLimitExpiry n)
          { s with power := { p with fillers := mapWhere (fun f => f.bent == n.val) (fun f => { f with ramp := some s.now }) p.fillers } }
          [one .pwrb_FILLER_LIMITS n]) ∧
      (∀ f, p.fillers.find? (fun f => f.bent == n.val) = some f →
        let t := match f.ramp with
          | none => min (microseconds f.since s.now) (s.get .pwr_FILLER_MAX_US)
          | some r => s.get .pwr_FILLER_MAX_US + min (microseconds r s.now) 20
        (s.fillerStop n).power.fillers = p.fillers.filter (fun f => f.bent != n.val) ∧
          (s.fillerStop n).get .pwrb_FILLER_US n = Reg.pwrb_FILLER_US.counted (s.get .pwrb_FILLER_US n) t)) ∧
    (∀ v : BitVec 16,
      let n := v.toNat
      let code := if n ≠ 0 ∧ (n < 20 ∨ 1000 < n) then 0x0A02 else if n ≠ 0 ∧ n < s.get .pwr_FLOOR_W then 0x0A01 else 0
      let least := fun (l : List Nat) => match l.filter (· != 0) with | [] => 0 | c :: rest => rest.foldl min c % 2 ^ 16
      let taken := fun (u : State) (caps : List Nat) (cap : Reg) => [(cap, 0, n)] ++ (if u.get .pwr_COOLANT_STOP ≠ 0 then [] else
        [(.pwr_CAP_EFFECTIVE, 0, least caps), (.pwr_FLOOR_OVER_CAP, 0, if least caps ≠ 0 ∧ least caps < u.get .pwr_FLOOR_W then 1 else 0)])
      let event : Machine.Power := { p with events := p.events ++ [1] }
      (s.boot.phase ≠ .halted → s.get .host_DEV_STATE = 1 →
        (code = 0 → s.Does (.capHostWrite v) { s with power := event }
          (taken s [s.get .pwr_POLICY_MAX, n, s.get .pwr_CAP_TRAY] .pwr_CAP_HOST ++ [(.pwr_CAP_REASON, 0, 0)])) ∧
        (code = 0x0A02 → s.Does (.capHostWrite v) s [(.pwr_CAP_REFUSED_SEEN, 0, 1), (.pwr_CAP_REASON, 0, code)]) ∧
        (code = 0x0A01 → s.DoesThen (.capHostWrite v) s [(.pwr_CAP_REFUSED_SEEN, 0, 1)]
          (fun t => t.retireIdle.set .pwr_CAP_REASON 0 0x0A01))) ∧
      (∀ pec : Bool,
        (s.smbusUp = false → exec (.smbusCapTrayWrite v pec) s = .next { s with outbox := s.outbox ++ [.nack] }) ∧
        (s.smbusUp = true → pec = false → exec (.smbusCapTrayWrite v pec) s = .next s) ∧
        (s.smbusUp = true → pec = true →
          (code = 0 → s.Does (.smbusCapTrayWrite v pec) { s with power := { event with smbReason := 0 } }
            (taken s [s.get .pwr_POLICY_MAX, s.get .pwr_CAP_HOST, n] .pwr_CAP_TRAY)) ∧
          (code = 0x0A02 → s.Does (.smbusCapTrayWrite v pec) { s with power := { p with smbReason := code } }
            [(.pwr_CAP_REFUSED_SEEN, 0, 1)]) ∧
          (code = 0x0A01 → s.DoesThen (.smbusCapTrayWrite v pec) s [(.pwr_CAP_REFUSED_SEEN, 0, 1)]
            (fun t => let w := t.retireIdle; { w with power := { w.power with smbReason := 0x0A01 } }))))) ∧
    (let status := s.get .host_DEV_STATE + s.get .pwr_CAP_UNMET * 4 + s.get .pwr_COOLANT_STOP * 8 + s.get .pwr_THERMAL_TRIP * 16 +
       s.get .pwr_TEMP_HIGH * 32 + (if s.faultN = true then 64 else 0) + s.get .host_REDUCED * 128
     ∀ c bs, (c, bs) ∈ [(Instr.smbusStatus, toBytes 2 status), (.smbusCapTrayRead, toBytes 2 (s.get .pwr_CAP_TRAY)),
       (.smbusPwr10ms, toBytes 2 (s.get .pwr_PWR_10MS)), (.smbusFloorW, toBytes 2 (s.get .pwr_FLOOR_W)),
       (.smbusCapReason, toBytes 2 p.smbReason), (.smbusHottest, toBytes 2 (s.get .pwr_HOTTEST_T)),
       (.smbusSensors, 96 :: (List.range 48).flatMap (fun i => toBytes 2 (s.get .temp_TEMP i))),
       (.smbusFaultInfo, 16 :: [p.smbFault, s.get .pwr_COOLANT_STOPS, s.get .pwr_THERMAL_TRIPS, s.get .wedge_SERIAL_LO].flatMap (toBytes 4))] →
       exec c s = .next { s with outbox := s.outbox ++ [if s.smbusUp = true then .smbus bs else .nack] }) ∧
    exec .smbusTimeout s = .next s

/-! ## Recovery and self-test (17) -/

/-- FOREMAN_POLL, UNIT_FENCED, SPARE_BENT_IN_SERVICE, HEARTBEAT_ADD, HEARTBEAT_SAMPLE, COLD_SPARE_LOADED, LAST_RESORT and HEALTH_MAP_UPDATE.
A unit that reports an error, or misses two polls, is declared failed: it becomes SUSPECT, its slot takes a new incarnation and its domains
go OFF; units 29 and 30 stay in service. A heartbeat that stands still is a failure of its Foreman. The last-resort sequence takes every
bent domain OFF and makes DEV_STATE FOREMAN_LOST. -/
def Obligations.Recovery : Prop :=
  ∀ s : State,
    let one := fun (r : Reg) (i : Nat) => (r, i, r.counted (s.get r i) 1)
    let up := s.foremanUp = true
    let r := s.recovery
    let next := fun v => if v = 0xFFFF then 1 else (v + 1) % 2 ^ 16
    (∀ (silent : List (Fin 62)) (errors : WithLate (List (Fin 62))),
      let c := Instr.foremanPoll silent errors
      let ends := fun (x : State) => exec c s = .next (x.dropAll errors.late)
      let polls := up ∧ s.boot.phase = .running ∧ s.get .rec_SHUTDOWN_STATE = 0
      let missed := (List.range 62).filter (fun u => (silent.map Fin.val).contains u && s.polled u)
      let fails := fun (u : Nat) => s.polled u = true ∧ (u ∈ errors.val.map Fin.val ∨ (u ∈ silent.map Fin.val ∧ u ∈ r.silent))
      let t : State := { s with recovery := { r with silent := missed } }
      (¬polls → ends s) ∧
      (polls → (∀ u < 62, ¬fails u) → ends t) ∧
      (∀ u < 62, polls → (∀ v < 62, fails v ↔ v = u) → ends (t.declareFailed u)) ∧
      (∀ u < 62, ∀ v < 62, polls → u < v → (∀ x < 62, fails x ↔ (x = u ∨ x = v)) →
        let w := t.declareFailed u
        ends (if w.polled v = true then w.declareFailed v else w))) ∧
    (∀ u < 62,
      let t := s.declareFailed u
      let n := min 3 (s.get .unit_SUSPECT_COUNT u + 1)
      let standby := u < 28 ∧ s.get .rec_STANDBY_ID + 25 = u
      t.get .unit_STATUS u = 3 ∧ t.get .unit_SUSPECT_COUNT u = n ∧ t.get .rec_SUSPECT_SEEN = 1 ∧ t.health.due = true ∧
      (u = 29 ∨ u = 30 → t.get .rec_REDUCE_CAUSE = (s.get .rec_REDUCE_CAUSE ||| 512) % 2 ^ 10 ∧ t.get .rec_LAST_EVENT = 0x0C0B ∧
        t.get .rec_LAST_UNIT = u ∧ (∀ sl, t.get .inc_INCARNATION sl = s.get .inc_INCARNATION sl) ∧
        ∀ d, t.get .dom_STATE d = s.get .dom_STATE d ∧ t.get .dom_HELD_OFF d = s.get .dom_HELD_OFF d) ∧
      (u ≠ 29 → u ≠ 30 → ∀ d ∈ unitDomains u, t.get .dom_STATE d = 0 ∧ t.get .dom_HELD_OFF d = 1) ∧
      (u ≠ 29 → u ≠ 30 → ¬standby → (∀ b ∈ r.bringIns, b.2 ≠ u) → ∀ sl, s.slotOf u = some sl →
        t.get .inc_INCARNATION sl = next (s.get .inc_INCARNATION sl)) ∧
      (¬standby → (∃ b ∈ r.bringIns, b.2 = u) → ∀ b ∈ t.recovery.bringIns, b.2 ≠ u) ∧
      (u < 9 → (∀ b ∈ r.bringIns, b.2 ≠ u) → ∀ n, s.logicalOf u = some n →
        t.get .bent_PRESENT n = 0 ∧ (∀ j, s.job j.id = some j → j.fault = 0 → j.finished = false → n ∈ j.bents →
          (t.job j.id).map (·.fault) = some 0x0C03) ∧
        (∀ p < 9, s.spareBent p = true → p ≠ u → (∀ q < p, q ≠ u → s.spareBent q = false) →
          (n, p) ∈ t.recovery.bringIns ∧ t.get .unit_IN_RESET u = 1 ∧ t.get .froe_OFF_RECOVERY = 1) ∧
        ((∀ p < 9, p ≠ u → s.spareBent p = false) → bit (t.get .rec_REDUCE_CAUSE) 0 = true ∧ t.get .host_REDUCED = 1)) ∧
      (9 ≤ u → u < 17 → (∀ b ∈ r.bringIns, b.2 ≠ u) → t.get .jnt_PRESENT (u - 9) = 0) ∧
      (17 ≤ u → u < 25 → (∀ b ∈ r.bringIns, b.2 ≠ u) → t.get .kport_LINK_UP (u - 17) = 0) ∧
      (34 ≤ u → u < 58 → (∀ b ∈ r.bringIns, b.2 ≠ u) → t.get .port_ENABLED (u - 34) = 0)) ∧
    (∀ u : Fin 62,
      (u.val ∈ r.off → s.get .unit_FENCED u = 0 →
        s.Does (.unitFenced u) s [(.unit_FENCED, u, 1), (.rec_FENCE_SEEN, 0, 1), (.rec_LAST_EVENT, 0, 0x0C0C), (.rec_LAST_UNIT, 0, u),
          one .rec_EVENT_SEQ 0]) ∧
      (u.val ∉ r.off ∨ s.get .unit_FENCED u ≠ 0 → exec (.unitFenced u) s = .next s)) ∧
    (∀ n : Fin 8,
      let comes := r.bringIns.find? (fun b => b.1 == n.val)
      let held := s.get .pwr_COOLANT_STOP ≠ 0 ∨ ¬up
      (comes = none ∨ held → exec (.spareBentInService n) s = .next s) ∧
      (∀ b, comes = some b → ¬held → ∃ u : State,
        exec (.spareBentInService n) s = .next u.shutdownStart ∧ u.recovery = { r with bringIns := r.bringIns.filter (fun b => b.1 != n.val) } ∧
        u.get .bent_PRESENT n = 1 ∧ u.get .bent_PHYSICAL n = b.2 % 2 ^ 4 ∧ u.get .bent_PWR n = 2 ∧
        u.get .bent_THROTTLED n = (if s.get .pwr_DUTY < 16 then 1 else 0) ∧ u.get .inc_OCCUPANT n = b.2 % 2 ^ 6 ∧ (∀ d ∈ bentDomains b.2, u.get .dom_STATE d = 2) ∧
        u.get .mor_ARRAYS n = min 16 (maskList 17 (s.arrayGood b.2)).length ∧ u.get .unit_IN_RESET b.2 = 0 ∧
        u.get .rec_REPLACEMENTS = Reg.rec_REPLACEMENTS.counted (s.get .rec_REPLACEMENTS) 1 ∧
        u.get .rec_RECOVERING = (if u.recovery.bringIns = [] ∧ r.cold = none then 0 else 1) ∧
        u.get .froe_OFF_RECOVERY = u.get .rec_RECOVERING ∧ u.memory = s.memory ∧ u.jobs = s.jobs)) ∧
    (∀ active : WithLate Bool,
      let i := if active.val = true then 0 else 1
      let beats := up ∧ (active.val = true ∨ s.get .rec_STANDBY_ID ≠ 3)
      let t := s.dropAll active.late
      (¬beats → exec (.heartbeatAdd active) s = .next t) ∧
      (beats → exec (.heartbeatAdd active) s = .next (t.pegAdd i 1) ∧ (t.pegAdd i 1).get .peg_COUNT i = (s.get .peg_COUNT i + 1) % 2 ^ 32 ∧
        ∀ k, k ≠ i → (t.pegAdd i 1).get .peg_COUNT k = s.get .peg_COUNT k)) ∧
    (∀ (byStandby : Bool) (error : WithLate Bool),
      let c := Instr.heartbeatSample byStandby error
      let ends := fun (x : State) => exec c s = .next (x.dropAll error.late)
      let samples := up ∧ s.get .rec_STANDBY_ID ≠ 3
      let beat := s.get .peg_COUNT (if byStandby = true then 0 else 1)
      let n := if beat = (if byStandby = true then r.beat0 else r.beat1) then (if byStandby = true then r.stall0 else r.stall1) + 1 else 0
      let t : State :=
        if byStandby = true then { s with recovery := { r with beat0 := beat, stall0 := n } } else { s with recovery := { r with beat1 := beat, stall1 := n } }
      let silent := error.val = true ∨ 10 ≤ n
      (¬samples → ends s) ∧ (samples → ¬silent → ends t) ∧
      (samples → silent → byStandby = true → ends t.takeover) ∧ (samples → silent → byStandby = false → ends t.standbyLost)) ∧
    (∀ a b : Nat, s.get .rec_ACTIVE_ID = a → s.get .rec_STANDBY_ID = b → a < 3 → b < 3 → a ≠ b →
      let third := fun (f : Nat) => s.get .unit_STATUS (25 + f) < 2 ∧ s.get .unit_IN_RESET (25 + f) = 0
      (let t := s.takeover
       t.get .rec_ACTIVE_ID = b ∧ t.get .inc_OCCUPANT 24 = 25 + b ∧ t.get .unit_STATUS (25 + a) = 3 ∧ t.get .dom_STATE (141 + a) = 0 ∧
         t.get .dom_HELD_OFF (141 + a) = 1 ∧ t.get .inc_INCARNATION 24 = next (s.get .inc_INCARNATION 24) ∧
         t.get .inc_INCARNATION 25 = next (s.get .inc_INCARNATION 25) ∧ t.get .peg_COUNT 0 = (s.get .peg_COUNT 0 + 1) % 2 ^ 32 ∧
         t.get .rec_TAKEOVERS = Reg.rec_TAKEOVERS.counted (s.get .rec_TAKEOVERS) 1 ∧ t.get .rec_TAKEOVER_SEEN = 1 ∧
         t.get .rec_LAST_EVENT = 0x0C09 ∧ t.get .rec_STANDBY_ID = 3 ∧
         (third (3 - a - b) → t.recovery.cold = some (3 - a - b) ∧ t.get .froe_OFF_RECOVERY = 1) ∧
         (¬third (3 - a - b) → t.recovery.cold = r.cold ∧ bit (t.get .rec_REDUCE_CAUSE) 8 = true)) ∧
      (let t := s.standbyLost
       t.get .rec_ACTIVE_ID = a ∧ t.get .unit_STATUS (25 + b) = 3 ∧ t.get .dom_STATE (141 + b) = 0 ∧ t.get .dom_HELD_OFF (141 + b) = 1 ∧
         t.get .inc_INCARNATION 25 = next (s.get .inc_INCARNATION 25) ∧ t.get .rec_STANDBY_ID = 3 ∧
         (third (3 - a - b) → t.recovery.cold = some (3 - a - b)) ∧ (¬third (3 - a - b) → bit (t.get .rec_REDUCE_CAUSE) 8 = true))) ∧
    (r.cold = none ∨ ¬up → exec .coldSpareLoaded s = .next s) ∧
    (∀ f, r.cold = some f → up → ∃ u : State,
      exec .coldSpareLoaded s = .next u.shutdownStart ∧ u.recovery.cold = none ∧ u.get .rec_STANDBY_ID = f % 2 ^ 2 ∧
      u.get .inc_OCCUPANT 25 = (25 + f) % 2 ^ 6 ∧ u.get .dom_STATE (141 + f) = 2 ∧ u.get .dom_HELD_OFF (141 + f) = 0 ∧
      u.get .peg_COUNT 1 = (s.get .peg_COUNT 1 + 1) % 2 ^ 32 ∧ u.get .rec_RECOVERING = (if r.bringIns = [] then 0 else 1)) ∧
    (∀ c : BitVec 3,
      let n := c.toNat
      let armed := s.boot.lastResort = false ∧ 1 ≤ n ∧ n ≤ 5 ∧
        (if n < 3 then s.boot.phase = .running ∨ s.boot.phase = .ready else s.boot.phase ≠ .reset ∧ s.boot.phase ≠ .warm)
      (¬armed → exec (.lastResort c) s = .next s) ∧
      (armed → ∃ u : State, exec (.lastResort c) s = .next u ∧ u.get .rec_LR_ACTED = 1 ∧ u.get .rec_LR_CAUSE = n ∧
        u.get .rec_LR_BOOT_ID = s.get .wedge_BOOT_ID % 2 ^ 32 ∧ u.get .rec_LAST_EVENT = 0x0C0A ∧ u.get .host_DEV_STATE = 2 ∧
        u.get .host_FOREMAN_LOST_EV = 1 ∧ u.get .mem_SELF_REFRESH = 1 ∧ u.refresh = .asleep ∧ u.faultN = true ∧ u.foremanUp = false ∧
        (∀ d < 54, u.get .dom_STATE d = 0) ∧ (n ≠ 5 → ∀ d ∈ [140, 147, 148, 149, 151], u.get .dom_STATE d = 2) ∧
        (n = 5 → ∀ d ∈ [147, 148, 149], u.get .dom_STATE d = 0) ∧
        (s.get .clk_MAIN_LOCKED = 0 → u.get .clk_CK_CTL_ON_REF = 1))) ∧
    (∀ ok : Bool,
      let due := s.health.due = true ∧ up ∧ s.get .start_UPD_BUSY = 0
      let c := if s.health.copy = 0 then 1 else 0
      let seq := if s.health.copy = 2 then 0 else (s.health.seq + 1) % 2 ^ 32
      (¬due → exec (.healthMapUpdate ok) s = .next s) ∧
      (due → ok = false → s.Does (.healthMapUpdate ok) { s with health := { s.health with due := false } } [(.rec_HEALTH_WRITE_FAIL, 0, 1)]) ∧
      (due → ok = true →
        s.Does (.healthMapUpdate ok)
          { s with
            flash := { s.flash with health := s.flash.health.set c (s.healthBytes seq 1) }
            health := { s.health with copy := c, seq := seq, due := false } }
          (((List.range 1024).filter (fun i => s.get .ret_VALID i != 0)).map (fun i => (Reg.ret_PERSISTED, i, 1)))))

/-- SHUTDOWN_GO, SHUTDOWN_DONE, UNIT, LOFT_MARCH, LINK_LOOPBACK, TS_GO and TS_PROGRAM_DONE. SHUTDOWN_GO is refused with 0x0C01 while a
tenant is active or the program has run, and held while a recovery, an update operation or a direct program runs. At its end every unit has
its verdict, a Loft row that is listed for repair takes the next free spare row of its bank or makes its bent UNUSABLE, the health map is
written, and the domains that are not kept are OFF. TS_GO waits for Try-square to be ON and makes its three checks in the order of R496. A
map write waits for the end of an update operation. -/
def Obligations.SelfTest : Prop :=
  ∀ s : State,
    let taken := s.boot.phase ≠ .halted ∧ s.get .host_DEV_STATE = 1 ∧
      (s.get .rec_SHUTDOWN_STATE ≠ 0 ∨ s.shutdownHeld = true ∨ s.get .pwr_COOLANT_STOP = 0)
    let verdict := fun (u : State) (v : Verdict) =>
      let n := v.u.val
      let bad := v.pass = false ∨ s.get .unit_SUSPECT_COUNT n = 3
      u.get .unit_STATUS n = (if bad ∧ n ≠ 29 ∧ n ≠ 30 then 2 else 1) ∧
        u.get .unit_FAIL_CODE n = (if bad then (if v.pass = true then 0x0C15 else v.code.toNat) else s.get .unit_FAIL_CODE n) ∧
        u.get .unit_TESTED_BOOT_ID n = s.get .wedge_BOOT_ID % 2 ^ 32 ∧
        (bad → n = 29 ∨ n = 30 → bit (u.get .rec_REDUCE_CAUSE) 9 = true)
    let map := fun (u : State) (ok : Bool) =>
      (ok = true → u.health.due = false ∧ u.health.copy = (if s.health.copy = 0 then 1 else 0) ∧
        u.health.seq = (if s.health.copy = 2 then 0 else (s.health.seq + 1) % 2 ^ 32)) ∧
      (ok = false → u.flash = s.flash ∧ u.get .rec_HEALTH_WRITE_FAIL = 1)
    (let busy := (∃ t ∈ s.indices .ten_STATE, s.get .ten_STATE t = 1 ∨ s.get .ten_STATE t = 2) ∨ s.get .rec_SHUTDOWN_STATE ≠ 0 ∨ s.shutdownHeld = true
     (taken → busy → s.Does .shutdownGo s [(.rec_SHUTDOWN_REASON, 0, 0x0C01)]) ∧
     (taken → ¬busy → 2 ≤ s.get .unit_STATUS 33 → s.Does .shutdownGo s [(.rec_SHUTDOWN_REASON, 0, 0x0C07)]) ∧
     (taken → ¬busy → s.get .unit_STATUS 33 < 2 →
       s.DoesThen .shutdownGo { s with shutdownHeld := true } [(.rec_SHUTDOWN_REASON, 0, 0), (.rec_SHUTDOWN_GO, 0, 1)] State.shutdownStart)) ∧
    (let waits := s.shutdownHeld = false ∨ s.get .rec_RECOVERING ≠ 0 ∨ s.get .start_UPD_BUSY ≠ 0 ∨ s.get .rec_TS_BUSY ≠ 0 ∨ s.foremanUp = false
     (waits → s.shutdownStart = s) ∧
     (¬waits → ({ s with shutdownHeld := false } : State).Writes s.shutdownStart
       ([(.rec_SHUTDOWN_STATE, 0, 1), (.rec_SHUTDOWN_GO, 0, 0), (.froe_OFF_SELF_TEST, 0, 1), (.froe_COMP_OFF, 0, 1)] ++
         ((List.range 62).filter (fun u => u != 25 + s.get .rec_ACTIVE_ID)).map (fun u => (Reg.unit_IN_RESET, u, 1))))) ∧
    (∀ (vs : List Verdict) (ok : Bool), (vs.map (·.u)).Nodup →
      (s.get .rec_SHUTDOWN_STATE ≠ 1 ∨ s.boot.update ≠ none → exec (.shutdownDone vs ok) s = .next s) ∧
      (s.get .rec_SHUTDOWN_STATE = 1 → s.boot.update = none → ∃ u : State,
        exec (.shutdownDone vs ok) s = .next u ∧ u.get .rec_SHUTDOWN_STATE = (if ok = true then 2 else 3) ∧ u.get .froe_OFF_SELF_TEST = 0 ∧
        u.get .froe_COMP_OFF = (if s.get .froe_OFF_START_UP ≠ 0 ∨ s.get .froe_OFF_RECOVERY ≠ 0 then 1 else 0) ∧ u.refresh = .asleep ∧
        (∀ n < 62, u.get .unit_IN_RESET n = 0) ∧ (∀ v ∈ vs, (∀ q ∈ s.lofts.repair, q.1 ≠ v.u.val) → verdict u v) ∧
        map u ok ∧ u.lofts.repair = [] ∧ u.memory = s.memory ∧
        (s.get .rec_ACTIVE_ID < 3 → s.get .rec_STANDBY_ID < 4 → ∀ d < 152, d ∉ s.alwaysOn → d ∉ [146, 147, 148, 149] → u.get .dom_STATE d = 0 ∧ u.get .dom_TARGET d = 0) ∧
        (∀ a b, s.get .rec_ACTIVE_ID = a → s.get .rec_STANDBY_ID = b → a < 3 → b < 3 →
          (u.get .unit_STATUS (25 + b) = 1 → u.get .rec_ACTIVE_ID = b ∧ u.get .rec_STANDBY_ID = a) ∧
          (u.get .unit_STATUS (25 + b) ≠ 1 → u.get .rec_ACTIVE_ID = a ∧ u.get .rec_STANDBY_ID = b)))) ∧
    (∀ (p bank row : Nat) (t : State), t.lofts.repair = [(p, bank, row)] →
      let u := t.listRepairs
      let taken := fun (i : Nat) => ∃ q ∈ t.health.rows, q.1 = p * 256 + bank * 8 + i
      let listed := ∃ i < 8, t.health.rows.find? (fun q => q.1 == p * 256 + bank * 8 + i) = some (p * 256 + bank * 8 + i, row)
      u.lofts.repair = [] ∧ (listed → u.health = t.health ∧ u.regs = t.regs) ∧
        (∀ i < 8, ¬listed → ¬taken i → (∀ k < i, taken k) →
          u.health = { t.health with rows := t.health.rows ++ [(p * 256 + bank * 8 + i, row)] } ∧ u.regs = t.regs) ∧
        (¬listed → (∀ i < 8, taken i) → u.health = t.health ∧ u.get .unit_STATUS p = 2 ∧ u.get .unit_FAIL_CODE p = 0x0C12)) ∧
    (∀ (c : Instr) (prog : Nat),
      (c, prog) ∈ [(Instr.tsUnit, 1), (.tsLoftMarch, 2), (.tsLinkLoopback, 3)] ∨ (∃ w : BitVec 4, c = .tsGo w ∧ prog = w.toNat) → taken →
      let us := maskList 62 (s.get .rec_TS_UNITS_LO + 2 ^ 32 * s.get .rec_TS_UNITS_HI)
      let lc := s.get .wedge_LIFE_CYCLE
      let covers := fun (u : Nat) =>
        (prog = 1 ∧ s.get .rec_ACTIVE_ID + 25 ≠ u) ∨ (prog = 2 ∧ u < 9) ∨ (prog = 3 ∧ ((17 ≤ u ∧ u < 25) ∨ (34 ≤ u ∧ u < 58)))
      let named := (1 ≤ prog ∧ prog ≤ 3) ∧ ∀ u ∈ us, covers u
      if s.get .dom_STATE 145 ≠ 2 then
        exec c s = .next (({ s with deferred := s.deferred ++ [(145, .testGo prog)] } : State).demand 145)
      else if s.get .rec_TS_BUSY ≠ 0 ∨ s.get .rec_SHUTDOWN_STATE = 1 then s.Does c s [(.rec_TS_PROG, 0, prog)]
      else if lc ≠ 1 ∧ lc ≠ 3 then s.Does c s [(.rec_TS_PROG, 0, prog), (.rec_TS_REASON, 0, 0x0C05)]
      else if ¬named then s.Does c s [(.rec_TS_PROG, 0, prog), (.rec_TS_REASON, 0, 0x0C07)]
      else if ∃ u ∈ us, s.unitBusy u = true then s.Does c s [(.rec_TS_PROG, 0, prog), (.rec_TS_REASON, 0, 0x0C06)]
      else
        s.Does c { s with recovery := { s.recovery with test := some { prog := prog, units := us } } }
          ([(.rec_TS_PROG, 0, prog), (.rec_TS_REASON, 0, 0), (.rec_TS_BUSY, 0, 1), (.froe_OFF_SELF_TEST, 0, 1), (.froe_COMP_OFF, 0, 1)] ++
            us.map (fun u => (Reg.unit_IN_RESET, u, 1)))) ∧
    (∀ (vs : List Verdict) (elapsed : Word) (ok : Bool), (vs.map (·.u)).Nodup →
      let c := Instr.tsProgramDone vs elapsed ok
      (s.recovery.test = none ∨ s.boot.update ≠ none → exec c s = .next s) ∧
      (∀ t, s.recovery.test = some t → s.boot.update = none → ∃ u : State,
        exec c s = .next u.shutdownStart ∧ u.recovery.test = none ∧ u.get .rec_TS_BUSY = 0 ∧ u.get .rec_TS_ELAPSED_MS = elapsed.toNat ∧
        u.get .froe_OFF_SELF_TEST = 0 ∧
        u.get .froe_COMP_OFF = (if s.get .froe_OFF_START_UP ≠ 0 ∨ s.get .froe_OFF_RECOVERY ≠ 0 then 1 else 0) ∧
        (∀ n ∈ t.units, u.get .unit_IN_RESET n = 0) ∧ (∀ v ∈ vs, v.u.val ∈ t.units → verdict u v) ∧
        (∀ n, (∀ v ∈ vs, v.u.val = n → n ∉ t.units) → u.get .unit_STATUS n = s.get .unit_STATUS n) ∧ map u ok ∧
        u.memory = s.memory ∧ u.jobs = s.jobs))
end

