-- ==== Sys2Proof/Laws/Store.lean ====
section
/-! SUPPORT. The laws of the sparse store: read after write, and the canonical form. -/

namespace Sys2Proof.Machine

variable {α : Type} [DecidableEq α]

/-! ## Read after write -/

omit [DecidableEq α] in
theorem Store.get_erase_same (d : α) (l : List (Nat × α)) (i : Nat) : Store.get d (Store.erase l i) i = d := by
  induction l with
  | nil => rfl
  | cons p l ih =>
    obtain ⟨k, w⟩ := p
    by_cases h : k = i
    · subst h; simpa [Store.erase] using ih
    · simp [Store.erase, Store.get, h] at ih ⊢; exact ih

omit [DecidableEq α] in
theorem Store.get_erase_other (d : α) (l : List (Nat × α)) (i j : Nat) (h : i ≠ j) : Store.get d (Store.erase l i) j = Store.get d l j := by
  induction l with
  | nil => rfl
  | cons p l ih =>
    obtain ⟨k, w⟩ := p
    by_cases hk : k = i
    · subst hk; simp [Store.erase, Store.get, h] at ih ⊢; exact ih
    · by_cases hj : k = j
      · subst hj; simp [Store.erase, Store.get, hk]
      · simp [Store.erase, Store.get, hk, hj] at ih ⊢; exact ih

/-- A key reads what was last put there. -/
@[simp] theorem Store.get_put_same (d : α) (l : List (Nat × α)) (i : Nat) (v : α) : Store.get d (Store.put d l i v) i = v := by
  induction l with
  | nil => by_cases h : v = d <;> simp [Store.put, Store.get, h]
  | cons p l ih =>
    obtain ⟨k, w⟩ := p
    rcases Nat.lt_trichotomy i k with h | h | h
    · by_cases hv : v = d
      · subst hv; simp only [Store.put, if_pos h, if_true]; exact Store.get_erase_same v _ i
      · simp [Store.put, Store.get, h, hv]
    · subst h
      by_cases hv : v = d
      · subst hv; simpa [Store.put] using Store.get_erase_same v l i
      · simp [Store.put, Store.get, hv]
    · have h1 : ¬ i < k := by omega
      have h2 : ¬ i = k := by omega
      simp [Store.put, Store.get, h1, h2, Ne.symm h2, ih]

/-- Every other key reads as before. -/
theorem Store.get_put_other (d e : α) (l : List (Nat × α)) (i j : Nat) (v : α) (h : i ≠ j) :
    Store.get e (Store.put d l i v) j = Store.get e l j := by
  induction l with
  | nil => by_cases hv : v = d <;> simp [Store.put, Store.get, hv, h]
  | cons p l ih =>
    obtain ⟨k, w⟩ := p
    rcases Nat.lt_trichotomy i k with hk | hk | hk
    · by_cases hv : v = d
      · simp only [Store.put, if_pos hk, if_pos hv]; exact Store.get_erase_other e _ i j h
      · simp [Store.put, Store.get, hk, hv, h]
    · subst hk
      by_cases hv : v = d
      · simp [Store.put, hv, Store.get, h, Store.get_erase_other e l i j h]
      · simp [Store.put, Store.get, hv, h]
    · have h1 : ¬ i < k := by omega
      have h2 : ¬ i = k := by omega
      simp only [Store.put, if_neg h1, if_neg h2, Store.get, ih]

/-! ## The canonical form -/

theorem Store.wfFrom_weaken (d : Nat → α) (b c : Nat) (l : List (Nat × α)) (hbc : c ≤ b) (h : Store.wfFrom d (some b) l = true) :
    Store.wfFrom d (some c) l = true := by
  cases l with
  | nil => rfl
  | cons p l =>
    obtain ⟨k, v⟩ := p
    simp [Store.wfFrom] at h ⊢
    exact ⟨⟨by omega, h.1.2⟩, h.2⟩

theorem Store.wfFrom_none (d : Nat → α) (b : Nat) (l : List (Nat × α)) (h : Store.wfFrom d (some b) l = true) :
    Store.wfFrom d none l = true := by
  cases l with
  | nil => rfl
  | cons p l => obtain ⟨k, v⟩ := p; simp [Store.wfFrom] at h ⊢; exact ⟨h.1.2, h.2⟩

/-- Leaving entries out keeps the form. -/
theorem Store.wfFrom_filter (d : Nat → α) (q : Nat × α → Bool) (l : List (Nat × α)) :
    ∀ b, Store.wfFrom d b l = true → Store.wfFrom d b (l.filter q) = true := by
  induction l with
  | nil => intro b h; exact h
  | cons p l ih =>
    obtain ⟨k, v⟩ := p
    intro b h
    have ht : Store.wfFrom d (some k) l = true := by simp [Store.wfFrom] at h; exact h.2
    by_cases hq : q (k, v) = true
    · rw [List.filter_cons_of_pos hq]
      simp [Store.wfFrom] at h ⊢
      exact ⟨h.1, ih _ h.2⟩
    · rw [List.filter_cons_of_neg hq]
      have hl := ih _ ht
      cases b with
      | none => exact Store.wfFrom_none d k _ hl
      | some c =>
        simp [Store.wfFrom] at h
        exact Store.wfFrom_weaken d k c _ (by omega) hl

theorem Store.wf_filter (d : Nat → α) (q : Nat × α → Bool) (l : List (Nat × α)) (h : Store.wf d l = true) : Store.wf d (l.filter q) = true :=
  Store.wfFrom_filter d q l none h

theorem Store.wfFrom_put (d : Nat → α) (l : List (Nat × α)) (i : Nat) (v : α) :
    ∀ b, (∀ c, b = some c → c < i) → Store.wfFrom d b l = true → Store.wfFrom d b (Store.put (d i) l i v) = true := by
  induction l with
  | nil =>
    intro b hb h
    by_cases hv : v = d i
    · simp [Store.put, hv, Store.wfFrom]
    · cases b with
      | none => simp [Store.put, hv, Store.wfFrom]
      | some c => simp [Store.put, hv, Store.wfFrom, hb c rfl]
  | cons p l ih =>
    obtain ⟨k, w⟩ := p
    intro b hb h
    have ht : Store.wfFrom d (some k) l = true := by simp [Store.wfFrom] at h; exact h.2
    rcases Nat.lt_trichotomy i k with hk | hk | hk
    · by_cases hv : v = d i
      · simp only [Store.put, if_pos hk, if_pos hv]; exact Store.wfFrom_filter d _ _ b h
      · simp only [Store.put, if_pos hk, if_neg hv]
        cases b with
        | none => simp [Store.wfFrom] at h ⊢; exact ⟨hv, ⟨hk, h.1⟩, h.2⟩
        | some c => simp [Store.wfFrom] at h ⊢; exact ⟨⟨hb c rfl, hv⟩, ⟨hk, h.1.2⟩, h.2⟩
    · subst hk
      by_cases hv : v = d i
      · simp only [Store.put, if_neg (Nat.lt_irrefl i), if_true, if_pos hv]
        have hl := Store.wfFrom_filter d (fun p => p.1 != i) l _ ht
        cases b with
        | none => exact Store.wfFrom_none d i _ hl
        | some c => exact Store.wfFrom_weaken d i c _ (Nat.le_of_lt (hb c rfl)) hl
      · simp only [Store.put, if_neg (Nat.lt_irrefl i), if_true, if_neg hv]
        cases b with
        | none => simp [Store.wfFrom] at h ⊢; exact ⟨hv, h.2⟩
        | some c => simp [Store.wfFrom] at h ⊢; exact ⟨⟨hb c rfl, hv⟩, h.2⟩
    · have h1 : ¬ i < k := by omega
      have h2 : ¬ i = k := by omega
      simp only [Store.put, if_neg h1, if_neg h2]
      have := ih (some k) (fun c hc => by cases hc; exact hk) ht
      cases b with
      | none => simp [Store.wfFrom] at h ⊢; exact ⟨h.1, this⟩
      | some c => simp [Store.wfFrom] at h ⊢; exact ⟨h.1, this⟩

/-- A write keeps the form. -/
theorem Store.wf_put (d : Nat → α) (l : List (Nat × α)) (i : Nat) (v : α) (h : Store.wf d l = true) : Store.wf d (Store.put (d i) l i v) = true :=
  Store.wfFrom_put d l i v none (fun _ hc => by cases hc) h

/-! ## Byte memories -/

theorem Mem.wf_write (d : Byte) (m : Mem) (a : Nat) (v : Byte) (h : Mem.wf d m = true) : Mem.wf d (Mem.write d m a v) = true :=
  Store.wf_put (fun _ => d) m a v h

theorem Mem.wf_writeBytes (d : Byte) (bs : List Byte) : ∀ (m : Mem) (a : Nat), Mem.wf d m = true → Mem.wf d (Mem.writeBytes d m a bs) = true := by
  induction bs with
  | nil => intro m a h; exact h
  | cons b bs ih => intro m a h; exact ih _ _ (Mem.wf_write d m a b h)

theorem Mem.wf_writeNum (d : Byte) (m : Mem) (a k v : Nat) (h : Mem.wf d m = true) : Mem.wf d (Mem.writeNum d m a k v) = true :=
  Mem.wf_writeBytes d _ m a h

theorem Mem.wf_clear (d : Byte) (m : Mem) (a k : Nat) (h : Mem.wf d m = true) : Mem.wf d (Mem.clear m a k) = true :=
  Store.wf_filter _ _ m h

/-- A byte reads what was written there. -/
@[simp] theorem Mem.read_write_same (d : Byte) (m : Mem) (a : Nat) (v : Byte) : Mem.read d (Mem.write d m a v) a = v :=
  Store.get_put_same d m a v

/-- Every other byte reads as before. -/
theorem Mem.read_write_other (d : Byte) (m : Mem) (a b : Nat) (v : Byte) (h : a ≠ b) : Mem.read d (Mem.write d m a v) b = Mem.read d m b :=
  Store.get_put_other d d m a b v h

/-- Bytes outside the written range read as before. -/
theorem Mem.read_writeBytes_outside (d : Byte) (bs : List Byte) :
    ∀ (m : Mem) (a x : Nat), (x < a ∨ a + bs.length ≤ x) → Mem.read d (Mem.writeBytes d m a bs) x = Mem.read d m x := by
  induction bs with
  | nil => intro m a x _; rfl
  | cons b bs ih =>
    intro m a x hx
    simp only [List.length_cons] at hx
    have h1 : Mem.read d (Mem.writeBytes d (Mem.write d m a b) (a + 1) bs) x = Mem.read d (Mem.write d m a b) x :=
      ih _ _ _ (by omega)
    rw [Mem.writeBytes, h1]
    exact Mem.read_write_other d m a x b (by omega)

/-- Bytes inside the written range read what was written. -/
theorem Mem.read_writeBytes_inside (d : Byte) (bs : List Byte) :
    ∀ (m : Mem) (a i : Nat) (h : i < bs.length), Mem.read d (Mem.writeBytes d m a bs) (a + i) = bs[i] := by
  induction bs with
  | nil => intro m a i h; simp at h
  | cons b bs ih =>
    intro m a i h
    cases i with
    | zero =>
      rw [Mem.writeBytes, Nat.add_zero, Mem.read_writeBytes_outside d bs _ _ _ (by omega)]
      simp
    | succ i =>
      have := ih (Mem.write d m a b) (a + 1) i (by simpa using h)
      rw [Mem.writeBytes, show a + (i + 1) = a + 1 + i by omega, this]
      simp

end Sys2Proof.Machine
end

