-- ==== Sys2Proof/Laws/State.lean ====
section
/-! SUPPORT. What the named operations on the registers change and what they leave. -/

namespace Sys2Proof.Machine

/-! ## Keys of register fields -/

theorem Reg.ctorIdx_lt (r : Reg) : r.ctorIdx < 1024 := by cases r <;> decide

theorem Reg.ctorIdx_inj {r r' : Reg} (h : r.ctorIdx = r'.ctorIdx) : r = r' := by
  rw [← Reg.ofNat_ctorIdx r, ← Reg.ofNat_ctorIdx r', h]

/-- Different fields, and different entries of a field, have different keys. -/
theorem regKey_inj {r r' : Reg} {i i' : Nat} (h : regKey r i = regKey r' i') : r = r' ∧ i = i' := by
  have h1 := Reg.ctorIdx_lt r
  have h2 := Reg.ctorIdx_lt r'
  unfold regKey at h
  exact ⟨Reg.ctorIdx_inj (by omega), by omega⟩

theorem regKey_ne {r r' : Reg} {i i' : Nat} (h : r ≠ r' ∨ i ≠ i') : regKey r i ≠ regKey r' i' := by
  intro hk
  obtain ⟨rfl, rfl⟩ := regKey_inj hk
  simp at h

/-! ## Reading a field -/

/-- A field reads the low bits of what was last written. -/
@[simp] theorem State.get_set_same (s : State) (r : Reg) (i v : Nat) : (s.set r i v).get r i = v % 2 ^ r.width := by
  simp [State.get, State.set]

/-- Every other field reads as before. -/
theorem State.get_set_other (s : State) (r r' : Reg) (i i' v : Nat) (h : r ≠ r' ∨ i ≠ i') : (s.set r i v).get r' i' = s.get r' i' := by
  simp only [State.get, State.set]
  exact Store.get_put_other _ _ _ _ _ _ (regKey_ne h)

/-- One equation for both. -/
theorem State.get_set (s : State) (r r' : Reg) (i i' v : Nat) :
    (s.set r i v).get r' i' = if r = r' ∧ i = i' then v % 2 ^ r.width else s.get r' i' := by
  by_cases h : r = r' ∧ i = i'
  · obtain ⟨rfl, rfl⟩ := h; simp
  · rw [if_neg h]
    exact State.get_set_other s r r' i i' v (by by_cases hr : r = r' <;> by_cases hi : i = i' <;> simp_all)

/-- A field that is not among those set reads as before. -/
theorem State.get_setAll_other (l : List (Reg × Nat)) (r' : Reg) (i i' : Nat) :
    ∀ s : State, (∀ p ∈ l, p.1 ≠ r' ∨ i ≠ i') → (s.setAll i l).get r' i' = s.get r' i' := by
  induction l with
  | nil => intro s _; rfl
  | cons p l ih =>
    intro s h
    have : (s.setAll i (p :: l)) = (s.set p.1 i p.2).setAll i l := rfl
    rw [this, ih _ (fun q hq => h q (List.mem_cons_of_mem _ hq))]
    exact State.get_set_other s _ _ _ _ _ (h p (List.mem_cons_self ..))

/-- What a counter reads after `bump`. -/
theorem State.get_bump_same (s : State) (r : Reg) (i n : Nat) :
    (s.bump r i n).get r i = (if r.info.stops then min (s.get r i + n) (2 ^ r.width - 1) else s.get r i + n) % 2 ^ r.width := by
  simp [State.bump]

theorem State.get_bump_other (s : State) (r r' : Reg) (i i' n : Nat) (h : r ≠ r' ∨ i ≠ i') : (s.bump r i n).get r' i' = s.get r' i' :=
  State.get_set_other s r r' i i' _ h

theorem State.get_drop_same (s : State) (r : Reg) (i n : Nat) : (s.drop r i n).get r i = (s.get r i - n) % 2 ^ r.width := by
  simp [State.drop]

theorem State.get_drop_other (s : State) (r r' : Reg) (i i' n : Nat) (h : r ≠ r' ∨ i ≠ i') : (s.drop r i n).get r' i' = s.get r' i' :=
  State.get_set_other s r r' i i' _ h

/-- Registers are read from `regs` alone. -/
theorem State.get_congr {s t : State} (h : s.regs = t.regs) (r : Reg) (i : Nat) : s.get r i = t.get r i := by
  simp [State.get, h]

/-! ## The parts that a register write leaves -/

theorem State.set_eq (s : State) (r : Reg) (i v : Nat) : s.set r i v = { s with regs := (s.set r i v).regs } := rfl

theorem State.setAll_eq (l : List (Reg × Nat)) (i : Nat) : ∀ s : State, s.setAll i l = { s with regs := (s.setAll i l).regs } := by
  induction l with
  | nil => intro s; rfl
  | cons p l ih => intro s; exact ih (s.set p.1 i p.2)

theorem State.resetFields_eq (l : List Reg) (i : Nat) : ∀ s : State, s.resetFields i l = { s with regs := (s.resetFields i l).regs } := by
  induction l with
  | nil => intro s; rfl
  | cons r l ih => intro s; exact ih (s.set r i (r.resetAt i))

@[simp] theorem State.set_pending (s : State) (r : Reg) (i v : Nat) : (s.set r i v).pending = s.pending := rfl
@[simp] theorem State.set_before (s : State) (r : Reg) (i v : Nat) : (s.set r i v).before = s.before := rfl
@[simp] theorem State.set_now (s : State) (r : Reg) (i v : Nat) : (s.set r i v).now = s.now := rfl
@[simp] theorem State.set_free (s : State) (r : Reg) (i v : Nat) : (s.set r i v).free = s.free := rfl
@[simp] theorem State.set_graphs (s : State) (r : Reg) (i v : Nat) : (s.set r i v).graphs = s.graphs := rfl
@[simp] theorem State.set_jobs (s : State) (r : Reg) (i v : Nat) : (s.set r i v).jobs = s.jobs := rfl
@[simp] theorem State.set_stopped (s : State) (r : Reg) (i v : Nat) : (s.set r i v).stopped = s.stopped := rfl
@[simp] theorem State.set_ringsOpening (s : State) (r : Reg) (i v : Nat) : (s.set r i v).ringsOpening = s.ringsOpening := rfl
@[simp] theorem State.set_jobSeq (s : State) (r : Reg) (i v : Nat) : (s.set r i v).jobSeq = s.jobSeq := rfl
@[simp] theorem State.set_jobKeys (s : State) (r : Reg) (i v : Nat) : (s.set r i v).jobKeys = s.jobKeys := rfl
@[simp] theorem State.set_waits (s : State) (r : Reg) (i v : Nat) : (s.set r i v).waits = s.waits := rfl
@[simp] theorem State.set_memory (s : State) (r : Reg) (i v : Nat) : (s.set r i v).memory = s.memory := rfl
@[simp] theorem State.set_refresh (s : State) (r : Reg) (i v : Nat) : (s.set r i v).refresh = s.refresh := rfl
@[simp] theorem State.set_staging (s : State) (r : Reg) (i v : Nat) : (s.set r i v).staging = s.staging := rfl
@[simp] theorem State.set_clippedHigh (s : State) (r : Reg) (i v : Nat) : (s.set r i v).clippedHigh = s.clippedHigh := rfl
@[simp] theorem State.set_histHigh (s : State) (r : Reg) (i v : Nat) : (s.set r i v).histHigh = s.histHigh := rfl
@[simp] theorem State.set_demands (s : State) (r : Reg) (i v : Nat) : (s.set r i v).demands = s.demands := rfl
@[simp] theorem State.set_deferred (s : State) (r : Reg) (i v : Nat) : (s.set r i v).deferred = s.deferred := rfl
@[simp] theorem State.set_saves (s : State) (r : Reg) (i v : Nat) : (s.set r i v).saves = s.saves := rfl
@[simp] theorem State.set_fabric (s : State) (r : Reg) (i v : Nat) : (s.set r i v).fabric = s.fabric := rfl
@[simp] theorem State.set_policy (s : State) (r : Reg) (i v : Nat) : (s.set r i v).policy = s.policy := rfl
@[simp] theorem State.set_shutdownHeld (s : State) (r : Reg) (i v : Nat) : (s.set r i v).shutdownHeld = s.shutdownHeld := rfl
@[simp] theorem State.set_parts (s : State) (r : Reg) (i v : Nat) : (s.set r i v).parts = s.parts := rfl
@[simp] theorem State.set_lofts (s : State) (r : Reg) (i v : Nat) : (s.set r i v).lofts = s.lofts := rfl
@[simp] theorem State.set_kerf (s : State) (r : Reg) (i v : Nat) : (s.set r i v).kerf = s.kerf := rfl
@[simp] theorem State.set_residents (s : State) (r : Reg) (i v : Nat) : (s.set r i v).residents = s.residents := rfl
@[simp] theorem State.set_wring (s : State) (r : Reg) (i v : Nat) : (s.set r i v).wring = s.wring := rfl
@[simp] theorem State.set_reclaim (s : State) (r : Reg) (i v : Nat) : (s.set r i v).reclaim = s.reclaim := rfl
@[simp] theorem State.set_edits (s : State) (r : Reg) (i v : Nat) : (s.set r i v).edits = s.edits := rfl
@[simp] theorem State.set_lastServed (s : State) (r : Reg) (i v : Nat) : (s.set r i v).lastServed = s.lastServed := rfl
@[simp] theorem State.set_lastContext (s : State) (r : Reg) (i v : Nat) : (s.set r i v).lastContext = s.lastContext := rfl
@[simp] theorem State.set_froeTables (s : State) (r : Reg) (i v : Nat) : (s.set r i v).froeTables = s.froeTables := rfl
@[simp] theorem State.set_froeGen (s : State) (r : Reg) (i v : Nat) : (s.set r i v).froeGen = s.froeGen := rfl
@[simp] theorem State.set_froeTenant (s : State) (r : Reg) (i v : Nat) : (s.set r i v).froeTenant = s.froeTenant := rfl
@[simp] theorem State.set_froeQueue (s : State) (r : Reg) (i v : Nat) : (s.set r i v).froeQueue = s.froeQueue := rfl
@[simp] theorem State.set_froeBuilds (s : State) (r : Reg) (i v : Nat) : (s.set r i v).froeBuilds = s.froeBuilds := rfl
@[simp] theorem State.set_decisions (s : State) (r : Reg) (i v : Nat) : (s.set r i v).decisions = s.decisions := rfl
@[simp] theorem State.set_swaps (s : State) (r : Reg) (i v : Nat) : (s.set r i v).swaps = s.swaps := rfl
@[simp] theorem State.set_resets (s : State) (r : Reg) (i v : Nat) : (s.set r i v).resets = s.resets := rfl
@[simp] theorem State.set_camera (s : State) (r : Reg) (i v : Nat) : (s.set r i v).camera = s.camera := rfl
@[simp] theorem State.set_audio (s : State) (r : Reg) (i v : Nat) : (s.set r i v).audio = s.audio := rfl
@[simp] theorem State.set_wedge (s : State) (r : Reg) (i v : Nat) : (s.set r i v).wedge = s.wedge := rfl
@[simp] theorem State.set_flash (s : State) (r : Reg) (i v : Nat) : (s.set r i v).flash = s.flash := rfl
@[simp] theorem State.set_boot (s : State) (r : Reg) (i v : Nat) : (s.set r i v).boot = s.boot := rfl
@[simp] theorem State.set_health (s : State) (r : Reg) (i v : Nat) : (s.set r i v).health = s.health := rfl
@[simp] theorem State.set_clocks (s : State) (r : Reg) (i v : Nat) : (s.set r i v).clocks = s.clocks := rfl
@[simp] theorem State.set_power (s : State) (r : Reg) (i v : Nat) : (s.set r i v).power = s.power := rfl
@[simp] theorem State.set_pins (s : State) (r : Reg) (i v : Nat) : (s.set r i v).pins = s.pins := rfl
@[simp] theorem State.set_recovery (s : State) (r : Reg) (i v : Nat) : (s.set r i v).recovery = s.recovery := rfl
@[simp] theorem State.set_ceRetire (s : State) (r : Reg) (i v : Nat) : (s.set r i v).ceRetire = s.ceRetire := rfl
@[simp] theorem State.set_loftRowCE (s : State) (r : Reg) (i v : Nat) : (s.set r i v).loftRowCE = s.loftRowCE := rfl
@[simp] theorem State.set_patrolHours (s : State) (r : Reg) (i v : Nat) : (s.set r i v).patrolHours = s.patrolHours := rfl
@[simp] theorem State.set_busMaster (s : State) (r : Reg) (i v : Nat) : (s.set r i v).busMaster = s.busMaster := rfl
@[simp] theorem State.set_d3hot (s : State) (r : Reg) (i v : Nat) : (s.set r i v).d3hot = s.d3hot := rfl
@[simp] theorem State.set_config (s : State) (r : Reg) (i v : Nat) : (s.set r i v).config = s.config := rfl
@[simp] theorem State.set_known (s : State) (r : Reg) (i v : Nat) : (s.set r i v).known = s.known := rfl
@[simp] theorem State.set_outbox (s : State) (r : Reg) (i v : Nat) : (s.set r i v).outbox = s.outbox := rfl

@[simp] theorem State.bump_pending (s : State) (r : Reg) (i n : Nat) : (s.bump r i n).pending = s.pending := rfl
@[simp] theorem State.bump_before (s : State) (r : Reg) (i n : Nat) : (s.bump r i n).before = s.before := rfl
@[simp] theorem State.bump_now (s : State) (r : Reg) (i n : Nat) : (s.bump r i n).now = s.now := rfl
@[simp] theorem State.bump_free (s : State) (r : Reg) (i n : Nat) : (s.bump r i n).free = s.free := rfl
@[simp] theorem State.bump_graphs (s : State) (r : Reg) (i n : Nat) : (s.bump r i n).graphs = s.graphs := rfl
@[simp] theorem State.bump_jobs (s : State) (r : Reg) (i n : Nat) : (s.bump r i n).jobs = s.jobs := rfl
@[simp] theorem State.bump_stopped (s : State) (r : Reg) (i n : Nat) : (s.bump r i n).stopped = s.stopped := rfl
@[simp] theorem State.bump_ringsOpening (s : State) (r : Reg) (i n : Nat) : (s.bump r i n).ringsOpening = s.ringsOpening := rfl
@[simp] theorem State.bump_jobSeq (s : State) (r : Reg) (i n : Nat) : (s.bump r i n).jobSeq = s.jobSeq := rfl
@[simp] theorem State.bump_jobKeys (s : State) (r : Reg) (i n : Nat) : (s.bump r i n).jobKeys = s.jobKeys := rfl
@[simp] theorem State.bump_waits (s : State) (r : Reg) (i n : Nat) : (s.bump r i n).waits = s.waits := rfl
@[simp] theorem State.bump_memory (s : State) (r : Reg) (i n : Nat) : (s.bump r i n).memory = s.memory := rfl
@[simp] theorem State.bump_refresh (s : State) (r : Reg) (i n : Nat) : (s.bump r i n).refresh = s.refresh := rfl
@[simp] theorem State.bump_staging (s : State) (r : Reg) (i n : Nat) : (s.bump r i n).staging = s.staging := rfl
@[simp] theorem State.bump_clippedHigh (s : State) (r : Reg) (i n : Nat) : (s.bump r i n).clippedHigh = s.clippedHigh := rfl
@[simp] theorem State.bump_histHigh (s : State) (r : Reg) (i n : Nat) : (s.bump r i n).histHigh = s.histHigh := rfl
@[simp] theorem State.bump_demands (s : State) (r : Reg) (i n : Nat) : (s.bump r i n).demands = s.demands := rfl
@[simp] theorem State.bump_deferred (s : State) (r : Reg) (i n : Nat) : (s.bump r i n).deferred = s.deferred := rfl
@[simp] theorem State.bump_saves (s : State) (r : Reg) (i n : Nat) : (s.bump r i n).saves = s.saves := rfl
@[simp] theorem State.bump_fabric (s : State) (r : Reg) (i n : Nat) : (s.bump r i n).fabric = s.fabric := rfl
@[simp] theorem State.bump_policy (s : State) (r : Reg) (i n : Nat) : (s.bump r i n).policy = s.policy := rfl
@[simp] theorem State.bump_shutdownHeld (s : State) (r : Reg) (i n : Nat) : (s.bump r i n).shutdownHeld = s.shutdownHeld := rfl
@[simp] theorem State.bump_parts (s : State) (r : Reg) (i n : Nat) : (s.bump r i n).parts = s.parts := rfl
@[simp] theorem State.bump_lofts (s : State) (r : Reg) (i n : Nat) : (s.bump r i n).lofts = s.lofts := rfl
@[simp] theorem State.bump_kerf (s : State) (r : Reg) (i n : Nat) : (s.bump r i n).kerf = s.kerf := rfl
@[simp] theorem State.bump_residents (s : State) (r : Reg) (i n : Nat) : (s.bump r i n).residents = s.residents := rfl
@[simp] theorem State.bump_wring (s : State) (r : Reg) (i n : Nat) : (s.bump r i n).wring = s.wring := rfl
@[simp] theorem State.bump_reclaim (s : State) (r : Reg) (i n : Nat) : (s.bump r i n).reclaim = s.reclaim := rfl
@[simp] theorem State.bump_edits (s : State) (r : Reg) (i n : Nat) : (s.bump r i n).edits = s.edits := rfl
@[simp] theorem State.bump_lastServed (s : State) (r : Reg) (i n : Nat) : (s.bump r i n).lastServed = s.lastServed := rfl
@[simp] theorem State.bump_lastContext (s : State) (r : Reg) (i n : Nat) : (s.bump r i n).lastContext = s.lastContext := rfl
@[simp] theorem State.bump_froeTables (s : State) (r : Reg) (i n : Nat) : (s.bump r i n).froeTables = s.froeTables := rfl
@[simp] theorem State.bump_froeGen (s : State) (r : Reg) (i n : Nat) : (s.bump r i n).froeGen = s.froeGen := rfl
@[simp] theorem State.bump_froeTenant (s : State) (r : Reg) (i n : Nat) : (s.bump r i n).froeTenant = s.froeTenant := rfl
@[simp] theorem State.bump_froeQueue (s : State) (r : Reg) (i n : Nat) : (s.bump r i n).froeQueue = s.froeQueue := rfl
@[simp] theorem State.bump_froeBuilds (s : State) (r : Reg) (i n : Nat) : (s.bump r i n).froeBuilds = s.froeBuilds := rfl
@[simp] theorem State.bump_decisions (s : State) (r : Reg) (i n : Nat) : (s.bump r i n).decisions = s.decisions := rfl
@[simp] theorem State.bump_swaps (s : State) (r : Reg) (i n : Nat) : (s.bump r i n).swaps = s.swaps := rfl
@[simp] theorem State.bump_resets (s : State) (r : Reg) (i n : Nat) : (s.bump r i n).resets = s.resets := rfl
@[simp] theorem State.bump_camera (s : State) (r : Reg) (i n : Nat) : (s.bump r i n).camera = s.camera := rfl
@[simp] theorem State.bump_audio (s : State) (r : Reg) (i n : Nat) : (s.bump r i n).audio = s.audio := rfl
@[simp] theorem State.bump_wedge (s : State) (r : Reg) (i n : Nat) : (s.bump r i n).wedge = s.wedge := rfl
@[simp] theorem State.bump_flash (s : State) (r : Reg) (i n : Nat) : (s.bump r i n).flash = s.flash := rfl
@[simp] theorem State.bump_boot (s : State) (r : Reg) (i n : Nat) : (s.bump r i n).boot = s.boot := rfl
@[simp] theorem State.bump_health (s : State) (r : Reg) (i n : Nat) : (s.bump r i n).health = s.health := rfl
@[simp] theorem State.bump_clocks (s : State) (r : Reg) (i n : Nat) : (s.bump r i n).clocks = s.clocks := rfl
@[simp] theorem State.bump_power (s : State) (r : Reg) (i n : Nat) : (s.bump r i n).power = s.power := rfl
@[simp] theorem State.bump_pins (s : State) (r : Reg) (i n : Nat) : (s.bump r i n).pins = s.pins := rfl
@[simp] theorem State.bump_recovery (s : State) (r : Reg) (i n : Nat) : (s.bump r i n).recovery = s.recovery := rfl
@[simp] theorem State.bump_ceRetire (s : State) (r : Reg) (i n : Nat) : (s.bump r i n).ceRetire = s.ceRetire := rfl
@[simp] theorem State.bump_loftRowCE (s : State) (r : Reg) (i n : Nat) : (s.bump r i n).loftRowCE = s.loftRowCE := rfl
@[simp] theorem State.bump_patrolHours (s : State) (r : Reg) (i n : Nat) : (s.bump r i n).patrolHours = s.patrolHours := rfl
@[simp] theorem State.bump_busMaster (s : State) (r : Reg) (i n : Nat) : (s.bump r i n).busMaster = s.busMaster := rfl
@[simp] theorem State.bump_d3hot (s : State) (r : Reg) (i n : Nat) : (s.bump r i n).d3hot = s.d3hot := rfl
@[simp] theorem State.bump_config (s : State) (r : Reg) (i n : Nat) : (s.bump r i n).config = s.config := rfl
@[simp] theorem State.bump_known (s : State) (r : Reg) (i n : Nat) : (s.bump r i n).known = s.known := rfl
@[simp] theorem State.bump_outbox (s : State) (r : Reg) (i n : Nat) : (s.bump r i n).outbox = s.outbox := rfl

@[simp] theorem State.drop_pending (s : State) (r : Reg) (i n : Nat) : (s.drop r i n).pending = s.pending := rfl
@[simp] theorem State.drop_before (s : State) (r : Reg) (i n : Nat) : (s.drop r i n).before = s.before := rfl
@[simp] theorem State.drop_now (s : State) (r : Reg) (i n : Nat) : (s.drop r i n).now = s.now := rfl
@[simp] theorem State.drop_free (s : State) (r : Reg) (i n : Nat) : (s.drop r i n).free = s.free := rfl
@[simp] theorem State.drop_graphs (s : State) (r : Reg) (i n : Nat) : (s.drop r i n).graphs = s.graphs := rfl
@[simp] theorem State.drop_jobs (s : State) (r : Reg) (i n : Nat) : (s.drop r i n).jobs = s.jobs := rfl
@[simp] theorem State.drop_stopped (s : State) (r : Reg) (i n : Nat) : (s.drop r i n).stopped = s.stopped := rfl
@[simp] theorem State.drop_ringsOpening (s : State) (r : Reg) (i n : Nat) : (s.drop r i n).ringsOpening = s.ringsOpening := rfl
@[simp] theorem State.drop_jobSeq (s : State) (r : Reg) (i n : Nat) : (s.drop r i n).jobSeq = s.jobSeq := rfl
@[simp] theorem State.drop_jobKeys (s : State) (r : Reg) (i n : Nat) : (s.drop r i n).jobKeys = s.jobKeys := rfl
@[simp] theorem State.drop_waits (s : State) (r : Reg) (i n : Nat) : (s.drop r i n).waits = s.waits := rfl
@[simp] theorem State.drop_memory (s : State) (r : Reg) (i n : Nat) : (s.drop r i n).memory = s.memory := rfl
@[simp] theorem State.drop_refresh (s : State) (r : Reg) (i n : Nat) : (s.drop r i n).refresh = s.refresh := rfl
@[simp] theorem State.drop_staging (s : State) (r : Reg) (i n : Nat) : (s.drop r i n).staging = s.staging := rfl
@[simp] theorem State.drop_clippedHigh (s : State) (r : Reg) (i n : Nat) : (s.drop r i n).clippedHigh = s.clippedHigh := rfl
@[simp] theorem State.drop_histHigh (s : State) (r : Reg) (i n : Nat) : (s.drop r i n).histHigh = s.histHigh := rfl
@[simp] theorem State.drop_demands (s : State) (r : Reg) (i n : Nat) : (s.drop r i n).demands = s.demands := rfl
@[simp] theorem State.drop_deferred (s : State) (r : Reg) (i n : Nat) : (s.drop r i n).deferred = s.deferred := rfl
@[simp] theorem State.drop_saves (s : State) (r : Reg) (i n : Nat) : (s.drop r i n).saves = s.saves := rfl
@[simp] theorem State.drop_fabric (s : State) (r : Reg) (i n : Nat) : (s.drop r i n).fabric = s.fabric := rfl
@[simp] theorem State.drop_policy (s : State) (r : Reg) (i n : Nat) : (s.drop r i n).policy = s.policy := rfl
@[simp] theorem State.drop_shutdownHeld (s : State) (r : Reg) (i n : Nat) : (s.drop r i n).shutdownHeld = s.shutdownHeld := rfl
@[simp] theorem State.drop_parts (s : State) (r : Reg) (i n : Nat) : (s.drop r i n).parts = s.parts := rfl
@[simp] theorem State.drop_lofts (s : State) (r : Reg) (i n : Nat) : (s.drop r i n).lofts = s.lofts := rfl
@[simp] theorem State.drop_kerf (s : State) (r : Reg) (i n : Nat) : (s.drop r i n).kerf = s.kerf := rfl
@[simp] theorem State.drop_residents (s : State) (r : Reg) (i n : Nat) : (s.drop r i n).residents = s.residents := rfl
@[simp] theorem State.drop_wring (s : State) (r : Reg) (i n : Nat) : (s.drop r i n).wring = s.wring := rfl
@[simp] theorem State.drop_reclaim (s : State) (r : Reg) (i n : Nat) : (s.drop r i n).reclaim = s.reclaim := rfl
@[simp] theorem State.drop_edits (s : State) (r : Reg) (i n : Nat) : (s.drop r i n).edits = s.edits := rfl
@[simp] theorem State.drop_lastServed (s : State) (r : Reg) (i n : Nat) : (s.drop r i n).lastServed = s.lastServed := rfl
@[simp] theorem State.drop_lastContext (s : State) (r : Reg) (i n : Nat) : (s.drop r i n).lastContext = s.lastContext := rfl
@[simp] theorem State.drop_froeTables (s : State) (r : Reg) (i n : Nat) : (s.drop r i n).froeTables = s.froeTables := rfl
@[simp] theorem State.drop_froeGen (s : State) (r : Reg) (i n : Nat) : (s.drop r i n).froeGen = s.froeGen := rfl
@[simp] theorem State.drop_froeTenant (s : State) (r : Reg) (i n : Nat) : (s.drop r i n).froeTenant = s.froeTenant := rfl
@[simp] theorem State.drop_froeQueue (s : State) (r : Reg) (i n : Nat) : (s.drop r i n).froeQueue = s.froeQueue := rfl
@[simp] theorem State.drop_froeBuilds (s : State) (r : Reg) (i n : Nat) : (s.drop r i n).froeBuilds = s.froeBuilds := rfl
@[simp] theorem State.drop_decisions (s : State) (r : Reg) (i n : Nat) : (s.drop r i n).decisions = s.decisions := rfl
@[simp] theorem State.drop_swaps (s : State) (r : Reg) (i n : Nat) : (s.drop r i n).swaps = s.swaps := rfl
@[simp] theorem State.drop_resets (s : State) (r : Reg) (i n : Nat) : (s.drop r i n).resets = s.resets := rfl
@[simp] theorem State.drop_camera (s : State) (r : Reg) (i n : Nat) : (s.drop r i n).camera = s.camera := rfl
@[simp] theorem State.drop_audio (s : State) (r : Reg) (i n : Nat) : (s.drop r i n).audio = s.audio := rfl
@[simp] theorem State.drop_wedge (s : State) (r : Reg) (i n : Nat) : (s.drop r i n).wedge = s.wedge := rfl
@[simp] theorem State.drop_flash (s : State) (r : Reg) (i n : Nat) : (s.drop r i n).flash = s.flash := rfl
@[simp] theorem State.drop_boot (s : State) (r : Reg) (i n : Nat) : (s.drop r i n).boot = s.boot := rfl
@[simp] theorem State.drop_health (s : State) (r : Reg) (i n : Nat) : (s.drop r i n).health = s.health := rfl
@[simp] theorem State.drop_clocks (s : State) (r : Reg) (i n : Nat) : (s.drop r i n).clocks = s.clocks := rfl
@[simp] theorem State.drop_power (s : State) (r : Reg) (i n : Nat) : (s.drop r i n).power = s.power := rfl
@[simp] theorem State.drop_pins (s : State) (r : Reg) (i n : Nat) : (s.drop r i n).pins = s.pins := rfl
@[simp] theorem State.drop_recovery (s : State) (r : Reg) (i n : Nat) : (s.drop r i n).recovery = s.recovery := rfl
@[simp] theorem State.drop_ceRetire (s : State) (r : Reg) (i n : Nat) : (s.drop r i n).ceRetire = s.ceRetire := rfl
@[simp] theorem State.drop_loftRowCE (s : State) (r : Reg) (i n : Nat) : (s.drop r i n).loftRowCE = s.loftRowCE := rfl
@[simp] theorem State.drop_patrolHours (s : State) (r : Reg) (i n : Nat) : (s.drop r i n).patrolHours = s.patrolHours := rfl
@[simp] theorem State.drop_busMaster (s : State) (r : Reg) (i n : Nat) : (s.drop r i n).busMaster = s.busMaster := rfl
@[simp] theorem State.drop_d3hot (s : State) (r : Reg) (i n : Nat) : (s.drop r i n).d3hot = s.d3hot := rfl
@[simp] theorem State.drop_config (s : State) (r : Reg) (i n : Nat) : (s.drop r i n).config = s.config := rfl
@[simp] theorem State.drop_known (s : State) (r : Reg) (i n : Nat) : (s.drop r i n).known = s.known := rfl
@[simp] theorem State.drop_outbox (s : State) (r : Reg) (i n : Nat) : (s.drop r i n).outbox = s.outbox := rfl

@[simp] theorem State.setAll_pending (s : State) (i : Nat) (l : List (Reg × Nat)) : (s.setAll i l).pending = s.pending := by rw [State.setAll_eq]
@[simp] theorem State.setAll_before (s : State) (i : Nat) (l : List (Reg × Nat)) : (s.setAll i l).before = s.before := by rw [State.setAll_eq]
@[simp] theorem State.setAll_now (s : State) (i : Nat) (l : List (Reg × Nat)) : (s.setAll i l).now = s.now := by rw [State.setAll_eq]
@[simp] theorem State.setAll_free (s : State) (i : Nat) (l : List (Reg × Nat)) : (s.setAll i l).free = s.free := by rw [State.setAll_eq]
@[simp] theorem State.setAll_graphs (s : State) (i : Nat) (l : List (Reg × Nat)) : (s.setAll i l).graphs = s.graphs := by rw [State.setAll_eq]
@[simp] theorem State.setAll_jobs (s : State) (i : Nat) (l : List (Reg × Nat)) : (s.setAll i l).jobs = s.jobs := by rw [State.setAll_eq]
@[simp] theorem State.setAll_stopped (s : State) (i : Nat) (l : List (Reg × Nat)) : (s.setAll i l).stopped = s.stopped := by rw [State.setAll_eq]
@[simp] theorem State.setAll_ringsOpening (s : State) (i : Nat) (l : List (Reg × Nat)) : (s.setAll i l).ringsOpening = s.ringsOpening := by rw [State.setAll_eq]
@[simp] theorem State.setAll_jobSeq (s : State) (i : Nat) (l : List (Reg × Nat)) : (s.setAll i l).jobSeq = s.jobSeq := by rw [State.setAll_eq]
@[simp] theorem State.setAll_jobKeys (s : State) (i : Nat) (l : List (Reg × Nat)) : (s.setAll i l).jobKeys = s.jobKeys := by rw [State.setAll_eq]
@[simp] theorem State.setAll_waits (s : State) (i : Nat) (l : List (Reg × Nat)) : (s.setAll i l).waits = s.waits := by rw [State.setAll_eq]
@[simp] theorem State.setAll_memory (s : State) (i : Nat) (l : List (Reg × Nat)) : (s.setAll i l).memory = s.memory := by rw [State.setAll_eq]
@[simp] theorem State.setAll_refresh (s : State) (i : Nat) (l : List (Reg × Nat)) : (s.setAll i l).refresh = s.refresh := by rw [State.setAll_eq]
@[simp] theorem State.setAll_staging (s : State) (i : Nat) (l : List (Reg × Nat)) : (s.setAll i l).staging = s.staging := by rw [State.setAll_eq]
@[simp] theorem State.setAll_clippedHigh (s : State) (i : Nat) (l : List (Reg × Nat)) : (s.setAll i l).clippedHigh = s.clippedHigh := by rw [State.setAll_eq]
@[simp] theorem State.setAll_histHigh (s : State) (i : Nat) (l : List (Reg × Nat)) : (s.setAll i l).histHigh = s.histHigh := by rw [State.setAll_eq]
@[simp] theorem State.setAll_demands (s : State) (i : Nat) (l : List (Reg × Nat)) : (s.setAll i l).demands = s.demands := by rw [State.setAll_eq]
@[simp] theorem State.setAll_deferred (s : State) (i : Nat) (l : List (Reg × Nat)) : (s.setAll i l).deferred = s.deferred := by rw [State.setAll_eq]
@[simp] theorem State.setAll_saves (s : State) (i : Nat) (l : List (Reg × Nat)) : (s.setAll i l).saves = s.saves := by rw [State.setAll_eq]
@[simp] theorem State.setAll_fabric (s : State) (i : Nat) (l : List (Reg × Nat)) : (s.setAll i l).fabric = s.fabric := by rw [State.setAll_eq]
@[simp] theorem State.setAll_policy (s : State) (i : Nat) (l : List (Reg × Nat)) : (s.setAll i l).policy = s.policy := by rw [State.setAll_eq]
@[simp] theorem State.setAll_shutdownHeld (s : State) (i : Nat) (l : List (Reg × Nat)) : (s.setAll i l).shutdownHeld = s.shutdownHeld := by rw [State.setAll_eq]
@[simp] theorem State.setAll_parts (s : State) (i : Nat) (l : List (Reg × Nat)) : (s.setAll i l).parts = s.parts := by rw [State.setAll_eq]
@[simp] theorem State.setAll_lofts (s : State) (i : Nat) (l : List (Reg × Nat)) : (s.setAll i l).lofts = s.lofts := by rw [State.setAll_eq]
@[simp] theorem State.setAll_kerf (s : State) (i : Nat) (l : List (Reg × Nat)) : (s.setAll i l).kerf = s.kerf := by rw [State.setAll_eq]
@[simp] theorem State.setAll_residents (s : State) (i : Nat) (l : List (Reg × Nat)) : (s.setAll i l).residents = s.residents := by rw [State.setAll_eq]
@[simp] theorem State.setAll_wring (s : State) (i : Nat) (l : List (Reg × Nat)) : (s.setAll i l).wring = s.wring := by rw [State.setAll_eq]
@[simp] theorem State.setAll_reclaim (s : State) (i : Nat) (l : List (Reg × Nat)) : (s.setAll i l).reclaim = s.reclaim := by rw [State.setAll_eq]
@[simp] theorem State.setAll_edits (s : State) (i : Nat) (l : List (Reg × Nat)) : (s.setAll i l).edits = s.edits := by rw [State.setAll_eq]
@[simp] theorem State.setAll_lastServed (s : State) (i : Nat) (l : List (Reg × Nat)) : (s.setAll i l).lastServed = s.lastServed := by rw [State.setAll_eq]
@[simp] theorem State.setAll_lastContext (s : State) (i : Nat) (l : List (Reg × Nat)) : (s.setAll i l).lastContext = s.lastContext := by rw [State.setAll_eq]
@[simp] theorem State.setAll_froeTables (s : State) (i : Nat) (l : List (Reg × Nat)) : (s.setAll i l).froeTables = s.froeTables := by rw [State.setAll_eq]
@[simp] theorem State.setAll_froeGen (s : State) (i : Nat) (l : List (Reg × Nat)) : (s.setAll i l).froeGen = s.froeGen := by rw [State.setAll_eq]
@[simp] theorem State.setAll_froeTenant (s : State) (i : Nat) (l : List (Reg × Nat)) : (s.setAll i l).froeTenant = s.froeTenant := by rw [State.setAll_eq]
@[simp] theorem State.setAll_froeQueue (s : State) (i : Nat) (l : List (Reg × Nat)) : (s.setAll i l).froeQueue = s.froeQueue := by rw [State.setAll_eq]
@[simp] theorem State.setAll_froeBuilds (s : State) (i : Nat) (l : List (Reg × Nat)) : (s.setAll i l).froeBuilds = s.froeBuilds := by rw [State.setAll_eq]
@[simp] theorem State.setAll_decisions (s : State) (i : Nat) (l : List (Reg × Nat)) : (s.setAll i l).decisions = s.decisions := by rw [State.setAll_eq]
@[simp] theorem State.setAll_swaps (s : State) (i : Nat) (l : List (Reg × Nat)) : (s.setAll i l).swaps = s.swaps := by rw [State.setAll_eq]
@[simp] theorem State.setAll_resets (s : State) (i : Nat) (l : List (Reg × Nat)) : (s.setAll i l).resets = s.resets := by rw [State.setAll_eq]
@[simp] theorem State.setAll_camera (s : State) (i : Nat) (l : List (Reg × Nat)) : (s.setAll i l).camera = s.camera := by rw [State.setAll_eq]
@[simp] theorem State.setAll_audio (s : State) (i : Nat) (l : List (Reg × Nat)) : (s.setAll i l).audio = s.audio := by rw [State.setAll_eq]
@[simp] theorem State.setAll_wedge (s : State) (i : Nat) (l : List (Reg × Nat)) : (s.setAll i l).wedge = s.wedge := by rw [State.setAll_eq]
@[simp] theorem State.setAll_flash (s : State) (i : Nat) (l : List (Reg × Nat)) : (s.setAll i l).flash = s.flash := by rw [State.setAll_eq]
@[simp] theorem State.setAll_boot (s : State) (i : Nat) (l : List (Reg × Nat)) : (s.setAll i l).boot = s.boot := by rw [State.setAll_eq]
@[simp] theorem State.setAll_health (s : State) (i : Nat) (l : List (Reg × Nat)) : (s.setAll i l).health = s.health := by rw [State.setAll_eq]
@[simp] theorem State.setAll_clocks (s : State) (i : Nat) (l : List (Reg × Nat)) : (s.setAll i l).clocks = s.clocks := by rw [State.setAll_eq]
@[simp] theorem State.setAll_power (s : State) (i : Nat) (l : List (Reg × Nat)) : (s.setAll i l).power = s.power := by rw [State.setAll_eq]
@[simp] theorem State.setAll_pins (s : State) (i : Nat) (l : List (Reg × Nat)) : (s.setAll i l).pins = s.pins := by rw [State.setAll_eq]
@[simp] theorem State.setAll_recovery (s : State) (i : Nat) (l : List (Reg × Nat)) : (s.setAll i l).recovery = s.recovery := by rw [State.setAll_eq]
@[simp] theorem State.setAll_ceRetire (s : State) (i : Nat) (l : List (Reg × Nat)) : (s.setAll i l).ceRetire = s.ceRetire := by rw [State.setAll_eq]
@[simp] theorem State.setAll_loftRowCE (s : State) (i : Nat) (l : List (Reg × Nat)) : (s.setAll i l).loftRowCE = s.loftRowCE := by rw [State.setAll_eq]
@[simp] theorem State.setAll_patrolHours (s : State) (i : Nat) (l : List (Reg × Nat)) : (s.setAll i l).patrolHours = s.patrolHours := by rw [State.setAll_eq]
@[simp] theorem State.setAll_busMaster (s : State) (i : Nat) (l : List (Reg × Nat)) : (s.setAll i l).busMaster = s.busMaster := by rw [State.setAll_eq]
@[simp] theorem State.setAll_d3hot (s : State) (i : Nat) (l : List (Reg × Nat)) : (s.setAll i l).d3hot = s.d3hot := by rw [State.setAll_eq]
@[simp] theorem State.setAll_config (s : State) (i : Nat) (l : List (Reg × Nat)) : (s.setAll i l).config = s.config := by rw [State.setAll_eq]
@[simp] theorem State.setAll_known (s : State) (i : Nat) (l : List (Reg × Nat)) : (s.setAll i l).known = s.known := by rw [State.setAll_eq]
@[simp] theorem State.setAll_outbox (s : State) (i : Nat) (l : List (Reg × Nat)) : (s.setAll i l).outbox = s.outbox := by rw [State.setAll_eq]

/-! ## The canonical form of the registers -/

theorem regDefault_regKey (r : Reg) (i : Nat) : regDefault (regKey r i) = r.resetAt i := by
  have h := Reg.ctorIdx_lt r
  have h1 : regKey r i % 1024 = r.ctorIdx := by unfold regKey; omega
  have h2 : regKey r i / 1024 = i := by unfold regKey; omega
  rw [regDefault, h1, h2, Reg.ofNat_ctorIdx]

/-- A register write keeps the register store canonical. -/
theorem State.set_wf (s : State) (r : Reg) (i v : Nat) (h : Store.wf regDefault s.regs = true) :
    Store.wf regDefault (s.set r i v).regs = true := by
  have := Store.wf_put regDefault s.regs (regKey r i) (v % 2 ^ r.width) h
  rwa [regDefault_regKey] at this

end Sys2Proof.Machine
end

