-- ==== Sys2Proof/Laws/Canonical.lean ====
section
/-! SUPPORT. The canonical form: what the operations on registers and memories keep, and how it passes through folds. -/

namespace Sys2Proof.Machine

/-! ## Memories of the flash -/

theorem Store.wfFrom_append {α : Type} [DecidableEq α] (d : Nat → α) (l r : List (Nat × α)) (n : Nat) :
    ∀ b, Store.wfFrom d b l = true → (∀ p ∈ l, p.1 < n) → Store.wfFrom d none r = true → (∀ p ∈ r, n ≤ p.1) →
      (∀ c, b = some c → c < n) → Store.wfFrom d b (l ++ r) = true := by
  induction l with
  | nil =>
    intro b _ _ hr hn hb
    cases r with
    | nil => rfl
    | cons p r =>
      obtain ⟨k, v⟩ := p
      have hk : n ≤ k := hn (k, v) (List.mem_cons_self ..)
      cases b with
      | none => exact hr
      | some c =>
        have := hb c rfl
        simp [Store.wfFrom] at hr ⊢
        exact ⟨⟨by omega, hr.1⟩, hr.2⟩
  | cons p l ih =>
    obtain ⟨k, v⟩ := p
    intro b hl hm hr hn hb
    have hk : k < n := hm (k, v) (List.mem_cons_self ..)
    simp only [List.cons_append, Store.wfFrom, Bool.and_eq_true] at hl ⊢
    exact ⟨hl.1, ih _ hl.2 (fun q hq => hm q (List.mem_cons_of_mem _ hq)) hr hn (fun c hc => by cases hc; exact hk)⟩

theorem Store.keys_above {α : Type} [DecidableEq α] (d : Nat → α) (l : List (Nat × α)) :
    ∀ c, Store.wfFrom d (some c) l = true → ∀ p ∈ l, c < p.1 := by
  induction l with
  | nil => intro c _ p hp; cases hp
  | cons q l ih =>
    obtain ⟨k, v⟩ := q
    intro c h p hp
    simp [Store.wfFrom] at h
    cases hp with
    | head => exact h.1.1
    | tail _ hp => exact Nat.lt_trans h.1.1 (ih k h.2 p hp)

/-- Fresh bytes laid down from an address. -/
theorem bytesFrom_wf (bs : List Byte) : ∀ a b, (∀ c, b = some c → c < a) → Store.wfFrom (fun _ => (0xFF : Byte)) b
    ((bs.zipIdx a).filterMap (fun (x, i) => if x = 0xFF then none else some (i, x))) = true := by
  induction bs with
  | nil => intro a b _; rfl
  | cons x bs ih =>
    intro a b hb
    by_cases h : x = 0xFF
    · simp only [List.zipIdx_cons, List.filterMap_cons, h, if_true]
      exact ih (a + 1) b (fun c hc => by have := hb c hc; omega)
    · simp only [List.zipIdx_cons, List.filterMap_cons, h, if_false, Store.wfFrom, Bool.and_eq_true]
      refine ⟨⟨?_, by simpa using h⟩, ih (a + 1) (some a) (fun c hc => by cases hc; omega)⟩
      cases b with
      | none => rfl
      | some c => simpa using hb c rfl

theorem bytesFrom_range (bs : List Byte) (a : Nat) :
    ∀ p ∈ ((bs.zipIdx a).filterMap (fun (x, i) => if x = 0xFF then none else some (i, x))), a ≤ p.1 ∧ p.1 < a + bs.length := by
  intro p hp
  rw [List.mem_filterMap] at hp
  obtain ⟨⟨x, i⟩, hm, he⟩ := hp
  have := List.mem_zipIdx hm
  dsimp only at he
  split at he
  · cases he
  · cases he; dsimp only at this ⊢; omega

/-- Programming bytes keeps the form. -/
theorem splice_wf (m : Mem) (a : Nat) (bs : List Byte) (h : Mem.wf 0xFF m = true) : Mem.wf 0xFF (splice m a bs) = true := by
  unfold splice
  have h1 := Store.wf_filter (fun _ => (0xFF : Byte)) (fun c => decide (c.1 < a)) m h
  have h2 := Store.wf_filter (fun _ => (0xFF : Byte)) (fun c => decide (a + bs.length ≤ c.1)) m h
  have h3 := bytesFrom_wf bs a none (fun c hc => by cases hc)
  rw [List.append_assoc]
  refine Store.wfFrom_append _ _ _ a none h1 ?_ ?_ ?_ (fun c hc => by cases hc)
  · intro p hp; have := (List.mem_filter.1 hp).2; simpa using this
  · refine Store.wfFrom_append _ _ _ (a + bs.length) none h3 (fun p hp => (bytesFrom_range bs a p hp).2) h2 ?_ (fun c hc => by cases hc)
    intro p hp; have := (List.mem_filter.1 hp).2; simpa using this
  · intro p hp
    rcases List.mem_append.1 hp with hp | hp
    · exact (bytesFrom_range bs a p hp).1
    · have := (List.mem_filter.1 hp).2
      have : a + bs.length ≤ p.1 := by simpa using this
      omega

/-- Bytes of which nothing is known keep the form. -/
theorem scramble_wf (seed : Nat) (m : Mem) (a n : Nat) (h : Mem.wf 0xFF m = true) : Mem.wf 0xFF (scramble seed m a n) = true := by
  unfold scramble Mem.wf Store.wf at *
  suffices H : ∀ (m : Mem) b, Store.wfFrom (fun _ => (0xFF : Byte)) b m = true → Store.wfFrom (fun _ => (0xFF : Byte)) b (m.filterMap
      (fun c => if a ≤ c.1 ∧ c.1 < a + n then
        (let b := BitVec.ofNat 8 (Config.freeValue seed c.1); if b = 0xFF then none else some (c.1, b)) else some c)) = true from H m none h
  intro m
  induction m with
  | nil => intro b h; exact h
  | cons p m ih =>
    obtain ⟨k, v⟩ := p
    intro b h
    have hk : Store.wfFrom (fun _ => (0xFF : Byte)) (some k) m = true := by simp [Store.wfFrom] at h; exact h.2
    have hb : Store.wfFrom (fun _ => (0xFF : Byte)) b m = true := by
      cases b with
      | none => exact Store.wfFrom_none _ k _ hk
      | some c => simp [Store.wfFrom] at h; exact Store.wfFrom_weaken _ k c _ (by omega) hk
    rw [List.filterMap_cons]
    dsimp only
    by_cases hr : a ≤ k ∧ k < a + n
    · rw [if_pos hr]
      by_cases hv : BitVec.ofNat 8 (Config.freeValue seed k) = 0xFF
      · rw [if_pos hv]; exact ih _ hb
      · rw [if_neg hv]
        simp only [Store.wfFrom, Bool.and_eq_true] at h ⊢
        exact ⟨⟨h.1.1, by simpa using hv⟩, ih _ hk⟩
    · rw [if_neg hr]
      simp only [Store.wfFrom, Bool.and_eq_true] at h ⊢
      exact ⟨h.1, ih _ hk⟩

/-! ## The form of a state -/

/-- A state that is given by its fields. -/
theorem canon_mk (pending regs before now free graphs jobs stopped ringsOpening jobSeq jobKeys waits memory refresh staging clippedHigh histHigh demands deferred saves fabric policy shutdownHeld parts lofts kerf residents wring reclaim edits lastServed lastContext froeTables froeGen froeTenant froeQueue froeBuilds decisions swaps resets camera audio wedge flash boot health clocks power pins recovery ceRetire loftRowCE patrolHours busMaster d3hot config known outbox) : (State.mk pending regs before now free graphs jobs stopped ringsOpening jobSeq jobKeys waits memory refresh staging clippedHigh histHigh demands deferred saves fabric policy shutdownHeld parts lofts kerf residents wring reclaim edits lastServed lastContext froeTables froeGen froeTenant froeQueue froeBuilds decisions swaps resets camera audio wedge flash boot health clocks power pins recovery ceRetire loftRowCE patrolHours busMaster d3hot config known outbox).Canonical ↔
    CanonicalParts regs memory.ddr memory.check memory.host memory.bar4 staging flash.slot0 flash.slot1 := by
  have h : True := trivial
  exact (fun _ => Iff.rfl) h

theorem canon_fold (s : State) : CanonicalParts s.regs s.memory.ddr s.memory.check s.memory.host s.memory.bar4 s.staging s.flash.slot0 s.flash.slot1 ↔
    s.Canonical := by
  have h : True := trivial
  exact (fun _ => Iff.rfl) h

theorem canon_set (s : State) (r : Reg) (i v : Nat) (h : s.Canonical) : (s.set r i v).Canonical := by
  refine ⟨⟨State.set_wf s r i v h.1.1, ?_⟩, h.2⟩
  intro r' i'
  have := State.get_set s r r' i i' v
  unfold State.get at this
  rw [this]
  split
  · rename_i hc; obtain ⟨rfl, rfl⟩ := hc; exact Nat.mod_lt _ (Nat.two_pow_pos _)
  · exact h.1.2 r' i'

theorem canon_bump (s : State) (r : Reg) (i n : Nat) (h : s.Canonical) : (s.bump r i n).Canonical := canon_set _ _ _ _ h

theorem canon_drop (s : State) (r : Reg) (i n : Nat) (h : s.Canonical) : (s.drop r i n).Canonical := canon_set _ _ _ _ h

theorem canon_setAll (i : Nat) (l : List (Reg × Nat)) : ∀ s : State, s.Canonical → (s.setAll i l).Canonical := by
  induction l with
  | nil => intro s h; exact h
  | cons p l ih => intro s h; exact ih _ (canon_set _ _ _ _ h)

theorem canon_resetFields (i : Nat) (l : List Reg) : ∀ s : State, s.Canonical → (s.resetFields i l).Canonical := by
  induction l with
  | nil => intro s h; exact h
  | cons r l ih => intro s h; exact ih _ (canon_set _ _ _ _ h)

/-! ## Memories -/

theorem canon_ddr_wf (s : State) (h : s.Canonical) : Mem.wf 0 s.memory.ddr = true := h.2.1.1

theorem canon_host_wf (s : State) (h : s.Canonical) : Mem.wf 0 s.memory.host = true := h.2.1.2.1

theorem canon_bar4_wf (s : State) (h : s.Canonical) : Mem.wf 0 s.memory.bar4 = true := h.2.1.2.2.1

theorem canon_check_wf (s : State) (h : s.Canonical) : Store.wf (fun _ => 0) s.memory.check = true := h.2.1.2.2.2

theorem canon_staging_wf (s : State) (h : s.Canonical) : Mem.wf 0 s.staging = true := h.2.2.1

theorem canon_slot_wf (s : State) (i : Nat) (h : s.Canonical) : Mem.wf 0xFF (s.flash.slot i) = true := by
  unfold Flash.slot; split
  · exact h.2.2.2.1
  · exact h.2.2.2.2

theorem canon_slot0_wf (s : State) (h : s.Canonical) : Mem.wf 0xFF s.flash.slot0 = true := h.2.2.2.1

theorem canon_slot1_wf (s : State) (h : s.Canonical) : Mem.wf 0xFF s.flash.slot1 = true := h.2.2.2.2

theorem canon_regsOk (s : State) (h : s.Canonical) : RegsOk s.regs := h.1

theorem wf_nil (d : Byte) : Mem.wf d [] = true := rfl

theorem check_nil : Store.wf (fun _ => 0) ([] : List (Nat × Nat)) = true := rfl

theorem check_filter (l : List (Nat × Nat)) (q : Nat × Nat → Bool) (h : Store.wf (fun _ => 0) l = true) :
    Store.wf (fun _ => 0) (l.filter q) = true := Store.wf_filter _ _ _ h

theorem canon_parts (regs : List (Nat × Nat)) (ddr : Mem) (check : List (Nat × Nat)) (host bar4 staging slot0 slot1 : Mem) (h : RegsOk regs)
    (h1 : Mem.wf 0 ddr = true) (hc : Store.wf (fun _ => 0) check = true) (h2 : Mem.wf 0 host = true) (h3 : Mem.wf 0 bar4 = true)
    (h4 : Mem.wf 0 staging = true) (h5 : Mem.wf 0xFF slot0 = true) (h6 : Mem.wf 0xFF slot1 = true) :
    CanonicalParts regs ddr check host bar4 staging slot0 slot1 := ⟨h, ⟨h1, h2, h3, hc⟩, h4, h5, h6⟩

/-- A store of bytes with fresh check symbols. -/
theorem canon_store (s : State) (pa : Nat) (bs : List Byte) (h : s.Canonical) :
    CanonicalParts s.regs (s.memory.store pa bs).ddr (s.memory.store pa bs).check (s.memory.store pa bs).host (s.memory.store pa bs).bar4
      s.staging s.flash.slot0 s.flash.slot1 :=
  ⟨h.1, ⟨Mem.wf_writeBytes _ _ _ _ h.2.1.1, h.2.1.2.1, h.2.1.2.2.1, Store.wf_put (fun _ => 0) _ _ _ h.2.1.2.2.2⟩, h.2.2⟩

/-- A change of stored bytes that no command wrote. -/
theorem canon_change (s : State) (pa : Nat) (bs : List Byte) (h : s.Canonical) :
    CanonicalParts s.regs (s.memory.change pa bs).ddr (s.memory.change pa bs).check (s.memory.change pa bs).host (s.memory.change pa bs).bar4
      s.staging s.flash.slot0 s.flash.slot1 :=
  ⟨h.1, ⟨Mem.wf_writeBytes _ _ _ _ h.2.1.1, h.2.1.2.1, h.2.1.2.2.1, Store.wf_put (fun _ => 0) _ _ _ h.2.1.2.2.2⟩, h.2.2⟩

theorem canon_host (s : State) (m : Mem) (h : s.Canonical) (hm : Mem.wf 0 m = true) :
    CanonicalParts s.regs s.memory.ddr s.memory.check m s.memory.bar4 s.staging s.flash.slot0 s.flash.slot1 :=
  ⟨h.1, ⟨h.2.1.1, hm, h.2.1.2.2⟩, h.2.2⟩

theorem canon_bar4 (s : State) (m : Mem) (h : s.Canonical) (hm : Mem.wf 0 m = true) :
    CanonicalParts s.regs s.memory.ddr s.memory.check s.memory.host m s.staging s.flash.slot0 s.flash.slot1 :=
  ⟨h.1, ⟨h.2.1.1, h.2.1.2.1, hm, h.2.1.2.2.2⟩, h.2.2⟩

theorem canon_staging (s : State) (m : Mem) (h : s.Canonical) (hm : Mem.wf 0 m = true) :
    CanonicalParts s.regs s.memory.ddr s.memory.check s.memory.host s.memory.bar4 m s.flash.slot0 s.flash.slot1 :=
  ⟨h.1, h.2.1, hm, h.2.2.2⟩

theorem canon_setSlot (s : State) (i : Nat) (m : Mem) (h : s.Canonical) (hm : Mem.wf 0xFF m = true) :
    CanonicalParts s.regs s.memory.ddr s.memory.check s.memory.host s.memory.bar4 s.staging (s.flash.setSlot i m).slot0 (s.flash.setSlot i m).slot1 := by
  unfold Flash.setSlot; split
  · exact ⟨h.1, h.2.1, h.2.2.1, hm, h.2.2.2.2⟩
  · exact ⟨h.1, h.2.1, h.2.2.1, h.2.2.2.1, hm⟩

theorem dirWrite_slot0 (f : Flash) (p : Nat) (b : Bool) (t : Nat) : (f.dirWrite p b t).slot0 = f.slot0 := by
  unfold Flash.dirWrite; dsimp only; split <;> rfl

theorem dirWrite_slot1 (f : Flash) (p : Nat) (b : Bool) (t : Nat) : (f.dirWrite p b t).slot1 = f.slot1 := by
  unfold Flash.dirWrite; dsimp only; split <;> rfl

theorem append_slot0 (f : Flash) (b : Nat → List Byte) : (f.append b).slot0 = f.slot0 := by
  have h : True := trivial
  exact (fun _ => rfl) h

theorem append_slot1 (f : Flash) (b : Nat → List Byte) : (f.append b).slot1 = f.slot1 := by
  have h : True := trivial
  exact (fun _ => rfl) h

theorem Reg.reset_fits_all :
    (List.range 1024).all (fun n => decide ((Reg.ofNat n).info.reset < 2 ^ (Reg.ofNat n).info.width)) = true := by decide +kernel

theorem Reg.reset_fits (r : Reg) : r.info.reset < 2 ^ r.info.width := by
  have h := List.all_eq_true.1 Reg.reset_fits_all r.ctorIdx (List.mem_range.2 (Reg.ctorIdx_lt r))
  rw [Reg.ofNat_ctorIdx r] at h
  exact of_decide_eq_true h

/-- A Reset value fits its field. -/
theorem Reg.resetAt_lt (r : Reg) (i : Nat) : r.resetAt i < 2 ^ r.width := by
  unfold Reg.resetAt
  split
  · exact Nat.lt_of_lt_of_le (Nat.mod_lt i (by decide)) (by decide)
  · exact Reg.reset_fits r

/-- A store without some of its registers: the others read as before. -/
theorem regsOk_filter (l : List (Nat × Nat)) (q : Nat × Nat → Bool) (h : RegsOk l) : RegsOk (l.filter q) := by
  refine ⟨Store.wf_filter _ _ _ h.1, ?_⟩
  intro r i
  have key : ∀ l : List (Nat × Nat), ∀ b, Store.wfFrom regDefault b l = true →
      Store.get (r.resetAt i) (l.filter q) (regKey r i) = Store.get (r.resetAt i) l (regKey r i) ∨
        Store.get (r.resetAt i) (l.filter q) (regKey r i) = r.resetAt i := by
    intro l
    induction l with
    | nil => intro b _; exact .inl rfl
    | cons p l ih =>
      obtain ⟨k, v⟩ := p
      intro b hb
      have ht : Store.wfFrom regDefault (some k) l = true := by simp [Store.wfFrom] at hb; exact hb.2
      by_cases hk : k = regKey r i
      · subst hk
        by_cases hq : q (regKey r i, v) = true
        · left; simp [hq, Store.get]
        · right
          rw [List.filter_cons_of_neg (by simpa using hq)]
          have habs : ∀ m : List (Nat × Nat), (∀ p ∈ m, regKey r i < p.1) → Store.get (r.resetAt i) m (regKey r i) = r.resetAt i := by
            intro m
            induction m with
            | nil => intro _; rfl
            | cons p m ihm =>
              obtain ⟨k, w⟩ := p
              intro hm
              have : regKey r i < k := hm (k, w) (List.mem_cons_self ..)
              simp only [Store.get]
              rw [if_neg (by omega)]
              exact ihm (fun p hp => hm p (List.mem_cons_of_mem _ hp))
          exact habs _ (fun p hp => Store.keys_above regDefault l _ ht p ((List.mem_filter.1 hp).1))
      · by_cases hq : q (k, v) = true
        · rw [List.filter_cons_of_pos hq]
          simp only [Store.get, if_neg hk]
          exact ih _ ht
        · rw [List.filter_cons_of_neg (by simpa using hq)]
          simp only [Store.get, if_neg hk]
          exact ih _ ht
  have hlt : r.resetAt i < 2 ^ r.width := Reg.resetAt_lt r i
  rcases key l none h.1 with h1 | h1
  · rw [h1]; exact h.2 r i
  · rw [h1]; exact hlt

theorem regsOk_nil : RegsOk [] := ⟨rfl, fun r i => Reg.resetAt_lt r i⟩

/-! ## Folds -/

theorem canon_forEach {α : Type} (l : List α) (f : α → State → State) (s : State) (h : ∀ a s, s.Canonical → (f a s).Canonical)
    (hs : s.Canonical) : (forEach l f s).Canonical := by
  unfold forEach
  induction l generalizing s with
  | nil => exact hs
  | cons a l ih => exact ih _ (h a s hs)

theorem canon_foldl {α : Type} (l : List α) (f : State → α → State) (s : State) (h : ∀ s a, s.Canonical → (f s a).Canonical)
    (hs : s.Canonical) : (l.foldl f s).Canonical := by
  induction l generalizing s with
  | nil => exact hs
  | cons a l ih => exact ih _ (h s a hs)

theorem canon_foldl_fst {α β : Type} (l : List α) (f : State × β → α → State × β) (p : State × β)
    (h : ∀ s b a, s.Canonical → (f (s, b) a).1.Canonical) (hs : p.1.Canonical) : (l.foldl f p).1.Canonical := by
  induction l generalizing p with
  | nil => exact hs
  | cons a l ih => exact ih _ (h p.1 p.2 a hs)

theorem canon_foldl_snd {α β : Type} (l : List α) (f : β × State → α → β × State) (p : β × State)
    (h : ∀ s b a, s.Canonical → (f (b, s) a).2.Canonical) (hs : p.2.Canonical) : (l.foldl f p).2.Canonical := by
  induction l generalizing p with
  | nil => exact hs
  | cons a l ih => exact ih _ (h p.2 p.1 a hs)

theorem canon_whenB (c : Bool) (f : State → State) (s : State) (h : ∀ s, s.Canonical → (f s).Canonical) (hs : s.Canonical) :
    (whenB c f s).Canonical := by
  unfold whenB; split
  · exact h s hs
  · exact hs

/-- Memories written one after another. -/
theorem wf_forEach {α : Type} (d : Byte) (l : List α) (f : α → Mem → Mem) (m : Mem) (h : ∀ a m, Mem.wf d m = true → Mem.wf d (f a m) = true)
    (hm : Mem.wf d m = true) : Mem.wf d (forEach l f m) = true := by
  unfold forEach
  induction l generalizing m with
  | nil => exact hm
  | cons a l ih => exact ih _ (h a m hm)

/-- Bytes laid into a memory from a stream, range by range. -/
theorem wf_foldl_fst {α β : Type} (d : Byte) (l : List α) (f : Mem × β → α → Mem × β) (p : Mem × β)
    (h : ∀ p a, Mem.wf d p.1 = true → Mem.wf d (f p a).1 = true) (hp : Mem.wf d p.1 = true) : Mem.wf d (l.foldl f p).1 = true := by
  induction l generalizing p with
  | nil => exact hp
  | cons a l ih => exact ih _ (h p a hp)

end Sys2Proof.Machine
end

