-- ==== Sys2Proof/Laws/Kept.lean ====
section
/-! SUPPORT. What almost no operation touches: the queue of waiting commands and OTP, and how that passes through folds. -/

namespace Sys2Proof.Machine

/-- The queue of commands, and OTP. -/
def State.kept (s : State) : List Instr × Otp := (s.pending, s.wedge.otp)

theorem kept_mk (pending regs before now free graphs jobs stopped ringsOpening jobSeq jobKeys waits memory refresh staging clippedHigh histHigh demands deferred saves fabric policy shutdownHeld parts lofts kerf residents wring reclaim edits lastServed lastContext froeTables froeGen froeTenant froeQueue froeBuilds decisions swaps resets camera audio wedge flash boot health clocks power pins recovery ceRetire loftRowCE patrolHours busMaster d3hot config known outbox) : (State.mk pending regs before now free graphs jobs stopped ringsOpening jobSeq jobKeys waits memory refresh staging clippedHigh histHigh demands deferred saves fabric policy shutdownHeld parts lofts kerf residents wring reclaim edits lastServed lastContext froeTables froeGen froeTenant froeQueue froeBuilds decisions swaps resets camera audio wedge flash boot health clocks power pins recovery ceRetire loftRowCE patrolHours busMaster d3hot config known outbox).kept = (pending, wedge.otp) := by have h : True := trivial; exact (fun _ => rfl) h

theorem State.kept_fold (s : State) : (s.pending, s.wedge.otp) = s.kept := by have h : True := trivial; exact (fun _ => rfl) h

theorem State.kept_set (s : State) (r i v) : (s.set r i v).kept = s.kept := by have h : True := trivial; exact (fun _ => rfl) h

theorem State.kept_bump (s : State) (r i v) : (s.bump r i v).kept = s.kept := by simp [kept]

theorem State.kept_drop (s : State) (r i v) : (s.drop r i v).kept = s.kept := by have h : True := trivial; exact (fun _ => rfl) h

theorem State.kept_setAll (s : State) (i l) : (s.setAll i l).kept = s.kept := by simp [kept]

theorem State.kept_resetFields (s : State) (i l) : (s.resetFields i l).kept = s.kept := by rw [State.resetFields_eq]; rfl

theorem kept_forEach {α : Type} (l : List α) (f : α → State → State) (s : State) (h : ∀ a s, (f a s).kept = s.kept) :
    (forEach l f s).kept = s.kept := by
  unfold forEach
  induction l generalizing s with
  | nil => rfl
  | cons a l ih => rw [List.foldl_cons, ih, h]

theorem kept_foldl {α : Type} (l : List α) (f : State → α → State) (s : State) (h : ∀ s a, (f s a).kept = s.kept) :
    (l.foldl f s).kept = s.kept := by
  induction l generalizing s with
  | nil => rfl
  | cons a l ih => rw [List.foldl_cons, ih, h]

theorem kept_foldl_fst {α β : Type} (l : List α) (f : State × β → α → State × β) (p : State × β)
    (h : ∀ s b a, (f (s, b) a).1.kept = s.kept) : (l.foldl f p).1.kept = p.1.kept := by
  induction l generalizing p with
  | nil => rfl
  | cons a l ih => rw [List.foldl_cons, ih]; exact h p.1 p.2 a

theorem kept_foldl_snd {α β : Type} (l : List α) (f : β × State → α → β × State) (p : β × State)
    (h : ∀ s b a, (f (b, s) a).2.kept = s.kept) : (l.foldl f p).2.kept = p.2.kept := by
  induction l generalizing p with
  | nil => rfl
  | cons a l ih => rw [List.foldl_cons, ih]; exact h p.2 p.1 a

theorem kept_whenB (c : Bool) (f : State → State) (s : State) (h : ∀ s, (f s).kept = s.kept) : (whenB c f s).kept = s.kept := by
  unfold whenB; split; exact h s; rfl

end Sys2Proof.Machine
end

