-- ==== Sys2Proof/Laws/OpsFrames.lean ====
section
/-! SUPPORT. What the shared operations, tenants, pegs, regions and the host port leave: the queue of commands and OTP (`_kept`), and the canonical form (`_canon`). -/

set_option linter.unusedSimpArgs false

namespace Sys2Proof.Machine

/-! ## Shared operations -/

theorem refuse_kept (s : State) (reason : Reg) (i code : Nat) : (State.refuse s reason i code).kept = s.kept := by
  unfold State.refuse
  simp only [State.kept_set]

theorem refuse_canon (s : State) (reason : Reg) (i code : Nat) (hs : s.Canonical) : (State.refuse s reason i code).Canonical := by
  unfold State.refuse
  repeat' first
    | with_reducible assumption
    | with_reducible apply canon_set
    | split

theorem draw_kept (s : State) (which : Nat) : (State.draw s which).2.kept = s.kept := by
  unfold State.draw
  simp only [kept_mk, State.kept_fold]

theorem draw_canon (s : State) (which : Nat) (hs : s.Canonical) : (State.draw s which).2.Canonical := by
  unfold State.draw
  repeat' first
    | with_reducible assumption
    | simp only [canon_mk, canon_fold]

    | split

theorem demand_kept (s : State) (d : Nat) : (State.demand s d).kept = s.kept := by
  unfold State.demand
  repeat' first
    | with_reducible rfl
    | (simp only [kept_mk, State.kept_fold, apply_ite State.kept, ite_self]; done)
    | dsimp only
    | intro _
    | split

theorem demand_canon (s : State) (d : Nat) (hs : s.Canonical) : (State.demand s d).Canonical := by
  unfold State.demand
  repeat' first
    | with_reducible assumption
    | with_reducible intro _
    | simp only [canon_mk, canon_fold]
    | dsimp only
    | split

theorem setDom_kept (s : State) (d st : Nat) : (State.setDom s d st).kept = s.kept := by
  unfold State.setDom
  repeat' first
    | with_reducible rfl
    | (simp only [State.kept_set, State.kept_bump, State.kept_drop, State.kept_setAll, apply_ite State.kept, ite_self]; done)
    | dsimp only
    | intro _
    | split

theorem setDom_canon (s : State) (d st : Nat) (hs : s.Canonical) : (State.setDom s d st).Canonical := by
  unfold State.setDom
  repeat' first
    | with_reducible assumption
    | simp only [canon_mk, canon_fold]
    | with_reducible apply canon_set
    | with_reducible apply canon_setAll
    | with_reducible apply canon_bump
    | with_reducible apply canon_drop
    | split

theorem setDoms_kept (s : State) (ds : List Nat) (st : Nat) : (State.setDoms s ds st).kept = s.kept := by
  unfold State.setDoms
  simp only [kept_foldl, implies_true, setDom_kept]

theorem setDoms_canon (s : State) (ds : List Nat) (st : Nat) (hs : s.Canonical) : (State.setDoms s ds st).Canonical := by
  unfold State.setDoms
  repeat' first
    | with_reducible assumption
    | with_reducible intro _
    | with_reducible apply canon_set
    | with_reducible apply canon_foldl
    | with_reducible apply canon_foldl_fst
    | with_reducible apply canon_foldl_snd
    | with_reducible apply setDom_canon
    | split

theorem exitSelfRefresh_kept (s : State) : (State.exitSelfRefresh s).kept = s.kept := by
  unfold State.exitSelfRefresh
  simp only [kept_mk, State.kept_fold, apply_ite State.kept, ite_self]

theorem exitSelfRefresh_canon (s : State) (hs : s.Canonical) : (State.exitSelfRefresh s).Canonical := by
  unfold State.exitSelfRefresh
  repeat' first
    | with_reducible assumption
    | simp only [canon_mk, canon_fold]

    | split

theorem awaken_kept (s : State) (f : State → State) (h_f : ∀ s, (f s).kept = s.kept) : (State.awaken s f).kept = s.kept := by
  unfold State.awaken
  simp only [apply_ite State.kept, ite_self, exitSelfRefresh_kept, h_f]

theorem awaken_canon (s : State) (f : State → State) (h_f : ∀ s, s.Canonical → (f s).Canonical) (hs : s.Canonical) : (State.awaken s f).Canonical := by
  unfold State.awaken
  repeat' first
    | with_reducible assumption
    | with_reducible intro _
    | with_reducible apply exitSelfRefresh_canon
    | with_reducible apply h_f
    | split

theorem whenAdmitted_kept (s : State) (w : Waiting) (f : State → State) (h_f : ∀ s, (f s).kept = s.kept) : (State.whenAdmitted s w f).kept = s.kept
    := by
  unfold State.whenAdmitted
  repeat' first
    | with_reducible rfl
    | (simp only [kept_mk, State.kept_fold, apply_ite State.kept, ite_self, exitSelfRefresh_kept, h_f, implies_true]; done)
    | simp only [kept_mk, State.kept_fold]
    | dsimp only
    | intro _
    | split
    | with_reducible refine (exitSelfRefresh_kept ..).trans ?_

theorem whenAdmitted_canon (s : State) (w : Waiting) (f : State → State) (h_f : ∀ s, s.Canonical → (f s).Canonical) (hs : s.Canonical) :
    (State.whenAdmitted s w f).Canonical := by
  unfold State.whenAdmitted
  repeat' first
    | with_reducible assumption
    | with_reducible intro _
    | simp only [canon_mk, canon_fold]
    | with_reducible apply exitSelfRefresh_canon
    | with_reducible apply h_f
    | with_reducible apply canon_store
    | with_reducible apply canon_change
    | with_reducible apply canon_host
    | with_reducible apply canon_bar4
    | with_reducible apply canon_staging
    | with_reducible apply canon_setSlot
    | with_reducible apply Mem.wf_write
    | with_reducible apply Mem.wf_writeBytes
    | with_reducible apply Mem.wf_writeNum
    | with_reducible apply Mem.wf_clear
    | with_reducible apply wf_forEach
    | with_reducible apply wf_foldl_fst
    | with_reducible apply canon_ddr_wf
    | with_reducible apply canon_check_wf
    | with_reducible apply canon_host_wf
    | with_reducible apply canon_bar4_wf
    | with_reducible apply canon_staging_wf
    | with_reducible apply canon_slot_wf
    | with_reducible apply splice_wf
    | with_reducible apply scramble_wf
    | with_reducible apply canon_regsOk
    | with_reducible apply regsOk_filter
    | with_reducible apply regsOk_nil
    | with_reducible apply wf_nil
    | with_reducible apply check_nil
    | with_reducible apply check_filter
    | with_reducible apply canon_slot0_wf
    | with_reducible apply canon_slot1_wf
    | dsimp only
    | split
    | with_reducible apply canon_parts

theorem reduce_kept (s : State) (b : Nat) : (State.reduce s b).kept = s.kept := by
  unfold State.reduce
  simp only [State.kept_set]

theorem reduce_canon (s : State) (b : Nat) (hs : s.Canonical) : (State.reduce s b).Canonical := by
  unfold State.reduce
  repeat' first
    | with_reducible assumption
    | with_reducible apply canon_set
    | split

theorem message_kept (s : State) (v : Nat) : (State.message s v).kept = s.kept := by
  unfold State.message
  repeat' first
    | with_reducible rfl
    | (simp only [State.kept_set, kept_mk, State.kept_fold, apply_ite State.kept, ite_self]; done)
    | dsimp only
    | intro _
    | split
    | with_reducible refine (State.kept_set ..).trans ?_

theorem message_canon (s : State) (v : Nat) (hs : s.Canonical) : (State.message s v).Canonical := by
  unfold State.message
  repeat' first
    | with_reducible assumption
    | with_reducible intro _
    | simp only [canon_mk, canon_fold]
    | with_reducible apply canon_set
    | with_reducible apply canon_store
    | with_reducible apply canon_change
    | with_reducible apply canon_host
    | with_reducible apply canon_bar4
    | with_reducible apply canon_staging
    | with_reducible apply canon_setSlot
    | with_reducible apply Mem.wf_write
    | with_reducible apply Mem.wf_writeBytes
    | with_reducible apply Mem.wf_writeNum
    | with_reducible apply Mem.wf_clear
    | with_reducible apply wf_forEach
    | with_reducible apply wf_foldl_fst
    | with_reducible apply canon_ddr_wf
    | with_reducible apply canon_check_wf
    | with_reducible apply canon_host_wf
    | with_reducible apply canon_bar4_wf
    | with_reducible apply canon_staging_wf
    | with_reducible apply canon_slot_wf
    | with_reducible apply splice_wf
    | with_reducible apply scramble_wf
    | with_reducible apply canon_regsOk
    | with_reducible apply regsOk_filter
    | with_reducible apply regsOk_nil
    | with_reducible apply wf_nil
    | with_reducible apply check_nil
    | with_reducible apply check_filter
    | with_reducible apply canon_slot0_wf
    | with_reducible apply canon_slot1_wf
    | dsimp only
    | split
    | with_reducible apply canon_parts

theorem flushVector_kept (v : Nat) (s : State) : (State.flushVector v s).kept = s.kept := by
  unfold State.flushVector
  repeat' first
    | with_reducible rfl
    | (simp only [State.kept_set, apply_ite State.kept, ite_self, message_kept]; done)
    | dsimp only
    | intro _
    | split
    | with_reducible refine (message_kept ..).trans ?_
    | with_reducible refine (State.kept_set ..).trans ?_

theorem flushVector_canon (v : Nat) (s : State) (hs : s.Canonical) : (State.flushVector v s).Canonical := by
  unfold State.flushVector
  repeat' first
    | with_reducible assumption
    | with_reducible intro _
    | with_reducible apply canon_set
    | with_reducible apply message_canon
    | dsimp only
    | split

theorem event_kept (s : State) (r : Reg) : (State.event s r).kept = s.kept := by
  unfold State.event
  simp only [State.kept_set, apply_ite State.kept, ite_self, message_kept]

theorem event_canon (s : State) (r : Reg) (hs : s.Canonical) : (State.event s r).Canonical := by
  unfold State.event
  repeat' first
    | with_reducible assumption
    | dsimp only
    | with_reducible apply canon_set
    | with_reducible apply message_canon
    | split

theorem accessError_kept (s : State) : (State.accessError s).kept = s.kept := by
  unfold State.accessError
  simp only [State.kept_bump, event_kept]

theorem accessError_canon (s : State) (hs : s.Canonical) : (State.accessError s).Canonical := by
  unfold State.accessError
  repeat' first
    | with_reducible assumption
    | with_reducible apply canon_bump
    | with_reducible apply event_canon
    | split

theorem pegEvent_kept (s : State) (i : Nat) : (State.pegEvent s i).kept = s.kept := by
  unfold State.pegEvent
  simp only [State.kept_set, State.kept_bump, kept_mk, State.kept_fold, apply_ite State.kept, ite_self, event_kept, message_kept]

theorem pegEvent_canon (s : State) (i : Nat) (hs : s.Canonical) : (State.pegEvent s i).Canonical := by
  unfold State.pegEvent
  repeat' first
    | with_reducible assumption
    | simp only [canon_mk, canon_fold]
    | with_reducible apply canon_set
    | with_reducible apply canon_bump
    | with_reducible apply event_canon
    | with_reducible apply message_canon
    | with_reducible apply canon_bar4
    | with_reducible apply Mem.wf_write
    | with_reducible apply Mem.wf_writeBytes
    | with_reducible apply Mem.wf_writeNum
    | with_reducible apply Mem.wf_clear
    | with_reducible apply wf_forEach
    | with_reducible apply canon_ddr_wf
    | with_reducible apply canon_check_wf
    | with_reducible apply canon_host_wf
    | with_reducible apply canon_bar4_wf
    | with_reducible apply canon_staging_wf
    | with_reducible apply canon_slot_wf
    | with_reducible apply splice_wf
    | with_reducible apply scramble_wf
    | with_reducible apply canon_regsOk
    | with_reducible apply regsOk_filter
    | with_reducible apply regsOk_nil
    | with_reducible apply wf_nil
    | with_reducible apply check_nil
    | with_reducible apply check_filter
    | with_reducible apply canon_slot0_wf
    | with_reducible apply canon_slot1_wf
    | split
    | with_reducible apply canon_parts

theorem cause_kept (s : State) (rung n : Nat) : (State.cause s rung n).kept = s.kept := by
  unfold State.cause
  simp only [kept_mk, State.kept_fold, apply_ite State.kept, ite_self]

theorem cause_canon (s : State) (rung n : Nat) (hs : s.Canonical) : (State.cause s rung n).Canonical := by
  unfold State.cause
  repeat' first
    | with_reducible assumption
    | simp only [canon_mk, canon_fold]

    | split

theorem afterPeg_kept (old s : State) (i : Nat) : (State.afterPeg old s i).kept = s.kept := by
  unfold State.afterPeg
  simp only [State.kept_set, apply_ite State.kept, ite_self, cause_kept, pegEvent_kept]

theorem afterPeg_canon (old s : State) (i : Nat) (hs : s.Canonical) : (State.afterPeg old s i).Canonical := by
  unfold State.afterPeg
  repeat' first
    | with_reducible assumption
    | dsimp only
    | with_reducible apply canon_set
    | with_reducible apply cause_canon
    | with_reducible apply pegEvent_canon
    | split

theorem pegAdd_kept (s : State) (i v : Nat) : (State.pegAdd s i v).kept = s.kept := by
  unfold State.pegAdd
  simp only [State.kept_set, afterPeg_kept]

theorem pegAdd_canon (s : State) (i v : Nat) (hs : s.Canonical) : (State.pegAdd s i v).Canonical := by
  unfold State.pegAdd
  repeat' first
    | with_reducible assumption
    | with_reducible apply canon_set
    | with_reducible apply afterPeg_canon
    | split

theorem pegSet_kept (s : State) (i v : Nat) : (State.pegSet s i v).kept = s.kept := by
  unfold State.pegSet
  simp only [State.kept_set, afterPeg_kept]

theorem pegSet_canon (s : State) (i v : Nat) (hs : s.Canonical) : (State.pegSet s i v).Canonical := by
  unfold State.pegSet
  repeat' first
    | with_reducible assumption
    | with_reducible apply canon_set
    | with_reducible apply afterPeg_canon
    | split

theorem pegThresh_kept (s : State) (i t : Nat) : (State.pegThresh s i t).kept = s.kept := by
  unfold State.pegThresh
  simp only [State.kept_set, afterPeg_kept]

theorem pegThresh_canon (s : State) (i t : Nat) (hs : s.Canonical) : (State.pegThresh s i t).Canonical := by
  unfold State.pegThresh
  repeat' first
    | with_reducible assumption
    | with_reducible apply canon_set
    | with_reducible apply afterPeg_canon
    | split

theorem pegFault_kept (s : State) : (State.pegFault s).kept = s.kept := by
  unfold State.pegFault
  simp only [State.kept_set, State.kept_bump]

theorem pegFault_canon (s : State) (hs : s.Canonical) : (State.pegFault s).Canonical := by
  unfold State.pegFault
  repeat' first
    | with_reducible assumption
    | with_reducible apply canon_set
    | with_reducible apply canon_bump
    | split

theorem pegStale_kept (s : State) : (State.pegStale s).kept = s.kept := by
  unfold State.pegStale
  simp only [State.kept_set, State.kept_bump]

theorem pegStale_canon (s : State) (hs : s.Canonical) : (State.pegStale s).Canonical := by
  unfold State.pegStale
  repeat' first
    | with_reducible assumption
    | with_reducible apply canon_set
    | with_reducible apply canon_bump
    | split

theorem dropLate_kept (s : State) (l : Late) : (State.dropLate s l).kept = s.kept := by
  unfold State.dropLate
  repeat' first
    | with_reducible rfl
    | (simp only [State.kept_set, State.kept_bump, apply_ite State.kept, pegStale_kept]; done)
    | dsimp only
    | intro _
    | split

theorem dropLate_canon (s : State) (l : Late) (hs : s.Canonical) : (State.dropLate s l).Canonical := by
  unfold State.dropLate
  repeat' first
    | with_reducible assumption
    | simp only [canon_mk, canon_fold]
    | with_reducible apply canon_set
    | with_reducible apply canon_bump
    | with_reducible apply pegStale_canon
    | split

theorem dropAll_kept (s : State) (l : List Late) : (State.dropAll s l).kept = s.kept := by
  unfold State.dropAll
  simp only [kept_foldl, implies_true, dropLate_kept]

theorem dropAll_canon (s : State) (l : List Late) (hs : s.Canonical) : (State.dropAll s l).Canonical := by
  unfold State.dropAll
  repeat' first
    | with_reducible assumption
    | with_reducible intro _
    | with_reducible apply canon_drop
    | with_reducible apply canon_foldl
    | with_reducible apply canon_foldl_fst
    | with_reducible apply canon_foldl_snd
    | with_reducible apply dropLate_canon
    | split

theorem resetPegs_kept (s : State) (base n : Nat) : (State.resetPegs s base n).kept = s.kept := by
  unfold State.resetPegs
  simp only [State.kept_set, kept_forEach, implies_true, afterPeg_kept]

theorem resetPegs_canon (s : State) (base n : Nat) (hs : s.Canonical) : (State.resetPegs s base n).Canonical := by
  unfold State.resetPegs
  repeat' first
    | with_reducible assumption
    | with_reducible intro _
    | with_reducible apply canon_set
    | with_reducible apply canon_forEach
    | with_reducible apply afterPeg_canon
    | split

theorem updJob_kept (s : State) (j : JobId) (f : Job → Job) : (State.updJob s j f).kept = s.kept := by
  unfold State.updJob
  simp only [kept_mk, State.kept_fold]

theorem updJob_canon (s : State) (j : JobId) (f : Job → Job) (hs : s.Canonical) : (State.updJob s j f).Canonical := by
  unfold State.updJob
  repeat' first
    | with_reducible assumption
    | with_reducible intro _
    | simp only [canon_mk, canon_fold]

    | split

/-! ## Froe decoders -/

theorem freeTable_kept (s : State) (k : Nat) : (State.freeTable s k).kept = s.kept := by
  unfold State.freeTable
  repeat' first
    | with_reducible rfl
    | (simp only [State.kept_set, State.kept_drop, State.kept_resetFields, kept_mk, State.kept_fold, apply_ite State.kept, ite_self]; done)
    | dsimp only
    | intro _
    | split
    | with_reducible refine (State.kept_set ..).trans ?_

theorem freeTable_canon (s : State) (k : Nat) (hs : s.Canonical) : (State.freeTable s k).Canonical := by
  unfold State.freeTable
  repeat' first
    | with_reducible assumption
    | with_reducible intro _
    | simp only [canon_mk, canon_fold]
    | with_reducible apply canon_resetFields
    | with_reducible apply canon_drop
    | dsimp only
    | split

theorem dropBuilds_kept (s : State) (j : JobId) : (State.dropBuilds s j).kept = s.kept := by
  unfold State.dropBuilds
  repeat' first
    | with_reducible rfl
    | (simp only [kept_mk, State.kept_fold, kept_forEach, kept_foldl, implies_true, freeTable_kept]; done)
    | simp only [kept_mk, State.kept_fold]
    | dsimp only
    | intro _
    | split
    | (with_reducible refine (kept_forEach _ _ _ ?_).trans ?_)
    | with_reducible refine (freeTable_kept ..).trans ?_

theorem dropBuilds_canon (s : State) (j : JobId) (hs : s.Canonical) : (State.dropBuilds s j).Canonical := by
  unfold State.dropBuilds
  repeat' first
    | with_reducible assumption
    | with_reducible intro _
    | simp only [canon_mk, canon_fold]
    | with_reducible apply canon_forEach
    | with_reducible apply canon_foldl
    | with_reducible apply freeTable_canon
    | dsimp only
    | split

theorem enqueue_kept (s : State) (q : QueuedBlock) : (State.enqueue s q).kept = s.kept := by
  unfold State.enqueue
  repeat' first
    | with_reducible rfl
    | (simp only [State.kept_bump, kept_mk, State.kept_fold]; done)
    | dsimp only
    | intro _
    | split

theorem enqueue_canon (s : State) (q : QueuedBlock) (hs : s.Canonical) : (State.enqueue s q).Canonical := by
  unfold State.enqueue
  repeat' first
    | with_reducible assumption
    | simp only [canon_mk, canon_fold]
    | with_reducible apply canon_bump
    | split

theorem decodeOne_kept (s : State) (q : QueuedBlock) : (State.decodeOne s q).1.kept = s.kept := by
  unfold State.decodeOne
  repeat' first
    | with_reducible rfl
    | (simp only [State.kept_set, State.kept_bump, State.kept_drop, State.kept_setAll, apply_ite State.kept, ite_self]; done)
    | dsimp only
    | intro _
    | split

theorem decodeOne_canon (s : State) (q : QueuedBlock) (hs : s.Canonical) : (State.decodeOne s q).1.Canonical := by
  unfold State.decodeOne
  repeat' first
    | with_reducible assumption
    | simp only [canon_mk, canon_fold]
    | with_reducible apply canon_set
    | with_reducible apply canon_setAll
    | with_reducible apply canon_bump
    | with_reducible apply canon_drop
    | split

theorem decodeHead_kept (s : State) (n : Nat) : (State.decodeHead s n).1.kept = s.kept := by
  unfold State.decodeHead
  repeat' first
    | with_reducible rfl
    | (simp only [kept_mk, State.kept_fold, decodeOne_kept]; done)
    | dsimp only
    | intro _
    | split

theorem decodeHead_canon (s : State) (n : Nat) (hs : s.Canonical) : (State.decodeHead s n).1.Canonical := by
  unfold State.decodeHead
  repeat' first
    | with_reducible assumption
    | with_reducible intro _
    | simp only [canon_mk, canon_fold]
    | with_reducible apply decodeOne_canon
    | split

theorem drainQueue_kept (n : Nat) : ∀ (k : Nat) (s : State), (State.drainQueue n k s).1.kept = s.kept := by
  intro k
  induction k with
  | zero => intro s; rfl
  | succ k ih =>
    intro s
    have h := decodeHead_kept s n
    unfold State.drainQueue
    split
    · rename_i heq; rw [heq] at h; exact h
    · rename_i heq; rw [heq] at h; exact (ih _).trans h

theorem drainQueue_canon (n : Nat) : ∀ (k : Nat) (s : State), s.Canonical → (State.drainQueue n k s).1.Canonical := by
  intro k
  induction k with
  | zero => intro s h; exact h
  | succ k ih =>
    intro s hs
    have h := decodeHead_canon s n hs
    unfold State.drainQueue
    split
    · rename_i heq; rw [heq] at h; exact h
    · rename_i heq; rw [heq] at h; exact ih _ h

theorem decodeAll_kept (s : State) (n : Nat) (qs : List QueuedBlock) : (State.decodeAll s n qs).1.kept = s.kept := by
  unfold State.decodeAll
  refine (kept_foldl_fst _ _ _ ?_).trans rfl
  intro s b a
  dsimp only
  rw [drainQueue_kept, kept_forEach]
  intro q s
  exact enqueue_kept s q

theorem decodeAll_canon (s : State) (n : Nat) (qs : List QueuedBlock) (hs : s.Canonical) : (State.decodeAll s n qs).1.Canonical := by
  unfold State.decodeAll
  refine canon_foldl_fst _ _ _ ?_ hs
  intro s b a h
  exact drainQueue_canon _ _ _ (canon_forEach _ _ _ (fun q s => enqueue_canon s q) h)

/-! ## GDDR6 -/

theorem putVA_kept (s : State) (c a : Nat) (bs : List Byte) : (State.putVA s c a bs).kept = s.kept := by
  unfold State.putVA
  repeat' first
    | with_reducible rfl
    | (simp only [kept_mk, State.kept_fold]; done)
    | dsimp only
    | intro _
    | split
    | (refine (kept_forEach _ _ _ ?_).trans ?_)

theorem putVA_canon (s : State) (c a : Nat) (bs : List Byte) (hs : s.Canonical) : (State.putVA s c a bs).Canonical := by
  unfold State.putVA
  repeat' first
    | with_reducible assumption
    | with_reducible intro _
    | simp only [canon_mk, canon_fold]
    | with_reducible apply canon_drop
    | with_reducible apply canon_forEach
    | with_reducible apply canon_store
    | with_reducible apply Mem.wf_write
    | with_reducible apply Mem.wf_writeBytes
    | with_reducible apply Mem.wf_writeNum
    | with_reducible apply Mem.wf_clear
    | with_reducible apply wf_forEach
    | with_reducible apply canon_ddr_wf
    | with_reducible apply canon_check_wf
    | with_reducible apply canon_host_wf
    | with_reducible apply canon_bar4_wf
    | with_reducible apply canon_staging_wf
    | with_reducible apply canon_slot_wf
    | with_reducible apply splice_wf
    | with_reducible apply scramble_wf
    | with_reducible apply canon_regsOk
    | with_reducible apply regsOk_filter
    | with_reducible apply regsOk_nil
    | with_reducible apply wf_nil
    | with_reducible apply check_nil
    | with_reducible apply check_filter
    | with_reducible apply canon_slot0_wf
    | with_reducible apply canon_slot1_wf
    | split
    | with_reducible apply canon_parts

theorem writeVA_kept (s : State) (c a : Nat) (bs : List Byte) : (State.writeVA s c a bs).kept = s.kept := by
  unfold State.writeVA
  repeat' first
    | with_reducible rfl
    | (simp only [State.kept_set, State.kept_bump, kept_mk, State.kept_fold, apply_ite State.kept, ite_self, putVA_kept]; done)
    | dsimp only
    | intro _
    | split
    | (refine (kept_forEach _ _ _ ?_).trans ?_)

theorem writeVA_canon (s : State) (c a : Nat) (bs : List Byte) (hs : s.Canonical) : (State.writeVA s c a bs).Canonical := by
  unfold State.writeVA
  repeat' first
    | with_reducible assumption
    | with_reducible intro _
    | simp only [canon_mk, canon_fold]
    | with_reducible apply canon_set
    | with_reducible apply canon_bump
    | with_reducible apply canon_drop
    | with_reducible apply canon_forEach
    | with_reducible apply putVA_canon
    | with_reducible apply canon_store
    | with_reducible apply Mem.wf_write
    | with_reducible apply Mem.wf_writeBytes
    | with_reducible apply Mem.wf_writeNum
    | with_reducible apply Mem.wf_clear
    | with_reducible apply wf_forEach
    | with_reducible apply canon_ddr_wf
    | with_reducible apply canon_check_wf
    | with_reducible apply canon_host_wf
    | with_reducible apply canon_bar4_wf
    | with_reducible apply canon_staging_wf
    | with_reducible apply canon_slot_wf
    | with_reducible apply splice_wf
    | with_reducible apply scramble_wf
    | with_reducible apply canon_regsOk
    | with_reducible apply regsOk_filter
    | with_reducible apply regsOk_nil
    | with_reducible apply wf_nil
    | with_reducible apply check_nil
    | with_reducible apply check_filter
    | with_reducible apply canon_slot0_wf
    | with_reducible apply canon_slot1_wf
    | split
    | with_reducible apply canon_parts

theorem writeNumVA_kept (s : State) (c a n v : Nat) : (State.writeNumVA s c a n v).kept = s.kept := by
  unfold State.writeNumVA
  simp only [writeVA_kept]

theorem writeNumVA_canon (s : State) (c a n v : Nat) (hs : s.Canonical) : (State.writeNumVA s c a n v).Canonical := by
  unfold State.writeNumVA
  repeat' first
    | with_reducible assumption
    | with_reducible apply writeVA_canon
    | split

theorem takePages_kept (s : State) (n : Nat) : (State.takePages s n).2.kept = s.kept := by
  unfold State.takePages
  simp only [State.kept_drop, kept_mk, State.kept_fold]

theorem takePages_canon (s : State) (n : Nat) (hs : s.Canonical) : (State.takePages s n).2.Canonical := by
  unfold State.takePages
  repeat' first
    | with_reducible assumption
    | simp only [canon_mk, canon_fold]
    | with_reducible apply canon_drop
    | split

theorem scrubPages_kept (s : State) (ps : List Nat) (region : Option Nat) : (State.scrubPages s ps region).kept = s.kept := by
  unfold State.scrubPages
  simp only [State.kept_bump, kept_mk, State.kept_fold]

theorem scrubPages_canon (s : State) (ps : List Nat) (region : Option Nat) (hs : s.Canonical) : (State.scrubPages s ps region).Canonical := by
  unfold State.scrubPages
  repeat' first
    | with_reducible assumption
    | with_reducible intro _
    | simp only [canon_mk, canon_fold]
    | with_reducible apply canon_bump
    | with_reducible apply canon_regsOk
    | with_reducible apply regsOk_filter
    | with_reducible apply regsOk_nil
    | with_reducible apply wf_nil
    | with_reducible apply check_nil
    | with_reducible apply check_filter
    | with_reducible apply canon_ddr_wf
    | with_reducible apply canon_check_wf
    | with_reducible apply canon_host_wf
    | with_reducible apply canon_bar4_wf
    | with_reducible apply canon_staging_wf
    | with_reducible apply canon_slot0_wf
    | with_reducible apply canon_slot1_wf
    | with_reducible apply Mem.wf_write
    | with_reducible apply Mem.wf_writeBytes
    | with_reducible apply Mem.wf_writeNum
    | with_reducible apply Mem.wf_clear
    | with_reducible apply wf_forEach
    | split
    | with_reducible apply canon_parts

theorem retirePending_kept (s : State) (p : Nat) : (State.retirePending s p).kept = s.kept := by
  unfold State.retirePending
  repeat' first
    | with_reducible rfl
    | (simp only [State.kept_set, State.kept_bump, kept_mk, State.kept_fold, apply_ite State.kept]; done)
    | dsimp only
    | intro _
    | split

theorem retirePending_canon (s : State) (p : Nat) (hs : s.Canonical) : (State.retirePending s p).Canonical := by
  unfold State.retirePending
  repeat' first
    | with_reducible assumption
    | simp only [canon_mk, canon_fold]
    | with_reducible apply canon_set
    | with_reducible apply canon_bump
    | with_reducible apply canon_regsOk
    | with_reducible apply regsOk_filter
    | with_reducible apply regsOk_nil
    | with_reducible apply wf_nil
    | with_reducible apply check_nil
    | with_reducible apply check_filter
    | with_reducible apply canon_ddr_wf
    | with_reducible apply canon_check_wf
    | with_reducible apply canon_host_wf
    | with_reducible apply canon_bar4_wf
    | with_reducible apply canon_staging_wf
    | with_reducible apply canon_slot0_wf
    | with_reducible apply canon_slot1_wf
    | with_reducible apply Mem.wf_write
    | with_reducible apply Mem.wf_writeBytes
    | with_reducible apply Mem.wf_writeNum
    | with_reducible apply Mem.wf_clear
    | with_reducible apply wf_forEach
    | split
    | with_reducible apply canon_parts

theorem correctable_kept (s : State) (pa : Nat) : (State.correctable s pa).kept = s.kept := by
  unfold State.correctable
  simp only [State.kept_set, State.kept_bump, kept_mk, State.kept_fold, apply_ite State.kept, ite_self, retirePending_kept]

theorem correctable_canon (s : State) (pa : Nat) (hs : s.Canonical) : (State.correctable s pa).Canonical := by
  unfold State.correctable
  repeat' first
    | with_reducible assumption
    | simp only [canon_mk, canon_fold]
    | with_reducible apply canon_set
    | with_reducible apply canon_bump
    | with_reducible apply retirePending_canon
    | with_reducible apply canon_regsOk
    | with_reducible apply regsOk_filter
    | with_reducible apply regsOk_nil
    | with_reducible apply wf_nil
    | with_reducible apply check_nil
    | with_reducible apply check_filter
    | with_reducible apply canon_ddr_wf
    | with_reducible apply canon_check_wf
    | with_reducible apply canon_host_wf
    | with_reducible apply canon_bar4_wf
    | with_reducible apply canon_staging_wf
    | with_reducible apply canon_slot0_wf
    | with_reducible apply canon_slot1_wf
    | with_reducible apply Mem.wf_write
    | with_reducible apply Mem.wf_writeBytes
    | with_reducible apply Mem.wf_writeNum
    | with_reducible apply Mem.wf_clear
    | with_reducible apply wf_forEach
    | split
    | with_reducible apply canon_parts

theorem uncorrectable_kept (s : State) (pa typ : Nat) : (State.uncorrectable s pa typ).kept = s.kept := by
  unfold State.uncorrectable
  simp only [State.kept_set, State.kept_bump, State.kept_setAll, retirePending_kept]

theorem uncorrectable_canon (s : State) (pa typ : Nat) (hs : s.Canonical) : (State.uncorrectable s pa typ).Canonical := by
  unfold State.uncorrectable
  repeat' first
    | with_reducible assumption
    | dsimp only
    | with_reducible apply canon_set
    | with_reducible apply canon_setAll
    | with_reducible apply canon_bump
    | with_reducible apply retirePending_canon
    | split

theorem edcRetries_kept (s : State) (pa n : Nat) : (State.edcRetries s pa n).kept = s.kept := by
  unfold State.edcRetries
  simp only [State.kept_bump]

theorem edcRetries_canon (s : State) (pa n : Nat) (hs : s.Canonical) : (State.edcRetries s pa n).Canonical := by
  unfold State.edcRetries
  repeat' first
    | with_reducible assumption
    | with_reducible apply canon_bump
    | split

theorem retrain_kept (s : State) (ch : Nat) : (State.retrain s ch).kept = s.kept := by
  unfold State.retrain
  simp only [State.kept_set, State.kept_bump]

theorem retrain_canon (s : State) (ch : Nat) (hs : s.Canonical) : (State.retrain s ch).Canonical := by
  unfold State.retrain
  repeat' first
    | with_reducible assumption
    | with_reducible apply canon_set
    | with_reducible apply canon_bump
    | split

theorem readBlocks_kept (s : State) (blocks : List Nat) (o : ReadOutcome) (typ : Nat) : (State.readBlocks s blocks o typ).1.kept = s.kept := by
  unfold State.readBlocks
  repeat' first
    | with_reducible rfl
    | (simp only [kept_mk, State.kept_fold, apply_ite State.kept, ite_self, correctable_kept, uncorrectable_kept, edcRetries_kept, retrain_kept]; done)
    | simp only [kept_mk, State.kept_fold]
    | dsimp only
    | intro _
    | split
    | with_reducible refine (correctable_kept ..).trans ?_
    | with_reducible refine (uncorrectable_kept ..).trans ?_
    | with_reducible refine (edcRetries_kept ..).trans ?_
    | with_reducible refine (retrain_kept ..).trans ?_

theorem readBlocks_canon (s : State) (blocks : List Nat) (o : ReadOutcome) (typ : Nat) (hs : s.Canonical) : (State.readBlocks s blocks o
    typ).1.Canonical := by
  unfold State.readBlocks
  repeat' first
    | with_reducible assumption
    | with_reducible intro _
    | simp only [canon_mk, canon_fold]
    | with_reducible apply correctable_canon
    | with_reducible apply uncorrectable_canon
    | with_reducible apply edcRetries_canon
    | with_reducible apply retrain_canon
    | with_reducible apply canon_store
    | with_reducible apply canon_change
    | with_reducible apply canon_host
    | with_reducible apply canon_bar4
    | with_reducible apply canon_staging
    | with_reducible apply canon_setSlot
    | with_reducible apply Mem.wf_write
    | with_reducible apply Mem.wf_writeBytes
    | with_reducible apply Mem.wf_writeNum
    | with_reducible apply Mem.wf_clear
    | with_reducible apply wf_forEach
    | with_reducible apply wf_foldl_fst
    | with_reducible apply canon_ddr_wf
    | with_reducible apply canon_check_wf
    | with_reducible apply canon_host_wf
    | with_reducible apply canon_bar4_wf
    | with_reducible apply canon_staging_wf
    | with_reducible apply canon_slot_wf
    | with_reducible apply splice_wf
    | with_reducible apply scramble_wf
    | with_reducible apply canon_regsOk
    | with_reducible apply regsOk_filter
    | with_reducible apply regsOk_nil
    | with_reducible apply wf_nil
    | with_reducible apply check_nil
    | with_reducible apply check_filter
    | with_reducible apply canon_slot0_wf
    | with_reducible apply canon_slot1_wf
    | dsimp only
    | split
    | with_reducible apply canon_parts

theorem writeFailed_kept (s : State) (pa : Nat) : (State.writeFailed s pa).kept = s.kept := by
  unfold State.writeFailed
  repeat' first
    | with_reducible rfl
    | (simp only [kept_mk, State.kept_fold, uncorrectable_kept]; done)
    | simp only [kept_mk, State.kept_fold]
    | dsimp only
    | intro _
    | split
    | with_reducible refine (uncorrectable_kept ..).trans ?_

theorem writeFailed_canon (s : State) (pa : Nat) (hs : s.Canonical) : (State.writeFailed s pa).Canonical := by
  unfold State.writeFailed
  repeat' first
    | with_reducible assumption
    | with_reducible intro _
    | simp only [canon_mk, canon_fold]
    | with_reducible apply uncorrectable_canon
    | with_reducible apply canon_store
    | with_reducible apply canon_change
    | with_reducible apply canon_host
    | with_reducible apply canon_bar4
    | with_reducible apply canon_staging
    | with_reducible apply canon_setSlot
    | with_reducible apply Mem.wf_write
    | with_reducible apply Mem.wf_writeBytes
    | with_reducible apply Mem.wf_writeNum
    | with_reducible apply Mem.wf_clear
    | with_reducible apply wf_forEach
    | with_reducible apply wf_foldl_fst
    | with_reducible apply canon_ddr_wf
    | with_reducible apply canon_check_wf
    | with_reducible apply canon_host_wf
    | with_reducible apply canon_bar4_wf
    | with_reducible apply canon_staging_wf
    | with_reducible apply canon_slot_wf
    | with_reducible apply splice_wf
    | with_reducible apply scramble_wf
    | with_reducible apply canon_regsOk
    | with_reducible apply regsOk_filter
    | with_reducible apply regsOk_nil
    | with_reducible apply wf_nil
    | with_reducible apply check_nil
    | with_reducible apply check_filter
    | with_reducible apply canon_slot0_wf
    | with_reducible apply canon_slot1_wf
    | dsimp only
    | split
    | with_reducible apply canon_parts

theorem writeBursts_kept (s : State) (blocks : List Nat) (o : WriteOutcome) : (State.writeBursts s blocks o).1.kept = s.kept := by
  unfold State.writeBursts
  repeat' first
    | with_reducible rfl
    | (simp only [edcRetries_kept, retrain_kept, writeFailed_kept]; done)
    | dsimp only
    | intro _
    | split

theorem writeBursts_canon (s : State) (blocks : List Nat) (o : WriteOutcome) (hs : s.Canonical) : (State.writeBursts s blocks o).1.Canonical := by
  unfold State.writeBursts
  repeat' first
    | with_reducible assumption
    | simp only [canon_mk, canon_fold]
    | with_reducible apply edcRetries_canon
    | with_reducible apply retrain_canon
    | with_reducible apply writeFailed_canon
    | split

theorem noted_kept {α : Type} (s : State) (f : State → State × α) (h_f : ∀ s, (f s).1.kept = s.kept) : (State.noted s f).1.kept = s.kept := by
  unfold State.noted
  repeat' first
    | with_reducible rfl
    | (simp only [kept_mk, State.kept_fold, h_f, implies_true]; done)
    | dsimp only
    | intro _
    | split

theorem noted_canon {α : Type} (s : State) (f : State → State × α) (h_f : ∀ s, s.Canonical → (f s).1.Canonical) (hs : s.Canonical) : (State.noted s
    f).1.Canonical := by
  unfold State.noted
  repeat' first
    | with_reducible assumption
    | with_reducible intro _
    | simp only [canon_mk, canon_fold]
    | with_reducible apply h_f
    | with_reducible apply canon_store
    | with_reducible apply canon_change
    | with_reducible apply canon_host
    | with_reducible apply canon_bar4
    | with_reducible apply canon_staging
    | with_reducible apply canon_setSlot
    | with_reducible apply Mem.wf_write
    | with_reducible apply Mem.wf_writeBytes
    | with_reducible apply Mem.wf_writeNum
    | with_reducible apply Mem.wf_clear
    | with_reducible apply wf_forEach
    | with_reducible apply wf_foldl_fst
    | with_reducible apply canon_ddr_wf
    | with_reducible apply canon_check_wf
    | with_reducible apply canon_host_wf
    | with_reducible apply canon_bar4_wf
    | with_reducible apply canon_staging_wf
    | with_reducible apply canon_slot_wf
    | with_reducible apply splice_wf
    | with_reducible apply scramble_wf
    | with_reducible apply canon_regsOk
    | with_reducible apply regsOk_filter
    | with_reducible apply regsOk_nil
    | with_reducible apply wf_nil
    | with_reducible apply check_nil
    | with_reducible apply check_filter
    | with_reducible apply canon_slot0_wf
    | with_reducible apply canon_slot1_wf
    | dsimp only
    | split
    | with_reducible apply canon_parts

theorem takeRanges_kept (s : State) (n c : Nat) (rs : List (Nat × Nat)) (mem : ReadOutcome) : (State.takeRanges s n c rs mem).1.kept = s.kept := by
  unfold State.takeRanges
  repeat' first
    | with_reducible rfl
    | (simp only [State.kept_set, State.kept_bump, decodeAll_kept, readBlocks_kept]; done)
    | dsimp only
    | intro _
    | split

theorem takeRanges_canon (s : State) (n c : Nat) (rs : List (Nat × Nat)) (mem : ReadOutcome) (hs : s.Canonical) :
    (State.takeRanges s n c rs mem).1.Canonical := by
  unfold State.takeRanges
  repeat' first
    | with_reducible assumption
    | simp only [canon_mk, canon_fold]
    | with_reducible apply canon_set
    | with_reducible apply canon_bump
    | with_reducible apply decodeAll_canon
    | with_reducible apply readBlocks_canon
    | split

theorem readRanges_kept (s : State) (n c : Nat) (rs : List (Nat × Nat)) (mem : ReadOutcome) : (State.readRanges s n c rs mem).1.kept = s.kept := by
  unfold State.readRanges
  simp only [State.kept_bump, apply_ite State.kept, ite_self, takeRanges_kept]

theorem readRanges_canon (s : State) (n c : Nat) (rs : List (Nat × Nat)) (mem : ReadOutcome) (hs : s.Canonical) :
    (State.readRanges s n c rs mem).1.Canonical := by
  unfold State.readRanges
  repeat' first
    | with_reducible assumption
    | dsimp only
    | with_reducible apply canon_bump
    | with_reducible apply takeRanges_canon
    | split

theorem hostFault_kept (s : State) (n : Nat) : (State.hostFault s n).1.kept = s.kept := by
  unfold State.hostFault
  simp only [State.kept_set, State.kept_bump]

theorem hostFault_canon (s : State) (n : Nat) (hs : s.Canonical) : (State.hostFault s n).1.Canonical := by
  unfold State.hostFault
  repeat' first
    | with_reducible assumption
    | simp only [canon_mk, canon_fold]
    | with_reducible apply canon_set
    | with_reducible apply canon_bump
    | split

theorem askHost_kept (s : State) (c : Nat) (rs : List (Nat × Nat)) : (State.askHost s c rs).kept = s.kept := by
  unfold State.askHost
  repeat' first
    | with_reducible rfl
    | (simp only [kept_mk, State.kept_fold]; done)
    | dsimp only
    | intro _
    | split

theorem askHost_canon (s : State) (c : Nat) (rs : List (Nat × Nat)) (hs : s.Canonical) : (State.askHost s c rs).Canonical := by
  unfold State.askHost
  repeat' first
    | with_reducible assumption
    | with_reducible intro _
    | simp only [canon_mk, canon_fold]
    | dsimp only
    | split

theorem postHost_kept (s : State) (t a : Nat) (bs : List Byte) : (State.postHost s t a bs).kept = s.kept := by
  unfold State.postHost
  repeat' first
    | with_reducible rfl
    | (simp only [State.kept_drop, kept_mk, State.kept_fold]; done)
    | dsimp only
    | intro _
    | split

theorem postHost_canon (s : State) (t a : Nat) (bs : List Byte) (hs : s.Canonical) : (State.postHost s t a bs).Canonical := by
  unfold State.postHost
  repeat' first
    | with_reducible assumption
    | with_reducible intro _
    | simp only [canon_mk, canon_fold]
    | with_reducible apply canon_drop
    | with_reducible apply canon_store
    | with_reducible apply canon_change
    | with_reducible apply canon_host
    | with_reducible apply canon_bar4
    | with_reducible apply canon_staging
    | with_reducible apply canon_setSlot
    | with_reducible apply Mem.wf_write
    | with_reducible apply Mem.wf_writeBytes
    | with_reducible apply Mem.wf_writeNum
    | with_reducible apply Mem.wf_clear
    | with_reducible apply wf_forEach
    | with_reducible apply wf_foldl_fst
    | with_reducible apply canon_ddr_wf
    | with_reducible apply canon_check_wf
    | with_reducible apply canon_host_wf
    | with_reducible apply canon_bar4_wf
    | with_reducible apply canon_staging_wf
    | with_reducible apply canon_slot_wf
    | with_reducible apply splice_wf
    | with_reducible apply scramble_wf
    | with_reducible apply canon_regsOk
    | with_reducible apply regsOk_filter
    | with_reducible apply regsOk_nil
    | with_reducible apply wf_nil
    | with_reducible apply check_nil
    | with_reducible apply check_filter
    | with_reducible apply canon_slot0_wf
    | with_reducible apply canon_slot1_wf
    | dsimp only
    | split
    | with_reducible apply canon_parts

theorem dowelGather_kept (s : State) (n c : Nat) (rs : List (Nat × Nat)) (mem : ReadOutcome) (host : HostOutcome) : (State.dowelGather s n c rs mem
    host).1.kept = s.kept := by
  unfold State.dowelGather
  repeat' first
    | with_reducible rfl
    | (simp only [State.kept_set, State.kept_bump, State.kept_drop, kept_mk, State.kept_fold, apply_ite State.kept, ite_self, kept_forEach, kept_foldl,
        implies_true, readRanges_kept, hostFault_kept, askHost_kept]; done)
    | simp only [kept_mk, State.kept_fold]
    | dsimp only
    | intro _
    | split
    | (with_reducible refine (kept_forEach _ _ _ ?_).trans ?_)
    | (with_reducible refine (kept_foldl _ _ _ ?_).trans ?_)
    | (with_reducible refine (kept_foldl_fst _ _ _ ?_).trans ?_)
    | (with_reducible refine (kept_foldl_snd _ _ _ ?_).trans ?_)
    | with_reducible refine (readRanges_kept ..).trans ?_
    | with_reducible refine (hostFault_kept ..).trans ?_
    | with_reducible refine (askHost_kept ..).trans ?_
    | with_reducible refine (State.kept_set ..).trans ?_
    | with_reducible refine (State.kept_bump ..).trans ?_

theorem dowelGather_canon (s : State) (n c : Nat) (rs : List (Nat × Nat)) (mem : ReadOutcome) (host : HostOutcome) (hs : s.Canonical) :
    (State.dowelGather s n c rs mem host).1.Canonical := by
  unfold State.dowelGather
  repeat' first
    | with_reducible assumption
    | with_reducible intro _
    | simp only [canon_mk, canon_fold]
    | with_reducible apply canon_set
    | with_reducible apply canon_bump
    | with_reducible apply canon_drop
    | with_reducible apply canon_forEach
    | with_reducible apply canon_foldl
    | with_reducible apply canon_foldl_fst
    | with_reducible apply canon_foldl_snd
    | with_reducible apply readRanges_canon
    | with_reducible apply hostFault_canon
    | with_reducible apply askHost_canon
    | with_reducible apply canon_store
    | with_reducible apply canon_change
    | with_reducible apply canon_host
    | with_reducible apply canon_bar4
    | with_reducible apply canon_staging
    | with_reducible apply canon_setSlot
    | with_reducible apply Mem.wf_write
    | with_reducible apply Mem.wf_writeBytes
    | with_reducible apply Mem.wf_writeNum
    | with_reducible apply Mem.wf_clear
    | with_reducible apply wf_forEach
    | with_reducible apply wf_foldl_fst
    | with_reducible apply canon_ddr_wf
    | with_reducible apply canon_check_wf
    | with_reducible apply canon_host_wf
    | with_reducible apply canon_bar4_wf
    | with_reducible apply canon_staging_wf
    | with_reducible apply canon_slot_wf
    | with_reducible apply splice_wf
    | with_reducible apply scramble_wf
    | with_reducible apply canon_regsOk
    | with_reducible apply regsOk_filter
    | with_reducible apply regsOk_nil
    | with_reducible apply wf_nil
    | with_reducible apply check_nil
    | with_reducible apply check_filter
    | with_reducible apply canon_slot0_wf
    | with_reducible apply canon_slot1_wf
    | dsimp only
    | split
    | with_reducible apply canon_parts

theorem dowelRead_kept (s : State) (n c a len : Nat) (mem : ReadOutcome) (host : HostOutcome) : (State.dowelRead s n c a len mem host).1.kept = s.kept := by
  unfold State.dowelRead
  split
  · rfl
  · exact dowelGather_kept ..

theorem dowelRead_canon (s : State) (n c a len : Nat) (mem : ReadOutcome) (host : HostOutcome) (hs : s.Canonical) :
    (State.dowelRead s n c a len mem host).1.Canonical := by
  unfold State.dowelRead
  split
  · exact hs
  · exact dowelGather_canon _ _ _ _ _ _ hs

theorem dowelLines_kept (s : State) (n c a k : Nat) (lines : List Nat) (mem : ReadOutcome) (host : HostOutcome) :
    (State.dowelLines s n c a k lines mem host).1.kept = s.kept := by
  unfold State.dowelLines
  simp only [dowelGather_kept]

theorem dowelLines_canon (s : State) (n c a k : Nat) (lines : List Nat) (mem : ReadOutcome) (host : HostOutcome) (hs : s.Canonical) :
    (State.dowelLines s n c a k lines mem host).1.Canonical := by
  unfold State.dowelLines
  repeat' first
    | with_reducible assumption
    | with_reducible intro _
    | simp only [canon_mk, canon_fold]
    | with_reducible apply canon_drop
    | with_reducible apply dowelGather_canon
    | split

/-! ## Frames of the fabric -/

theorem testRules_kept (s : State) (p dir hdr : Nat) : (State.testRules s p dir hdr).2.kept = s.kept := by
  unfold State.testRules
  repeat' first
    | with_reducible rfl
    | (simp only [State.kept_set, State.kept_bump, kept_mk, State.kept_fold, apply_ite State.kept, ite_self]; done)
    | dsimp only
    | intro _
    | split
    | (refine (kept_foldl _ _ _ ?_).trans ?_)

theorem testRules_canon (s : State) (p dir hdr : Nat) (hs : s.Canonical) : (State.testRules s p dir hdr).2.Canonical := by
  unfold State.testRules
  repeat' first
    | with_reducible assumption
    | with_reducible intro _
    | simp only [canon_mk, canon_fold]
    | with_reducible apply canon_set
    | with_reducible apply canon_bump
    | with_reducible apply canon_foldl
    | with_reducible apply canon_foldl_fst
    | with_reducible apply canon_foldl_snd
    | split

theorem wire_kept (s : State) (p : Nat) (dst : Option Nat) (hdr : Nat) (payload : List Byte) : (State.wire s p dst hdr payload).kept = s.kept := by
  unfold State.wire
  repeat' first
    | with_reducible rfl
    | (simp only [State.kept_bump, kept_mk, State.kept_fold]; done)
    | dsimp only
    | intro _
    | split
    | with_reducible refine (State.kept_bump ..).trans ?_

theorem wire_canon (s : State) (p : Nat) (dst : Option Nat) (hdr : Nat) (payload : List Byte) (hs : s.Canonical) : (State.wire s p dst hdr
    payload).Canonical := by
  unfold State.wire
  repeat' first
    | with_reducible assumption
    | with_reducible intro _
    | simp only [canon_mk, canon_fold]
    | with_reducible apply canon_bump
    | dsimp only
    | split

theorem txRaw_kept (s : State) (p : Nat) (dst : Option Nat) (hdr : Nat) (payload : List Byte) : (State.txRaw s p dst hdr payload).kept = s.kept := by
  unfold State.txRaw
  repeat' first
    | with_reducible rfl
    | (simp only [kept_mk, State.kept_fold, kept_forEach, kept_foldl, implies_true, testRules_kept, wire_kept]; done)
    | simp only [kept_mk, State.kept_fold]
    | dsimp only
    | intro _
    | split
    | (with_reducible refine (kept_forEach _ _ _ ?_).trans ?_)
    | with_reducible refine (testRules_kept ..).trans ?_
    | with_reducible refine (wire_kept ..).trans ?_

theorem txRaw_canon (s : State) (p : Nat) (dst : Option Nat) (hdr : Nat) (payload : List Byte) (hs : s.Canonical) : (State.txRaw s p dst hdr
    payload).Canonical := by
  unfold State.txRaw
  repeat' first
    | with_reducible assumption
    | with_reducible intro _
    | simp only [canon_mk, canon_fold]
    | with_reducible apply canon_forEach
    | with_reducible apply canon_foldl
    | with_reducible apply testRules_canon
    | with_reducible apply wire_canon
    | dsimp only
    | split

theorem countForms_kept (s : State) (b : FrameBody) : (State.countForms s b).kept = s.kept := by
  unfold State.countForms
  repeat' first
    | with_reducible rfl
    | (simp only [State.kept_bump, apply_ite State.kept]; done)
    | dsimp only
    | intro _
    | split
    | (refine (kept_forEach _ _ _ ?_).trans ?_)

theorem countForms_canon (s : State) (b : FrameBody) (hs : s.Canonical) : (State.countForms s b).Canonical := by
  unfold State.countForms
  repeat' first
    | with_reducible assumption
    | with_reducible intro _
    | simp only [canon_mk, canon_fold]
    | with_reducible apply canon_bump
    | with_reducible apply canon_drop
    | with_reducible apply canon_forEach
    | split

theorem txFrame_kept (s : State) (c flow d psn : Nat) (b : FrameBody) (retx : Bool) : (State.txFrame s c flow d psn b retx).1.kept = s.kept := by
  unfold State.txFrame
  repeat' first
    | with_reducible rfl
    | (simp only [State.kept_bump, kept_mk, State.kept_fold, apply_ite State.kept, ite_self, txRaw_kept, countForms_kept]; done)
    | simp only [kept_mk, State.kept_fold]
    | dsimp only
    | intro _
    | split
    | with_reducible refine (txRaw_kept ..).trans ?_
    | with_reducible refine (countForms_kept ..).trans ?_
    | with_reducible refine (State.kept_bump ..).trans ?_

theorem txFrame_canon (s : State) (c flow d psn : Nat) (b : FrameBody) (retx : Bool) (hs : s.Canonical) : (State.txFrame s c flow d psn b
    retx).1.Canonical := by
  unfold State.txFrame
  repeat' first
    | with_reducible assumption
    | with_reducible intro _
    | simp only [canon_mk, canon_fold]
    | with_reducible apply canon_bump
    | with_reducible apply txRaw_canon
    | with_reducible apply countForms_canon
    | dsimp only
    | split

theorem updFlow_kept (s : State) (c flow peer : Nat) (send : Bool) (g : Flow → Flow) : (State.updFlow s c flow peer send g).kept = s.kept := by
  unfold State.updFlow
  simp only [kept_mk, State.kept_fold]

theorem updFlow_canon (s : State) (c flow peer : Nat) (send : Bool) (g : Flow → Flow) (hs : s.Canonical) :
    (State.updFlow s c flow peer send g).Canonical := by
  unfold State.updFlow
  repeat' first
    | with_reducible assumption
    | with_reducible intro _
    | simp only [canon_mk, canon_fold]

    | split

theorem sendOn_kept (s : State) (c flow peer : Nat) (b : FrameBody) : (State.sendOn s c flow peer b).kept = s.kept := by
  unfold State.sendOn
  repeat' first
    | with_reducible rfl
    | (simp only [txFrame_kept, updFlow_kept]; done)
    | dsimp only
    | intro _
    | split

theorem sendOn_canon (s : State) (c flow peer : Nat) (b : FrameBody) (hs : s.Canonical) : (State.sendOn s c flow peer b).Canonical := by
  unfold State.sendOn
  repeat' first
    | with_reducible assumption
    | with_reducible intro _
    | simp only [canon_mk, canon_fold]
    | with_reducible apply txFrame_canon
    | with_reducible apply updFlow_canon
    | split

theorem resend_kept (s : State) (c flow peer : Nat) (u : SentFrame) : (State.resend s c flow peer u).kept = s.kept := by
  unfold State.resend
  simp only [txFrame_kept, updFlow_kept]

theorem resend_canon (s : State) (c flow peer : Nat) (u : SentFrame) (hs : s.Canonical) : (State.resend s c flow peer u).Canonical := by
  unfold State.resend
  repeat' first
    | with_reducible assumption
    | with_reducible intro _
    | simp only [canon_mk, canon_fold]
    | with_reducible apply txFrame_canon
    | with_reducible apply updFlow_canon
    | split

theorem sendWaitingOf_kept (s : State) (c flow peer : Nat) : (State.sendWaitingOf s c flow peer).kept = s.kept := by
  unfold State.sendWaitingOf
  repeat' first
    | with_reducible rfl
    | (simp only [kept_forEach, implies_true, resend_kept]; done)
    | dsimp only
    | intro _
    | split
    | (refine (kept_forEach _ _ _ ?_).trans ?_)

theorem sendWaitingOf_canon (s : State) (c flow peer : Nat) (hs : s.Canonical) : (State.sendWaitingOf s c flow peer).Canonical := by
  unfold State.sendWaitingOf
  repeat' first
    | with_reducible assumption
    | with_reducible intro _
    | simp only [canon_mk, canon_fold]
    | with_reducible apply canon_forEach
    | with_reducible apply resend_canon
    | split

theorem sendAborts_kept (s : State) (c code : Nat) : (State.sendAborts s c code).kept = s.kept := by
  unfold State.sendAborts
  simp only [kept_forEach, implies_true, sendOn_kept]

theorem sendAborts_canon (s : State) (c code : Nat) (hs : s.Canonical) : (State.sendAborts s c code).Canonical := by
  unfold State.sendAborts
  repeat' first
    | with_reducible assumption
    | with_reducible intro _
    | simp only [canon_mk, canon_fold]
    | with_reducible apply canon_forEach
    | with_reducible apply sendOn_canon
    | split

theorem sendPeg_kept (s : State) (c flow d peg : Nat) (isSet runb : Bool) (v : Nat) : (State.sendPeg s c flow d peg isSet runb v).kept = s.kept := by
  unfold State.sendPeg
  simp only [sendOn_kept]

theorem sendPeg_canon (s : State) (c flow d peg : Nat) (isSet runb : Bool) (v : Nat) (hs : s.Canonical) :
    (State.sendPeg s c flow d peg isSet runb v).Canonical := by
  unfold State.sendPeg
  repeat' first
    | with_reducible assumption
    | simp only [canon_mk, canon_fold]
    | with_reducible apply sendOn_canon
    | split

theorem sendAck_kept (s : State) (c flow peer : Nat) (runStart : Bool) : (State.sendAck s c flow peer runStart).kept = s.kept := by
  unfold State.sendAck
  repeat' first
    | with_reducible rfl
    | (simp only [txFrame_kept, updFlow_kept]; done)
    | dsimp only
    | intro _
    | split

theorem sendAck_canon (s : State) (c flow peer : Nat) (runStart : Bool) (hs : s.Canonical) : (State.sendAck s c flow peer runStart).Canonical := by
  unfold State.sendAck
  repeat' first
    | with_reducible assumption
    | with_reducible intro _
    | simp only [canon_mk, canon_fold]
    | with_reducible apply txFrame_canon
    | with_reducible apply updFlow_canon
    | split

theorem creditAcks_kept (s : State) (c : Nat) : (State.creditAcks s c).kept = s.kept := by
  unfold State.creditAcks
  simp only [apply_ite State.kept, ite_self, kept_forEach, implies_true, sendAck_kept]

theorem creditAcks_canon (s : State) (c : Nat) (hs : s.Canonical) : (State.creditAcks s c).Canonical := by
  unfold State.creditAcks
  repeat' first
    | with_reducible assumption
    | with_reducible intro _
    | with_reducible apply canon_forEach
    | with_reducible apply sendAck_canon
    | split

/-! ## Running jobs -/

theorem dropParts_kept (s : State) (p : TrussPart → Bool) : (State.dropParts s p).kept = s.kept := by
  unfold State.dropParts
  simp only [State.kept_set, State.kept_drop, kept_mk, State.kept_fold, kept_forEach, implies_true]

theorem dropParts_canon (s : State) (p : TrussPart → Bool) (hs : s.Canonical) : (State.dropParts s p).Canonical := by
  unfold State.dropParts
  repeat' first
    | with_reducible assumption
    | with_reducible intro _
    | simp only [canon_mk, canon_fold]
    | with_reducible apply canon_set
    | with_reducible apply canon_drop
    | with_reducible apply canon_forEach
    | split

theorem loseParts_kept (s : State) (p : TrussPart → Bool) : (State.loseParts s p).kept = s.kept := by
  unfold State.loseParts
  repeat' first
    | with_reducible rfl
    | (simp only [kept_mk, State.kept_fold, dropParts_kept]; done)
    | simp only [kept_mk, State.kept_fold]
    | dsimp only
    | intro _
    | split
    | with_reducible refine (dropParts_kept ..).trans ?_

theorem loseParts_canon (s : State) (p : TrussPart → Bool) (hs : s.Canonical) : (State.loseParts s p).Canonical := by
  unfold State.loseParts
  repeat' first
    | with_reducible assumption
    | with_reducible intro _
    | simp only [canon_mk, canon_fold]
    | with_reducible apply dropParts_canon
    | dsimp only
    | split

theorem swapDeferred_kept (s : State) (st : Nat) : (State.swapDeferred s st).kept = s.kept := by
  unfold State.swapDeferred
  simp only [State.kept_set, State.kept_bump, kept_mk, State.kept_fold, apply_ite State.kept, ite_self, kept_forEach, implies_true, dropParts_kept]

theorem swapDeferred_canon (s : State) (st : Nat) (hs : s.Canonical) : (State.swapDeferred s st).Canonical := by
  unfold State.swapDeferred
  repeat' first
    | with_reducible assumption
    | with_reducible intro _
    | simp only [canon_mk, canon_fold]
    | with_reducible apply canon_set
    | with_reducible apply canon_bump
    | with_reducible apply canon_drop
    | with_reducible apply canon_forEach
    | with_reducible apply dropParts_canon
    | split

theorem chunkAbort_kept (s : State) (j : JobId) (code : Nat) : (State.chunkAbort s j code).kept = s.kept := by
  unfold State.chunkAbort
  repeat' first
    | with_reducible rfl
    | (simp only [State.kept_set, State.kept_bump, State.kept_setAll, kept_forEach, implies_true, dropParts_kept, swapDeferred_kept, updJob_kept]; done)
    | dsimp only
    | intro _
    | split
    | (refine (kept_forEach _ _ _ ?_).trans ?_)

theorem chunkAbort_canon (s : State) (j : JobId) (code : Nat) (hs : s.Canonical) : (State.chunkAbort s j code).Canonical := by
  unfold State.chunkAbort
  repeat' first
    | with_reducible assumption
    | with_reducible intro _
    | simp only [canon_mk, canon_fold]
    | with_reducible apply canon_set
    | with_reducible apply canon_setAll
    | with_reducible apply canon_bump
    | with_reducible apply canon_drop
    | with_reducible apply canon_forEach
    | with_reducible apply dropParts_canon
    | with_reducible apply swapDeferred_canon
    | with_reducible apply updJob_canon
    | split

theorem fillerStop_kept (s : State) (n : Nat) : (State.fillerStop s n).kept = s.kept := by
  unfold State.fillerStop
  repeat' first
    | with_reducible rfl
    | (simp only [State.kept_bump, kept_mk, State.kept_fold]; done)
    | dsimp only
    | intro _
    | split
    | with_reducible refine (State.kept_bump ..).trans ?_

theorem fillerStop_canon (s : State) (n : Nat) (hs : s.Canonical) : (State.fillerStop s n).Canonical := by
  unfold State.fillerStop
  repeat' first
    | with_reducible assumption
    | with_reducible intro _
    | simp only [canon_mk, canon_fold]
    | with_reducible apply canon_bump
    | dsimp only
    | split

theorem fillersEnd_kept (s : State) : (State.fillersEnd s).kept = s.kept := by
  unfold State.fillersEnd
  repeat' first
    | with_reducible rfl
    | (simp only [kept_mk, State.kept_fold, kept_forEach, kept_foldl, implies_true, fillerStop_kept]; done)
    | simp only [kept_mk, State.kept_fold]
    | dsimp only
    | intro _
    | split
    | (with_reducible refine (kept_forEach _ _ _ ?_).trans ?_)
    | with_reducible refine (fillerStop_kept ..).trans ?_

theorem fillersEnd_canon (s : State) (hs : s.Canonical) : (State.fillersEnd s).Canonical := by
  unfold State.fillersEnd
  repeat' first
    | with_reducible assumption
    | with_reducible intro _
    | simp only [canon_mk, canon_fold]
    | with_reducible apply canon_forEach
    | with_reducible apply canon_foldl
    | with_reducible apply fillerStop_canon
    | dsimp only
    | split

theorem faultJob_kept (s : State) (j : JobId) (code : Nat) : (State.faultJob s j code).kept = s.kept := by
  unfold State.faultJob
  repeat' first
    | with_reducible rfl
    | (simp only [State.kept_set, kept_mk, State.kept_fold, apply_ite State.kept, ite_self, updJob_kept, dropBuilds_kept, sendAborts_kept, chunkAbort_kept,
        fillersEnd_kept]; done)
    | simp only [kept_mk, State.kept_fold]
    | dsimp only
    | intro _
    | split
    | with_reducible refine (updJob_kept ..).trans ?_
    | with_reducible refine (dropBuilds_kept ..).trans ?_
    | with_reducible refine (sendAborts_kept ..).trans ?_
    | with_reducible refine (chunkAbort_kept ..).trans ?_
    | with_reducible refine (fillersEnd_kept ..).trans ?_
    | with_reducible refine (State.kept_set ..).trans ?_

theorem faultJob_canon (s : State) (j : JobId) (code : Nat) (hs : s.Canonical) : (State.faultJob s j code).Canonical := by
  unfold State.faultJob
  repeat' first
    | with_reducible assumption
    | with_reducible intro _
    | simp only [canon_mk, canon_fold]
    | with_reducible apply canon_set
    | with_reducible apply updJob_canon
    | with_reducible apply dropBuilds_canon
    | with_reducible apply sendAborts_canon
    | with_reducible apply chunkAbort_canon
    | with_reducible apply fillersEnd_canon
    | dsimp only
    | split

theorem pegAct_kept (s : State) (j : JobId) (i : Nat) (a : PegAct) (v : Nat) : (State.pegAct s j i a v).kept = s.kept := by
  unfold State.pegAct
  repeat' first
    | with_reducible rfl
    | (simp only [pegAdd_kept, pegSet_kept, pegThresh_kept, updJob_kept]; done)
    | dsimp only
    | intro _
    | split

theorem pegAct_canon (s : State) (j : JobId) (i : Nat) (a : PegAct) (v : Nat) (hs : s.Canonical) : (State.pegAct s j i a v).Canonical := by
  unfold State.pegAct
  repeat' first
    | with_reducible assumption
    | with_reducible intro _
    | simp only [canon_mk, canon_fold]
    | with_reducible apply canon_set
    | with_reducible apply pegAdd_canon
    | with_reducible apply pegSet_canon
    | with_reducible apply pegThresh_canon
    | with_reducible apply updJob_canon
    | split

theorem jobPeg_kept (s : State) (j : JobId) (i : Nat) (a : PegAct) (v : Nat) : (State.jobPeg s j i a v).kept = s.kept := by
  unfold State.jobPeg
  repeat' first
    | with_reducible rfl
    | (simp only [kept_mk, State.kept_fold, apply_ite State.kept, ite_self, pegFault_kept, creditAcks_kept, faultJob_kept, pegAct_kept]; done)
    | simp only [kept_mk, State.kept_fold]
    | dsimp only
    | intro _
    | split
    | with_reducible refine (pegFault_kept ..).trans ?_
    | with_reducible refine (creditAcks_kept ..).trans ?_
    | with_reducible refine (faultJob_kept ..).trans ?_
    | with_reducible refine (pegAct_kept ..).trans ?_

theorem jobPeg_canon (s : State) (j : JobId) (i : Nat) (a : PegAct) (v : Nat) (hs : s.Canonical) : (State.jobPeg s j i a v).Canonical := by
  unfold State.jobPeg
  repeat' first
    | with_reducible assumption
    | with_reducible intro _
    | simp only [canon_mk, canon_fold]
    | with_reducible apply pegFault_canon
    | with_reducible apply creditAcks_canon
    | with_reducible apply faultJob_canon
    | with_reducible apply pegAct_canon
    | dsimp only
    | split

theorem jobPegRef_kept (s : State) (j : JobId) (ref : Nat) (a : PegAct) (v : Nat) (runb : Bool) (chan : Option Nat) :
    (State.jobPegRef s j ref a v runb chan).kept = s.kept := by
  unfold State.jobPegRef
  repeat' first
    | with_reducible rfl
    | (simp only [apply_ite State.kept, ite_self, faultJob_kept, jobPeg_kept, sendPeg_kept]; done)
    | dsimp only
    | intro _
    | split

theorem jobPegRef_canon (s : State) (j : JobId) (ref : Nat) (a : PegAct) (v : Nat) (runb : Bool) (chan : Option Nat) (hs : s.Canonical) :
    (State.jobPegRef s j ref a v runb chan).Canonical := by
  unfold State.jobPegRef
  repeat' first
    | with_reducible assumption
    | simp only [canon_mk, canon_fold]
    | with_reducible apply canon_set
    | with_reducible apply faultJob_canon
    | with_reducible apply jobPeg_canon
    | with_reducible apply sendPeg_canon
    | split

theorem warn_kept (s : State) (j : JobId) (code : Nat) : (State.warn s j code).kept = s.kept := by
  unfold State.warn
  simp only [apply_ite State.kept, ite_self, updJob_kept]

theorem warn_canon (s : State) (j : JobId) (code : Nat) (hs : s.Canonical) : (State.warn s j code).Canonical := by
  unfold State.warn
  repeat' first
    | with_reducible assumption
    | with_reducible intro _
    | simp only [canon_mk, canon_fold]
    | with_reducible apply updJob_canon
    | split

theorem readFailed_kept (s : State) (j : JobId) (code : Nat) : (State.readFailed s j code).kept = s.kept := by
  unfold State.readFailed
  simp only [apply_ite State.kept, ite_self, faultJob_kept]

theorem readFailed_canon (s : State) (j : JobId) (code : Nat) (hs : s.Canonical) : (State.readFailed s j code).Canonical := by
  unfold State.readFailed
  repeat' first
    | with_reducible assumption
    | with_reducible apply faultJob_canon
    | split

theorem writeRefused_kept (s : State) (n : Nat) (j : JobId) (c a len : Nat) : (State.writeRefused s n j c a len).1.kept = s.kept := by
  unfold State.writeRefused
  repeat' first
    | with_reducible rfl
    | (simp only [State.kept_set, State.kept_bump, faultJob_kept]; done)
    | dsimp only
    | intro _
    | split

theorem writeRefused_canon (s : State) (n : Nat) (j : JobId) (c a len : Nat) (hs : s.Canonical) : (State.writeRefused s n j c a len).1.Canonical := by
  unfold State.writeRefused
  repeat' first
    | with_reducible assumption
    | with_reducible apply canon_set
    | with_reducible apply canon_bump
    | with_reducible apply faultJob_canon
    | split

theorem written_kept {α : Type} (s : State) (job : Option JobId) (rd : ReadOutcome) (wr : WriteOutcome) (f : State → State × α) (h_f : ∀ s, (f
    s).1.kept = s.kept) : (State.written s job rd wr f).1.kept = s.kept := by
  unfold State.written
  repeat' first
    | with_reducible rfl
    | (simp only [kept_mk, State.kept_fold, readBlocks_kept, writeBursts_kept, noted_kept, faultJob_kept, h_f, implies_true]; done)
    | simp only [kept_mk, State.kept_fold]
    | dsimp only
    | intro _
    | split
    | with_reducible refine (readBlocks_kept ..).trans ?_
    | with_reducible refine (writeBursts_kept ..).trans ?_
    | with_reducible refine (noted_kept (h_f := ?_) ..).trans ?_
    | with_reducible refine (faultJob_kept ..).trans ?_

theorem written_canon {α : Type} (s : State) (job : Option JobId) (rd : ReadOutcome) (wr : WriteOutcome) (f : State → State × α) (h_f : ∀ s,
    s.Canonical → (f s).1.Canonical) (hs : s.Canonical) : (State.written s job rd wr f).1.Canonical := by
  unfold State.written
  repeat' first
    | with_reducible assumption
    | with_reducible intro _
    | simp only [canon_mk, canon_fold]
    | with_reducible apply readBlocks_canon
    | with_reducible apply writeBursts_canon
    | with_reducible apply noted_canon
    | with_reducible apply faultJob_canon
    | with_reducible apply h_f
    | dsimp only
    | split

theorem writes_kept (s : State) (job : Option JobId) (rd : ReadOutcome) (wr : WriteOutcome) (f : State → State) (h_f : ∀ s, (f s).kept = s.kept) :
    (State.writes s job rd wr f).kept = s.kept := by
  unfold State.writes
  repeat' first
    | with_reducible rfl
    | (simp only [written_kept, h_f, implies_true]; done)
    | dsimp only
    | intro _
    | split
    | with_reducible refine (written_kept (h_f := ?_) ..).trans ?_

theorem writes_canon (s : State) (job : Option JobId) (rd : ReadOutcome) (wr : WriteOutcome) (f : State → State) (h_f : ∀ s, s.Canonical → (f
    s).Canonical) (hs : s.Canonical) : (State.writes s job rd wr f).Canonical := by
  unfold State.writes
  repeat' first
    | with_reducible assumption
    | with_reducible intro _
    | with_reducible apply written_canon
    | with_reducible apply h_f
    | dsimp only
    | split

theorem jobWrite_kept (s : State) (n : Nat) (j : JobId) (c a : Nat) (bs : List Byte) : (State.jobWrite s n j c a bs).kept = s.kept := by
  unfold State.jobWrite
  repeat' first
    | with_reducible rfl
    | (simp only [State.kept_bump, apply_ite State.kept, ite_self, writeVA_kept, writeRefused_kept]; done)
    | dsimp only
    | intro _
    | split
    | with_reducible refine (writeVA_kept ..).trans ?_
    | with_reducible refine (writeRefused_kept ..).trans ?_
    | with_reducible refine (State.kept_bump ..).trans ?_

theorem jobWrite_canon (s : State) (n : Nat) (j : JobId) (c a : Nat) (bs : List Byte) (hs : s.Canonical) : (State.jobWrite s n j c a bs).Canonical
    := by
  unfold State.jobWrite
  repeat' first
    | with_reducible assumption
    | with_reducible intro _
    | with_reducible apply canon_bump
    | with_reducible apply writeVA_canon
    | with_reducible apply writeRefused_canon
    | dsimp only
    | split

theorem withHalves_kept {α : Type} (s : State) (j : JobId) (f : State → State × α) (h_f : ∀ s, (f s).1.kept = s.kept) : (State.withHalves s j
    f).1.kept = s.kept := by
  unfold State.withHalves
  repeat' first
    | with_reducible rfl
    | (simp only [State.kept_set, kept_forEach, kept_foldl, implies_true, h_f]; done)
    | dsimp only
    | intro _
    | split
    | (with_reducible refine (kept_forEach _ _ _ ?_).trans ?_)
    | with_reducible refine (State.kept_set ..).trans ?_

theorem withHalves_canon {α : Type} (s : State) (j : JobId) (f : State → State × α) (h_f : ∀ s, s.Canonical → (f s).1.Canonical) (hs : s.Canonical)
    : (State.withHalves s j f).1.Canonical := by
  unfold State.withHalves
  repeat' first
    | with_reducible assumption
    | with_reducible intro _
    | with_reducible apply canon_set
    | with_reducible apply canon_forEach
    | with_reducible apply canon_foldl
    | with_reducible apply h_f
    | dsimp only
    | split

theorem catchPartial_kept {α : Type} (s : State) (j : JobId) (f : State → State × α) (h_f : ∀ s, (f s).1.kept = s.kept) :
    (State.catchPartial s j f).1.kept = s.kept := by
  have h := h_f (s.set .froe_PARTIAL_WRITES 0 0)
  unfold State.catchPartial
  dsimp only
  split
  · rw [State.kept_set, h, State.kept_set]
  · rw [faultJob_kept, State.kept_set, h, State.kept_set]

theorem catchPartial_canon {α : Type} (s : State) (j : JobId) (f : State → State × α) (h_f : ∀ s, s.Canonical → (f s).1.Canonical)
    (hs : s.Canonical) : (State.catchPartial s j f).1.Canonical := by
  have h := h_f (s.set .froe_PARTIAL_WRITES 0 0) (canon_set _ _ _ _ hs)
  unfold State.catchPartial
  dsimp only
  split
  · exact canon_set _ _ _ _ h
  · exact faultJob_canon _ _ _ (canon_set _ _ _ _ h)

theorem countWrites_kept (s : State) (n : Nat) (rs : List (Nat × Nat)) : (State.countWrites s n rs).kept = s.kept := by
  unfold State.countWrites
  simp only [State.kept_bump]

theorem countWrites_canon (s : State) (n : Nat) (rs : List (Nat × Nat)) (hs : s.Canonical) : (State.countWrites s n rs).Canonical := by
  unfold State.countWrites
  repeat' first
    | with_reducible assumption
    | with_reducible intro _
    | with_reducible apply canon_bump
    | split

theorem markLines_kept (s : State) (c a n : Nat) (f : Flags) (poison : Nat) : (State.markLines s c a n f poison).kept = s.kept := by
  unfold State.markLines
  simp only [kept_mk, State.kept_fold]

theorem markLines_canon (s : State) (c a n : Nat) (f : Flags) (poison : Nat) (hs : s.Canonical) : (State.markLines s c a n f poison).Canonical := by
  unfold State.markLines
  repeat' first
    | with_reducible assumption
    | with_reducible intro _
    | simp only [canon_mk, canon_fold]

    | split

/-! ## Host writes by power state -/

theorem floorOverCap_kept (s : State) : (State.floorOverCap s).kept = s.kept := by
  unfold State.floorOverCap
  simp only [State.kept_set]

theorem floorOverCap_canon (s : State) (hs : s.Canonical) : (State.floorOverCap s).Canonical := by
  unfold State.floorOverCap
  repeat' first
    | with_reducible assumption
    | with_reducible apply canon_set
    | split

theorem floorRecompute_kept (s : State) : (State.floorRecompute s).kept = s.kept := by
  unfold State.floorRecompute
  simp only [State.kept_set, floorOverCap_kept]

theorem floorRecompute_canon (s : State) (hs : s.Canonical) : (State.floorRecompute s).Canonical := by
  unfold State.floorRecompute
  repeat' first
    | with_reducible assumption
    | with_reducible apply canon_set
    | with_reducible apply floorOverCap_canon
    | split

theorem hostWrite_kept (s : State) (t : Target) (f : State → State) (h_f : ∀ s, (f s).kept = s.kept) : (State.hostWrite s t f).kept = s.kept := by
  unfold State.hostWrite
  simp only [apply_ite State.kept, ite_self, accessError_kept, h_f]

theorem hostWrite_canon (s : State) (t : Target) (f : State → State) (h_f : ∀ s, s.Canonical → (f s).Canonical) (hs : s.Canonical) :
    (State.hostWrite s t f).Canonical := by
  unfold State.hostWrite
  repeat' first
    | with_reducible assumption
    | with_reducible intro _
    | with_reducible apply accessError_canon
    | with_reducible apply h_f
    | split

/-! ## Tenants and contexts -/

theorem tenantEnable_kept (s : State) (t : Nat) : (State.tenantEnable s t).kept = s.kept := by
  unfold State.tenantEnable
  repeat' first
    | with_reducible rfl
    | (simp only [State.kept_setAll, State.kept_resetFields, apply_ite State.kept, refuse_kept]; done)
    | dsimp only
    | intro _
    | split

theorem tenantEnable_canon (s : State) (t : Nat) (hs : s.Canonical) : (State.tenantEnable s t).Canonical := by
  unfold State.tenantEnable
  repeat' first
    | with_reducible assumption
    | simp only [canon_mk, canon_fold]
    | with_reducible apply canon_set
    | with_reducible apply canon_setAll
    | with_reducible apply canon_resetFields
    | with_reducible apply refuse_canon
    | split

theorem quotaField_kept (s : State) (t v : Nat) (q : Reg × Reg × Reg) : (State.quotaField s t v q).2.kept = s.kept := by
  unfold State.quotaField
  repeat' first
    | with_reducible rfl
    | (simp only [State.kept_set]; done)
    | dsimp only
    | intro _
    | split

theorem quotaField_canon (s : State) (t v : Nat) (q : Reg × Reg × Reg) (hs : s.Canonical) : (State.quotaField s t v q).2.Canonical := by
  unfold State.quotaField
  repeat' first
    | with_reducible assumption
    | dsimp only
    | with_reducible apply canon_set
    | split

theorem quotaWrite_kept (s : State) (t : Nat) (dw4 : Bool) (value : Nat) : (State.quotaWrite s t dw4 value).kept = s.kept := by
  unfold State.quotaWrite
  simp only [State.kept_set, apply_ite State.kept, ite_self, kept_foldl, kept_foldl_snd, implies_true, quotaField_kept]

theorem quotaWrite_canon (s : State) (t : Nat) (dw4 : Bool) (value : Nat) (hs : s.Canonical) : (State.quotaWrite s t dw4 value).Canonical := by
  unfold State.quotaWrite
  repeat' first
    | with_reducible assumption
    | with_reducible intro _
    | simp only [canon_mk, canon_fold]
    | with_reducible apply canon_set
    | with_reducible apply canon_foldl
    | with_reducible apply canon_foldl_fst
    | with_reducible apply canon_foldl_snd
    | with_reducible apply quotaField_canon
    | split

theorem tenantClosed_kept (s : State) (t : Nat) : (State.tenantClosed s t).kept = s.kept := by
  unfold State.tenantClosed
  simp only [State.kept_set, apply_ite State.kept, ite_self]

theorem tenantClosed_canon (s : State) (t : Nat) (hs : s.Canonical) : (State.tenantClosed s t).Canonical := by
  unfold State.tenantClosed
  repeat' first
    | with_reducible assumption
    | with_reducible apply canon_set
    | split

theorem eraseKey_kept (s : State) (k : Nat) : (State.eraseKey s k).kept = s.kept := by
  unfold State.eraseKey
  simp only [State.kept_setAll, kept_mk, State.kept_fold]

theorem eraseKey_canon (s : State) (k : Nat) (hs : s.Canonical) : (State.eraseKey s k).Canonical := by
  unfold State.eraseKey
  repeat' first
    | with_reducible assumption
    | with_reducible intro _
    | simp only [canon_mk, canon_fold]
    | with_reducible apply canon_set
    | with_reducible apply canon_setAll
    | split

theorem freeMailbox_kept (s : State) (r : Nat) : (State.freeMailbox s r).kept = s.kept := by
  unfold State.freeMailbox
  simp only [kept_mk, State.kept_fold, apply_ite State.kept, ite_self]

theorem freeMailbox_canon (s : State) (r : Nat) (hs : s.Canonical) : (State.freeMailbox s r).Canonical := by
  unfold State.freeMailbox
  repeat' first
    | with_reducible assumption
    | simp only [canon_mk, canon_fold]
    | with_reducible apply canon_bar4
    | with_reducible apply Mem.wf_write
    | with_reducible apply Mem.wf_writeBytes
    | with_reducible apply Mem.wf_writeNum
    | with_reducible apply Mem.wf_clear
    | with_reducible apply wf_forEach
    | with_reducible apply canon_ddr_wf
    | with_reducible apply canon_check_wf
    | with_reducible apply canon_host_wf
    | with_reducible apply canon_bar4_wf
    | with_reducible apply canon_staging_wf
    | with_reducible apply canon_slot_wf
    | with_reducible apply splice_wf
    | with_reducible apply scramble_wf
    | with_reducible apply canon_regsOk
    | with_reducible apply regsOk_filter
    | with_reducible apply regsOk_nil
    | with_reducible apply wf_nil
    | with_reducible apply check_nil
    | with_reducible apply check_filter
    | with_reducible apply canon_slot0_wf
    | with_reducible apply canon_slot1_wf
    | split
    | with_reducible apply canon_parts

theorem ringOff_kept (s : State) (r : Nat) : (State.ringOff s r).kept = s.kept := by
  unfold State.ringOff
  simp only [State.kept_setAll, kept_mk, State.kept_fold, freeMailbox_kept]

theorem ringOff_canon (s : State) (r : Nat) (hs : s.Canonical) : (State.ringOff s r).Canonical := by
  unfold State.ringOff
  repeat' first
    | with_reducible assumption
    | simp only [canon_mk, canon_fold]
    | with_reducible apply canon_set
    | with_reducible apply canon_setAll
    | with_reducible apply freeMailbox_canon
    | split

theorem tenantDisable_kept (s : State) (t : Nat) : (State.tenantDisable s t).kept = s.kept := by
  unfold State.tenantDisable
  simp only [State.kept_setAll, apply_ite State.kept, ite_self, kept_forEach, implies_true, eraseKey_kept, refuse_kept, ringOff_kept, tenantClosed_kept]

theorem tenantDisable_canon (s : State) (t : Nat) (hs : s.Canonical) : (State.tenantDisable s t).Canonical := by
  unfold State.tenantDisable
  repeat' first
    | with_reducible assumption
    | with_reducible intro _
    | dsimp only
    | with_reducible apply canon_set
    | with_reducible apply canon_setAll
    | with_reducible apply canon_forEach
    | with_reducible apply eraseKey_canon
    | with_reducible apply refuse_canon
    | with_reducible apply ringOff_canon
    | with_reducible apply tenantClosed_canon
    | split

theorem contextEnable_kept (s : State) (c : Nat) : (State.contextEnable s c).kept = s.kept := by
  unfold State.contextEnable
  repeat' first
    | with_reducible rfl
    | (simp only [State.kept_bump, State.kept_setAll, State.kept_resetFields, kept_mk, State.kept_fold, apply_ite State.kept, kept_forEach, implies_true, floorRecompute_kept, refuse_kept]; done)
    | dsimp only
    | intro _
    | split
    | (refine (kept_forEach _ _ _ ?_).trans ?_)

theorem contextEnable_canon (s : State) (c : Nat) (hs : s.Canonical) : (State.contextEnable s c).Canonical := by
  unfold State.contextEnable
  repeat' first
    | with_reducible assumption
    | with_reducible intro _
    | simp only [canon_mk, canon_fold]
    | with_reducible apply canon_set
    | with_reducible apply canon_setAll
    | with_reducible apply canon_bump
    | with_reducible apply canon_resetFields
    | with_reducible apply canon_forEach
    | with_reducible apply floorRecompute_canon
    | with_reducible apply refuse_canon
    | split

theorem supersedeContext_kept (s : State) (c : Nat) : (State.supersedeContext s c).kept = s.kept := by
  unfold State.supersedeContext
  simp only [State.kept_set, State.kept_bump, State.kept_drop, apply_ite State.kept, ite_self, kept_forEach, implies_true]

theorem supersedeContext_canon (s : State) (c : Nat) (hs : s.Canonical) : (State.supersedeContext s c).Canonical := by
  unfold State.supersedeContext
  repeat' first
    | with_reducible assumption
    | with_reducible intro _
    | dsimp only
    | with_reducible apply canon_set
    | with_reducible apply canon_bump
    | with_reducible apply canon_drop
    | with_reducible apply canon_forEach
    | split

theorem contextDisable_kept (s : State) (c : Nat) : (State.contextDisable s c).kept = s.kept := by
  unfold State.contextDisable
  simp only [State.kept_drop, State.kept_setAll, apply_ite State.kept, ite_self, floorRecompute_kept, refuse_kept, supersedeContext_kept]

theorem contextDisable_canon (s : State) (c : Nat) (hs : s.Canonical) : (State.contextDisable s c).Canonical := by
  unfold State.contextDisable
  repeat' first
    | with_reducible assumption
    | dsimp only
    | with_reducible apply canon_set
    | with_reducible apply canon_setAll
    | with_reducible apply canon_drop
    | with_reducible apply floorRecompute_canon
    | with_reducible apply refuse_canon
    | with_reducible apply supersedeContext_canon
    | split

/-! ## Pegs -/

theorem pegReserved_kept (s : State) (i : Nat) : (State.pegReserved s i).kept = s.kept := by
  unfold State.pegReserved
  simp only [pegFault_kept, refuse_kept]

theorem pegReserved_canon (s : State) (i : Nat) (hs : s.Canonical) : (State.pegReserved s i).Canonical := by
  unfold State.pegReserved
  repeat' first
    | with_reducible assumption
    | with_reducible apply pegFault_canon
    | with_reducible apply refuse_canon
    | split

theorem storeFields_kept (s : State) (i dw value : Nat) (l : List Reg) : (State.storeFields s i dw value l).kept = s.kept := by
  unfold State.storeFields
  simp only [State.kept_set, apply_ite State.kept, ite_self, kept_foldl, implies_true]

theorem storeFields_canon (s : State) (i dw value : Nat) (l : List Reg) (hs : s.Canonical) : (State.storeFields s i dw value l).Canonical := by
  unfold State.storeFields
  repeat' first
    | with_reducible assumption
    | with_reducible intro _
    | with_reducible apply canon_set
    | with_reducible apply canon_foldl
    | with_reducible apply canon_foldl_fst
    | with_reducible apply canon_foldl_snd
    | split

theorem pegEnable_kept (s : State) (i value : Nat) : (State.pegEnable s i value).kept = s.kept := by
  unfold State.pegEnable
  repeat' first
    | with_reducible rfl
    | (simp only [State.kept_bump, State.kept_setAll, apply_ite State.kept, afterPeg_kept, pegReserved_kept, refuse_kept, storeFields_kept]; done)
    | dsimp only
    | intro _
    | split

theorem pegEnable_canon (s : State) (i value : Nat) (hs : s.Canonical) : (State.pegEnable s i value).Canonical := by
  unfold State.pegEnable
  repeat' first
    | with_reducible assumption
    | simp only [canon_mk, canon_fold]
    | with_reducible apply canon_set
    | with_reducible apply canon_setAll
    | with_reducible apply canon_bump
    | with_reducible apply afterPeg_canon
    | with_reducible apply pegReserved_canon
    | with_reducible apply refuse_canon
    | with_reducible apply storeFields_canon
    | split

theorem pegDisable_kept (s : State) (i : Nat) : (State.pegDisable s i).kept = s.kept := by
  unfold State.pegDisable
  simp only [State.kept_drop, State.kept_setAll, apply_ite State.kept, ite_self, pegReserved_kept, refuse_kept]

theorem pegDisable_canon (s : State) (i : Nat) (hs : s.Canonical) : (State.pegDisable s i).Canonical := by
  unfold State.pegDisable
  repeat' first
    | with_reducible assumption
    | dsimp only
    | with_reducible apply canon_set
    | with_reducible apply canon_setAll
    | with_reducible apply canon_drop
    | with_reducible apply pegReserved_canon
    | with_reducible apply refuse_canon
    | split

theorem hostPeg_kept (s : State) (i : Nat) (f : State → State) (h_f : ∀ s, (f s).kept = s.kept) : (State.hostPeg s i f).kept = s.kept := by
  unfold State.hostPeg
  repeat' first
    | with_reducible rfl
    | (simp only [apply_ite State.kept, ite_self, pegFault_kept, creditAcks_kept, h_f, implies_true]; done)
    | dsimp only
    | intro _
    | split
    | with_reducible refine (pegFault_kept ..).trans ?_
    | with_reducible refine (creditAcks_kept ..).trans ?_

theorem hostPeg_canon (s : State) (i : Nat) (f : State → State) (h_f : ∀ s, s.Canonical → (f s).Canonical) (hs : s.Canonical) : (State.hostPeg s i
    f).Canonical := by
  unfold State.hostPeg
  repeat' first
    | with_reducible assumption
    | with_reducible intro _
    | with_reducible apply pegFault_canon
    | with_reducible apply creditAcks_canon
    | with_reducible apply h_f
    | dsimp only
    | split

/-! ## Regions -/

theorem regionEnable_kept (s : State) (c r value : Nat) : (State.regionEnable s c r value).kept = s.kept := by
  unfold State.regionEnable
  repeat' first
    | with_reducible rfl
    | (simp only [State.kept_set, State.kept_bump, State.kept_setAll, kept_mk, State.kept_fold, apply_ite State.kept, exitSelfRefresh_kept, refuse_kept, storeFields_kept, takePages_kept]; done)
    | dsimp only
    | intro _
    | split

theorem regionEnable_canon (s : State) (c r value : Nat) (hs : s.Canonical) : (State.regionEnable s c r value).Canonical := by
  unfold State.regionEnable
  repeat' first
    | with_reducible assumption
    | with_reducible intro _
    | simp only [canon_mk, canon_fold]
    | with_reducible apply canon_set
    | with_reducible apply canon_setAll
    | with_reducible apply canon_bump
    | with_reducible apply exitSelfRefresh_canon
    | with_reducible apply refuse_canon
    | with_reducible apply storeFields_canon
    | with_reducible apply takePages_canon
    | with_reducible apply canon_regsOk
    | with_reducible apply regsOk_filter
    | with_reducible apply regsOk_nil
    | with_reducible apply wf_nil
    | with_reducible apply check_nil
    | with_reducible apply check_filter
    | with_reducible apply canon_ddr_wf
    | with_reducible apply canon_check_wf
    | with_reducible apply canon_host_wf
    | with_reducible apply canon_bar4_wf
    | with_reducible apply canon_staging_wf
    | with_reducible apply canon_slot0_wf
    | with_reducible apply canon_slot1_wf
    | with_reducible apply Mem.wf_write
    | with_reducible apply Mem.wf_writeBytes
    | with_reducible apply Mem.wf_writeNum
    | with_reducible apply Mem.wf_clear
    | with_reducible apply wf_forEach
    | split
    | with_reducible apply canon_parts

theorem regionReady_kept (s : State) (c r : Nat) : (State.regionReady s c r).kept = s.kept := by
  unfold State.regionReady
  simp only [State.kept_set, apply_ite State.kept, ite_self]

theorem regionReady_canon (s : State) (c r : Nat) (hs : s.Canonical) : (State.regionReady s c r).Canonical := by
  unfold State.regionReady
  repeat' first
    | with_reducible assumption
    | dsimp only
    | with_reducible apply canon_set
    | split

theorem regionDisable_kept (s : State) (c r : Nat) : (State.regionDisable s c r).kept = s.kept := by
  unfold State.regionDisable
  repeat' first
    | with_reducible rfl
    | (simp only [State.kept_set, State.kept_drop, State.kept_setAll, kept_mk, State.kept_fold, apply_ite State.kept, ite_self, refuse_kept,
        scrubPages_kept]; done)
    | simp only [kept_mk, State.kept_fold]
    | dsimp only
    | intro _
    | split
    | with_reducible refine (refuse_kept ..).trans ?_
    | with_reducible refine (scrubPages_kept ..).trans ?_
    | with_reducible refine (State.kept_set ..).trans ?_
    | with_reducible refine (State.kept_setAll ..).trans ?_

theorem regionDisable_canon (s : State) (c r : Nat) (hs : s.Canonical) : (State.regionDisable s c r).Canonical := by
  unfold State.regionDisable
  repeat' first
    | with_reducible assumption
    | with_reducible intro _
    | simp only [canon_mk, canon_fold]
    | with_reducible apply canon_set
    | with_reducible apply canon_setAll
    | with_reducible apply canon_drop
    | with_reducible apply refuse_canon
    | with_reducible apply scrubPages_canon
    | with_reducible apply canon_store
    | with_reducible apply canon_change
    | with_reducible apply canon_host
    | with_reducible apply canon_bar4
    | with_reducible apply canon_staging
    | with_reducible apply canon_setSlot
    | with_reducible apply Mem.wf_write
    | with_reducible apply Mem.wf_writeBytes
    | with_reducible apply Mem.wf_writeNum
    | with_reducible apply Mem.wf_clear
    | with_reducible apply wf_forEach
    | with_reducible apply wf_foldl_fst
    | with_reducible apply canon_ddr_wf
    | with_reducible apply canon_check_wf
    | with_reducible apply canon_host_wf
    | with_reducible apply canon_bar4_wf
    | with_reducible apply canon_staging_wf
    | with_reducible apply canon_slot_wf
    | with_reducible apply splice_wf
    | with_reducible apply scramble_wf
    | with_reducible apply canon_regsOk
    | with_reducible apply regsOk_filter
    | with_reducible apply regsOk_nil
    | with_reducible apply wf_nil
    | with_reducible apply check_nil
    | with_reducible apply check_filter
    | with_reducible apply canon_slot0_wf
    | with_reducible apply canon_slot1_wf
    | dsimp only
    | split
    | with_reducible apply canon_parts

theorem releasePage_kept (s : State) (p : Nat) : (State.releasePage s p).kept = s.kept := by
  unfold State.releasePage
  repeat' first
    | with_reducible rfl
    | (simp only [State.kept_set, State.kept_bump, State.kept_drop, State.kept_setAll, kept_mk, State.kept_fold, apply_ite State.kept]; done)
    | dsimp only
    | intro _
    | split

theorem releasePage_canon (s : State) (p : Nat) (hs : s.Canonical) : (State.releasePage s p).Canonical := by
  unfold State.releasePage
  repeat' first
    | with_reducible assumption
    | simp only [canon_mk, canon_fold]
    | with_reducible apply canon_set
    | with_reducible apply canon_setAll
    | with_reducible apply canon_bump
    | with_reducible apply canon_drop
    | with_reducible apply canon_regsOk
    | with_reducible apply regsOk_filter
    | with_reducible apply regsOk_nil
    | with_reducible apply wf_nil
    | with_reducible apply check_nil
    | with_reducible apply check_filter
    | with_reducible apply canon_ddr_wf
    | with_reducible apply canon_check_wf
    | with_reducible apply canon_host_wf
    | with_reducible apply canon_bar4_wf
    | with_reducible apply canon_staging_wf
    | with_reducible apply canon_slot0_wf
    | with_reducible apply canon_slot1_wf
    | with_reducible apply Mem.wf_write
    | with_reducible apply Mem.wf_writeBytes
    | with_reducible apply Mem.wf_writeNum
    | with_reducible apply Mem.wf_clear
    | with_reducible apply wf_forEach
    | split
    | with_reducible apply canon_parts

theorem scrubDone_kept (s : State) : (State.scrubDone s).kept = s.kept := by
  unfold State.scrubDone
  repeat' first
    | with_reducible rfl
    | (simp only [State.kept_set, State.kept_drop, kept_mk, State.kept_fold, apply_ite State.kept, ite_self, tenantClosed_kept, releasePage_kept]; done)
    | simp only [kept_mk, State.kept_fold]
    | dsimp only
    | intro _
    | split
    | with_reducible refine (tenantClosed_kept ..).trans ?_
    | with_reducible refine (releasePage_kept ..).trans ?_
    | with_reducible refine (State.kept_set ..).trans ?_

theorem scrubDone_canon (s : State) (hs : s.Canonical) : (State.scrubDone s).Canonical := by
  unfold State.scrubDone
  repeat' first
    | with_reducible assumption
    | with_reducible intro _
    | simp only [canon_mk, canon_fold]
    | with_reducible apply canon_set
    | with_reducible apply canon_drop
    | with_reducible apply tenantClosed_canon
    | with_reducible apply releasePage_canon
    | with_reducible apply canon_store
    | with_reducible apply canon_change
    | with_reducible apply canon_host
    | with_reducible apply canon_bar4
    | with_reducible apply canon_staging
    | with_reducible apply canon_setSlot
    | with_reducible apply Mem.wf_write
    | with_reducible apply Mem.wf_writeBytes
    | with_reducible apply Mem.wf_writeNum
    | with_reducible apply Mem.wf_clear
    | with_reducible apply wf_forEach
    | with_reducible apply wf_foldl_fst
    | with_reducible apply canon_ddr_wf
    | with_reducible apply canon_check_wf
    | with_reducible apply canon_host_wf
    | with_reducible apply canon_bar4_wf
    | with_reducible apply canon_staging_wf
    | with_reducible apply canon_slot_wf
    | with_reducible apply splice_wf
    | with_reducible apply scramble_wf
    | with_reducible apply canon_regsOk
    | with_reducible apply regsOk_filter
    | with_reducible apply regsOk_nil
    | with_reducible apply wf_nil
    | with_reducible apply check_nil
    | with_reducible apply check_filter
    | with_reducible apply canon_slot0_wf
    | with_reducible apply canon_slot1_wf
    | dsimp only
    | split
    | with_reducible apply canon_parts

theorem patrolCheck_kept (s : State) (blocks : List Nat) (o : ReadOutcome) : (State.patrolCheck s blocks o).kept = s.kept := by
  unfold State.patrolCheck
  repeat' first
    | with_reducible rfl
    | (simp only [readBlocks_kept]; done)
    | dsimp only
    | intro _
    | split

theorem patrolCheck_canon (s : State) (blocks : List Nat) (o : ReadOutcome) (hs : s.Canonical) : (State.patrolCheck s blocks o).Canonical := by
  unfold State.patrolCheck
  repeat' first
    | with_reducible assumption
    | with_reducible intro _
    | simp only [canon_mk, canon_fold]
    | with_reducible apply readBlocks_canon
    | with_reducible apply uncorrectable_canon
    | split

theorem patrolRead_kept (s : State) (o : ReadOutcome) : (State.patrolRead s o).kept = s.kept := by
  unfold State.patrolRead
  simp only [kept_mk, State.kept_fold, apply_ite State.kept, ite_self, patrolCheck_kept, readBlocks_kept]

theorem patrolRead_canon (s : State) (o : ReadOutcome) (hs : s.Canonical) : (State.patrolRead s o).Canonical := by
  unfold State.patrolRead
  repeat' first
    | with_reducible assumption
    | simp only [canon_mk, canon_fold]
    | with_reducible apply patrolCheck_canon
    | with_reducible apply readBlocks_canon
    | with_reducible apply canon_regsOk
    | with_reducible apply regsOk_filter
    | with_reducible apply regsOk_nil
    | with_reducible apply wf_nil
    | with_reducible apply check_nil
    | with_reducible apply check_filter
    | with_reducible apply canon_ddr_wf
    | with_reducible apply canon_check_wf
    | with_reducible apply canon_host_wf
    | with_reducible apply canon_bar4_wf
    | with_reducible apply canon_staging_wf
    | with_reducible apply canon_slot0_wf
    | with_reducible apply canon_slot1_wf
    | with_reducible apply Mem.wf_write
    | with_reducible apply Mem.wf_writeBytes
    | with_reducible apply Mem.wf_writeNum
    | with_reducible apply Mem.wf_clear
    | with_reducible apply wf_forEach
    | split
    | with_reducible apply canon_parts

theorem channelRetrain_kept (s : State) (ch : Nat) (ok : Bool) (r : Retry) : (State.channelRetrain s ch ok r).kept = s.kept := by
  unfold State.channelRetrain
  repeat' first
    | with_reducible rfl
    | (simp only [State.kept_bump, kept_mk, State.kept_fold, apply_ite State.kept, ite_self, retrain_kept, writeFailed_kept, faultJob_kept]; done)
    | simp only [kept_mk, State.kept_fold]
    | dsimp only
    | intro _
    | split
    | with_reducible refine (retrain_kept ..).trans ?_
    | with_reducible refine (writeFailed_kept ..).trans ?_
    | with_reducible refine (faultJob_kept ..).trans ?_
    | with_reducible refine (State.kept_bump ..).trans ?_

theorem channelRetrain_canon (s : State) (ch : Nat) (ok : Bool) (r : Retry) (hs : s.Canonical) : (State.channelRetrain s ch ok r).Canonical := by
  unfold State.channelRetrain
  repeat' first
    | with_reducible assumption
    | with_reducible intro _
    | simp only [canon_mk, canon_fold]
    | with_reducible apply canon_bump
    | with_reducible apply retrain_canon
    | with_reducible apply writeFailed_canon
    | with_reducible apply faultJob_canon
    | dsimp only
    | split

theorem selfRefreshEntry_kept (s : State) : (State.selfRefreshEntry s).kept = s.kept := by
  unfold State.selfRefreshEntry State.selfRefreshEntry.sleep
  repeat' first
    | with_reducible rfl
    | (simp only [State.kept_set, kept_mk, State.kept_fold, apply_ite State.kept, ite_self, setDoms_kept]; done)
    | simp only [kept_mk, State.kept_fold]
    | dsimp only
    | intro _
    | split
    | with_reducible refine (setDoms_kept ..).trans ?_
    | with_reducible refine (State.kept_set ..).trans ?_

theorem selfRefreshEntry_canon (s : State) (hs : s.Canonical) : (State.selfRefreshEntry s).Canonical := by
  unfold State.selfRefreshEntry State.selfRefreshEntry.sleep
  repeat' first
    | with_reducible assumption
    | with_reducible intro _
    | simp only [canon_mk, canon_fold]
    | with_reducible apply canon_set
    | with_reducible apply setDoms_canon
    | dsimp only
    | split

theorem selfRefreshExit_kept (s : State) : (State.selfRefreshExit s).kept = s.kept := by
  unfold State.selfRefreshExit
  repeat' first
    | with_reducible rfl
    | (simp only [State.kept_set, kept_mk, State.kept_fold, apply_ite State.kept, setDoms_kept]; done)
    | dsimp only
    | intro _
    | split

theorem selfRefreshExit_canon (s : State) (hs : s.Canonical) : (State.selfRefreshExit s).Canonical := by
  unfold State.selfRefreshExit
  repeat' first
    | with_reducible assumption
    | simp only [canon_mk, canon_fold]
    | with_reducible apply canon_set
    | with_reducible apply setDoms_canon
    | split

/-! ## The host port -/

theorem writeField_kept (s : State) (w : Window) (i d value : Nat) (r : Reg) : (State.writeField s w i d value r).kept = s.kept := by
  unfold State.writeField
  repeat' first
    | with_reducible rfl
    | (simp only [State.kept_set, kept_mk, State.kept_fold, apply_ite State.kept, ite_self]; done)
    | dsimp only
    | intro _
    | split
    | with_reducible refine (State.kept_set ..).trans ?_

theorem writeField_canon (s : State) (w : Window) (i d value : Nat) (r : Reg) (hs : s.Canonical) : (State.writeField s w i d value r).Canonical := by
  unfold State.writeField
  repeat' first
    | with_reducible assumption
    | with_reducible intro _
    | simp only [canon_mk, canon_fold]
    | with_reducible apply canon_set
    | dsimp only
    | split

theorem writeWindows_kept (s : State) (off value : Nat) : (State.writeWindows s off value).kept = s.kept := by
  unfold State.writeWindows
  repeat' first
    | with_reducible rfl
    | (simp only [apply_ite State.kept, ite_self, kept_foldl, implies_true, writeField_kept]; done)
    | dsimp only
    | intro _
    | split
    | (refine (kept_foldl _ _ _ ?_).trans ?_)

theorem writeWindows_canon (s : State) (off value : Nat) (hs : s.Canonical) : (State.writeWindows s off value).Canonical := by
  unfold State.writeWindows
  repeat' first
    | with_reducible assumption
    | with_reducible intro _
    | simp only [canon_mk, canon_fold]
    | with_reducible apply canon_foldl
    | with_reducible apply canon_foldl_fst
    | with_reducible apply canon_foldl_snd
    | with_reducible apply writeField_canon
    | split

theorem poolSizes_kept (s : State) (c : Nat) : (State.poolSizes s c).kept = s.kept := by
  unfold State.poolSizes
  simp only [State.kept_setAll]

theorem poolSizes_canon (s : State) (c : Nat) (hs : s.Canonical) : (State.poolSizes s c).Canonical := by
  unfold State.poolSizes
  repeat' first
    | with_reducible assumption
    | dsimp only
    | with_reducible apply canon_set
    | with_reducible apply canon_setAll
    | split

theorem streamSize_kept (s : State) (k : Nat) : (State.streamSize s k).kept = s.kept := by
  unfold State.streamSize
  simp only [State.kept_set]

theorem streamSize_canon (s : State) (k : Nat) (hs : s.Canonical) : (State.streamSize s k).Canonical := by
  unfold State.streamSize
  repeat' first
    | with_reducible assumption
    | with_reducible apply canon_set
    | split

theorem bufferBytes_kept (s : State) (k : Nat) : (State.bufferBytes s k).kept = s.kept := by
  unfold State.bufferBytes
  simp only [State.kept_set]

theorem bufferBytes_canon (s : State) (k : Nat) (hs : s.Canonical) : (State.bufferBytes s k).Canonical := by
  unfold State.bufferBytes
  repeat' first
    | with_reducible assumption
    | dsimp only
    | with_reducible apply canon_set
    | split

theorem afterWrite_kept (s : State) (off : Nat) : (State.afterWrite s off).kept = s.kept := by
  unfold State.afterWrite
  simp only [State.kept_set, apply_ite State.kept, ite_self, bufferBytes_kept, flushVector_kept, poolSizes_kept, streamSize_kept]

theorem afterWrite_canon (s : State) (off : Nat) (hs : s.Canonical) : (State.afterWrite s off).Canonical := by
  unfold State.afterWrite
  repeat' first
    | with_reducible assumption
    | dsimp only
    | with_reducible apply canon_set
    | with_reducible apply bufferBytes_canon
    | with_reducible apply flushVector_canon
    | with_reducible apply poolSizes_canon
    | with_reducible apply streamSize_canon
    | split

theorem whenOn_kept (s : State) (d : Nat) (w : DeferredWrite) (f : State → State) (h_f : ∀ s, (f s).kept = s.kept) :
    (State.whenOn s d w f).kept = s.kept := by
  unfold State.whenOn
  simp only [kept_mk, State.kept_fold, apply_ite State.kept, ite_self, demand_kept, h_f]

theorem whenOn_canon (s : State) (d : Nat) (w : DeferredWrite) (f : State → State) (h_f : ∀ s, s.Canonical → (f s).Canonical) (hs : s.Canonical) :
    (State.whenOn s d w f).Canonical := by
  unfold State.whenOn
  repeat' first
    | with_reducible assumption
    | with_reducible intro _
    | simp only [canon_mk, canon_fold]
    | with_reducible apply demand_canon
    | with_reducible apply h_f
    | split

theorem writeDW_kept (s : State) (off value : Nat) : (State.writeDW s off value).kept = s.kept := by
  unfold State.writeDW
  simp only [State.kept_set, kept_mk, State.kept_fold, apply_ite State.kept, ite_self, afterWrite_kept, pegFault_kept, pegReserved_kept, writeWindows_kept]

theorem writeDW_canon (s : State) (off value : Nat) (hs : s.Canonical) : (State.writeDW s off value).Canonical := by
  unfold State.writeDW
  repeat' first
    | with_reducible assumption
    | simp only [canon_mk, canon_fold]
    | with_reducible apply canon_set
    | with_reducible apply afterWrite_canon
    | with_reducible apply pegFault_canon
    | with_reducible apply pegReserved_canon
    | with_reducible apply writeWindows_canon
    | with_reducible apply canon_staging
    | with_reducible apply Mem.wf_write
    | with_reducible apply Mem.wf_writeBytes
    | with_reducible apply Mem.wf_writeNum
    | with_reducible apply Mem.wf_clear
    | with_reducible apply wf_forEach
    | with_reducible apply canon_ddr_wf
    | with_reducible apply canon_check_wf
    | with_reducible apply canon_host_wf
    | with_reducible apply canon_bar4_wf
    | with_reducible apply canon_staging_wf
    | with_reducible apply canon_slot_wf
    | with_reducible apply splice_wf
    | with_reducible apply scramble_wf
    | with_reducible apply canon_regsOk
    | with_reducible apply regsOk_filter
    | with_reducible apply regsOk_nil
    | with_reducible apply wf_nil
    | with_reducible apply check_nil
    | with_reducible apply check_filter
    | with_reducible apply canon_slot0_wf
    | with_reducible apply canon_slot1_wf
    | split
    | with_reducible apply canon_parts

theorem hostDW_kept (s : State) (off value : Nat) : (State.hostDW s off value).kept = s.kept := by
  unfold State.hostDW
  repeat' first
    | with_reducible rfl
    | (simp only [apply_ite State.kept, ite_self, implies_true, accessError_kept, hostWrite_kept, whenOn_kept, writeDW_kept]; done)
    | dsimp only
    | intro _
    | split

theorem hostDW_canon (s : State) (off value : Nat) (hs : s.Canonical) : (State.hostDW s off value).Canonical := by
  unfold State.hostDW
  repeat' first
    | with_reducible assumption
    | with_reducible intro _
    | simp only [canon_mk, canon_fold]
    | with_reducible apply accessError_canon
    | with_reducible apply hostWrite_canon
    | with_reducible apply whenOn_canon
    | with_reducible apply writeDW_canon
    | split

theorem hostDoorbellDW_kept (s : State) (off : Nat) : (State.hostDoorbellDW s off).kept = s.kept := by
  unfold State.hostDoorbellDW
  simp only [apply_ite State.kept, ite_self, accessError_kept]

theorem hostDoorbellDW_canon (s : State) (off : Nat) (hs : s.Canonical) : (State.hostDoorbellDW s off).Canonical := by
  unfold State.hostDoorbellDW
  repeat' first
    | with_reducible assumption
    | with_reducible apply accessError_canon
    | split

theorem registerWrite_kept (s : State) (bar : Bar) (off : Nat) (width : Width) (value : Nat) :
    (State.registerWrite s bar off width value).kept = s.kept := by
  unfold State.registerWrite
  simp only [apply_ite State.kept, ite_self, accessError_kept, hostDW_kept, hostDoorbellDW_kept]

theorem registerWrite_canon (s : State) (bar : Bar) (off : Nat) (width : Width) (value : Nat) (hs : s.Canonical) :
    (State.registerWrite s bar off width value).Canonical := by
  unfold State.registerWrite
  repeat' first
    | with_reducible assumption
    | with_reducible intro _
    | simp only [canon_mk, canon_fold]
    | with_reducible apply accessError_canon
    | with_reducible apply hostDW_canon
    | with_reducible apply hostDoorbellDW_canon
    | split

theorem latchClipped_kept (s : State) (n : Nat) : (State.latchClipped s n).kept = s.kept := by
  unfold State.latchClipped
  repeat' first
    | with_reducible rfl
    | (simp only [State.kept_set, apply_ite State.kept, ite_self]; done)
    | dsimp only
    | intro _
    | split
    | with_reducible refine (State.kept_set ..).trans ?_

theorem latchClipped_canon (s : State) (n : Nat) (hs : s.Canonical) : (State.latchClipped s n).Canonical := by
  unfold State.latchClipped
  repeat' first
    | with_reducible assumption
    | with_reducible intro _
    | with_reducible apply canon_set
    | dsimp only
    | split

theorem latchHist_kept (s : State) (n : Nat) : (State.latchHist s n).kept = s.kept := by
  unfold State.latchHist
  repeat' first
    | with_reducible rfl
    | (simp only [State.kept_set, apply_ite State.kept, ite_self]; done)
    | dsimp only
    | intro _
    | split
    | with_reducible refine (State.kept_set ..).trans ?_

theorem latchHist_canon (s : State) (n : Nat) (hs : s.Canonical) : (State.latchHist s n).Canonical := by
  unfold State.latchHist
  repeat' first
    | with_reducible assumption
    | with_reducible intro _
    | with_reducible apply canon_set
    | dsimp only
    | split

theorem latch_kept (s : State) (off : Nat) : (State.latch s off).kept = s.kept := by
  unfold State.latch
  repeat' first
    | with_reducible rfl
    | (simp only [apply_ite State.kept, ite_self, latchClipped_kept, latchHist_kept]; done)
    | dsimp only
    | intro _
    | split
    | with_reducible refine (latchClipped_kept ..).trans ?_
    | with_reducible refine (latchHist_kept ..).trans ?_

theorem latch_canon (s : State) (off : Nat) (hs : s.Canonical) : (State.latch s off).Canonical := by
  unfold State.latch
  repeat' first
    | with_reducible assumption
    | with_reducible intro _
    | with_reducible apply latchClipped_canon
    | with_reducible apply latchHist_canon
    | dsimp only
    | split

theorem linkTrain_kept (s : State) (m0 m1 : ModuleTrain) : (State.linkTrain s m0 m1).kept = s.kept := by
  unfold State.linkTrain
  repeat' first
    | with_reducible rfl
    | (simp only [State.kept_setAll, kept_mk, State.kept_fold, apply_ite State.kept, ite_self, event_kept]; done)
    | simp only [kept_mk, State.kept_fold]
    | dsimp only
    | intro _
    | split
    | with_reducible refine (event_kept ..).trans ?_
    | with_reducible refine (State.kept_setAll ..).trans ?_

theorem linkTrain_canon (s : State) (m0 m1 : ModuleTrain) (hs : s.Canonical) : (State.linkTrain s m0 m1).Canonical := by
  unfold State.linkTrain
  repeat' first
    | with_reducible assumption
    | with_reducible intro _
    | simp only [canon_mk, canon_fold]
    | with_reducible apply canon_setAll
    | with_reducible apply event_canon
    | dsimp only
    | split

theorem configReset_kept (s : State) (d3 : Bool) : (State.configReset s d3).kept = s.kept := by
  unfold State.configReset
  repeat' first
    | with_reducible rfl
    | (simp only [kept_mk, State.kept_fold]; done)
    | dsimp only
    | intro _
    | split

theorem configReset_canon (s : State) (d3 : Bool) (hs : s.Canonical) : (State.configReset s d3).Canonical := by
  unfold State.configReset
  repeat' first
    | with_reducible assumption
    | with_reducible intro _
    | simp only [canon_mk, canon_fold]
    | dsimp only
    | split

theorem configure_kept (s : State) (w : ConfigWrite) : (State.configure s w).kept = s.kept := by
  unfold State.configure
  repeat' first
    | with_reducible rfl
    | (simp only [kept_mk, State.kept_fold]; done)
    | dsimp only
    | intro _
    | split

theorem configure_canon (s : State) (w : ConfigWrite) (hs : s.Canonical) : (State.configure s w).Canonical := by
  unfold State.configure
  repeat' first
    | with_reducible assumption
    | with_reducible intro _
    | simp only [canon_mk, canon_fold]
    | with_reducible apply canon_store
    | with_reducible apply canon_change
    | with_reducible apply canon_host
    | with_reducible apply canon_bar4
    | with_reducible apply canon_staging
    | with_reducible apply canon_setSlot
    | with_reducible apply Mem.wf_write
    | with_reducible apply Mem.wf_writeBytes
    | with_reducible apply Mem.wf_writeNum
    | with_reducible apply Mem.wf_clear
    | with_reducible apply wf_forEach
    | with_reducible apply wf_foldl_fst
    | with_reducible apply canon_ddr_wf
    | with_reducible apply canon_check_wf
    | with_reducible apply canon_host_wf
    | with_reducible apply canon_bar4_wf
    | with_reducible apply canon_staging_wf
    | with_reducible apply canon_slot_wf
    | with_reducible apply splice_wf
    | with_reducible apply scramble_wf
    | with_reducible apply canon_regsOk
    | with_reducible apply regsOk_filter
    | with_reducible apply regsOk_nil
    | with_reducible apply wf_nil
    | with_reducible apply check_nil
    | with_reducible apply check_filter
    | with_reducible apply canon_slot0_wf
    | with_reducible apply canon_slot1_wf
    | dsimp only
    | split
    | with_reducible apply canon_parts

end Sys2Proof.Machine
end

