-- ==== Sys2Proof/Laws/StoreFrames.lean ====
section
/-! SUPPORT. What page pools, sessions, streams, rings and the fabric leave: the queue of commands and OTP (`_kept`), and the canonical form (`_canon`). -/

set_option linter.unusedSimpArgs false

namespace Sys2Proof.Machine

/-! ## Page pools and sessions -/

theorem setRefs_kept (s : State) (c p n : Nat) : (State.setRefs s c p n).kept = s.kept := by
  unfold State.setRefs
  simp only [writeNumVA_kept]

theorem setRefs_canon (s : State) (c p n : Nat) (hs : s.Canonical) : (State.setRefs s c p n).Canonical := by
  unfold State.setRefs
  repeat' first
    | with_reducible assumption
    | with_reducible apply writeNumVA_canon
    | split

theorem popStack_kept (s : State) (c : Nat) (chunk : Bool) (p : Nat) (t : State) (h : s.popStack c chunk = some (p, t)) : t.kept = s.kept := by
  unfold State.popStack at h
  cases chunk <;> simp only [Bool.false_eq_true, if_true, if_false] at h <;> split at h <;> cases h <;> exact State.kept_set ..

theorem popStack_canon (s : State) (c : Nat) (chunk : Bool) (p : Nat) (t : State) (hs : s.Canonical) (h : s.popStack c chunk = some (p, t)) : t.Canonical := by
  unfold State.popStack at h
  cases chunk <;> simp only [Bool.false_eq_true, if_true, if_false] at h <;> split at h <;> cases h <;> exact canon_set _ _ _ _ hs

theorem pushStack_kept (s : State) (c : Nat) (chunk : Bool) (v : Nat) : (State.pushStack s c chunk v).kept = s.kept := by
  unfold State.pushStack
  simp only [State.kept_set, writeNumVA_kept]

theorem pushStack_canon (s : State) (c : Nat) (chunk : Bool) (v : Nat) (hs : s.Canonical) : (State.pushStack s c chunk v).Canonical := by
  unfold State.pushStack
  repeat' first
    | with_reducible assumption
    | dsimp only
    | with_reducible apply canon_set
    | with_reducible apply writeNumVA_canon
    | split

theorem defer_kept (s : State) (d : Deferred) : (State.defer s d).kept = s.kept := by
  unfold State.defer
  simp only [State.kept_bump, kept_mk, State.kept_fold, writeNumVA_kept]

theorem defer_canon (s : State) (d : Deferred) (hs : s.Canonical) : (State.defer s d).Canonical := by
  unfold State.defer
  repeat' first
    | with_reducible assumption
    | simp only [canon_mk, canon_fold]
    | with_reducible apply canon_bump
    | with_reducible apply writeNumVA_canon
    | split

theorem undefer_kept (s : State) (d : Deferred) : (State.undefer s d).kept = s.kept := by
  unfold State.undefer
  simp only [State.kept_drop, kept_mk, State.kept_fold, pushStack_kept, writeNumVA_kept]

theorem undefer_canon (s : State) (d : Deferred) (hs : s.Canonical) : (State.undefer s d).Canonical := by
  unfold State.undefer
  repeat' first
    | with_reducible assumption
    | simp only [canon_mk, canon_fold]
    | with_reducible apply canon_drop
    | with_reducible apply pushStack_canon
    | with_reducible apply writeNumVA_canon
    | split

theorem reclaimPool_kept (s : State) (c : Nat) : (State.reclaimPool s c).kept = s.kept := by
  unfold State.reclaimPool
  simp only [kept_forEach, implies_true, undefer_kept]

theorem reclaimPool_canon (s : State) (c : Nat) (hs : s.Canonical) : (State.reclaimPool s c).Canonical := by
  unfold State.reclaimPool
  repeat' first
    | with_reducible assumption
    | with_reducible intro _
    | with_reducible apply canon_forEach
    | with_reducible apply undefer_canon
    | split

theorem deferRelease_kept (s : State) (k : Nat) (pages chunks : List Nat) : (State.deferRelease s k pages chunks).kept = s.kept := by
  unfold State.deferRelease
  simp only [kept_forEach, implies_true, defer_kept, reclaimPool_kept]

theorem deferRelease_canon (s : State) (k : Nat) (pages chunks : List Nat) (hs : s.Canonical) : (State.deferRelease s k pages chunks).Canonical := by
  unfold State.deferRelease
  repeat' first
    | with_reducible assumption
    | with_reducible intro _
    | simp only [canon_mk, canon_fold]
    | with_reducible apply canon_forEach
    | with_reducible apply defer_canon
    | with_reducible apply reclaimPool_canon
    | split

theorem poolEnable_kept (s : State) (c : Nat) : (State.poolEnable s c).kept = s.kept := by
  unfold State.poolEnable
  repeat' first
    | with_reducible rfl
    | (simp only [State.kept_setAll, apply_ite State.kept, refuse_kept]; done)
    | dsimp only
    | intro _
    | split

theorem poolEnable_canon (s : State) (c : Nat) (hs : s.Canonical) : (State.poolEnable s c).Canonical := by
  unfold State.poolEnable
  repeat' first
    | with_reducible assumption
    | simp only [canon_mk, canon_fold]
    | with_reducible apply canon_set
    | with_reducible apply canon_setAll
    | with_reducible apply refuse_canon
    | split

theorem poolReady_kept (s : State) (c : Nat) : (State.poolReady s c).kept = s.kept := by
  unfold State.poolReady
  simp only [State.kept_setAll, apply_ite State.kept, ite_self, kept_forEach, implies_true, setRefs_kept, writeNumVA_kept]

theorem poolReady_canon (s : State) (c : Nat) (hs : s.Canonical) : (State.poolReady s c).Canonical := by
  unfold State.poolReady
  repeat' first
    | with_reducible assumption
    | with_reducible intro _
    | dsimp only
    | with_reducible apply canon_set
    | with_reducible apply canon_setAll
    | with_reducible apply canon_forEach
    | with_reducible apply setRefs_canon
    | with_reducible apply writeNumVA_canon
    | split

theorem poolDisable_kept (s : State) (c : Nat) : (State.poolDisable s c).kept = s.kept := by
  unfold State.poolDisable
  simp only [State.kept_setAll, apply_ite State.kept, ite_self, refuse_kept]

theorem poolDisable_canon (s : State) (c : Nat) (hs : s.Canonical) : (State.poolDisable s c).Canonical := by
  unfold State.poolDisable
  repeat' first
    | with_reducible assumption
    | with_reducible intro _
    | with_reducible apply canon_set
    | with_reducible apply canon_setAll
    | with_reducible apply refuse_canon
    | split

theorem putSeq_kept (s : State) (k i : Nat) (d : SeqDesc) : (State.putSeq s k i d).kept = s.kept := by
  unfold State.putSeq
  simp only [writeVA_kept]

theorem putSeq_canon (s : State) (k i : Nat) (d : SeqDesc) (hs : s.Canonical) : (State.putSeq s k i d).Canonical := by
  unfold State.putSeq
  repeat' first
    | with_reducible assumption
    | with_reducible apply writeVA_canon
    | split

theorem setReason_kept (s : State) (k i code : Nat) : (State.setReason s k i code).kept = s.kept := by
  unfold State.setReason
  repeat' first
    | with_reducible rfl
    | (simp only [writeNumVA_kept]; done)
    | dsimp only
    | intro _
    | split
    | with_reducible refine (writeNumVA_kept ..).trans ?_

theorem setReason_canon (s : State) (k i code : Nat) (hs : s.Canonical) : (State.setReason s k i code).Canonical := by
  unfold State.setReason
  repeat' first
    | with_reducible assumption
    | with_reducible intro _
    | with_reducible apply writeNumVA_canon
    | dsimp only
    | split

theorem setSeqState_kept (s : State) (k i st : Nat) : (State.setSeqState s k i st).kept = s.kept := by
  unfold State.setSeqState
  repeat' first
    | with_reducible rfl
    | (simp only [writeNumVA_kept]; done)
    | dsimp only
    | intro _
    | split
    | with_reducible refine (writeNumVA_kept ..).trans ?_

theorem setSeqState_canon (s : State) (k i st : Nat) (hs : s.Canonical) : (State.setSeqState s k i st).Canonical := by
  unfold State.setSeqState
  repeat' first
    | with_reducible assumption
    | with_reducible intro _
    | with_reducible apply writeNumVA_canon
    | dsimp only
    | split

theorem putEntry_kept (s : State) (c : Nat) (d : SeqDesc) (n : Nat) (e : ListEntry) : (State.putEntry s c d n e).kept = s.kept := by
  unfold State.putEntry
  simp only [writeVA_kept]

theorem putEntry_canon (s : State) (c : Nat) (d : SeqDesc) (n : Nat) (e : ListEntry) (hs : s.Canonical) : (State.putEntry s c d n e).Canonical := by
  unfold State.putEntry
  repeat' first
    | with_reducible assumption
    | with_reducible apply writeVA_canon
    | split

theorem unrefPages_kept (s : State) (c : Nat) (ps : List Nat) : (State.unrefPages s c ps).2.kept = s.kept := by
  unfold State.unrefPages
  simp only [kept_foldl_snd, implies_true, setRefs_kept]

theorem unrefPages_canon (s : State) (c : Nat) (ps : List Nat) (hs : s.Canonical) : (State.unrefPages s c ps).2.Canonical := by
  unfold State.unrefPages
  repeat' first
    | with_reducible assumption
    | with_reducible intro _
    | simp only [canon_mk, canon_fold]
    | with_reducible apply canon_set
    | with_reducible apply canon_foldl
    | with_reducible apply canon_foldl_fst
    | with_reducible apply canon_foldl_snd
    | with_reducible apply setRefs_canon
    | split

theorem popFrames_kept (c : Nat) : ∀ (n : Nat) (s : State), (State.popFrames c n s).2.kept = s.kept := by
  intro n
  induction n with
  | zero => intro s; rfl
  | succ n ih =>
    intro s
    unfold State.popFrames
    split
    · rfl
    · exact (ih _).trans (popStack_kept _ _ _ _ _ (by assumption))

theorem popFrames_canon (c : Nat) : ∀ (n : Nat) (s : State), s.Canonical → (State.popFrames c n s).2.Canonical := by
  intro n
  induction n with
  | zero => intro s h; exact h
  | succ n ih =>
    intro s h
    unfold State.popFrames
    split
    · exact h
    · exact ih _ (popStack_canon _ _ _ _ _ h (by assumption))

theorem firstSeqs_kept (s : State) (k : Nat) : (State.firstSeqs s k).kept = s.kept := by
  unfold State.firstSeqs
  repeat' first
    | with_reducible rfl
    | (simp only [kept_forEach, kept_foldl, implies_true, putSeq_kept]; done)
    | dsimp only
    | intro _
    | split
    | (with_reducible refine (kept_forEach _ _ _ ?_).trans ?_)
    | with_reducible refine (putSeq_kept ..).trans ?_

theorem firstSeqs_canon (s : State) (k : Nat) (hs : s.Canonical) : (State.firstSeqs s k).Canonical := by
  unfold State.firstSeqs
  repeat' first
    | with_reducible assumption
    | with_reducible intro _
    | with_reducible apply canon_forEach
    | with_reducible apply canon_foldl
    | with_reducible apply putSeq_canon
    | dsimp only
    | split

theorem sessionEnable_kept (s : State) (k : Nat) (rd : ReadOutcome) (wr : WriteOutcome) : (State.sessionEnable s k rd wr).kept = s.kept := by
  unfold State.sessionEnable
  repeat' first
    | with_reducible rfl
    | (simp only [State.kept_bump, State.kept_setAll, kept_mk, State.kept_fold, refuse_kept, whenAdmitted_kept, pegSet_kept, writes_kept, firstSeqs_kept,
        implies_true]; done)
    | simp only [kept_mk, State.kept_fold]
    | dsimp only
    | intro _
    | split
    | with_reducible refine (refuse_kept ..).trans ?_
    | with_reducible refine (whenAdmitted_kept (h_f := ?_) ..).trans ?_
    | with_reducible refine (pegSet_kept ..).trans ?_
    | with_reducible refine (writes_kept (h_f := ?_) ..).trans ?_
    | with_reducible refine (firstSeqs_kept ..).trans ?_
    | with_reducible refine (State.kept_setAll ..).trans ?_
    | with_reducible refine (State.kept_bump ..).trans ?_

theorem sessionEnable_canon (s : State) (k : Nat) (rd : ReadOutcome) (wr : WriteOutcome) (hs : s.Canonical) : (State.sessionEnable s k rd
    wr).Canonical := by
  unfold State.sessionEnable
  repeat' first
    | with_reducible assumption
    | with_reducible intro _
    | simp only [canon_mk, canon_fold]
    | with_reducible apply canon_setAll
    | with_reducible apply canon_bump
    | with_reducible apply refuse_canon
    | with_reducible apply whenAdmitted_canon
    | with_reducible apply pegSet_canon
    | with_reducible apply writes_canon
    | with_reducible apply firstSeqs_canon
    | dsimp only
    | split

theorem dropTail_kept (s : State) (k : Nat) (old : SeqDesc) (keep : Nat) (newChunks : List Nat) :
    (State.dropTail s k old keep newChunks).kept = s.kept := by
  unfold State.dropTail
  simp only [deferRelease_kept, unrefPages_kept]

theorem dropTail_canon (s : State) (k : Nat) (old : SeqDesc) (keep : Nat) (newChunks : List Nat) (hs : s.Canonical) :
    (State.dropTail s k old keep newChunks).Canonical := by
  unfold State.dropTail
  repeat' first
    | with_reducible assumption
    | with_reducible intro _
    | dsimp only
    | with_reducible apply canon_drop
    | with_reducible apply deferRelease_canon
    | with_reducible apply unrefPages_canon
    | split

theorem countStalled_kept (s : State) (k : Nat) : (State.countStalled s k).kept = s.kept := by
  unfold State.countStalled
  simp only [State.kept_setAll]

theorem countStalled_canon (s : State) (k : Nat) (hs : s.Canonical) : (State.countStalled s k).Canonical := by
  unfold State.countStalled
  repeat' first
    | with_reducible assumption
    | with_reducible intro _
    | dsimp only
    | with_reducible apply canon_set
    | with_reducible apply canon_setAll
    | split

theorem closeSeq_kept (s : State) (k i : Nat) : (State.closeSeq s k i).kept = s.kept := by
  unfold State.closeSeq
  simp only [dropTail_kept, putSeq_kept]

theorem closeSeq_canon (s : State) (k i : Nat) (hs : s.Canonical) : (State.closeSeq s k i).Canonical := by
  unfold State.closeSeq
  repeat' first
    | with_reducible assumption
    | simp only [canon_mk, canon_fold]
    | with_reducible apply canon_drop
    | with_reducible apply dropTail_canon
    | with_reducible apply putSeq_canon
    | split

theorem closeSeqs_kept (s : State) (k : Nat) : (State.closeSeqs s k).kept = s.kept := by
  unfold State.closeSeqs
  repeat' first
    | with_reducible rfl
    | (simp only [kept_forEach, kept_foldl, implies_true, closeSeq_kept]; done)
    | dsimp only
    | intro _
    | split
    | (with_reducible refine (kept_forEach _ _ _ ?_).trans ?_)
    | with_reducible refine (closeSeq_kept ..).trans ?_

theorem closeSeqs_canon (s : State) (k : Nat) (hs : s.Canonical) : (State.closeSeqs s k).Canonical := by
  unfold State.closeSeqs
  repeat' first
    | with_reducible assumption
    | with_reducible intro _
    | with_reducible apply canon_forEach
    | with_reducible apply canon_foldl
    | with_reducible apply closeSeq_canon
    | dsimp only
    | split

theorem sessionDisable_kept (s : State) (k : Nat) (rd : ReadOutcome) (wr : WriteOutcome) : (State.sessionDisable s k rd wr).kept = s.kept := by
  unfold State.sessionDisable
  repeat' first
    | with_reducible rfl
    | (simp only [State.kept_set, State.kept_drop, State.kept_setAll, apply_ite State.kept, ite_self, refuse_kept, whenAdmitted_kept, writes_kept,
        closeSeqs_kept, implies_true]; done)
    | dsimp only
    | intro _
    | split
    | with_reducible refine (refuse_kept ..).trans ?_
    | with_reducible refine (whenAdmitted_kept (h_f := ?_) ..).trans ?_
    | with_reducible refine (writes_kept (h_f := ?_) ..).trans ?_
    | with_reducible refine (closeSeqs_kept ..).trans ?_
    | with_reducible refine (State.kept_set ..).trans ?_
    | with_reducible refine (State.kept_setAll ..).trans ?_

theorem sessionDisable_canon (s : State) (k : Nat) (rd : ReadOutcome) (wr : WriteOutcome) (hs : s.Canonical) : (State.sessionDisable s k rd
    wr).Canonical := by
  unfold State.sessionDisable
  repeat' first
    | with_reducible assumption
    | with_reducible intro _
    | with_reducible apply canon_setAll
    | with_reducible apply canon_drop
    | with_reducible apply refuse_canon
    | with_reducible apply whenAdmitted_canon
    | with_reducible apply writes_canon
    | with_reducible apply closeSeqs_canon
    | dsimp only
    | split

theorem truncateSeq_kept (s : State) (k i n : Nat) : (State.truncateSeq s k i n).kept = s.kept := by
  unfold State.truncateSeq
  simp only [apply_ite State.kept, ite_self, kept_forEach, implies_true, dropTail_kept, popFrames_kept, putEntry_kept, putSeq_kept, writeVA_kept]

theorem truncateSeq_canon (s : State) (k i n : Nat) (hs : s.Canonical) : (State.truncateSeq s k i n).Canonical := by
  unfold State.truncateSeq
  repeat' first
    | with_reducible assumption
    | with_reducible intro _
    | simp only [canon_mk, canon_fold]
    | with_reducible apply canon_drop
    | with_reducible apply canon_forEach
    | with_reducible apply dropTail_canon
    | with_reducible apply popFrames_canon
    | with_reducible apply putEntry_canon
    | with_reducible apply putSeq_canon
    | with_reducible apply writeVA_canon
    | split

theorem forkSeq_kept (s : State) (k i src : Nat) : (State.forkSeq s k i src).kept = s.kept := by
  unfold State.forkSeq
  simp only [kept_forEach, implies_true, popFrames_kept, putSeq_kept, setRefs_kept, writeVA_kept]

theorem forkSeq_canon (s : State) (k i src : Nat) (hs : s.Canonical) : (State.forkSeq s k i src).Canonical := by
  unfold State.forkSeq
  repeat' first
    | with_reducible assumption
    | with_reducible intro _
    | simp only [canon_mk, canon_fold]
    | with_reducible apply canon_set
    | with_reducible apply canon_forEach
    | with_reducible apply popFrames_canon
    | with_reducible apply putSeq_canon
    | with_reducible apply setRefs_canon
    | with_reducible apply writeVA_canon
    | split

theorem applyEdit_kept (s : State) (e : PendingEdit) : (State.applyEdit s e).kept = s.kept := by
  unfold State.applyEdit
  repeat' first
    | with_reducible rfl
    | (simp only [kept_mk, State.kept_fold, closeSeq_kept, countStalled_kept, forkSeq_kept, putSeq_kept, truncateSeq_kept]; done)
    | dsimp only
    | intro _
    | split

theorem applyEdit_canon (s : State) (e : PendingEdit) (hs : s.Canonical) : (State.applyEdit s e).Canonical := by
  unfold State.applyEdit
  repeat' first
    | with_reducible assumption
    | simp only [canon_mk, canon_fold]
    | with_reducible apply closeSeq_canon
    | with_reducible apply countStalled_canon
    | with_reducible apply forkSeq_canon
    | with_reducible apply putSeq_canon
    | with_reducible apply truncateSeq_canon
    | split

theorem applyEdits_kept (s : State) (p : PendingEdit → Bool) (rd : ReadOutcome) (wr : WriteOutcome) : (State.applyEdits s p rd wr).kept = s.kept := by
  unfold State.applyEdits
  repeat' first
    | with_reducible rfl
    | (simp only [kept_forEach, kept_foldl, implies_true, readBlocks_kept, writes_kept, applyEdit_kept]; done)
    | dsimp only
    | intro _
    | split
    | (with_reducible refine (kept_forEach _ _ _ ?_).trans ?_)
    | with_reducible refine (readBlocks_kept ..).trans ?_
    | with_reducible refine (writes_kept (h_f := ?_) ..).trans ?_
    | with_reducible refine (applyEdit_kept ..).trans ?_

theorem applyEdits_canon (s : State) (p : PendingEdit → Bool) (rd : ReadOutcome) (wr : WriteOutcome) (hs : s.Canonical) : (State.applyEdits s p rd
    wr).Canonical := by
  unfold State.applyEdits
  repeat' first
    | with_reducible assumption
    | with_reducible intro _
    | with_reducible apply canon_forEach
    | with_reducible apply canon_foldl
    | with_reducible apply readBlocks_canon
    | with_reducible apply writes_canon
    | with_reducible apply applyEdit_canon
    | dsimp only
    | split

theorem checkEdit_kept (s : State) (k op seq src since : Nat) : (State.checkEdit s k op seq src since).kept = s.kept := by
  unfold State.checkEdit
  repeat' first
    | with_reducible rfl
    | (simp only [State.kept_setAll, kept_mk, State.kept_fold, apply_ite State.kept, ite_self, setReason_kept]; done)
    | simp only [kept_mk, State.kept_fold]
    | dsimp only
    | intro _
    | split
    | with_reducible refine (setReason_kept ..).trans ?_
    | with_reducible refine (State.kept_setAll ..).trans ?_

theorem checkEdit_canon (s : State) (k op seq src since : Nat) (hs : s.Canonical) : (State.checkEdit s k op seq src since).Canonical := by
  unfold State.checkEdit
  repeat' first
    | with_reducible assumption
    | with_reducible intro _
    | simp only [canon_mk, canon_fold]
    | with_reducible apply canon_setAll
    | with_reducible apply setReason_canon
    | dsimp only
    | split

theorem edit_kept (s : State) (k op seq src : Nat) : (State.edit s k op seq src).kept = s.kept := by
  unfold State.edit
  repeat' first
    | with_reducible rfl
    | (simp only [State.kept_set, State.kept_setAll, apply_ite State.kept, ite_self, whenAdmitted_kept, checkEdit_kept, implies_true]; done)
    | dsimp only
    | intro _
    | split
    | with_reducible refine (whenAdmitted_kept (h_f := ?_) ..).trans ?_
    | with_reducible refine (checkEdit_kept ..).trans ?_
    | with_reducible refine (State.kept_set ..).trans ?_
    | with_reducible refine (State.kept_setAll ..).trans ?_

theorem edit_canon (s : State) (k op seq src : Nat) (hs : s.Canonical) : (State.edit s k op seq src).Canonical := by
  unfold State.edit
  repeat' first
    | with_reducible assumption
    | with_reducible intro _
    | with_reducible apply canon_set
    | with_reducible apply canon_setAll
    | with_reducible apply whenAdmitted_canon
    | with_reducible apply checkEdit_canon
    | dsimp only
    | split

theorem editDone_kept (s : State) (k : Nat) (rd : ReadOutcome) (wr : WriteOutcome) : (State.editDone s k rd wr).kept = s.kept := by
  unfold State.editDone
  repeat' first
    | with_reducible rfl
    | (simp only [State.kept_set, awaken_kept, applyEdits_kept, implies_true]; done)
    | dsimp only
    | intro _
    | split
    | with_reducible refine (awaken_kept (h_f := ?_) ..).trans ?_
    | with_reducible refine (applyEdits_kept ..).trans ?_
    | with_reducible refine (State.kept_set ..).trans ?_

theorem editDone_canon (s : State) (k : Nat) (rd : ReadOutcome) (wr : WriteOutcome) (hs : s.Canonical) : (State.editDone s k rd wr).Canonical := by
  unfold State.editDone
  repeat' first
    | with_reducible assumption
    | with_reducible intro _
    | with_reducible apply canon_set
    | with_reducible apply awaken_canon
    | with_reducible apply applyEdits_canon
    | dsimp only
    | split

/-! ## Loft slots -/

theorem rowError_kept (s : State) (n line : Nat) (ue : Bool) : (State.rowError s n line ue).kept = s.kept := by
  unfold State.rowError
  simp only [kept_mk, State.kept_fold]

theorem rowError_canon (s : State) (n line : Nat) (ue : Bool) (hs : s.Canonical) : (State.rowError s n line ue).Canonical := by
  unfold State.rowError
  repeat' first
    | with_reducible assumption
    | simp only [canon_mk, canon_fold]

    | split

theorem loftRead_kept (s : State) (takes : Nat → Nat → Bool) (o : LoftOutcome) : (State.loftRead s takes o).1.kept = s.kept := by
  unfold State.loftRead
  repeat' first
    | with_reducible rfl
    | (simp only [State.kept_set, State.kept_bump, kept_mk, State.kept_fold, apply_ite State.kept, ite_self, uncorrectable_kept, rowError_kept]; done)
    | simp only [kept_mk, State.kept_fold]
    | dsimp only
    | intro _
    | split
    | with_reducible refine (uncorrectable_kept ..).trans ?_
    | with_reducible refine (rowError_kept ..).trans ?_
    | with_reducible refine (State.kept_set ..).trans ?_
    | with_reducible refine (State.kept_bump ..).trans ?_

theorem loftRead_canon (s : State) (takes : Nat → Nat → Bool) (o : LoftOutcome) (hs : s.Canonical) : (State.loftRead s takes o).1.Canonical := by
  unfold State.loftRead
  repeat' first
    | with_reducible assumption
    | with_reducible intro _
    | simp only [canon_mk, canon_fold]
    | with_reducible apply canon_set
    | with_reducible apply canon_bump
    | with_reducible apply uncorrectable_canon
    | with_reducible apply rowError_canon
    | dsimp only
    | split

theorem putTile_kept (s : State) (r : RegionRef) (q : Nat) (d : TileDesc) (data : List Byte) (marks : List Bool) (guarded : Bool) : (State.putTile s
    r q d data marks guarded).kept = s.kept := by
  unfold State.putTile
  repeat' first
    | with_reducible rfl
    | (simp only [kept_mk, State.kept_fold, apply_ite State.kept, ite_self]; done)
    | dsimp only
    | intro _
    | split

theorem putTile_canon (s : State) (r : RegionRef) (q : Nat) (d : TileDesc) (data : List Byte) (marks : List Bool) (guarded : Bool) (hs :
    s.Canonical) : (State.putTile s r q d data marks guarded).Canonical := by
  unfold State.putTile
  repeat' first
    | with_reducible assumption
    | with_reducible intro _
    | simp only [canon_mk, canon_fold]
    | dsimp only
    | split

theorem releaseInput_kept (s : State) (j : Job) (o : Nat) (d : OpDef) (k : Nat) (i : OpIn) : (State.releaseInput s j o d k i).kept = s.kept := by
  unfold State.releaseInput
  repeat' first
    | with_reducible rfl
    | (simp only [apply_ite State.kept, ite_self, jobPeg_kept, updJob_kept]; done)
    | dsimp only
    | intro _
    | split

theorem releaseInput_canon (s : State) (j : Job) (o : Nat) (d : OpDef) (k : Nat) (i : OpIn) (hs : s.Canonical) :
    (State.releaseInput s j o d k i).Canonical := by
  unfold State.releaseInput
  repeat' first
    | with_reducible assumption
    | with_reducible intro _
    | simp only [canon_mk, canon_fold]
    | with_reducible apply jobPeg_canon
    | with_reducible apply updJob_canon
    | split

theorem releaseInputs_kept (s : State) (id : JobId) : (State.releaseInputs s id).kept = s.kept := by
  unfold State.releaseInputs
  repeat' first
    | with_reducible rfl
    | (simp only [kept_forEach, implies_true, releaseInput_kept]; done)
    | dsimp only
    | intro _
    | split
    | (refine (kept_forEach _ _ _ ?_).trans ?_)

theorem releaseInputs_canon (s : State) (id : JobId) (hs : s.Canonical) : (State.releaseInputs s id).Canonical := by
  unfold State.releaseInputs
  repeat' first
    | with_reducible assumption
    | with_reducible intro _
    | simp only [canon_mk, canon_fold]
    | with_reducible apply canon_forEach
    | with_reducible apply releaseInput_canon
    | split

theorem loadRegion_kept (s : State) (j : Job) (n sl base : Nat) (d : RegionDef) (e : Nat) : (State.loadRegion s j n sl base d e).kept = s.kept := by
  unfold State.loadRegion
  simp only [State.kept_setAll]

theorem loadRegion_canon (s : State) (j : Job) (n sl base : Nat) (d : RegionDef) (e : Nat) (hs : s.Canonical) :
    (State.loadRegion s j n sl base d e).Canonical := by
  unfold State.loadRegion
  repeat' first
    | with_reducible assumption
    | dsimp only
    | with_reducible apply canon_set
    | with_reducible apply canon_setAll
    | split

theorem residentCounts_kept (s : State) (c n : Nat) : (State.residentCounts s c n).kept = s.kept := by
  unfold State.residentCounts
  simp only [State.kept_set]

theorem residentCounts_canon (s : State) (c n : Nat) (hs : s.Canonical) : (State.residentCounts s c n).Canonical := by
  unfold State.residentCounts
  repeat' first
    | with_reducible assumption
    | with_reducible intro _
    | dsimp only
    | with_reducible apply canon_set
    | split

theorem dowelCurrent_kept (s : State) (n : Nat) : (State.dowelCurrent s n).kept = s.kept := by
  unfold State.dowelCurrent
  repeat' first
    | with_reducible rfl
    | (simp only [State.kept_setAll, kept_mk, State.kept_fold]; done)
    | dsimp only
    | intro _
    | split
    | with_reducible refine (State.kept_setAll ..).trans ?_

theorem dowelCurrent_canon (s : State) (n : Nat) (hs : s.Canonical) : (State.dowelCurrent s n).Canonical := by
  unfold State.dowelCurrent
  repeat' first
    | with_reducible assumption
    | with_reducible intro _
    | simp only [canon_mk, canon_fold]
    | with_reducible apply canon_setAll
    | dsimp only
    | split

theorem freeSlot_kept (s : State) (x : Resident) (c : Nat) : (State.freeSlot s x c).kept = s.kept := by
  unfold State.freeSlot
  repeat' first
    | with_reducible rfl
    | (simp only [State.kept_resetFields, kept_mk, State.kept_fold, kept_forEach, kept_foldl, implies_true, residentCounts_kept, dowelCurrent_kept]; done)
    | simp only [kept_mk, State.kept_fold]
    | dsimp only
    | intro _
    | split
    | (with_reducible refine (kept_forEach _ _ _ ?_).trans ?_)
    | with_reducible refine (residentCounts_kept ..).trans ?_
    | with_reducible refine (dowelCurrent_kept ..).trans ?_

theorem freeSlot_canon (s : State) (x : Resident) (c : Nat) (hs : s.Canonical) : (State.freeSlot s x c).Canonical := by
  unfold State.freeSlot
  repeat' first
    | with_reducible assumption
    | with_reducible intro _
    | simp only [canon_mk, canon_fold]
    | with_reducible apply canon_resetFields
    | with_reducible apply canon_forEach
    | with_reducible apply canon_foldl
    | with_reducible apply residentCounts_canon
    | with_reducible apply dowelCurrent_canon
    | dsimp only
    | split

theorem giveSlot_kept (s : State) (j : Job) (n sl base : Nat) : (State.giveSlot s j n sl base).kept = s.kept := by
  unfold State.giveSlot
  repeat' first
    | with_reducible rfl
    | (simp only [State.kept_setAll, kept_mk, State.kept_fold, apply_ite State.kept, ite_self, kept_forEach, kept_foldl, implies_true, loadRegion_kept,
        residentCounts_kept, dowelCurrent_kept]; done)
    | simp only [kept_mk, State.kept_fold]
    | dsimp only
    | intro _
    | split
    | (with_reducible refine (kept_forEach _ _ _ ?_).trans ?_)
    | with_reducible refine (loadRegion_kept ..).trans ?_
    | with_reducible refine (residentCounts_kept ..).trans ?_
    | with_reducible refine (dowelCurrent_kept ..).trans ?_
    | with_reducible refine (State.kept_setAll ..).trans ?_

theorem giveSlot_canon (s : State) (j : Job) (n sl base : Nat) (hs : s.Canonical) : (State.giveSlot s j n sl base).Canonical := by
  unfold State.giveSlot
  repeat' first
    | with_reducible assumption
    | with_reducible intro _
    | simp only [canon_mk, canon_fold]
    | with_reducible apply canon_setAll
    | with_reducible apply canon_forEach
    | with_reducible apply canon_foldl
    | with_reducible apply loadRegion_canon
    | with_reducible apply residentCounts_canon
    | with_reducible apply dowelCurrent_canon
    | dsimp only
    | split

theorem discardHalves_kept (s : State) (x : Resident) : (State.discardHalves s x).kept = s.kept := by
  unfold State.discardHalves
  simp only [State.kept_set, State.kept_bump, apply_ite State.kept, ite_self, kept_forEach, implies_true, updJob_kept]

theorem discardHalves_canon (s : State) (x : Resident) (hs : s.Canonical) : (State.discardHalves s x).Canonical := by
  unfold State.discardHalves
  repeat' first
    | with_reducible assumption
    | with_reducible intro _
    | simp only [canon_mk, canon_fold]
    | with_reducible apply canon_set
    | with_reducible apply canon_bump
    | with_reducible apply canon_forEach
    | with_reducible apply updJob_canon
    | split

theorem evict_kept (s : State) (x : Resident) (loft : LoftOutcome) (wr : WriteOutcome) : (State.evict s x loft wr).kept = s.kept := by
  unfold State.evict
  repeat' first
    | with_reducible rfl
    | (simp only [State.kept_bump, kept_mk, State.kept_fold, apply_ite State.kept, ite_self, takePages_kept, writeBursts_kept, faultJob_kept,
        loftRead_kept, freeSlot_kept, discardHalves_kept]; done)
    | simp only [kept_mk, State.kept_fold]
    | dsimp only
    | intro _
    | split
    | with_reducible refine (takePages_kept ..).trans ?_
    | with_reducible refine (writeBursts_kept ..).trans ?_
    | with_reducible refine (faultJob_kept ..).trans ?_
    | with_reducible refine (loftRead_kept ..).trans ?_
    | with_reducible refine (freeSlot_kept ..).trans ?_
    | with_reducible refine (discardHalves_kept ..).trans ?_
    | with_reducible refine (State.kept_bump ..).trans ?_

theorem evict_canon (s : State) (x : Resident) (loft : LoftOutcome) (wr : WriteOutcome) (hs : s.Canonical) : (State.evict s x loft wr).Canonical := by
  unfold State.evict
  repeat' first
    | with_reducible assumption
    | with_reducible intro _
    | simp only [canon_mk, canon_fold]
    | with_reducible apply canon_bump
    | with_reducible apply takePages_canon
    | with_reducible apply writeBursts_canon
    | with_reducible apply faultJob_canon
    | with_reducible apply loftRead_canon
    | with_reducible apply freeSlot_canon
    | with_reducible apply discardHalves_canon
    | dsimp only
    | split

theorem contextResident_kept (s : State) (jid : JobId) (n : Nat) (loft : LoftOutcome) (wr : WriteOutcome) : (State.contextResident s jid n loft
    wr).kept = s.kept := by
  unfold State.contextResident
  repeat' first
    | with_reducible rfl
    | (simp only [State.kept_set, kept_mk, State.kept_fold, apply_ite State.kept, ite_self, exitSelfRefresh_kept, giveSlot_kept, evict_kept]; done)
    | simp only [kept_mk, State.kept_fold]
    | dsimp only
    | intro _
    | split
    | with_reducible refine (exitSelfRefresh_kept ..).trans ?_
    | with_reducible refine (giveSlot_kept ..).trans ?_
    | with_reducible refine (evict_kept ..).trans ?_
    | with_reducible refine (State.kept_set ..).trans ?_

theorem contextResident_canon (s : State) (jid : JobId) (n : Nat) (loft : LoftOutcome) (wr : WriteOutcome) (hs : s.Canonical) :
    (State.contextResident s jid n loft wr).Canonical := by
  unfold State.contextResident
  repeat' first
    | with_reducible assumption
    | with_reducible intro _
    | simp only [canon_mk, canon_fold]
    | with_reducible apply canon_set
    | with_reducible apply exitSelfRefresh_canon
    | with_reducible apply giveSlot_canon
    | with_reducible apply evict_canon
    | dsimp only
    | split

theorem readSaved_kept (s : State) (v : Save) (rd : ReadOutcome) : (State.readSaved s v rd).1.kept = s.kept := by
  unfold State.readSaved
  repeat' first
    | with_reducible rfl
    | (simp only [apply_ite State.kept, ite_self, kept_forEach, kept_foldl, implies_true, readBlocks_kept]; done)
    | dsimp only
    | intro _
    | split
    | (with_reducible refine (kept_forEach _ _ _ ?_).trans ?_)
    | (with_reducible refine (kept_foldl _ _ _ ?_).trans ?_)
    | (with_reducible refine (kept_foldl_fst _ _ _ ?_).trans ?_)
    | (with_reducible refine (kept_foldl_snd _ _ _ ?_).trans ?_)
    | with_reducible refine (readBlocks_kept ..).trans ?_

theorem readSaved_canon (s : State) (v : Save) (rd : ReadOutcome) (hs : s.Canonical) : (State.readSaved s v rd).1.Canonical := by
  unfold State.readSaved
  repeat' first
    | with_reducible assumption
    | with_reducible intro _
    | with_reducible apply canon_forEach
    | with_reducible apply canon_foldl
    | with_reducible apply canon_foldl_fst
    | with_reducible apply canon_foldl_snd
    | with_reducible apply readBlocks_canon
    | dsimp only
    | split

theorem contextRestored_kept (s : State) (n sl : Nat) (rd : ReadOutcome) : (State.contextRestored s n sl rd).kept = s.kept := by
  unfold State.contextRestored
  repeat' first
    | with_reducible rfl
    | (simp only [State.kept_set, State.kept_bump, State.kept_setAll, kept_mk, State.kept_fold, apply_ite State.kept, ite_self, kept_forEach, kept_foldl,
        implies_true, scrubPages_kept, dowelCurrent_kept, readSaved_kept]; done)
    | simp only [kept_mk, State.kept_fold]
    | dsimp only
    | intro _
    | split
    | (with_reducible refine (kept_forEach _ _ _ ?_).trans ?_)
    | (with_reducible refine (kept_foldl _ _ _ ?_).trans ?_)
    | (with_reducible refine (kept_foldl_fst _ _ _ ?_).trans ?_)
    | (with_reducible refine (kept_foldl_snd _ _ _ ?_).trans ?_)
    | with_reducible refine (scrubPages_kept ..).trans ?_
    | with_reducible refine (dowelCurrent_kept ..).trans ?_
    | with_reducible refine (readSaved_kept ..).trans ?_
    | with_reducible refine (State.kept_set ..).trans ?_
    | with_reducible refine (State.kept_setAll ..).trans ?_
    | with_reducible refine (State.kept_bump ..).trans ?_

theorem contextRestored_canon (s : State) (n sl : Nat) (rd : ReadOutcome) (hs : s.Canonical) : (State.contextRestored s n sl rd).Canonical := by
  unfold State.contextRestored
  repeat' first
    | with_reducible assumption
    | with_reducible intro _
    | simp only [canon_mk, canon_fold]
    | with_reducible apply canon_set
    | with_reducible apply canon_setAll
    | with_reducible apply canon_bump
    | with_reducible apply canon_forEach
    | with_reducible apply canon_foldl
    | with_reducible apply canon_foldl_fst
    | with_reducible apply canon_foldl_snd
    | with_reducible apply scrubPages_canon
    | with_reducible apply dowelCurrent_canon
    | with_reducible apply readSaved_canon
    | dsimp only
    | split

/-! ## Recurrent streams -/

theorem initRow_kept (s : State) (k l : Nat) (rd : ReadOutcome) : (State.initRow s k l rd).1.kept = s.kept := by
  unfold State.initRow
  repeat' first
    | with_reducible rfl
    | (simp only [State.kept_set, State.kept_bump, kept_mk, State.kept_fold, apply_ite State.kept, ite_self, readRanges_kept, hostFault_kept,
        askHost_kept]; done)
    | simp only [kept_mk, State.kept_fold]
    | dsimp only
    | intro _
    | split
    | with_reducible refine (readRanges_kept ..).trans ?_
    | with_reducible refine (hostFault_kept ..).trans ?_
    | with_reducible refine (askHost_kept ..).trans ?_
    | with_reducible refine (State.kept_set ..).trans ?_
    | with_reducible refine (State.kept_bump ..).trans ?_

theorem initRow_canon (s : State) (k l : Nat) (rd : ReadOutcome) (hs : s.Canonical) : (State.initRow s k l rd).1.Canonical := by
  unfold State.initRow
  repeat' first
    | with_reducible assumption
    | with_reducible intro _
    | simp only [canon_mk, canon_fold]
    | with_reducible apply canon_bump
    | with_reducible apply readRanges_canon
    | with_reducible apply hostFault_canon
    | with_reducible apply askHost_canon
    | dsimp only
    | split

theorem initRecord_kept (s : State) (k : Nat) (rd : ReadOutcome) : (State.initRecord s k rd).kept = s.kept := by
  unfold State.initRecord
  repeat' first
    | with_reducible rfl
    | (simp only [apply_ite State.kept, ite_self, kept_forEach, kept_foldl, implies_true, writeVA_kept, initRow_kept]; done)
    | dsimp only
    | intro _
    | split
    | (with_reducible refine (kept_forEach _ _ _ ?_).trans ?_)
    | with_reducible refine (writeVA_kept ..).trans ?_
    | with_reducible refine (initRow_kept ..).trans ?_

theorem initRecord_canon (s : State) (k : Nat) (rd : ReadOutcome) (hs : s.Canonical) : (State.initRecord s k rd).Canonical := by
  unfold State.initRecord
  repeat' first
    | with_reducible assumption
    | with_reducible intro _
    | with_reducible apply canon_forEach
    | with_reducible apply canon_foldl
    | with_reducible apply writeVA_canon
    | with_reducible apply initRow_canon
    | dsimp only
    | split

theorem initWrite_kept (s : State) (k : Nat) (rd : ReadOutcome) (wr : WriteOutcome) : (State.initWrite s k rd wr).kept = s.kept := by
  unfold State.initWrite
  repeat' first
    | with_reducible rfl
    | (simp only [writes_kept, initRecord_kept, implies_true]; done)
    | dsimp only
    | intro _
    | split
    | with_reducible refine (writes_kept (h_f := ?_) ..).trans ?_
    | with_reducible refine (initRecord_kept ..).trans ?_

theorem initWrite_canon (s : State) (k : Nat) (rd : ReadOutcome) (wr : WriteOutcome) (hs : s.Canonical) : (State.initWrite s k rd wr).Canonical := by
  unfold State.initWrite
  repeat' first
    | with_reducible assumption
    | with_reducible intro _
    | with_reducible apply writes_canon
    | with_reducible apply initRecord_canon
    | dsimp only
    | split

theorem streamEnable_kept (s : State) (k : Nat) (rd : ReadOutcome) (wr : WriteOutcome) : (State.streamEnable s k rd wr).kept = s.kept := by
  unfold State.streamEnable
  repeat' first
    | with_reducible rfl
    | (simp only [State.kept_bump, State.kept_setAll, kept_mk, State.kept_fold, refuse_kept, whenAdmitted_kept, streamSize_kept, initWrite_kept,
        implies_true]; done)
    | simp only [kept_mk, State.kept_fold]
    | dsimp only
    | intro _
    | split
    | with_reducible refine (refuse_kept ..).trans ?_
    | with_reducible refine (whenAdmitted_kept (h_f := ?_) ..).trans ?_
    | with_reducible refine (streamSize_kept ..).trans ?_
    | with_reducible refine (initWrite_kept ..).trans ?_
    | with_reducible refine (State.kept_setAll ..).trans ?_
    | with_reducible refine (State.kept_bump ..).trans ?_

theorem streamEnable_canon (s : State) (k : Nat) (rd : ReadOutcome) (wr : WriteOutcome) (hs : s.Canonical) : (State.streamEnable s k rd
    wr).Canonical := by
  unfold State.streamEnable
  repeat' first
    | with_reducible assumption
    | with_reducible intro _
    | simp only [canon_mk, canon_fold]
    | with_reducible apply canon_setAll
    | with_reducible apply canon_bump
    | with_reducible apply refuse_canon
    | with_reducible apply whenAdmitted_canon
    | with_reducible apply streamSize_canon
    | with_reducible apply initWrite_canon
    | dsimp only
    | split

theorem entryEnable_kept (s : State) (k value : Nat) (rd : ReadOutcome) (wr : WriteOutcome) : (State.entryEnable s k value rd wr).kept = s.kept := by
  unfold State.entryEnable
  repeat' first
    | with_reducible rfl
    | (simp only [State.kept_set, apply_ite State.kept, ite_self, storeFields_kept, sessionEnable_kept, streamEnable_kept]; done)
    | dsimp only
    | intro _
    | split
    | with_reducible refine (storeFields_kept ..).trans ?_
    | with_reducible refine (sessionEnable_kept ..).trans ?_
    | with_reducible refine (streamEnable_kept ..).trans ?_
    | with_reducible refine (State.kept_set ..).trans ?_

theorem entryEnable_canon (s : State) (k value : Nat) (rd : ReadOutcome) (wr : WriteOutcome) (hs : s.Canonical) : (State.entryEnable s k value rd
    wr).Canonical := by
  unfold State.entryEnable
  repeat' first
    | with_reducible assumption
    | with_reducible intro _
    | with_reducible apply storeFields_canon
    | with_reducible apply sessionEnable_canon
    | with_reducible apply streamEnable_canon
    | dsimp only
    | split

theorem streamDisable_kept (s : State) (k : Nat) : (State.streamDisable s k).kept = s.kept := by
  unfold State.streamDisable
  simp only [State.kept_drop, State.kept_setAll, apply_ite State.kept, ite_self, dropParts_kept, refuse_kept]

theorem streamDisable_canon (s : State) (k : Nat) (hs : s.Canonical) : (State.streamDisable s k).Canonical := by
  unfold State.streamDisable
  repeat' first
    | with_reducible assumption
    | with_reducible intro _
    | dsimp only
    | with_reducible apply canon_set
    | with_reducible apply canon_setAll
    | with_reducible apply canon_drop
    | with_reducible apply dropParts_canon
    | with_reducible apply refuse_canon
    | split

theorem resetPendingWrite_kept (s : State) (k : Nat) : (State.resetPendingWrite s k).kept = s.kept := by
  unfold State.resetPendingWrite
  simp only [State.kept_set, kept_mk, State.kept_fold, apply_ite State.kept, ite_self]

theorem resetPendingWrite_canon (s : State) (k : Nat) (hs : s.Canonical) : (State.resetPendingWrite s k).Canonical := by
  unfold State.resetPendingWrite
  repeat' first
    | with_reducible assumption
    | with_reducible intro _
    | simp only [canon_mk, canon_fold]
    | with_reducible apply canon_set
    | split

theorem startChunk_kept (s : State) (j : JobId) (k : Nat) (bents : List Nat) (g : Graph) (x : ChunkCtl) :
    (State.startChunk s j k bents g x).kept = s.kept := by
  unfold State.startChunk
  simp only [State.kept_setAll, kept_mk, State.kept_fold, updJob_kept]

theorem startChunk_canon (s : State) (j : JobId) (k : Nat) (bents : List Nat) (g : Graph) (x : ChunkCtl) (hs : s.Canonical) :
    (State.startChunk s j k bents g x).Canonical := by
  unfold State.startChunk
  repeat' first
    | with_reducible assumption
    | with_reducible intro _
    | simp only [canon_mk, canon_fold]
    | with_reducible apply canon_set
    | with_reducible apply canon_setAll
    | with_reducible apply updJob_canon
    | split

theorem makeRoom_kept (n need : Nat) : ∀ (m : Nat) (s t : State), s.makeRoom n need m = some t → t.kept = s.kept := by
  intro m
  induction m with
  | zero => intro s t h; cases h
  | succ m ih =>
    intro s t h
    unfold State.makeRoom at h
    split at h
    · cases h; rfl
    · dsimp only at h
      split at h
      · cases h
      · rw [ih _ _ h, dropParts_kept, State.kept_bump]

theorem makeRoom_canon (n need : Nat) : ∀ (m : Nat) (s t : State), s.Canonical → s.makeRoom n need m = some t → t.Canonical := by
  intro m
  induction m with
  | zero => intro s t hs h; cases h
  | succ m ih =>
    intro s t hs h
    unfold State.makeRoom at h
    split at h
    · cases h; exact hs
    · dsimp only at h
      split at h
      · cases h
      · exact ih _ _ (dropParts_canon _ _ (canon_bump _ _ _ _ hs)) h

theorem updLayer_kept (s : State) (j : JobId) (l n : Nat) (f : ChunkLayer → ChunkLayer) : (State.updLayer s j l n f).kept = s.kept := by
  unfold State.updLayer
  simp only [updJob_kept]

theorem updLayer_canon (s : State) (j : JobId) (l n : Nat) (f : ChunkLayer → ChunkLayer) (hs : s.Canonical) : (State.updLayer s j l n f).Canonical := by
  unfold State.updLayer
  repeat' first
    | with_reducible assumption
    | with_reducible intro _
    | simp only [canon_mk, canon_fold]
    | with_reducible apply updJob_canon
    | split

theorem residentMask_kept (s : State) (k : Nat) : (State.residentMask s k).kept = s.kept := by
  unfold State.residentMask
  simp only [State.kept_set]

theorem residentMask_canon (s : State) (k : Nat) (hs : s.Canonical) : (State.residentMask s k).Canonical := by
  unfold State.residentMask
  repeat' first
    | with_reducible assumption
    | with_reducible intro _
    | with_reducible apply canon_set
    | split

theorem fetchRoom_kept (s t : State) (ch : Chunk) (n lines : Nat) (h : s.fetchRoom ch n lines = some t) : t.kept = s.kept := by
  unfold State.fetchRoom at h
  split at h
  · cases h; rfl
  · exact makeRoom_kept _ _ _ _ _ h

theorem fetchRoom_canon (s t : State) (ch : Chunk) (n lines : Nat) (hs : s.Canonical) (h : s.fetchRoom ch n lines = some t) : t.Canonical := by
  unfold State.fetchRoom at h
  split at h
  · cases h; exact hs
  · exact makeRoom_canon _ _ _ _ _ hs h

theorem putPart_kept (s : State) (ch : Chunk) (p : TrussPart) : (State.putPart s ch p).kept = s.kept := by
  unfold State.putPart
  simp only [State.kept_bump, kept_mk, State.kept_fold, apply_ite State.kept, ite_self, residentMask_kept]

theorem putPart_canon (s : State) (ch : Chunk) (p : TrussPart) (hs : s.Canonical) : (State.putPart s ch p).Canonical := by
  unfold State.putPart
  repeat' first
    | with_reducible assumption
    | simp only [canon_mk, canon_fold]
    | with_reducible apply canon_bump
    | with_reducible apply residentMask_canon
    | split

theorem fetchDone_kept (s : State) (n l : Nat) (mem : ReadOutcome) : (State.fetchDone s n l mem).kept = s.kept := by
  unfold State.fetchDone
  split
  · rfl
  · split
    · rfl
    · dsimp only
      split
      · rfl
      · rename_i hr
        have h := fetchRoom_kept _ _ _ _ _ hr
        split <;> simp only [updLayer_kept, chunkAbort_kept, State.kept_set, State.kept_bump, putPart_kept, warn_kept, takeRanges_kept, h]

theorem fetchDone_canon (s : State) (n l : Nat) (mem : ReadOutcome) (hs : s.Canonical) : (State.fetchDone s n l mem).Canonical := by
  unfold State.fetchDone
  split
  · exact hs
  · split
    · exact hs
    · dsimp only
      split
      · exact hs
      · rename_i hr
        have h := fetchRoom_canon _ _ _ _ _ hs hr
        split <;> repeat' first
          | with_reducible exact h
          | with_reducible apply updLayer_canon
          | with_reducible apply chunkAbort_canon
          | with_reducible apply putPart_canon
          | with_reducible apply warn_canon
          | with_reducible apply takeRanges_canon
          | with_reducible apply canon_set
          | with_reducible apply canon_bump

theorem commitLayer_kept (s : State) (k : Nat) (l : ChunkLayer) : (State.commitLayer s k l).kept = s.kept := by
  unfold State.commitLayer
  simp only [State.kept_bump, countWrites_kept, writeVA_kept]

theorem commitLayer_canon (s : State) (k : Nat) (l : ChunkLayer) (hs : s.Canonical) : (State.commitLayer s k l).Canonical := by
  unfold State.commitLayer
  repeat' first
    | with_reducible assumption
    | dsimp only
    | with_reducible apply canon_bump
    | with_reducible apply countWrites_canon
    | with_reducible apply writeVA_canon
    | split

theorem commitChunk_kept (s : State) (j : JobId) (k : Nat) (ch : Chunk) : (State.commitChunk s j k ch).kept = s.kept := by
  unfold State.commitChunk
  simp only [State.kept_bump, State.kept_setAll, kept_mk, State.kept_fold, dropParts_kept, residentMask_kept, swapDeferred_kept, updJob_kept]

theorem commitChunk_canon (s : State) (j : JobId) (k : Nat) (ch : Chunk) (hs : s.Canonical) : (State.commitChunk s j k ch).Canonical := by
  unfold State.commitChunk
  repeat' first
    | with_reducible assumption
    | with_reducible intro _
    | simp only [canon_mk, canon_fold]
    | with_reducible apply canon_set
    | with_reducible apply canon_setAll
    | with_reducible apply canon_bump
    | with_reducible apply canon_drop
    | with_reducible apply dropParts_canon
    | with_reducible apply residentMask_canon
    | with_reducible apply swapDeferred_canon
    | with_reducible apply updJob_canon
    | split

theorem chunkCommit_kept (s : State) (k : Nat) (rd : ReadOutcome) (wr : WriteOutcome) : (State.chunkCommit s k rd wr).kept = s.kept := by
  have hw : ∀ (s : State) (j : JobId) (ch : Chunk), (s.writes (some j) rd wr (fun s =>
      (s.catchPartial j (fun s => (forEach ch.layers (fun l s => s.commitLayer k l) s, ()))).1)).kept = s.kept := by
    intro s j ch
    exact writes_kept _ _ _ _ _ (fun s => catchPartial_kept _ _ _ (fun s => kept_forEach _ _ _ (fun l s => commitLayer_kept ..)))
  unfold State.chunkCommit
  split
  · rfl
  · split
    · rfl
    · split
      · rfl
      · dsimp only
        split
        · exact hw ..
        · exact (commitChunk_kept ..).trans (hw ..)

theorem chunkCommit_canon (s : State) (k : Nat) (rd : ReadOutcome) (wr : WriteOutcome) (hs : s.Canonical) :
    (State.chunkCommit s k rd wr).Canonical := by
  have hw : ∀ (s : State) (j : JobId) (ch : Chunk), s.Canonical → (s.writes (some j) rd wr (fun s =>
      (s.catchPartial j (fun s => (forEach ch.layers (fun l s => s.commitLayer k l) s, ()))).1)).Canonical := by
    intro s j ch h
    exact writes_canon _ _ _ _ _ (fun s h => catchPartial_canon _ _ _ (fun s h => canon_forEach _ _ _ (fun l s h => commitLayer_canon _ _ _ h) h) h) h
  unfold State.chunkCommit
  repeat' first
    | with_reducible assumption
    | dsimp only
    | split
    | with_reducible apply hw
    | with_reducible apply commitChunk_canon

theorem swapOut_kept (s : State) (k n : Nat) : (State.swapOut s k n).kept = s.kept := by
  unfold State.swapOut
  simp only [State.kept_set, State.kept_bump, kept_mk, State.kept_fold, apply_ite State.kept, ite_self, dropParts_kept]

theorem swapOut_canon (s : State) (k n : Nat) (hs : s.Canonical) : (State.swapOut s k n).Canonical := by
  unfold State.swapOut
  repeat' first
    | with_reducible assumption
    | with_reducible intro _
    | simp only [canon_mk, canon_fold]
    | with_reducible apply canon_set
    | with_reducible apply canon_bump
    | with_reducible apply canon_drop
    | with_reducible apply dropParts_canon
    | split

theorem serveAccess_kept (s : State) (w : Waiting) : (State.serveAccess s w).kept = s.kept := by
  unfold State.serveAccess
  repeat' first
    | with_reducible rfl
    | (simp only [State.kept_set, kept_mk, State.kept_fold, apply_ite State.kept, ite_self, pegAdd_kept, writeVA_kept, firstSeqs_kept, sessionDisable_kept,
        checkEdit_kept, edit_kept, initRecord_kept]; done)
    | simp only [kept_mk, State.kept_fold]
    | dsimp only
    | intro _
    | split
    | with_reducible refine (pegAdd_kept ..).trans ?_
    | with_reducible refine (writeVA_kept ..).trans ?_
    | with_reducible refine (firstSeqs_kept ..).trans ?_
    | with_reducible refine (sessionDisable_kept ..).trans ?_
    | with_reducible refine (checkEdit_kept ..).trans ?_
    | with_reducible refine (edit_kept ..).trans ?_
    | with_reducible refine (initRecord_kept ..).trans ?_
    | with_reducible refine (State.kept_set ..).trans ?_

theorem serveAccess_canon (s : State) (w : Waiting) (hs : s.Canonical) : (State.serveAccess s w).Canonical := by
  unfold State.serveAccess
  repeat' first
    | with_reducible assumption
    | with_reducible intro _
    | simp only [canon_mk, canon_fold]
    | with_reducible apply pegAdd_canon
    | with_reducible apply writeVA_canon
    | with_reducible apply firstSeqs_canon
    | with_reducible apply sessionDisable_canon
    | with_reducible apply checkEdit_canon
    | with_reducible apply edit_canon
    | with_reducible apply initRecord_canon
    | dsimp only
    | split

theorem serveWaiting_kept (s : State) : (State.serveWaiting s).kept = s.kept := by
  unfold State.serveWaiting
  repeat' first
    | with_reducible rfl
    | (simp only [kept_mk, State.kept_fold, apply_ite State.kept, ite_self, kept_forEach, kept_foldl, implies_true, serveAccess_kept]; done)
    | simp only [kept_mk, State.kept_fold]
    | dsimp only
    | intro _
    | split
    | (with_reducible refine (kept_forEach _ _ _ ?_).trans ?_)
    | with_reducible refine (serveAccess_kept ..).trans ?_

theorem serveWaiting_canon (s : State) (hs : s.Canonical) : (State.serveWaiting s).Canonical := by
  unfold State.serveWaiting
  repeat' first
    | with_reducible assumption
    | with_reducible intro _
    | simp only [canon_mk, canon_fold]
    | with_reducible apply canon_forEach
    | with_reducible apply canon_foldl
    | with_reducible apply serveAccess_canon
    | with_reducible apply canon_store
    | with_reducible apply canon_change
    | with_reducible apply canon_host
    | with_reducible apply canon_bar4
    | with_reducible apply canon_staging
    | with_reducible apply canon_setSlot
    | with_reducible apply Mem.wf_write
    | with_reducible apply Mem.wf_writeBytes
    | with_reducible apply Mem.wf_writeNum
    | with_reducible apply Mem.wf_clear
    | with_reducible apply wf_forEach
    | with_reducible apply wf_foldl_fst
    | with_reducible apply canon_ddr_wf
    | with_reducible apply canon_check_wf
    | with_reducible apply canon_host_wf
    | with_reducible apply canon_bar4_wf
    | with_reducible apply canon_staging_wf
    | with_reducible apply canon_slot_wf
    | with_reducible apply splice_wf
    | with_reducible apply scramble_wf
    | with_reducible apply canon_regsOk
    | with_reducible apply regsOk_filter
    | with_reducible apply regsOk_nil
    | with_reducible apply wf_nil
    | with_reducible apply check_nil
    | with_reducible apply check_filter
    | with_reducible apply canon_slot0_wf
    | with_reducible apply canon_slot1_wf
    | dsimp only
    | split
    | with_reducible apply canon_parts

/-! ## Steps of an attention session -/

theorem copyPage_kept (s : State) (n c k old new x : Nat) : (State.copyPage s n c k old new x).kept = s.kept := by
  unfold State.copyPage
  repeat' first
    | with_reducible rfl
    | (simp only [kept_forEach, kept_foldl, implies_true, writeVA_kept, countWrites_kept]; done)
    | dsimp only
    | intro _
    | split
    | (with_reducible refine (kept_forEach _ _ _ ?_).trans ?_)
    | with_reducible refine (writeVA_kept ..).trans ?_
    | with_reducible refine (countWrites_kept ..).trans ?_

theorem copyPage_canon (s : State) (n c k old new x : Nat) (hs : s.Canonical) : (State.copyPage s n c k old new x).Canonical := by
  unfold State.copyPage
  repeat' first
    | with_reducible assumption
    | with_reducible intro _
    | with_reducible apply canon_forEach
    | with_reducible apply canon_foldl
    | with_reducible apply writeVA_canon
    | with_reducible apply countWrites_canon
    | dsimp only
    | split

theorem popPage_kept (s : State) (n c : Nat) (super : Bool) (p : Nat) (t : State) (h : s.popPage n c super = some (p, t)) : t.kept = s.kept := by
  unfold State.popPage at h
  rw [Option.map_eq_some_iff] at h
  obtain ⟨⟨q, u⟩, hq, he⟩ := h
  cases he
  rw [countWrites_kept, writeVA_kept, setRefs_kept, popStack_kept _ _ _ _ _ hq]

theorem popPage_canon (s : State) (n c : Nat) (super : Bool) (p : Nat) (t : State) (hs : s.Canonical) (h : s.popPage n c super = some (p, t)) : t.Canonical := by
  unfold State.popPage at h
  rw [Option.map_eq_some_iff] at h
  obtain ⟨⟨q, u⟩, hq, he⟩ := h
  cases he
  exact countWrites_canon _ _ _ (writeVA_canon _ _ _ _ (setRefs_canon _ _ _ _ (popStack_canon _ _ _ _ _ hs hq)))

theorem takePlain_kept (s : State) (b k : Nat) (super : Bool) (x y : Taking) (t : State) (h : s.takePlain b k super x = some (y, t)) : t.kept = s.kept := by
  unfold State.takePlain at h
  dsimp only at h
  split at h
  · split at h
    · cases h; rfl
    · split at h
      · cases h
      · rename_i hp
        cases h
        simp only [State.kept_bump, apply_ite State.kept, setRefs_kept, putEntry_kept, copyPage_kept, popPage_kept _ _ _ _ _ _ hp, ite_self]
  · split at h
    · cases h
    · split at h
      · cases h
      · rename_i hf
        split at h
        · cases h
        · rename_i hp
          cases h
          rw [putEntry_kept, popPage_kept _ _ _ _ _ _ hp]
          split at hf
          · rw [Option.map_eq_some_iff] at hf
            obtain ⟨⟨q, u⟩, hq, he⟩ := hf
            cases he
            exact popStack_kept _ _ _ _ _ hq
          · cases hf; rfl

theorem takePlain_canon (s : State) (b k : Nat) (super : Bool) (x y : Taking) (t : State) (hs : s.Canonical) (h : s.takePlain b k super x = some (y, t)) : t.Canonical := by
  unfold State.takePlain at h
  dsimp only at h
  split at h
  · split at h
    · cases h; exact hs
    · split at h
      · cases h
      · rename_i hp
        cases h
        apply canon_bump
        split
        · exact putEntry_canon _ _ _ _ _ (copyPage_canon _ _ _ _ _ _ _ (popPage_canon _ _ _ _ _ _ hs hp))
        · exact setRefs_canon _ _ _ _ (putEntry_canon _ _ _ _ _ (copyPage_canon _ _ _ _ _ _ _ (popPage_canon _ _ _ _ _ _ hs hp)))
  · split at h
    · cases h
    · split at h
      · cases h
      · rename_i hf
        split at h
        · cases h
        · rename_i hp
          cases h
          refine putEntry_canon _ _ _ _ _ (popPage_canon _ _ _ _ _ _ ?_ hp)
          split at hf
          · rw [Option.map_eq_some_iff] at hf
            obtain ⟨⟨q, u⟩, hq, he⟩ := hf
            cases he
            exact popStack_canon _ _ _ _ _ hs hq
          · cases hf; exact hs

theorem takeSlots_kept (b k : Nat) (super : Bool) : ∀ (n : Nat) (ev : List Evictable) (x y : Taking) (s t : State),
    State.takeSlots b k super n ev x s = .inr (y, t) → t.kept = s.kept := by
  intro n
  induction n with
  | zero => intro ev x y s t h; cases h; rfl
  | succ n ih =>
    intro ev x y s t h
    unfold State.takeSlots at h
    split at h
    · rename_i hp
      exact (ih _ _ _ _ _ h).trans (takePlain_kept _ _ _ _ _ _ _ hp)
    · split at h
      · cases h
      · split at h
        · cases h
        · split at h
          · cases h
          · split at h
            · cases h
            · exact ih _ _ _ _ _ h

theorem takeSlots_canon (b k : Nat) (super : Bool) : ∀ (n : Nat) (ev : List Evictable) (x y : Taking) (s t : State), s.Canonical →
    State.takeSlots b k super n ev x s = .inr (y, t) → t.Canonical := by
  intro n
  induction n with
  | zero => intro ev x y s t hs h; cases h; exact hs
  | succ n ih =>
    intro ev x y s t hs h
    unfold State.takeSlots at h
    split at h
    · rename_i hp
      exact ih _ _ _ _ _ (takePlain_canon _ _ _ _ _ _ _ hs hp) h
    · split at h
      · cases h
      · split at h
        · cases h
        · split at h
          · cases h
          · split at h
            · cases h
            · exact ih _ _ _ _ _ hs h

theorem writeSlots_kept (s : State) (b k : Nat) (d : SeqDesc) (base : Nat) (slots : List PageSlot) :
    (State.writeSlots s b k d base slots).kept = s.kept := by
  unfold State.writeSlots
  simp only [kept_forEach, implies_true, countWrites_kept, putEntry_kept, writeNumVA_kept]

theorem writeSlots_canon (s : State) (b k : Nat) (d : SeqDesc) (base : Nat) (slots : List PageSlot) (hs : s.Canonical) :
    (State.writeSlots s b k d base slots).Canonical := by
  unfold State.writeSlots
  repeat' first
    | with_reducible assumption
    | with_reducible intro _
    | dsimp only
    | with_reducible apply canon_forEach
    | with_reducible apply countWrites_canon
    | with_reducible apply putEntry_canon
    | with_reducible apply writeNumVA_canon
    | split

theorem refuseStep_kept (s : State) (j : JobId) (k i code : Nat) (super : Bool) : (State.refuseStep s j k i code super).1.kept = s.kept := by
  unfold State.refuseStep
  repeat' first
    | with_reducible rfl
    | (simp only [State.kept_bump, kept_mk, State.kept_fold, apply_ite State.kept, ite_self, updJob_kept, setReason_kept, setSeqState_kept]; done)
    | simp only [kept_mk, State.kept_fold]
    | dsimp only
    | intro _
    | split
    | with_reducible refine (updJob_kept ..).trans ?_
    | with_reducible refine (setReason_kept ..).trans ?_
    | with_reducible refine (setSeqState_kept ..).trans ?_
    | with_reducible refine (State.kept_bump ..).trans ?_

theorem refuseStep_canon (s : State) (j : JobId) (k i code : Nat) (super : Bool) (hs : s.Canonical) : (State.refuseStep s j k i code
    super).1.Canonical := by
  unfold State.refuseStep
  repeat' first
    | with_reducible assumption
    | with_reducible intro _
    | simp only [canon_mk, canon_fold]
    | with_reducible apply canon_bump
    | with_reducible apply updJob_canon
    | with_reducible apply setReason_canon
    | with_reducible apply setSeqState_canon
    | dsimp only
    | split

theorem unreadStep_kept (s : State) (b k i ntok code : Nat) : (State.unreadStep s b k i ntok code).1.kept = s.kept := by
  unfold State.unreadStep
  repeat' first
    | with_reducible rfl
    | (simp only [State.kept_set, State.kept_bump, setReason_kept]; done)
    | dsimp only
    | intro _
    | split
    | with_reducible refine (setReason_kept ..).trans ?_
    | with_reducible refine (State.kept_set ..).trans ?_
    | with_reducible refine (State.kept_bump ..).trans ?_

theorem unreadStep_canon (s : State) (b k i ntok code : Nat) (hs : s.Canonical) : (State.unreadStep s b k i ntok code).1.Canonical := by
  unfold State.unreadStep
  repeat' first
    | with_reducible assumption
    | with_reducible intro _
    | with_reducible apply canon_set
    | with_reducible apply canon_bump
    | with_reducible apply setReason_canon
    | dsimp only
    | split

theorem reserveRecord_kept (s : State) (j : JobId) (b k i ntok : Nat) (seen : List Nat) (rd : ReadOutcome) :
    (State.reserveRecord s j b k i ntok seen rd).1.kept = s.kept := by
  unfold State.reserveRecord
  split
  · rfl
  · dsimp only
    split
    · exact refuseStep_kept ..
    · split
      · exact unreadStep_kept ..
      · split
        · exact refuseStep_kept ..
        · split
          · exact (unreadStep_kept ..).trans ((warn_kept ..).trans (takeRanges_kept ..))
          · split
            · exact (refuseStep_kept ..).trans ((warn_kept ..).trans (takeRanges_kept ..))
            · rename_i hs
              dsimp only
              rw [updJob_kept]
              split <;> simp only [countWrites_kept, putSeq_kept, State.kept_bump, writeSlots_kept, takeSlots_kept _ _ _ _ _ _ _ _ _ hs, warn_kept,
                takeRanges_kept]

theorem reserveRecord_canon (s : State) (j : JobId) (b k i ntok : Nat) (seen : List Nat) (rd : ReadOutcome) (hs : s.Canonical) :
    (State.reserveRecord s j b k i ntok seen rd).1.Canonical := by
  unfold State.reserveRecord
  split
  · exact hs
  · dsimp only
    split
    · exact refuseStep_canon _ _ _ _ _ _ hs
    · split
      · exact unreadStep_canon _ _ _ _ _ _ hs
      · split
        · exact refuseStep_canon _ _ _ _ _ _ hs
        · have h0 := fun w r => warn_canon _ j w (takeRanges_canon s b (s.get .ses_CONTEXT k) r rd hs)
          split
          · exact unreadStep_canon _ _ _ _ _ _ (h0 _ _)
          · split
            · exact refuseStep_canon _ _ _ _ _ _ (h0 _ _)
            · rename_i hq
              have h1 := takeSlots_canon _ _ _ _ _ _ _ _ _ (h0 _ _) hq
              apply updJob_canon
              split
              · exact canon_bump _ _ _ _ (writeSlots_canon _ _ _ _ _ _ h1)
              · exact countWrites_canon _ _ _ (putSeq_canon _ _ _ _ (canon_bump _ _ _ _ (writeSlots_canon _ _ _ _ _ _ h1)))

theorem reserveAll_kept (s : State) (j : JobId) (b k : Nat) (l : List (Nat × Nat)) (rd : ReadOutcome) : (State.reserveAll s j b k l rd).1.kept =
    s.kept := by
  unfold State.reserveAll
  repeat' first
    | with_reducible rfl
    | (simp only [kept_forEach, kept_foldl, implies_true, reserveRecord_kept]; done)
    | dsimp only
    | intro _
    | split
    | (with_reducible refine (kept_forEach _ _ _ ?_).trans ?_)
    | (with_reducible refine (kept_foldl _ _ _ ?_).trans ?_)
    | (with_reducible refine (kept_foldl_fst _ _ _ ?_).trans ?_)
    | (with_reducible refine (kept_foldl_snd _ _ _ ?_).trans ?_)
    | with_reducible refine (reserveRecord_kept ..).trans ?_

theorem reserveAll_canon (s : State) (j : JobId) (b k : Nat) (l : List (Nat × Nat)) (rd : ReadOutcome) (hs : s.Canonical) : (State.reserveAll s j b
    k l rd).1.Canonical := by
  unfold State.reserveAll
  repeat' first
    | with_reducible assumption
    | with_reducible intro _
    | with_reducible apply canon_forEach
    | with_reducible apply canon_foldl
    | with_reducible apply canon_foldl_fst
    | with_reducible apply canon_foldl_snd
    | with_reducible apply reserveRecord_canon
    | dsimp only
    | split

theorem writeStatus_kept (s : State) (j : Job) (g : Graph) (b : Nat) (recs : List StepRec) : (State.writeStatus s j g b recs).kept = s.kept := by
  unfold State.writeStatus
  repeat' first
    | with_reducible rfl
    | (simp only [kept_mk, State.kept_fold, jobWrite_kept]; done)
    | simp only [kept_mk, State.kept_fold]
    | dsimp only
    | intro _
    | split
    | with_reducible refine (jobWrite_kept ..).trans ?_

theorem writeStatus_canon (s : State) (j : Job) (g : Graph) (b : Nat) (recs : List StepRec) (hs : s.Canonical) : (State.writeStatus s j g b
    recs).Canonical := by
  unfold State.writeStatus
  repeat' first
    | with_reducible assumption
    | with_reducible intro _
    | simp only [canon_mk, canon_fold]
    | with_reducible apply jobWrite_canon
    | dsimp only
    | split

theorem reserveStep_kept (s : State) (id : JobId) (b : Nat) (env : StartEnv) : (State.reserveStep s id b env).kept = s.kept := by
  unfold State.reserveStep
  repeat' first
    | with_reducible rfl
    | (simp only [kept_mk, State.kept_fold, apply_ite State.kept, ite_self, updJob_kept, dowelRead_kept, warn_kept, readFailed_kept, writes_kept,
        catchPartial_kept, countStalled_kept, reserveAll_kept, writeStatus_kept, implies_true]; done)
    | simp only [kept_mk, State.kept_fold]
    | dsimp only
    | intro _
    | split
    | with_reducible refine (updJob_kept ..).trans ?_
    | with_reducible refine (dowelRead_kept ..).trans ?_
    | with_reducible refine (warn_kept ..).trans ?_
    | with_reducible refine (readFailed_kept ..).trans ?_
    | with_reducible refine (writes_kept (h_f := ?_) ..).trans ?_
    | with_reducible refine (catchPartial_kept (h_f := ?_) ..).trans ?_
    | with_reducible refine (countStalled_kept ..).trans ?_
    | with_reducible refine (reserveAll_kept ..).trans ?_
    | with_reducible refine (writeStatus_kept ..).trans ?_

theorem reserveStep_canon (s : State) (id : JobId) (b : Nat) (env : StartEnv) (hs : s.Canonical) : (State.reserveStep s id b env).Canonical := by
  unfold State.reserveStep
  repeat' first
    | with_reducible assumption
    | with_reducible intro _
    | simp only [canon_mk, canon_fold]
    | with_reducible apply updJob_canon
    | with_reducible apply dowelRead_canon
    | with_reducible apply warn_canon
    | with_reducible apply readFailed_canon
    | with_reducible apply writes_canon
    | with_reducible apply catchPartial_canon
    | with_reducible apply countStalled_canon
    | with_reducible apply reserveAll_canon
    | with_reducible apply writeStatus_canon
    | dsimp only
    | split

/-! ## Rings and doorbells -/

theorem ringEnable_kept (s : State) (r : Nat) : (State.ringEnable s r).kept = s.kept := by
  unfold State.ringEnable
  repeat' first
    | with_reducible rfl
    | (simp only [State.kept_setAll, kept_mk, State.kept_fold, apply_ite State.kept, refuse_kept]; done)
    | dsimp only
    | intro _
    | split

theorem ringEnable_canon (s : State) (r : Nat) (hs : s.Canonical) : (State.ringEnable s r).Canonical := by
  unfold State.ringEnable
  repeat' first
    | with_reducible assumption
    | simp only [canon_mk, canon_fold]
    | with_reducible apply canon_set
    | with_reducible apply canon_setAll
    | with_reducible apply refuse_canon
    | split

theorem ringReady_kept (s : State) (r : Nat) : (State.ringReady s r).kept = s.kept := by
  unfold State.ringReady
  repeat' first
    | with_reducible rfl
    | (simp only [State.kept_set, kept_mk, State.kept_fold, apply_ite State.kept, ite_self, kept_forEach, kept_foldl, implies_true, postHost_kept]; done)
    | simp only [kept_mk, State.kept_fold]
    | dsimp only
    | intro _
    | split
    | (with_reducible refine (kept_forEach _ _ _ ?_).trans ?_)
    | with_reducible refine (postHost_kept ..).trans ?_
    | with_reducible refine (State.kept_set ..).trans ?_

theorem ringReady_canon (s : State) (r : Nat) (hs : s.Canonical) : (State.ringReady s r).Canonical := by
  unfold State.ringReady
  repeat' first
    | with_reducible assumption
    | with_reducible intro _
    | simp only [canon_mk, canon_fold]
    | with_reducible apply canon_set
    | with_reducible apply canon_forEach
    | with_reducible apply canon_foldl
    | with_reducible apply postHost_canon
    | with_reducible apply canon_store
    | with_reducible apply canon_change
    | with_reducible apply canon_host
    | with_reducible apply canon_bar4
    | with_reducible apply canon_staging
    | with_reducible apply canon_setSlot
    | with_reducible apply Mem.wf_write
    | with_reducible apply Mem.wf_writeBytes
    | with_reducible apply Mem.wf_writeNum
    | with_reducible apply Mem.wf_clear
    | with_reducible apply wf_forEach
    | with_reducible apply wf_foldl_fst
    | with_reducible apply canon_ddr_wf
    | with_reducible apply canon_check_wf
    | with_reducible apply canon_host_wf
    | with_reducible apply canon_bar4_wf
    | with_reducible apply canon_staging_wf
    | with_reducible apply canon_slot_wf
    | with_reducible apply splice_wf
    | with_reducible apply scramble_wf
    | with_reducible apply canon_regsOk
    | with_reducible apply regsOk_filter
    | with_reducible apply regsOk_nil
    | with_reducible apply wf_nil
    | with_reducible apply check_nil
    | with_reducible apply check_filter
    | with_reducible apply canon_slot0_wf
    | with_reducible apply canon_slot1_wf
    | dsimp only
    | split
    | with_reducible apply canon_parts

theorem ringDisable_kept (s : State) (r : Nat) : (State.ringDisable s r).kept = s.kept := by
  unfold State.ringDisable
  simp only [apply_ite State.kept, ite_self, refuse_kept, ringOff_kept]

theorem ringDisable_canon (s : State) (r : Nat) (hs : s.Canonical) : (State.ringDisable s r).Canonical := by
  unfold State.ringDisable
  repeat' first
    | with_reducible assumption
    | with_reducible apply refuse_canon
    | with_reducible apply ringOff_canon
    | split

theorem doorbellFault_kept (s : State) (t : Nat) : (State.doorbellFault s t).kept = s.kept := by
  unfold State.doorbellFault
  simp only [State.kept_set, State.kept_bump, event_kept]

theorem doorbellFault_canon (s : State) (t : Nat) (hs : s.Canonical) : (State.doorbellFault s t).Canonical := by
  unfold State.doorbellFault
  repeat' first
    | with_reducible assumption
    | with_reducible apply canon_set
    | with_reducible apply canon_bump
    | with_reducible apply event_canon
    | split

theorem queueEntries_kept (s : State) (c : Nat) : (State.queueEntries s c).kept = s.kept := by
  unfold State.queueEntries
  simp only [State.kept_set, apply_ite State.kept, ite_self, kept_forEach, implies_true]

theorem queueEntries_canon (s : State) (c : Nat) (hs : s.Canonical) : (State.queueEntries s c).Canonical := by
  unfold State.queueEntries
  repeat' first
    | with_reducible assumption
    | with_reducible intro _
    | with_reducible apply canon_set
    | with_reducible apply canon_forEach
    | split

theorem examine_kept (s : State) (c : Nat) : (State.examine s c).kept = s.kept := by
  unfold State.examine
  repeat' first
    | with_reducible rfl
    | (simp only [kept_mk, State.kept_fold, apply_ite State.kept, ite_self]; done)
    | dsimp only
    | intro _
    | split

theorem examine_canon (s : State) (c : Nat) (hs : s.Canonical) : (State.examine s c).Canonical := by
  unfold State.examine
  repeat' first
    | with_reducible assumption
    | simp only [canon_mk, canon_fold]

    | split

theorem jobDoorbell_kept (s : State) (c tail : Nat) : (State.jobDoorbell s c tail).kept = s.kept := by
  unfold State.jobDoorbell
  simp only [State.kept_set, State.kept_setAll, kept_mk, State.kept_fold, apply_ite State.kept, ite_self, examine_kept, queueEntries_kept]

theorem jobDoorbell_canon (s : State) (c tail : Nat) (hs : s.Canonical) : (State.jobDoorbell s c tail).Canonical := by
  unfold State.jobDoorbell
  repeat' first
    | with_reducible assumption
    | with_reducible intro _
    | simp only [canon_mk, canon_fold]
    | with_reducible apply canon_set
    | with_reducible apply canon_setAll
    | with_reducible apply examine_canon
    | with_reducible apply queueEntries_canon
    | split

theorem jobDb_kept (s : State) (t value : Nat) : (State.jobDb s t value).kept = s.kept := by
  unfold State.jobDb
  simp only [apply_ite State.kept, ite_self, doorbellFault_kept, jobDoorbell_kept]

theorem jobDb_canon (s : State) (t value : Nat) (hs : s.Canonical) : (State.jobDb s t value).Canonical := by
  unfold State.jobDb
  repeat' first
    | with_reducible assumption
    | dsimp only
    | with_reducible apply doorbellFault_canon
    | with_reducible apply jobDoorbell_canon
    | split

theorem ringDb_kept (s : State) (t value : Nat) : (State.ringDb s t value).kept = s.kept := by
  unfold State.ringDb
  simp only [State.kept_set, State.kept_bump, apply_ite State.kept, ite_self, doorbellFault_kept]

theorem ringDb_canon (s : State) (t value : Nat) (hs : s.Canonical) : (State.ringDb s t value).Canonical := by
  unfold State.ringDb
  repeat' first
    | with_reducible assumption
    | dsimp only
    | with_reducible apply canon_set
    | with_reducible apply canon_bump
    | with_reducible apply doorbellFault_canon
    | split

theorem jobEntryEnable_kept (s : State) (c e : Nat) : (State.jobEntryEnable s c e).kept = s.kept := by
  unfold State.jobEntryEnable
  repeat' first
    | with_reducible rfl
    | (simp only [State.kept_setAll, apply_ite State.kept, refuse_kept]; done)
    | dsimp only
    | intro _
    | split

theorem jobEntryEnable_canon (s : State) (c e : Nat) (hs : s.Canonical) : (State.jobEntryEnable s c e).Canonical := by
  unfold State.jobEntryEnable
  repeat' first
    | with_reducible assumption
    | simp only [canon_mk, canon_fold]
    | with_reducible apply canon_set
    | with_reducible apply canon_setAll
    | with_reducible apply refuse_canon
    | split

theorem jobEntryDisable_kept (s : State) (c : Fin 16384) (e : Nat) : (State.jobEntryDisable s c e).kept = s.kept := by
  unfold State.jobEntryDisable
  repeat' first
    | with_reducible rfl
    | (simp only [State.kept_setAll, kept_mk, State.kept_fold, apply_ite State.kept, ite_self, faultJob_kept]; done)
    | dsimp only
    | intro _
    | split

theorem jobEntryDisable_canon (s : State) (c : Fin 16384) (e : Nat) (hs : s.Canonical) : (State.jobEntryDisable s c e).Canonical := by
  unfold State.jobEntryDisable
  repeat' first
    | with_reducible assumption
    | simp only [canon_mk, canon_fold]
    | with_reducible apply canon_set
    | with_reducible apply canon_setAll
    | with_reducible apply faultJob_canon
    | split

/-! ## The fabric -/

theorem routeEnable_kept (s : State) (d : Nat) : (State.routeEnable s d).kept = s.kept := by
  unfold State.routeEnable
  repeat' first
    | with_reducible rfl
    | (simp only [State.kept_setAll, apply_ite State.kept, refuse_kept]; done)
    | dsimp only
    | intro _
    | split

theorem routeEnable_canon (s : State) (d : Nat) (hs : s.Canonical) : (State.routeEnable s d).Canonical := by
  unfold State.routeEnable
  repeat' first
    | with_reducible assumption
    | simp only [canon_mk, canon_fold]
    | with_reducible apply canon_set
    | with_reducible apply canon_setAll
    | with_reducible apply refuse_canon
    | split

theorem dropForwards_kept (s : State) (d : Nat) : (State.dropForwards s d).kept = s.kept := by
  unfold State.dropForwards
  repeat' first
    | with_reducible rfl
    | (simp only [State.kept_bump, kept_mk, State.kept_fold, kept_forEach, kept_foldl, implies_true]; done)
    | dsimp only
    | intro _
    | split
    | (with_reducible refine (kept_forEach _ _ _ ?_).trans ?_)
    | with_reducible refine (State.kept_bump ..).trans ?_

theorem dropForwards_canon (s : State) (d : Nat) (hs : s.Canonical) : (State.dropForwards s d).Canonical := by
  unfold State.dropForwards
  repeat' first
    | with_reducible assumption
    | with_reducible intro _
    | simp only [canon_mk, canon_fold]
    | with_reducible apply canon_bump
    | with_reducible apply canon_forEach
    | with_reducible apply canon_foldl
    | dsimp only
    | split

theorem routeDisable_kept (s : State) (d : Nat) : (State.routeDisable s d).kept = s.kept := by
  unfold State.routeDisable
  repeat' first
    | with_reducible rfl
    | (simp only [State.kept_set, State.kept_setAll, apply_ite State.kept, ite_self, refuse_kept, dropForwards_kept]; done)
    | dsimp only
    | intro _
    | split
    | with_reducible refine (refuse_kept ..).trans ?_
    | with_reducible refine (dropForwards_kept ..).trans ?_
    | with_reducible refine (State.kept_set ..).trans ?_
    | with_reducible refine (State.kept_setAll ..).trans ?_

theorem routeDisable_canon (s : State) (d : Nat) (hs : s.Canonical) : (State.routeDisable s d).Canonical := by
  unfold State.routeDisable
  repeat' first
    | with_reducible assumption
    | with_reducible intro _
    | with_reducible apply canon_setAll
    | with_reducible apply refuse_canon
    | with_reducible apply dropForwards_canon
    | dsimp only
    | split

theorem askMembers_kept (s : State) (c : Nat) : (State.askMembers s c).kept = s.kept := by
  unfold State.askMembers
  repeat' first
    | with_reducible rfl
    | (simp only [apply_ite State.kept, ite_self, askHost_kept]; done)
    | dsimp only
    | intro _
    | split
    | with_reducible refine (askHost_kept ..).trans ?_

theorem askMembers_canon (s : State) (c : Nat) (hs : s.Canonical) : (State.askMembers s c).Canonical := by
  unfold State.askMembers
  repeat' first
    | with_reducible assumption
    | with_reducible intro _
    | with_reducible apply askHost_canon
    | dsimp only
    | split

theorem fabricJobEnable_kept (s : State) (c : Nat) (list : List Nat) : (State.fabricJobEnable s c list).kept = s.kept := by
  unfold State.fabricJobEnable
  repeat' first
    | with_reducible rfl
    | (simp only [State.kept_set, State.kept_bump, State.kept_drop, State.kept_setAll, kept_mk, State.kept_fold, apply_ite State.kept, ite_self,
        kept_forEach, kept_foldl, implies_true, refuse_kept, floorRecompute_kept, askMembers_kept]; done)
    | simp only [kept_mk, State.kept_fold]
    | dsimp only
    | intro _
    | split
    | (with_reducible refine (kept_forEach _ _ _ ?_).trans ?_)
    | (with_reducible refine (kept_foldl _ _ _ ?_).trans ?_)
    | (with_reducible refine (kept_foldl_fst _ _ _ ?_).trans ?_)
    | (with_reducible refine (kept_foldl_snd _ _ _ ?_).trans ?_)
    | with_reducible refine (refuse_kept ..).trans ?_
    | with_reducible refine (floorRecompute_kept ..).trans ?_
    | with_reducible refine (askMembers_kept ..).trans ?_
    | with_reducible refine (State.kept_set ..).trans ?_
    | with_reducible refine (State.kept_setAll ..).trans ?_
    | with_reducible refine (State.kept_bump ..).trans ?_

theorem fabricJobEnable_canon (s : State) (c : Nat) (list : List Nat) (hs : s.Canonical) : (State.fabricJobEnable s c list).Canonical := by
  unfold State.fabricJobEnable
  repeat' first
    | with_reducible assumption
    | with_reducible intro _
    | simp only [canon_mk, canon_fold]
    | with_reducible apply canon_set
    | with_reducible apply canon_setAll
    | with_reducible apply canon_bump
    | with_reducible apply canon_drop
    | with_reducible apply canon_forEach
    | with_reducible apply canon_foldl
    | with_reducible apply canon_foldl_fst
    | with_reducible apply canon_foldl_snd
    | with_reducible apply refuse_canon
    | with_reducible apply floorRecompute_canon
    | with_reducible apply askMembers_canon
    | dsimp only
    | split

theorem fabricJobDisable_kept (s : State) (c : Nat) : (State.fabricJobDisable s c).kept = s.kept := by
  unfold State.fabricJobDisable
  simp only [State.kept_bump, State.kept_drop, State.kept_setAll, kept_mk, State.kept_fold, apply_ite State.kept, ite_self, eraseKey_kept, floorRecompute_kept, refuse_kept]

theorem fabricJobDisable_canon (s : State) (c : Nat) (hs : s.Canonical) : (State.fabricJobDisable s c).Canonical := by
  unfold State.fabricJobDisable
  repeat' first
    | with_reducible assumption
    | with_reducible intro _
    | simp only [canon_mk, canon_fold]
    | with_reducible apply canon_set
    | with_reducible apply canon_setAll
    | with_reducible apply canon_bump
    | with_reducible apply canon_drop
    | with_reducible apply eraseKey_canon
    | with_reducible apply floorRecompute_canon
    | with_reducible apply refuse_canon
    | split

theorem testRuleEnable_kept (s : State) (port i value : Nat) : (State.testRuleEnable s port i value).kept = s.kept := by
  unfold State.testRuleEnable
  simp only [State.kept_set, kept_mk, State.kept_fold, apply_ite State.kept, ite_self, storeFields_kept]

theorem testRuleEnable_canon (s : State) (port i value : Nat) (hs : s.Canonical) : (State.testRuleEnable s port i value).Canonical := by
  unfold State.testRuleEnable
  repeat' first
    | with_reducible assumption
    | simp only [canon_mk, canon_fold]
    | with_reducible apply canon_set
    | with_reducible apply storeFields_canon
    | split

theorem dataTx_kept (s : State) (c chan : Nat) (env : SendEnv) : (State.dataTx s c chan env).kept = s.kept := by
  unfold State.dataTx
  repeat' first
    | with_reducible rfl
    | (simp only [State.kept_set, State.kept_drop, kept_mk, State.kept_fold, apply_ite State.kept, ite_self, dropAll_kept, updFlow_kept, sendOn_kept,
        loftRead_kept]; done)
    | simp only [kept_mk, State.kept_fold]
    | dsimp only
    | intro _
    | split
    | with_reducible refine (dropAll_kept ..).trans ?_
    | with_reducible refine (updFlow_kept ..).trans ?_
    | with_reducible refine (sendOn_kept ..).trans ?_
    | with_reducible refine (loftRead_kept ..).trans ?_
    | with_reducible refine (State.kept_set ..).trans ?_

theorem dataTx_canon (s : State) (c chan : Nat) (env : SendEnv) (hs : s.Canonical) : (State.dataTx s c chan env).Canonical := by
  unfold State.dataTx
  repeat' first
    | with_reducible assumption
    | with_reducible intro _
    | simp only [canon_mk, canon_fold]
    | with_reducible apply canon_drop
    | with_reducible apply dropAll_canon
    | with_reducible apply updFlow_canon
    | with_reducible apply sendOn_canon
    | with_reducible apply loftRead_canon
    | dsimp only
    | split

theorem writeBlocks_kept (s : State) (c : Nat) (b : FrameBody) (flow : Nat) : (State.writeBlocks s c b flow).kept = s.kept := by
  unfold State.writeBlocks
  repeat' first
    | with_reducible rfl
    | (simp only [kept_mk, State.kept_fold, kept_forEach, kept_foldl, implies_true]; done)
    | dsimp only
    | intro _
    | split
    | (with_reducible refine (kept_forEach _ _ _ ?_).trans ?_)
    | (with_reducible refine (kept_foldl _ _ _ ?_).trans ?_)
    | (with_reducible refine (kept_foldl_fst _ _ _ ?_).trans ?_)
    | (with_reducible refine (kept_foldl_snd _ _ _ ?_).trans ?_)

theorem writeBlocks_canon (s : State) (c : Nat) (b : FrameBody) (flow : Nat) (hs : s.Canonical) : (State.writeBlocks s c b flow).Canonical := by
  unfold State.writeBlocks
  repeat' first
    | with_reducible assumption
    | with_reducible intro _
    | simp only [canon_mk, canon_fold]
    | with_reducible apply canon_forEach
    | with_reducible apply canon_foldl
    | with_reducible apply canon_foldl_fst
    | with_reducible apply canon_foldl_snd
    | dsimp only
    | split

theorem deliverTile_kept (s : State) (c flow tile : Nat) (bs : List FrameBody) : (State.deliverTile s c flow tile bs).kept = s.kept := by
  unfold State.deliverTile
  repeat' first
    | with_reducible rfl
    | (simp only [kept_mk, State.kept_fold, kept_forEach, kept_foldl, implies_true, jobPeg_kept, releaseInputs_kept, writeBlocks_kept]; done)
    | simp only [kept_mk, State.kept_fold]
    | dsimp only
    | intro _
    | split
    | (with_reducible refine (kept_forEach _ _ _ ?_).trans ?_)
    | with_reducible refine (jobPeg_kept ..).trans ?_
    | with_reducible refine (releaseInputs_kept ..).trans ?_
    | with_reducible refine (writeBlocks_kept ..).trans ?_

theorem deliverTile_canon (s : State) (c flow tile : Nat) (bs : List FrameBody) (hs : s.Canonical) : (State.deliverTile s c flow tile bs).Canonical
    := by
  unfold State.deliverTile
  repeat' first
    | with_reducible assumption
    | with_reducible intro _
    | simp only [canon_mk, canon_fold]
    | with_reducible apply canon_forEach
    | with_reducible apply canon_foldl
    | with_reducible apply jobPeg_canon
    | with_reducible apply releaseInputs_canon
    | with_reducible apply writeBlocks_canon
    | dsimp only
    | split

theorem putReceived_kept (s : State) (c flow peer : Nat) : (State.putReceived s c flow peer).kept = s.kept := by
  unfold State.putReceived
  repeat' first
    | with_reducible rfl
    | (simp only [kept_mk, State.kept_fold, kept_forEach, kept_foldl, implies_true, updFlow_kept, deliverTile_kept]; done)
    | simp only [kept_mk, State.kept_fold]
    | dsimp only
    | intro _
    | split
    | (with_reducible refine (kept_forEach _ _ _ ?_).trans ?_)
    | with_reducible refine (updFlow_kept ..).trans ?_
    | with_reducible refine (deliverTile_kept ..).trans ?_

theorem putReceived_canon (s : State) (c flow peer : Nat) (hs : s.Canonical) : (State.putReceived s c flow peer).Canonical := by
  unfold State.putReceived
  repeat' first
    | with_reducible assumption
    | with_reducible intro _
    | simp only [canon_mk, canon_fold]
    | with_reducible apply canon_forEach
    | with_reducible apply canon_foldl
    | with_reducible apply updFlow_canon
    | with_reducible apply deliverTile_canon
    | dsimp only
    | split

theorem receiveHeld_kept (s : State) (id : JobId) : (State.receiveHeld s id).kept = s.kept := by
  unfold State.receiveHeld
  repeat' first
    | with_reducible rfl
    | (simp only [kept_mk, State.kept_fold, kept_forEach, kept_foldl, implies_true, putReceived_kept]; done)
    | simp only [kept_mk, State.kept_fold]
    | dsimp only
    | intro _
    | split
    | (with_reducible refine (kept_forEach _ _ _ ?_).trans ?_)
    | with_reducible refine (putReceived_kept ..).trans ?_

theorem receiveHeld_canon (s : State) (id : JobId) (hs : s.Canonical) : (State.receiveHeld s id).Canonical := by
  unfold State.receiveHeld
  repeat' first
    | with_reducible assumption
    | with_reducible intro _
    | simp only [canon_mk, canon_fold]
    | with_reducible apply canon_forEach
    | with_reducible apply canon_foldl
    | with_reducible apply putReceived_canon
    | dsimp only
    | split

theorem remotePegOp_kept (s : State) (c : Nat) (op : List Byte) : (State.remotePegOp s c op).kept = s.kept := by
  unfold State.remotePegOp
  repeat' first
    | with_reducible rfl
    | (simp only [State.kept_set, State.kept_bump, State.kept_drop, apply_ite State.kept, ite_self, pegAdd_kept, pegSet_kept, creditAcks_kept]; done)
    | dsimp only
    | intro _
    | split
    | with_reducible refine (pegAdd_kept ..).trans ?_
    | with_reducible refine (pegSet_kept ..).trans ?_
    | with_reducible refine (creditAcks_kept ..).trans ?_
    | with_reducible refine (State.kept_set ..).trans ?_
    | with_reducible refine (State.kept_bump ..).trans ?_

theorem remotePegOp_canon (s : State) (c : Nat) (op : List Byte) (hs : s.Canonical) : (State.remotePegOp s c op).Canonical := by
  unfold State.remotePegOp
  repeat' first
    | with_reducible assumption
    | with_reducible intro _
    | with_reducible apply canon_bump
    | with_reducible apply canon_drop
    | with_reducible apply pegAdd_canon
    | with_reducible apply pegSet_canon
    | with_reducible apply creditAcks_canon
    | dsimp only
    | split

theorem remotePegOps_kept (s : State) (c : Nat) (x0 : Nat) (x1 : List Byte) : (State.remotePegOps s c x0 x1).kept = s.kept := by
  induction x0 generalizing s x1 with
  | zero => rfl
  | succ n ih =>
    unfold State.remotePegOps
    split
    · rfl
    · rw [ih, remotePegOp_kept]

theorem remotePegOps_canon (s : State) (c : Nat) (x0 : Nat) (x1 : List Byte) (hs : s.Canonical) : (State.remotePegOps s c x0 x1).Canonical := by
  induction x0 generalizing s x1 with
  | zero => exact hs
  | succ n ih =>
    unfold State.remotePegOps
    split
    · exact hs
    · exact ih _ _ (remotePegOp_canon _ _ _ hs)

theorem peerAbort_kept (s : State) (c run : Nat) : (State.peerAbort s c run).kept = s.kept := by
  unfold State.peerAbort
  repeat' first
    | with_reducible rfl
    | (simp only [State.kept_set, State.kept_bump, apply_ite State.kept, ite_self, faultJob_kept]; done)
    | dsimp only
    | intro _
    | split

theorem peerAbort_canon (s : State) (c run : Nat) (hs : s.Canonical) : (State.peerAbort s c run).Canonical := by
  unfold State.peerAbort
  repeat' first
    | with_reducible assumption
    | simp only [canon_mk, canon_fold]
    | with_reducible apply canon_set
    | with_reducible apply canon_bump
    | with_reducible apply faultJob_canon
    | split

theorem deliver_kept (s : State) (c flow peer : Nat) (b : FrameBody) : (State.deliver s c flow peer b).kept = s.kept := by
  unfold State.deliver
  repeat' first
    | with_reducible rfl
    | (simp only [kept_mk, State.kept_fold, apply_ite State.kept, ite_self, updFlow_kept, putReceived_kept, peerAbort_kept, remotePegOps_kept]; done)
    | simp only [kept_mk, State.kept_fold]
    | dsimp only
    | intro _
    | split
    | with_reducible refine (updFlow_kept ..).trans ?_
    | with_reducible refine (putReceived_kept ..).trans ?_
    | with_reducible refine (peerAbort_kept ..).trans ?_
    | with_reducible refine (remotePegOps_kept ..).trans ?_

theorem deliver_canon (s : State) (c flow peer : Nat) (b : FrameBody) (hs : s.Canonical) : (State.deliver s c flow peer b).Canonical := by
  unfold State.deliver
  repeat' first
    | with_reducible assumption
    | with_reducible intro _
    | simp only [canon_mk, canon_fold]
    | with_reducible apply updFlow_canon
    | with_reducible apply putReceived_canon
    | with_reducible apply peerAbort_canon
    | with_reducible apply remotePegOps_canon
    | dsimp only
    | split

theorem drainFlow_kept (s : State) (c flow peer : Nat) (x0 : Nat) : (State.drainFlow s c flow peer x0).kept = s.kept := by
  induction x0 generalizing s with
  | zero => rfl
  | succ n ih =>
    unfold State.drainFlow
    split
    · rfl
    · split
      · rfl
      · rw [ih, deliver_kept, updFlow_kept]

theorem drainFlow_canon (s : State) (c flow peer : Nat) (x0 : Nat) (hs : s.Canonical) : (State.drainFlow s c flow peer x0).Canonical := by
  induction x0 generalizing s with
  | zero => exact hs
  | succ n ih =>
    unfold State.drainFlow
    split
    · exact hs
    · split
      · exact hs
      · exact ih _ (deliver_canon _ _ _ _ _ (updFlow_canon _ _ _ _ _ _ hs))

theorem acceptFrame_kept (s : State) (c flow peer psn : Nat) (b : FrameBody) : (State.acceptFrame s c flow peer psn b).kept = s.kept := by
  unfold State.acceptFrame
  repeat' first
    | with_reducible rfl
    | (simp only [apply_ite State.kept, ite_self, drainFlow_kept, sendAck_kept, updFlow_kept, writeBlocks_kept]; done)
    | dsimp only
    | intro _
    | split

theorem acceptFrame_canon (s : State) (c flow peer psn : Nat) (b : FrameBody) (hs : s.Canonical) : (State.acceptFrame s c flow peer psn b).Canonical := by
  unfold State.acceptFrame
  repeat' first
    | with_reducible assumption
    | with_reducible intro _
    | simp only [canon_mk, canon_fold]
    | with_reducible apply drainFlow_canon
    | with_reducible apply sendAck_canon
    | with_reducible apply updFlow_canon
    | with_reducible apply writeBlocks_canon
    | split

theorem releaseSent_kept (s : State) (c flow peer : Nat) : (State.releaseSent s c flow peer).kept = s.kept := by
  unfold State.releaseSent
  repeat' first
    | with_reducible rfl
    | (simp only [apply_ite State.kept, ite_self, jobPeg_kept, updFlow_kept]; done)
    | dsimp only
    | intro _
    | split

theorem releaseSent_canon (s : State) (c flow peer : Nat) (hs : s.Canonical) : (State.releaseSent s c flow peer).Canonical := by
  unfold State.releaseSent
  repeat' first
    | with_reducible assumption
    | with_reducible intro _
    | simp only [canon_mk, canon_fold]
    | with_reducible apply jobPeg_canon
    | with_reducible apply updFlow_canon
    | split

theorem ackRx_kept (s : State) (c flow peer cum : Nat) (payload : List Byte) : (State.ackRx s c flow peer cum payload).kept = s.kept := by
  unfold State.ackRx
  repeat' first
    | with_reducible rfl
    | (simp only [kept_forEach, implies_true, releaseSent_kept, resend_kept, sendWaitingOf_kept, updFlow_kept]; done)
    | dsimp only
    | intro _
    | split
    | (refine (kept_forEach _ _ _ ?_).trans ?_)
    | (refine (kept_foldl _ _ _ ?_).trans ?_)

theorem ackRx_canon (s : State) (c flow peer cum : Nat) (payload : List Byte) (hs : s.Canonical) : (State.ackRx s c flow peer cum payload).Canonical := by
  unfold State.ackRx
  repeat' first
    | with_reducible assumption
    | with_reducible intro _
    | simp only [canon_mk, canon_fold]
    | with_reducible apply canon_drop
    | with_reducible apply canon_forEach
    | with_reducible apply canon_foldl
    | with_reducible apply canon_foldl_fst
    | with_reducible apply canon_foldl_snd
    | with_reducible apply releaseSent_canon
    | with_reducible apply resend_canon
    | with_reducible apply sendWaitingOf_canon
    | with_reducible apply updFlow_canon
    | split

theorem sendForward_kept (s : State) (q : Nat) (f : Forward) : (State.sendForward s q f).kept = s.kept := by
  unfold State.sendForward
  repeat' first
    | with_reducible rfl
    | (simp only [State.kept_bump, txRaw_kept]; done)
    | dsimp only
    | intro _
    | split
    | with_reducible refine (txRaw_kept ..).trans ?_
    | with_reducible refine (State.kept_bump ..).trans ?_

theorem sendForward_canon (s : State) (q : Nat) (f : Forward) (hs : s.Canonical) : (State.sendForward s q f).Canonical := by
  unfold State.sendForward
  repeat' first
    | with_reducible assumption
    | with_reducible intro _
    | with_reducible apply canon_bump
    | with_reducible apply txRaw_canon
    | dsimp only
    | split

theorem forwardFrame_kept (s : State) (p : Nat) (hdr : Nat) (payload : List Byte) : (State.forwardFrame s p hdr payload).kept = s.kept := by
  unfold State.forwardFrame
  repeat' first
    | with_reducible rfl
    | (simp only [State.kept_set, State.kept_bump, kept_mk, State.kept_fold, apply_ite State.kept, ite_self, sendForward_kept]; done)
    | simp only [kept_mk, State.kept_fold]
    | dsimp only
    | intro _
    | split
    | with_reducible refine (sendForward_kept ..).trans ?_
    | with_reducible refine (State.kept_set ..).trans ?_
    | with_reducible refine (State.kept_bump ..).trans ?_

theorem forwardFrame_canon (s : State) (p : Nat) (hdr : Nat) (payload : List Byte) (hs : s.Canonical) : (State.forwardFrame s p hdr
    payload).Canonical := by
  unfold State.forwardFrame
  repeat' first
    | with_reducible assumption
    | with_reducible intro _
    | simp only [canon_mk, canon_fold]
    | with_reducible apply canon_bump
    | with_reducible apply sendForward_canon
    | dsimp only
    | split

theorem ackClosed_kept (s : State) (c flow peer psn : Nat) : (State.ackClosed s c flow peer psn).kept = s.kept := by
  unfold State.ackClosed
  repeat' first
    | with_reducible rfl
    | (simp only [txFrame_kept]; done)
    | dsimp only
    | intro _
    | split
    | with_reducible refine (txFrame_kept ..).trans ?_

theorem ackClosed_canon (s : State) (c flow peer psn : Nat) (hs : s.Canonical) : (State.ackClosed s c flow peer psn).Canonical := by
  unfold State.ackClosed
  repeat' first
    | with_reducible assumption
    | with_reducible intro _
    | with_reducible apply txFrame_canon
    | dsimp only
    | split

theorem rxFlow_kept (s : State) (p c hdr : Nat) (payload : List Byte) : (State.rxFlow s p c hdr payload).kept = s.kept := by
  unfold State.rxFlow
  repeat' first
    | with_reducible rfl
    | (simp only [State.kept_bump, kept_mk, State.kept_fold, apply_ite State.kept, ite_self, sendAck_kept, acceptFrame_kept, ackRx_kept, ackClosed_kept];
        done)
    | simp only [kept_mk, State.kept_fold]
    | dsimp only
    | intro _
    | split
    | with_reducible refine (sendAck_kept ..).trans ?_
    | with_reducible refine (acceptFrame_kept ..).trans ?_
    | with_reducible refine (ackRx_kept ..).trans ?_
    | with_reducible refine (ackClosed_kept ..).trans ?_
    | with_reducible refine (State.kept_bump ..).trans ?_

theorem rxFlow_canon (s : State) (p c hdr : Nat) (payload : List Byte) (hs : s.Canonical) : (State.rxFlow s p c hdr payload).Canonical := by
  unfold State.rxFlow
  repeat' first
    | with_reducible assumption
    | with_reducible intro _
    | simp only [canon_mk, canon_fold]
    | with_reducible apply canon_bump
    | with_reducible apply sendAck_canon
    | with_reducible apply acceptFrame_canon
    | with_reducible apply ackRx_canon
    | with_reducible apply ackClosed_canon
    | dsimp only
    | split

theorem rxChecks_kept (s : State) (p : Nat) (f : Frame) : (State.rxChecks s p f).kept = s.kept := by
  unfold State.rxChecks
  repeat' first
    | with_reducible rfl
    | (simp only [State.kept_set, State.kept_bump, State.kept_setAll, kept_mk, State.kept_fold, apply_ite State.kept, ite_self, forwardFrame_kept,
        rxFlow_kept]; done)
    | simp only [kept_mk, State.kept_fold]
    | dsimp only
    | intro _
    | split
    | with_reducible refine (forwardFrame_kept ..).trans ?_
    | with_reducible refine (rxFlow_kept ..).trans ?_
    | with_reducible refine (State.kept_set ..).trans ?_
    | with_reducible refine (State.kept_setAll ..).trans ?_
    | with_reducible refine (State.kept_bump ..).trans ?_

theorem rxChecks_canon (s : State) (p : Nat) (f : Frame) (hs : s.Canonical) : (State.rxChecks s p f).Canonical := by
  unfold State.rxChecks
  repeat' first
    | with_reducible assumption
    | with_reducible intro _
    | simp only [canon_mk, canon_fold]
    | with_reducible apply canon_set
    | with_reducible apply canon_setAll
    | with_reducible apply canon_bump
    | with_reducible apply forwardFrame_canon
    | with_reducible apply rxFlow_canon
    | dsimp only
    | split

theorem fecCount_kept (s : State) (p : Nat) (f : Frame) : (State.fecCount s p f).kept = s.kept := by
  unfold State.fecCount
  simp only [State.kept_set, State.kept_bump, apply_ite State.kept, ite_self]

theorem fecCount_canon (s : State) (p : Nat) (f : Frame) (hs : s.Canonical) : (State.fecCount s p f).Canonical := by
  unfold State.fecCount
  repeat' first
    | with_reducible assumption
    | dsimp only
    | with_reducible apply canon_set
    | with_reducible apply canon_bump
    | split

theorem rxFrame_kept (s : State) (p : Nat) (f : Frame) : (State.rxFrame s p f).kept = s.kept := by
  unfold State.rxFrame
  repeat' first
    | with_reducible rfl
    | (simp only [State.kept_set, State.kept_bump, kept_mk, State.kept_fold, apply_ite State.kept, fecCount_kept, rxChecks_kept, testRules_kept]; done)
    | dsimp only
    | intro _
    | split
    | (refine (kept_forEach _ _ _ ?_).trans ?_)

theorem rxFrame_canon (s : State) (p : Nat) (f : Frame) (hs : s.Canonical) : (State.rxFrame s p f).Canonical := by
  unfold State.rxFrame
  repeat' first
    | with_reducible assumption
    | with_reducible intro _
    | simp only [canon_mk, canon_fold]
    | with_reducible apply canon_set
    | with_reducible apply canon_bump
    | with_reducible apply canon_forEach
    | with_reducible apply fecCount_canon
    | with_reducible apply rxChecks_canon
    | with_reducible apply testRules_canon
    | split

theorem rxKind_kept (s : State) (k kind : Nat) (f : Frame) : (State.rxKind s k kind f).kept = s.kept := by
  unfold State.rxKind
  repeat' first
    | with_reducible rfl
    | (simp only [State.kept_set, apply_ite State.kept, ite_self, rxFrame_kept]; done)
    | dsimp only
    | intro _
    | split
    | with_reducible refine (rxFrame_kept ..).trans ?_
    | with_reducible refine (State.kept_set ..).trans ?_

theorem rxKind_canon (s : State) (k kind : Nat) (f : Frame) (hs : s.Canonical) : (State.rxKind s k kind f).Canonical := by
  unfold State.rxKind
  repeat' first
    | with_reducible assumption
    | with_reducible intro _
    | with_reducible apply rxFrame_canon
    | dsimp only
    | split

theorem reorderRelease_kept (s : State) (k : Nat) : (State.reorderRelease s k).kept = s.kept := by
  unfold State.reorderRelease
  repeat' first
    | with_reducible rfl
    | (simp only [kept_mk, State.kept_fold, wire_kept, rxChecks_kept]; done)
    | simp only [kept_mk, State.kept_fold]
    | dsimp only
    | intro _
    | split
    | with_reducible refine (wire_kept ..).trans ?_
    | with_reducible refine (rxChecks_kept ..).trans ?_

theorem reorderRelease_canon (s : State) (k : Nat) (hs : s.Canonical) : (State.reorderRelease s k).Canonical := by
  unfold State.reorderRelease
  repeat' first
    | with_reducible assumption
    | with_reducible intro _
    | simp only [canon_mk, canon_fold]
    | with_reducible apply wire_canon
    | with_reducible apply rxChecks_canon
    | dsimp only
    | split

theorem rtoExpiry_kept (s : State) (c i : Nat) : (State.rtoExpiry s c i).kept = s.kept := by
  unfold State.rtoExpiry
  repeat' first
    | with_reducible rfl
    | (simp only [kept_forEach, implies_true, resend_kept, updFlow_kept]; done)
    | dsimp only
    | intro _
    | split
    | (refine (kept_forEach _ _ _ ?_).trans ?_)
    | (refine (kept_foldl _ _ _ ?_).trans ?_)

theorem rtoExpiry_canon (s : State) (c i : Nat) (hs : s.Canonical) : (State.rtoExpiry s c i).Canonical := by
  unfold State.rtoExpiry
  repeat' first
    | with_reducible assumption
    | with_reducible intro _
    | simp only [canon_mk, canon_fold]
    | with_reducible apply canon_forEach
    | with_reducible apply canon_foldl
    | with_reducible apply canon_foldl_fst
    | with_reducible apply canon_foldl_snd
    | with_reducible apply resend_canon
    | with_reducible apply updFlow_canon
    | split

theorem flowTimeout_kept (s : State) (c i : Nat) : (State.flowTimeout s c i).kept = s.kept := by
  unfold State.flowTimeout
  repeat' first
    | with_reducible rfl
    | (simp only [State.kept_set, State.kept_bump, apply_ite State.kept, faultJob_kept]; done)
    | dsimp only
    | intro _
    | split

theorem flowTimeout_canon (s : State) (c i : Nat) (hs : s.Canonical) : (State.flowTimeout s c i).Canonical := by
  unfold State.flowTimeout
  repeat' first
    | with_reducible assumption
    | simp only [canon_mk, canon_fold]
    | with_reducible apply canon_set
    | with_reducible apply canon_bump
    | with_reducible apply faultJob_canon
    | split

theorem keepaliveTx_kept (s : State) (k : Nat) : (State.keepaliveTx s k).kept = s.kept := by
  unfold State.keepaliveTx
  simp only [apply_ite State.kept, ite_self, txRaw_kept]

theorem keepaliveTx_canon (s : State) (k : Nat) (hs : s.Canonical) : (State.keepaliveTx s k).Canonical := by
  unfold State.keepaliveTx
  repeat' first
    | with_reducible assumption
    | simp only [canon_mk, canon_fold]
    | with_reducible apply txRaw_canon
    | split

theorem takeTurn_kept (s : State) (p : Nat) (e : Egress) : (State.takeTurn s p e).kept = s.kept := by
  cases e with
  | frame => exact resend_kept ..
  | ack => exact sendAck_kept ..
  | forward => exact (sendForward_kept ..).trans rfl

theorem takeTurn_canon (s : State) (p : Nat) (e : Egress) (hs : s.Canonical) : (State.takeTurn s p e).Canonical := by
  cases e with
  | frame => exact resend_canon _ _ _ _ _ hs
  | ack => exact sendAck_canon _ _ _ _ _ hs
  | forward => exact sendForward_canon _ _ _ ((canon_fold _).1 ((canon_fold _).2 hs))

theorem sendWaiting_kept (s : State) : (State.sendWaiting s).kept = s.kept := by
  unfold State.sendWaiting
  repeat' first
    | with_reducible rfl
    | (simp only [kept_forEach, kept_foldl, implies_true, takeTurn_kept]; done)
    | dsimp only
    | intro _
    | split
    | (with_reducible refine (kept_forEach _ _ _ ?_).trans ?_)
    | with_reducible refine (takeTurn_kept ..).trans ?_

theorem sendWaiting_canon (s : State) (hs : s.Canonical) : (State.sendWaiting s).Canonical := by
  unfold State.sendWaiting
  repeat' first
    | with_reducible assumption
    | with_reducible intro _
    | with_reducible apply canon_forEach
    | with_reducible apply canon_foldl
    | with_reducible apply takeTurn_canon
    | dsimp only
    | split

theorem linkUp_kept (s : State) (k : Nat) (bad : List Nat) : (State.linkUp s k bad).kept = s.kept := by
  unfold State.linkUp
  repeat' first
    | with_reducible rfl
    | (simp only [State.kept_set, State.kept_setAll, apply_ite State.kept, sendWaiting_kept]; done)
    | dsimp only
    | intro _
    | split

theorem linkUp_canon (s : State) (k : Nat) (bad : List Nat) (hs : s.Canonical) : (State.linkUp s k bad).Canonical := by
  unfold State.linkUp
  repeat' first
    | with_reducible assumption
    | with_reducible intro _
    | simp only [canon_mk, canon_fold]
    | with_reducible apply canon_set
    | with_reducible apply canon_setAll
    | with_reducible apply sendWaiting_canon
    | split

theorem barrierArrive_kept (s : State) (c : Nat) : (State.barrierArrive s c).kept = s.kept := by
  unfold State.barrierArrive
  repeat' first
    | with_reducible rfl
    | (simp only [kept_mk, State.kept_fold, apply_ite State.kept, ite_self, updJob_kept, sendPeg_kept, jobPeg_kept]; done)
    | simp only [kept_mk, State.kept_fold]
    | dsimp only
    | intro _
    | split
    | with_reducible refine (updJob_kept ..).trans ?_
    | with_reducible refine (sendPeg_kept ..).trans ?_
    | with_reducible refine (jobPeg_kept ..).trans ?_

theorem barrierArrive_canon (s : State) (c : Nat) (hs : s.Canonical) : (State.barrierArrive s c).Canonical := by
  unfold State.barrierArrive
  repeat' first
    | with_reducible assumption
    | with_reducible intro _
    | simp only [canon_mk, canon_fold]
    | with_reducible apply updJob_canon
    | with_reducible apply sendPeg_canon
    | with_reducible apply jobPeg_canon
    | dsimp only
    | split

theorem waitDone_kept (s : State) (w : PegWait) : (State.waitDone s w).kept = s.kept := by
  unfold State.waitDone
  repeat' first
    | with_reducible rfl
    | (simp only [State.kept_bump, kept_mk, State.kept_fold, apply_ite State.kept, ite_self, kept_forEach, kept_foldl, implies_true, sendPeg_kept,
        fillersEnd_kept, jobPeg_kept]; done)
    | simp only [kept_mk, State.kept_fold]
    | dsimp only
    | intro _
    | split
    | (with_reducible refine (kept_forEach _ _ _ ?_).trans ?_)
    | with_reducible refine (sendPeg_kept ..).trans ?_
    | with_reducible refine (fillersEnd_kept ..).trans ?_
    | with_reducible refine (jobPeg_kept ..).trans ?_
    | with_reducible refine (State.kept_bump ..).trans ?_

theorem waitDone_canon (s : State) (w : PegWait) (hs : s.Canonical) : (State.waitDone s w).Canonical := by
  unfold State.waitDone
  repeat' first
    | with_reducible assumption
    | with_reducible intro _
    | simp only [canon_mk, canon_fold]
    | with_reducible apply canon_bump
    | with_reducible apply canon_forEach
    | with_reducible apply canon_foldl
    | with_reducible apply sendPeg_canon
    | with_reducible apply fillersEnd_canon
    | with_reducible apply jobPeg_canon
    | dsimp only
    | split

theorem pegWaitComplete_kept (s : State) (k : Nat) : (State.pegWaitComplete s k).kept = s.kept := by
  unfold State.pegWaitComplete
  repeat' first
    | with_reducible rfl
    | (simp only [kept_mk, State.kept_fold, apply_ite State.kept, ite_self, waitDone_kept]; done)
    | dsimp only
    | intro _
    | split

theorem pegWaitComplete_canon (s : State) (k : Nat) (hs : s.Canonical) : (State.pegWaitComplete s k).Canonical := by
  unfold State.pegWaitComplete
  repeat' first
    | with_reducible assumption
    | simp only [canon_mk, canon_fold]
    | with_reducible apply waitDone_canon
    | split

end Sys2Proof.Machine
end

