-- ==== Sys2Proof/Laws/JobFrames.lean ====
section
/-! SUPPORT. What jobs, cameras and the wake cascade leave: the queue of commands and OTP (`_kept`), and the canonical form (`_canon`). -/

set_option linter.unusedSimpArgs false

namespace Sys2Proof.Machine

/-! ## Job start and result -/

theorem settleJob_kept (s : State) (id : JobId) : (State.settleJob s id).kept = s.kept := by
  unfold State.settleJob
  repeat' first
    | with_reducible rfl
    | (simp only [State.kept_set, apply_ite State.kept, updJob_kept]; done)
    | dsimp only
    | intro _
    | split

theorem settleJob_canon (s : State) (id : JobId) (hs : s.Canonical) : (State.settleJob s id).Canonical := by
  unfold State.settleJob
  repeat' first
    | with_reducible assumption
    | with_reducible intro _
    | simp only [canon_mk, canon_fold]
    | with_reducible apply canon_set
    | with_reducible apply updJob_canon
    | split

theorem settleContext_kept (s : State) (c : Nat) : (State.settleContext s c).kept = s.kept := by
  unfold State.settleContext
  simp only [kept_forEach, implies_true, settleJob_kept]

theorem settleContext_canon (s : State) (c : Nat) (hs : s.Canonical) : (State.settleContext s c).Canonical := by
  unfold State.settleContext
  repeat' first
    | with_reducible assumption
    | with_reducible intro _
    | with_reducible apply canon_set
    | with_reducible apply canon_forEach
    | with_reducible apply settleJob_canon
    | split

theorem settleAll_kept (s : State) : (State.settleAll s).kept = s.kept := by
  unfold State.settleAll
  simp only [kept_forEach, implies_true, settleJob_kept]

theorem settleAll_canon (s : State) (hs : s.Canonical) : (State.settleAll s).Canonical := by
  unfold State.settleAll
  repeat' first
    | with_reducible assumption
    | with_reducible intro _
    | with_reducible apply canon_set
    | with_reducible apply canon_forEach
    | with_reducible apply settleJob_canon
    | split

theorem readList_kept (s : State) (id : JobId) (n c a : Nat) (mem : ReadOutcome) (host : HostOutcome) :
    (State.readList s id n c a mem host).1.kept = s.kept := by
  unfold State.readList
  simp only [dowelRead_kept, warn_kept]

theorem readList_canon (s : State) (id : JobId) (n c a : Nat) (mem : ReadOutcome) (host : HostOutcome) (hs : s.Canonical) :
    (State.readList s id n c a mem host).1.Canonical := by
  unfold State.readList
  repeat' first
    | with_reducible assumption
    | simp only [canon_mk, canon_fold]
    | with_reducible apply dowelRead_canon
    | with_reducible apply warn_canon
    | split

theorem publish_kept (s : State) (id : JobId) (c : Nat) : (State.publish s id c).kept = s.kept := by
  unfold State.publish
  simp only [State.kept_setAll, apply_ite State.kept, ite_self, kept_forEach, implies_true]

theorem publish_canon (s : State) (id : JobId) (c : Nat) (hs : s.Canonical) : (State.publish s id c).Canonical := by
  unfold State.publish
  repeat' first
    | with_reducible assumption
    | with_reducible intro _
    | simp only [canon_mk, canon_fold]
    | with_reducible apply canon_set
    | with_reducible apply canon_setAll
    | with_reducible apply canon_forEach
    | split

theorem openRun_kept (s : State) (c : Nat) (f : FabricPart) : (State.openRun s c f).kept = s.kept := by
  unfold State.openRun
  repeat' first
    | with_reducible rfl
    | (simp only [State.kept_bump, State.kept_drop, kept_mk, State.kept_fold, kept_forEach, kept_foldl, implies_true, sendAck_kept, creditAcks_kept]; done)
    | simp only [kept_mk, State.kept_fold]
    | dsimp only
    | intro _
    | split
    | (with_reducible refine (kept_forEach _ _ _ ?_).trans ?_)
    | with_reducible refine (sendAck_kept ..).trans ?_
    | with_reducible refine (creditAcks_kept ..).trans ?_
    | with_reducible refine (State.kept_bump ..).trans ?_

theorem openRun_canon (s : State) (c : Nat) (f : FabricPart) (hs : s.Canonical) : (State.openRun s c f).Canonical := by
  unfold State.openRun
  repeat' first
    | with_reducible assumption
    | with_reducible intro _
    | simp only [canon_mk, canon_fold]
    | with_reducible apply canon_bump
    | with_reducible apply canon_drop
    | with_reducible apply canon_forEach
    | with_reducible apply canon_foldl
    | with_reducible apply sendAck_canon
    | with_reducible apply creditAcks_canon
    | dsimp only
    | split

theorem startRun_kept (s : State) (c : Nat) (g : Graph) : (State.startRun s c g).kept = s.kept := by
  unfold State.startRun
  repeat' first
    | with_reducible rfl
    | (simp only [kept_mk, State.kept_fold, apply_ite State.kept, ite_self, openRun_kept]; done)
    | simp only [kept_mk, State.kept_fold]
    | dsimp only
    | intro _
    | split
    | with_reducible refine (openRun_kept ..).trans ?_

theorem startRun_canon (s : State) (c : Nat) (g : Graph) (hs : s.Canonical) : (State.startRun s c g).Canonical := by
  unfold State.startRun
  repeat' first
    | with_reducible assumption
    | with_reducible intro _
    | simp only [canon_mk, canon_fold]
    | with_reducible apply openRun_canon
    | dsimp only
    | split

theorem issueWait_kept (s : State) (j : Job) (o : Nat) (w : OpWait) : (State.issueWait s j o w).kept = s.kept := by
  unfold State.issueWait
  simp only [kept_mk, State.kept_fold, apply_ite State.kept, ite_self, faultJob_kept, pegFault_kept]

theorem issueWait_canon (s : State) (j : Job) (o : Nat) (w : OpWait) (hs : s.Canonical) : (State.issueWait s j o w).Canonical := by
  unfold State.issueWait
  repeat' first
    | with_reducible assumption
    | simp only [canon_mk, canon_fold]
    | with_reducible apply faultJob_canon
    | with_reducible apply pegFault_canon
    | split

theorem issueWaits_kept (s : State) (j : Job) (o : Nat) (d : OpDef) (q : Nat) : (State.issueWaits s j o d q).kept = s.kept := by
  unfold State.issueWaits
  simp only [kept_forEach, implies_true, issueWait_kept]

theorem issueWaits_canon (s : State) (j : Job) (o : Nat) (d : OpDef) (q : Nat) (hs : s.Canonical) : (State.issueWaits s j o d q).Canonical := by
  unfold State.issueWaits
  repeat' first
    | with_reducible assumption
    | with_reducible intro _
    | with_reducible apply canon_forEach
    | with_reducible apply issueWait_canon
    | split

theorem takeSnapshot_kept (s : State) (id : JobId) (k n : Nat) (rd : ReadOutcome) : (State.takeSnapshot s id k n rd).kept = s.kept := by
  unfold State.takeSnapshot
  repeat' first
    | with_reducible rfl
    | (simp only [State.kept_bump, kept_mk, State.kept_fold, apply_ite State.kept, ite_self, kept_forEach, kept_foldl, implies_true, updJob_kept,
        takeRanges_kept, warn_kept]; done)
    | simp only [kept_mk, State.kept_fold]
    | dsimp only
    | intro _
    | split
    | (with_reducible refine (kept_forEach _ _ _ ?_).trans ?_)
    | (with_reducible refine (kept_foldl _ _ _ ?_).trans ?_)
    | (with_reducible refine (kept_foldl_fst _ _ _ ?_).trans ?_)
    | (with_reducible refine (kept_foldl_snd _ _ _ ?_).trans ?_)
    | with_reducible refine (updJob_kept ..).trans ?_
    | with_reducible refine (takeRanges_kept ..).trans ?_
    | with_reducible refine (warn_kept ..).trans ?_
    | with_reducible refine (State.kept_bump ..).trans ?_

theorem takeSnapshot_canon (s : State) (id : JobId) (k n : Nat) (rd : ReadOutcome) (hs : s.Canonical) : (State.takeSnapshot s id k n rd).Canonical
    := by
  unfold State.takeSnapshot
  repeat' first
    | with_reducible assumption
    | with_reducible intro _
    | simp only [canon_mk, canon_fold]
    | with_reducible apply canon_bump
    | with_reducible apply canon_forEach
    | with_reducible apply canon_foldl
    | with_reducible apply canon_foldl_fst
    | with_reducible apply canon_foldl_snd
    | with_reducible apply updJob_canon
    | with_reducible apply takeRanges_canon
    | with_reducible apply warn_canon
    | dsimp only
    | split

theorem readLists_kept (s : State) (n : Nat) (r : StartReq) (env : StartEnv) : (State.readLists s n r env).1.kept = s.kept := by
  unfold State.readLists
  repeat' first
    | with_reducible rfl
    | (simp only [readList_kept]; done)
    | dsimp only
    | intro _
    | split

theorem readLists_canon (s : State) (n : Nat) (r : StartReq) (env : StartEnv) (hs : s.Canonical) : (State.readLists s n r env).1.Canonical := by
  unfold State.readLists
  repeat' first
    | with_reducible assumption
    | dsimp only
    | with_reducible apply readList_canon
    | split

theorem readChunkCtl_kept (s : State) (j : Job) (g : Graph) (n : Nat) (env : StartEnv) : (State.readChunkCtl s j g n env).1.kept = s.kept := by
  unfold State.readChunkCtl
  repeat' first
    | with_reducible rfl
    | (simp only [dowelRead_kept, warn_kept]; done)
    | dsimp only
    | intro _
    | split

theorem readChunkCtl_canon (s : State) (j : Job) (g : Graph) (n : Nat) (env : StartEnv) (hs : s.Canonical) :
    (State.readChunkCtl s j g n env).1.Canonical := by
  unfold State.readChunkCtl
  repeat' first
    | with_reducible assumption
    | dsimp only
    | with_reducible apply canon_drop
    | with_reducible apply dowelRead_canon
    | with_reducible apply warn_canon
    | split

theorem startCtl_kept (s : State) (r : StartReq) (j : Job) (g : Graph) (n : Nat) (env : StartEnv) : (State.startCtl s r j g n env).1.kept = s.kept := by
  unfold State.startCtl
  repeat' first
    | with_reducible rfl
    | (simp only [readChunkCtl_kept]; done)
    | dsimp only
    | intro _
    | split

theorem startCtl_canon (s : State) (r : StartReq) (j : Job) (g : Graph) (n : Nat) (env : StartEnv) (hs : s.Canonical) :
    (State.startCtl s r j g n env).1.Canonical := by
  unfold State.startCtl
  repeat' first
    | with_reducible assumption
    | dsimp only
    | with_reducible apply readChunkCtl_canon
    | split

theorem bindJob_kept (s : State) (r : StartReq) (g : Graph) (ctl : Option ChunkCtl) (bents : List Nat) (env : StartEnv) : (State.bindJob s r g ctl
    bents env).kept = s.kept := by
  unfold State.bindJob
  repeat' first
    | with_reducible rfl
    | (simp only [kept_mk, State.kept_fold, applyEdits_kept, startChunk_kept, reserveStep_kept, takeSnapshot_kept]; done)
    | simp only [kept_mk, State.kept_fold]
    | dsimp only
    | intro _
    | split
    | with_reducible refine (applyEdits_kept ..).trans ?_
    | with_reducible refine (startChunk_kept ..).trans ?_
    | with_reducible refine (reserveStep_kept ..).trans ?_
    | with_reducible refine (takeSnapshot_kept ..).trans ?_

theorem bindJob_canon (s : State) (r : StartReq) (g : Graph) (ctl : Option ChunkCtl) (bents : List Nat) (env : StartEnv) (hs : s.Canonical) :
    (State.bindJob s r g ctl bents env).Canonical := by
  unfold State.bindJob
  repeat' first
    | with_reducible assumption
    | with_reducible intro _
    | simp only [canon_mk, canon_fold]
    | with_reducible apply applyEdits_canon
    | with_reducible apply startChunk_canon
    | with_reducible apply reserveStep_canon
    | with_reducible apply takeSnapshot_canon
    | dsimp only
    | split

theorem placeJob_kept (s : State) (r : StartReq) (g : Graph) (ctl : Option ChunkCtl) (j : Job) (env : StartEnv) : (State.placeJob s r g ctl j
    env).kept = s.kept := by
  unfold State.placeJob
  repeat' first
    | with_reducible rfl
    | (simp only [kept_mk, State.kept_fold, apply_ite State.kept, ite_self, kept_forEach, kept_foldl, implies_true, demand_kept, updJob_kept,
        settleJob_kept, issueWaits_kept, bindJob_kept]; done)
    | simp only [kept_mk, State.kept_fold]
    | dsimp only
    | intro _
    | split
    | (with_reducible refine (kept_forEach _ _ _ ?_).trans ?_)
    | (with_reducible refine (kept_foldl _ _ _ ?_).trans ?_)
    | (with_reducible refine (kept_foldl_fst _ _ _ ?_).trans ?_)
    | (with_reducible refine (kept_foldl_snd _ _ _ ?_).trans ?_)
    | with_reducible refine (demand_kept ..).trans ?_
    | with_reducible refine (updJob_kept ..).trans ?_
    | with_reducible refine (settleJob_kept ..).trans ?_
    | with_reducible refine (issueWaits_kept ..).trans ?_
    | with_reducible refine (bindJob_kept ..).trans ?_

theorem placeJob_canon (s : State) (r : StartReq) (g : Graph) (ctl : Option ChunkCtl) (j : Job) (env : StartEnv) (hs : s.Canonical) :
    (State.placeJob s r g ctl j env).Canonical := by
  unfold State.placeJob
  repeat' first
    | with_reducible assumption
    | with_reducible intro _
    | simp only [canon_mk, canon_fold]
    | with_reducible apply canon_forEach
    | with_reducible apply canon_foldl
    | with_reducible apply canon_foldl_fst
    | with_reducible apply canon_foldl_snd
    | with_reducible apply demand_canon
    | with_reducible apply updJob_canon
    | with_reducible apply settleJob_canon
    | with_reducible apply issueWaits_canon
    | with_reducible apply bindJob_canon
    | dsimp only
    | split

theorem startJob_kept (s : State) (r : StartReq) (env : StartEnv) (subst : Binding → Option Nat) : (State.startJob s r env subst).kept = s.kept := by
  unfold State.startJob
  repeat' first
    | with_reducible rfl
    | (simp only [State.kept_set, kept_mk, State.kept_fold, apply_ite State.kept, ite_self, resetPegs_kept, updJob_kept, faultJob_kept, publish_kept,
        startRun_kept, readLists_kept, startCtl_kept, placeJob_kept]; done)
    | simp only [kept_mk, State.kept_fold]
    | dsimp only
    | intro _
    | split
    | with_reducible refine (resetPegs_kept ..).trans ?_
    | with_reducible refine (updJob_kept ..).trans ?_
    | with_reducible refine (faultJob_kept ..).trans ?_
    | with_reducible refine (publish_kept ..).trans ?_
    | with_reducible refine (startRun_kept ..).trans ?_
    | with_reducible refine (readLists_kept ..).trans ?_
    | with_reducible refine (startCtl_kept ..).trans ?_
    | with_reducible refine (placeJob_kept ..).trans ?_
    | with_reducible refine (State.kept_set ..).trans ?_

theorem startJob_canon (s : State) (r : StartReq) (env : StartEnv) (subst : Binding → Option Nat) (hs : s.Canonical) : (State.startJob s r env
    subst).Canonical := by
  unfold State.startJob
  repeat' first
    | with_reducible assumption
    | with_reducible intro _
    | simp only [canon_mk, canon_fold]
    | with_reducible apply canon_set
    | with_reducible apply resetPegs_canon
    | with_reducible apply updJob_canon
    | with_reducible apply faultJob_canon
    | with_reducible apply publish_canon
    | with_reducible apply startRun_canon
    | with_reducible apply readLists_canon
    | with_reducible apply startCtl_canon
    | with_reducible apply placeJob_canon
    | dsimp only
    | split

theorem jobStart_kept (s : State) (c : Fin 16384) (env : StartEnv) : (State.jobStart s c env).kept = s.kept := by
  unfold State.jobStart
  repeat' first
    | with_reducible rfl
    | (simp only [State.kept_setAll, kept_mk, State.kept_fold, apply_ite State.kept, ite_self, exitSelfRefresh_kept, startJob_kept]; done)
    | dsimp only
    | intro _
    | split

theorem jobStart_canon (s : State) (c : Fin 16384) (env : StartEnv) (hs : s.Canonical) : (State.jobStart s c env).Canonical := by
  unfold State.jobStart
  repeat' first
    | with_reducible assumption
    | with_reducible intro _
    | simp only [canon_mk, canon_fold]
    | with_reducible apply canon_set
    | with_reducible apply canon_setAll
    | with_reducible apply exitSelfRefresh_canon
    | with_reducible apply startJob_canon
    | split

theorem timeoutSeen_kept (s : State) (j : Job) : (State.timeoutSeen s j).kept = s.kept := by
  unfold State.timeoutSeen
  simp only [State.kept_set, kept_forEach, implies_true]

theorem timeoutSeen_canon (s : State) (j : Job) (hs : s.Canonical) : (State.timeoutSeen s j).Canonical := by
  unfold State.timeoutSeen
  repeat' first
    | with_reducible assumption
    | with_reducible intro _
    | with_reducible apply canon_set
    | with_reducible apply canon_forEach
    | split

theorem jobTimeout_kept (s : State) (id : JobId) : (State.jobTimeout s id).kept = s.kept := by
  unfold State.jobTimeout
  repeat' first
    | with_reducible rfl
    | (simp only [apply_ite State.kept, ite_self, faultJob_kept, timeoutSeen_kept]; done)
    | dsimp only
    | intro _
    | split

theorem jobTimeout_canon (s : State) (id : JobId) (hs : s.Canonical) : (State.jobTimeout s id).Canonical := by
  unfold State.jobTimeout
  repeat' first
    | with_reducible assumption
    | simp only [canon_mk, canon_fold]
    | with_reducible apply faultJob_canon
    | with_reducible apply timeoutSeen_canon
    | split

theorem writeSlot_kept (s : State) (r : Nat) (b : SlotBody) : (State.writeSlot s r b).kept = s.kept := by
  unfold State.writeSlot
  repeat' first
    | with_reducible rfl
    | (simp only [State.kept_set, State.kept_bump, State.kept_drop, kept_mk, State.kept_fold, apply_ite State.kept, ite_self, message_kept, postHost_kept];
        done)
    | simp only [kept_mk, State.kept_fold]
    | dsimp only
    | intro _
    | split
    | with_reducible refine (message_kept ..).trans ?_
    | with_reducible refine (postHost_kept ..).trans ?_
    | with_reducible refine (State.kept_set ..).trans ?_
    | with_reducible refine (State.kept_bump ..).trans ?_

theorem writeSlot_canon (s : State) (r : Nat) (b : SlotBody) (hs : s.Canonical) : (State.writeSlot s r b).Canonical := by
  unfold State.writeSlot
  repeat' first
    | with_reducible assumption
    | with_reducible intro _
    | simp only [canon_mk, canon_fold]
    | with_reducible apply canon_set
    | with_reducible apply canon_bump
    | with_reducible apply canon_drop
    | with_reducible apply message_canon
    | with_reducible apply postHost_canon
    | with_reducible apply canon_store
    | with_reducible apply canon_change
    | with_reducible apply canon_host
    | with_reducible apply canon_bar4
    | with_reducible apply canon_staging
    | with_reducible apply canon_setSlot
    | with_reducible apply Mem.wf_write
    | with_reducible apply Mem.wf_writeBytes
    | with_reducible apply Mem.wf_writeNum
    | with_reducible apply Mem.wf_clear
    | with_reducible apply wf_forEach
    | with_reducible apply wf_foldl_fst
    | with_reducible apply canon_ddr_wf
    | with_reducible apply canon_check_wf
    | with_reducible apply canon_host_wf
    | with_reducible apply canon_bar4_wf
    | with_reducible apply canon_staging_wf
    | with_reducible apply canon_slot_wf
    | with_reducible apply splice_wf
    | with_reducible apply scramble_wf
    | with_reducible apply canon_regsOk
    | with_reducible apply regsOk_filter
    | with_reducible apply regsOk_nil
    | with_reducible apply wf_nil
    | with_reducible apply check_nil
    | with_reducible apply check_filter
    | with_reducible apply canon_slot0_wf
    | with_reducible apply canon_slot1_wf
    | dsimp only
    | split
    | with_reducible apply canon_parts

theorem notice_kept (s : State) (r : Nat) (b : SlotBody) : (State.notice s r b).kept = s.kept := by
  unfold State.notice
  repeat' first
    | with_reducible rfl
    | (simp only [State.kept_set, State.kept_bump, apply_ite State.kept, ite_self, event_kept, writeSlot_kept]; done)
    | dsimp only
    | intro _
    | split
    | with_reducible refine (event_kept ..).trans ?_
    | with_reducible refine (writeSlot_kept ..).trans ?_
    | with_reducible refine (State.kept_set ..).trans ?_
    | with_reducible refine (State.kept_bump ..).trans ?_

theorem notice_canon (s : State) (r : Nat) (b : SlotBody) (hs : s.Canonical) : (State.notice s r b).Canonical := by
  unfold State.notice
  repeat' first
    | with_reducible assumption
    | with_reducible intro _
    | with_reducible apply canon_bump
    | with_reducible apply event_canon
    | with_reducible apply writeSlot_canon
    | dsimp only
    | split

theorem releaseBents_kept (s : State) (j : Job) : (State.releaseBents s j).kept = s.kept := by
  unfold State.releaseBents
  simp only [kept_mk, State.kept_fold, kept_forEach, implies_true, freeSlot_kept, scrubPages_kept]

theorem releaseBents_canon (s : State) (j : Job) (hs : s.Canonical) : (State.releaseBents s j).Canonical := by
  unfold State.releaseBents
  repeat' first
    | with_reducible assumption
    | with_reducible intro _
    | simp only [canon_mk, canon_fold]
    | with_reducible apply canon_forEach
    | with_reducible apply freeSlot_canon
    | with_reducible apply scrubPages_canon
    | split

theorem closeFlows_kept (s : State) (j : Job) : (State.closeFlows s j).kept = s.kept := by
  unfold State.closeFlows
  repeat' first
    | with_reducible rfl
    | (simp only [State.kept_bump, kept_mk, State.kept_fold]; done)
    | dsimp only
    | intro _
    | split

theorem closeFlows_canon (s : State) (j : Job) (hs : s.Canonical) : (State.closeFlows s j).Canonical := by
  unfold State.closeFlows
  repeat' first
    | with_reducible assumption
    | with_reducible intro _
    | simp only [canon_mk, canon_fold]
    | with_reducible apply canon_bump
    | split

theorem releaseSnapshot_kept (s : State) (j : Job) : (State.releaseSnapshot s j).kept = s.kept := by
  unfold State.releaseSnapshot
  repeat' first
    | with_reducible rfl
    | (simp only [kept_forEach, implies_true, pegAdd_kept, pushStack_kept, reclaimPool_kept]; done)
    | dsimp only
    | intro _
    | split
    | (refine (kept_forEach _ _ _ ?_).trans ?_)

theorem releaseSnapshot_canon (s : State) (j : Job) (hs : s.Canonical) : (State.releaseSnapshot s j).Canonical := by
  unfold State.releaseSnapshot
  repeat' first
    | with_reducible assumption
    | with_reducible intro _
    | simp only [canon_mk, canon_fold]
    | with_reducible apply canon_forEach
    | with_reducible apply pegAdd_canon
    | with_reducible apply pushStack_canon
    | with_reducible apply reclaimPool_canon
    | split

theorem leaveQueue_kept (s : State) (j : Job) : (State.leaveQueue s j).kept = s.kept := by
  unfold State.leaveQueue
  repeat' first
    | with_reducible rfl
    | (simp only [State.kept_set, State.kept_bump, State.kept_setAll, kept_mk, State.kept_fold, pegAdd_kept, fillersEnd_kept, examine_kept,
        releaseBents_kept, closeFlows_kept, releaseSnapshot_kept]; done)
    | simp only [kept_mk, State.kept_fold]
    | dsimp only
    | intro _
    | split
    | with_reducible refine (pegAdd_kept ..).trans ?_
    | with_reducible refine (fillersEnd_kept ..).trans ?_
    | with_reducible refine (examine_kept ..).trans ?_
    | with_reducible refine (releaseBents_kept ..).trans ?_
    | with_reducible refine (closeFlows_kept ..).trans ?_
    | with_reducible refine (releaseSnapshot_kept ..).trans ?_
    | with_reducible refine (State.kept_set ..).trans ?_
    | with_reducible refine (State.kept_setAll ..).trans ?_
    | with_reducible refine (State.kept_bump ..).trans ?_

theorem leaveQueue_canon (s : State) (j : Job) (hs : s.Canonical) : (State.leaveQueue s j).Canonical := by
  unfold State.leaveQueue
  repeat' first
    | with_reducible assumption
    | with_reducible intro _
    | simp only [canon_mk, canon_fold]
    | with_reducible apply canon_set
    | with_reducible apply canon_setAll
    | with_reducible apply canon_bump
    | with_reducible apply pegAdd_canon
    | with_reducible apply fillersEnd_canon
    | with_reducible apply examine_canon
    | with_reducible apply releaseBents_canon
    | with_reducible apply closeFlows_canon
    | with_reducible apply releaseSnapshot_canon
    | dsimp only
    | split

theorem postResult_kept (s : State) (j : Job) : (State.postResult s j).1.kept = s.kept := by
  unfold State.postResult
  repeat' first
    | with_reducible rfl
    | (simp only [State.kept_set, State.kept_bump, kept_mk, State.kept_fold, apply_ite State.kept, ite_self, event_kept, updJob_kept, writeSlot_kept]; done)
    | simp only [kept_mk, State.kept_fold]
    | dsimp only
    | intro _
    | split
    | with_reducible refine (event_kept ..).trans ?_
    | with_reducible refine (updJob_kept ..).trans ?_
    | with_reducible refine (writeSlot_kept ..).trans ?_
    | with_reducible refine (State.kept_set ..).trans ?_
    | with_reducible refine (State.kept_bump ..).trans ?_

theorem postResult_canon (s : State) (j : Job) (hs : s.Canonical) : (State.postResult s j).1.Canonical := by
  unfold State.postResult
  repeat' first
    | with_reducible assumption
    | with_reducible intro _
    | simp only [canon_mk, canon_fold]
    | with_reducible apply canon_bump
    | with_reducible apply event_canon
    | with_reducible apply updJob_canon
    | with_reducible apply writeSlot_canon
    | dsimp only
    | split

/-! ## Camera ingest -/

theorem updFrame_kept (s : State) (k : Nat) (f : CamFrame → CamFrame) : (State.updFrame s k f).kept = s.kept := by
  unfold State.updFrame
  simp only [kept_mk, State.kept_fold]

theorem updFrame_canon (s : State) (k : Nat) (f : CamFrame → CamFrame) (hs : s.Canonical) : (State.updFrame s k f).Canonical := by
  unfold State.updFrame
  repeat' first
    | with_reducible assumption
    | with_reducible intro _
    | simp only [canon_mk, canon_fold]

    | split

theorem updCam_kept (s : State) (k seq : Nat) (f : CamFrame → CamFrame) : (State.updCam s k seq f).kept = s.kept := by
  unfold State.updCam
  simp only [kept_mk, State.kept_fold]

theorem updCam_canon (s : State) (k seq : Nat) (f : CamFrame → CamFrame) (hs : s.Canonical) : (State.updCam s k seq f).Canonical := by
  unfold State.updCam
  repeat' first
    | with_reducible assumption
    | with_reducible intro _
    | simp only [canon_mk, canon_fold]

    | split

theorem passSet_kept (s : State) (k : Nat) (f : CamFrame) : (State.passSet s k f).kept = s.kept := by
  unfold State.passSet
  simp only [State.kept_bump, apply_ite State.kept, ite_self, demand_kept, updFrame_kept]

theorem passSet_canon (s : State) (k : Nat) (f : CamFrame) (hs : s.Canonical) : (State.passSet s k f).Canonical := by
  unfold State.passSet
  repeat' first
    | with_reducible assumption
    | with_reducible intro _
    | simp only [canon_mk, canon_fold]
    | with_reducible apply canon_set
    | with_reducible apply canon_bump
    | with_reducible apply demand_canon
    | with_reducible apply updFrame_canon
    | split

theorem takeLine_kept (s : State) (k e : Nat) (crcOk : Bool) (payload : List Byte) : (State.takeLine s k e crcOk payload).kept = s.kept := by
  unfold State.takeLine
  repeat' first
    | with_reducible rfl
    | (simp only [State.kept_bump, apply_ite State.kept, ite_self, passSet_kept, updFrame_kept]; done)
    | dsimp only
    | intro _
    | split

theorem takeLine_canon (s : State) (k e : Nat) (crcOk : Bool) (payload : List Byte) (hs : s.Canonical) :
    (State.takeLine s k e crcOk payload).Canonical := by
  unfold State.takeLine
  repeat' first
    | with_reducible assumption
    | with_reducible intro _
    | simp only [canon_mk, canon_fold]
    | with_reducible apply canon_set
    | with_reducible apply canon_bump
    | with_reducible apply passSet_canon
    | with_reducible apply updFrame_canon
    | split

theorem completeSets_kept (s : State) (k : Nat) (x0 : Nat) : (State.completeSets s k x0).kept = s.kept := by
  induction x0 generalizing s with
  | zero => rfl
  | succ n ih =>
    unfold State.completeSets
    split
    · rfl
    · split
      · rfl
      · dsimp only
        split <;> simp only [ih, passSet_kept, updFrame_kept]

theorem completeSets_canon (s : State) (k : Nat) (x0 : Nat) (hs : s.Canonical) : (State.completeSets s k x0).Canonical := by
  induction x0 generalizing s with
  | zero => exact hs
  | succ n ih =>
    unfold State.completeSets
    split
    · exact hs
    · split
      · exact hs
      · dsimp only
        split
        · exact ih _ (passSet_canon _ _ _ (updFrame_canon _ _ _ hs))
        · exact ih _ (updFrame_canon _ _ _ hs)

theorem dropOpen_kept (s : State) (k : Nat) : (State.dropOpen s k).kept = s.kept := by
  unfold State.dropOpen
  simp only [kept_mk, State.kept_fold]

theorem dropOpen_canon (s : State) (k : Nat) (hs : s.Canonical) : (State.dropOpen s k).Canonical := by
  unfold State.dropOpen
  repeat' first
    | with_reducible assumption
    | with_reducible intro _
    | simp only [canon_mk, canon_fold]

    | split

theorem closeFrame_kept (s : State) (k flags next : Nat) : (State.closeFrame s k flags next).kept = s.kept := by
  unfold State.closeFrame
  repeat' first
    | with_reducible rfl
    | (simp only [State.kept_set, apply_ite State.kept, ite_self, completeSets_kept, dropOpen_kept, updFrame_kept]; done)
    | dsimp only
    | intro _
    | split
    | (refine (kept_foldl _ _ _ ?_).trans ?_)

theorem closeFrame_canon (s : State) (k flags next : Nat) (hs : s.Canonical) : (State.closeFrame s k flags next).Canonical := by
  unfold State.closeFrame
  repeat' first
    | with_reducible assumption
    | with_reducible intro _
    | simp only [canon_mk, canon_fold]
    | with_reducible apply canon_set
    | with_reducible apply canon_drop
    | with_reducible apply canon_foldl
    | with_reducible apply canon_foldl_fst
    | with_reducible apply canon_foldl_snd
    | with_reducible apply completeSets_canon
    | with_reducible apply dropOpen_canon
    | with_reducible apply updFrame_canon
    | split

theorem glanceUpdate_kept (s : State) : (State.glanceUpdate s).kept = s.kept := by
  unfold State.glanceUpdate
  simp only [State.kept_set, kept_mk, State.kept_fold]

theorem glanceUpdate_canon (s : State) (hs : s.Canonical) : (State.glanceUpdate s).Canonical := by
  unfold State.glanceUpdate
  repeat' first
    | with_reducible assumption
    | simp only [canon_mk, canon_fold]
    | with_reducible apply canon_set
    | split

theorem csiHeader_kept (s : State) (p : Nat) (h : HdrState) : (State.csiHeader s p h).1.kept = s.kept := by
  unfold State.csiHeader
  repeat' first
    | with_reducible rfl
    | (simp only [State.kept_set, State.kept_bump]; done)
    | dsimp only
    | intro _
    | split

theorem csiHeader_canon (s : State) (p : Nat) (h : HdrState) (hs : s.Canonical) : (State.csiHeader s p h).1.Canonical := by
  unfold State.csiHeader
  repeat' first
    | with_reducible assumption
    | simp only [canon_mk, canon_fold]
    | with_reducible apply canon_set
    | with_reducible apply canon_bump
    | split

theorem unbound_kept (s : State) (p : Nat) : (State.unbound s p).kept = s.kept := by
  unfold State.unbound
  simp only [State.kept_bump]

theorem unbound_canon (s : State) (p : Nat) (hs : s.Canonical) : (State.unbound s p).Canonical := by
  unfold State.unbound
  repeat' first
    | with_reducible assumption
    | with_reducible apply canon_bump
    | split

theorem outside_kept (s : State) (p k : Nat) : (State.outside s p k).kept = s.kept := by
  unfold State.outside
  simp only [State.kept_bump, apply_ite State.kept, ite_self]

theorem outside_canon (s : State) (p k : Nat) (hs : s.Canonical) : (State.outside s p k).Canonical := by
  unfold State.outside
  repeat' first
    | with_reducible assumption
    | with_reducible apply canon_bump
    | split

theorem createLoopJob_kept (s : State) (k seq buf slot : Nat) (prev : Option (Nat × Nat)) : (State.createLoopJob s k seq buf slot prev).kept = s.kept := by
  unfold State.createLoopJob
  simp only [State.kept_bump, kept_mk, State.kept_fold, apply_ite State.kept, ite_self, notice_kept]

theorem createLoopJob_canon (s : State) (k seq buf slot : Nat) (prev : Option (Nat × Nat)) (hs : s.Canonical) :
    (State.createLoopJob s k seq buf slot prev).Canonical := by
  unfold State.createLoopJob
  repeat' first
    | with_reducible assumption
    | with_reducible intro _
    | simp only [canon_mk, canon_fold]
    | with_reducible apply canon_bump
    | with_reducible apply notice_canon
    | split

theorem loopFrame_kept (s : State) (k seq slot : Nat) : (State.loopFrame s k seq slot).kept = s.kept := by
  unfold State.loopFrame
  simp only [State.kept_set, kept_mk, State.kept_fold, apply_ite State.kept, ite_self, createLoopJob_kept, pegSet_kept, updFrame_kept]

theorem loopFrame_canon (s : State) (k seq slot : Nat) (hs : s.Canonical) : (State.loopFrame s k seq slot).Canonical := by
  unfold State.loopFrame
  repeat' first
    | with_reducible assumption
    | with_reducible intro _
    | simp only [canon_mk, canon_fold]
    | with_reducible apply canon_set
    | with_reducible apply createLoopJob_canon
    | with_reducible apply pegSet_canon
    | with_reducible apply updFrame_canon
    | split

theorem beginFrame_kept (s : State) (k number : Nat) : (State.beginFrame s k number).kept = s.kept := by
  unfold State.beginFrame
  simp only [State.kept_bump, State.kept_setAll, kept_mk, State.kept_fold, apply_ite State.kept, ite_self, demand_kept, loopFrame_kept, setDom_kept]

theorem beginFrame_canon (s : State) (k number : Nat) (hs : s.Canonical) : (State.beginFrame s k number).Canonical := by
  unfold State.beginFrame
  repeat' first
    | with_reducible assumption
    | simp only [canon_mk, canon_fold]
    | with_reducible apply canon_set
    | with_reducible apply canon_setAll
    | with_reducible apply canon_bump
    | with_reducible apply demand_canon
    | with_reducible apply loopFrame_canon
    | with_reducible apply setDom_canon
    | split

theorem frameStart_kept (s : State) (p vc : Nat) (h : HdrState) (number : Nat) : (State.frameStart s p vc h number).kept = s.kept := by
  unfold State.frameStart
  repeat' first
    | with_reducible rfl
    | (simp only [State.kept_bump, apply_ite State.kept, beginFrame_kept, closeFrame_kept, csiHeader_kept, unbound_kept]; done)
    | dsimp only
    | intro _
    | split
    | (refine (kept_forEach _ _ _ ?_).trans ?_)

theorem frameStart_canon (s : State) (p vc : Nat) (h : HdrState) (number : Nat) (hs : s.Canonical) : (State.frameStart s p vc h number).Canonical := by
  unfold State.frameStart
  repeat' first
    | with_reducible assumption
    | with_reducible intro _
    | simp only [canon_mk, canon_fold]
    | with_reducible apply canon_bump
    | with_reducible apply canon_forEach
    | with_reducible apply beginFrame_canon
    | with_reducible apply closeFrame_canon
    | with_reducible apply csiHeader_canon
    | with_reducible apply unbound_canon
    | split

theorem endInstead_kept (s : State) (k : Nat) : (State.endInstead s k).kept = s.kept := by
  unfold State.endInstead
  simp only [kept_mk, State.kept_fold]

theorem endInstead_canon (s : State) (k : Nat) (hs : s.Canonical) : (State.endInstead s k).Canonical := by
  unfold State.endInstead
  repeat' first
    | with_reducible assumption
    | with_reducible intro _
    | simp only [canon_mk, canon_fold]

    | split

theorem frameEnd_kept (s : State) (p vc : Nat) (h : HdrState) : (State.frameEnd s p vc h).kept = s.kept := by
  unfold State.frameEnd
  repeat' first
    | with_reducible rfl
    | (simp only [State.kept_bump, apply_ite State.kept, ite_self, kept_forEach, implies_true, closeFrame_kept, csiHeader_kept, endInstead_kept, outside_kept, unbound_kept]; done)
    | dsimp only
    | intro _
    | split
    | (refine (kept_forEach _ _ _ ?_).trans ?_)

theorem frameEnd_canon (s : State) (p vc : Nat) (h : HdrState) (hs : s.Canonical) : (State.frameEnd s p vc h).Canonical := by
  unfold State.frameEnd
  repeat' first
    | with_reducible assumption
    | with_reducible intro _
    | simp only [canon_mk, canon_fold]
    | with_reducible apply canon_bump
    | with_reducible apply canon_forEach
    | with_reducible apply closeFrame_canon
    | with_reducible apply csiHeader_canon
    | with_reducible apply endInstead_canon
    | with_reducible apply outside_canon
    | with_reducible apply unbound_canon
    | split

theorem lineStartEnd_kept (s : State) (p vc : Nat) (h : HdrState) : (State.lineStartEnd s p vc h).kept = s.kept := by
  unfold State.lineStartEnd
  simp only [apply_ite State.kept, ite_self, csiHeader_kept, unbound_kept]

theorem lineStartEnd_canon (s : State) (p vc : Nat) (h : HdrState) (hs : s.Canonical) : (State.lineStartEnd s p vc h).Canonical := by
  unfold State.lineStartEnd
  repeat' first
    | with_reducible assumption
    | dsimp only
    | with_reducible apply csiHeader_canon
    | with_reducible apply unbound_canon
    | split

theorem takeEmbedded_kept (s : State) (k : Nat) (crcOk : Bool) (payload : List Byte) : (State.takeEmbedded s k crcOk payload).kept = s.kept := by
  unfold State.takeEmbedded
  simp only [updFrame_kept]

theorem takeEmbedded_canon (s : State) (k : Nat) (crcOk : Bool) (payload : List Byte) (hs : s.Canonical) :
    (State.takeEmbedded s k crcOk payload).Canonical := by
  unfold State.takeEmbedded
  repeat' first
    | with_reducible assumption
    | with_reducible intro _
    | simp only [canon_mk, canon_fold]
    | with_reducible apply updFrame_canon
    | split

theorem longPacket_kept (s : State) (p vc dt : Nat) (h : HdrState) (crcOk : Bool) (payload : List Byte) :
    (State.longPacket s p vc dt h crcOk payload).kept = s.kept := by
  unfold State.longPacket
  repeat' first
    | with_reducible rfl
    | (simp only [State.kept_set, State.kept_bump, apply_ite State.kept, ite_self, csiHeader_kept, outside_kept, takeEmbedded_kept, takeLine_kept, unbound_kept]; done)
    | dsimp only
    | intro _
    | split

theorem longPacket_canon (s : State) (p vc dt : Nat) (h : HdrState) (crcOk : Bool) (payload : List Byte) (hs : s.Canonical) :
    (State.longPacket s p vc dt h crcOk payload).Canonical := by
  unfold State.longPacket
  repeat' first
    | with_reducible assumption
    | with_reducible intro _
    | simp only [canon_mk, canon_fold]
    | with_reducible apply canon_set
    | with_reducible apply canon_bump
    | with_reducible apply csiHeader_canon
    | with_reducible apply outside_canon
    | with_reducible apply takeEmbedded_canon
    | with_reducible apply takeLine_canon
    | with_reducible apply unbound_canon
    | split

theorem idleTimeout_kept (s : State) (k : Nat) : (State.idleTimeout s k).kept = s.kept := by
  unfold State.idleTimeout
  simp only [apply_ite State.kept, ite_self, closeFrame_kept]

theorem idleTimeout_canon (s : State) (k : Nat) (hs : s.Canonical) : (State.idleTimeout s k).Canonical := by
  unfold State.idleTimeout
  repeat' first
    | with_reducible assumption
    | with_reducible apply closeFrame_canon
    | split

theorem camEnable_kept (s : State) (k : Nat) : (State.camEnable s k).kept = s.kept := by
  unfold State.camEnable
  repeat' first
    | with_reducible rfl
    | (simp only [State.kept_set, State.kept_bump, State.kept_setAll, kept_mk, State.kept_fold, apply_ite State.kept, ite_self, refuse_kept, demand_kept,
        floorRecompute_kept, glanceUpdate_kept]; done)
    | simp only [kept_mk, State.kept_fold]
    | dsimp only
    | intro _
    | split
    | with_reducible refine (refuse_kept ..).trans ?_
    | with_reducible refine (demand_kept ..).trans ?_
    | with_reducible refine (floorRecompute_kept ..).trans ?_
    | with_reducible refine (glanceUpdate_kept ..).trans ?_
    | with_reducible refine (State.kept_set ..).trans ?_
    | with_reducible refine (State.kept_setAll ..).trans ?_
    | with_reducible refine (State.kept_bump ..).trans ?_

theorem camEnable_canon (s : State) (k : Nat) (hs : s.Canonical) : (State.camEnable s k).Canonical := by
  unfold State.camEnable
  repeat' first
    | with_reducible assumption
    | with_reducible intro _
    | simp only [canon_mk, canon_fold]
    | with_reducible apply canon_set
    | with_reducible apply canon_setAll
    | with_reducible apply canon_bump
    | with_reducible apply refuse_canon
    | with_reducible apply demand_canon
    | with_reducible apply floorRecompute_canon
    | with_reducible apply glanceUpdate_canon
    | dsimp only
    | split

theorem camOff_kept (s : State) (k : Nat) : (State.camOff s k).kept = s.kept := by
  unfold State.camOff
  simp only [State.kept_drop, State.kept_setAll, kept_mk, State.kept_fold, apply_ite State.kept, ite_self, floorRecompute_kept, glanceUpdate_kept]

theorem camOff_canon (s : State) (k : Nat) (hs : s.Canonical) : (State.camOff s k).Canonical := by
  unfold State.camOff
  repeat' first
    | with_reducible assumption
    | with_reducible intro _
    | simp only [canon_mk, canon_fold]
    | with_reducible apply canon_set
    | with_reducible apply canon_setAll
    | with_reducible apply canon_drop
    | with_reducible apply floorRecompute_canon
    | with_reducible apply glanceUpdate_canon
    | split

theorem camStopped_kept (s : State) (k : Nat) : (State.camStopped s k).kept = s.kept := by
  unfold State.camStopped
  simp only [apply_ite State.kept, ite_self, camOff_kept]

theorem camStopped_canon (s : State) (k : Nat) (hs : s.Canonical) : (State.camStopped s k).Canonical := by
  unfold State.camStopped
  repeat' first
    | with_reducible assumption
    | with_reducible apply camOff_canon
    | split

theorem camDisable_kept (s : State) (k : Nat) : (State.camDisable s k).kept = s.kept := by
  unfold State.camDisable
  repeat' first
    | with_reducible rfl
    | (simp only [State.kept_set, apply_ite State.kept, camOff_kept, camStopped_kept, closeFrame_kept, refuse_kept]; done)
    | dsimp only
    | intro _
    | split

theorem camDisable_canon (s : State) (k : Nat) (hs : s.Canonical) : (State.camDisable s k).Canonical := by
  unfold State.camDisable
  repeat' first
    | with_reducible assumption
    | simp only [canon_mk, canon_fold]
    | with_reducible apply canon_set
    | with_reducible apply camOff_canon
    | with_reducible apply camStopped_canon
    | with_reducible apply closeFrame_canon
    | with_reducible apply refuse_canon
    | split

/-! ## Pixel stages -/

theorem writeTap_kept (s : State) (f : CamFrame) (y k : Nat) (vs : List Nat) (fl : Flags) : (State.writeTap s f y k vs fl).kept = s.kept := by
  unfold State.writeTap
  repeat' first
    | with_reducible rfl
    | (simp only [markLines_kept, writeVA_kept]; done)
    | dsimp only
    | intro _
    | split

theorem writeTap_canon (s : State) (f : CamFrame) (y k : Nat) (vs : List Nat) (fl : Flags) (hs : s.Canonical) :
    (State.writeTap s f y k vs fl).Canonical := by
  unfold State.writeTap
  repeat' first
    | with_reducible assumption
    | with_reducible intro _
    | simp only [canon_mk, canon_fold]
    | with_reducible apply markLines_canon
    | with_reducible apply writeVA_canon
    | split

theorem earlyStages_kept (s : State) (f : CamFrame) (set : LineSet) (padding : Bool) : (State.earlyStages s f set padding).kept = s.kept := by
  unfold State.earlyStages
  simp only [updCam_kept, writeTap_kept]

theorem earlyStages_canon (s : State) (f : CamFrame) (set : LineSet) (padding : Bool) (hs : s.Canonical) :
    (State.earlyStages s f set padding).Canonical := by
  unfold State.earlyStages
  repeat' first
    | with_reducible assumption
    | with_reducible intro _
    | simp only [canon_mk, canon_fold]
    | with_reducible apply canon_set
    | with_reducible apply updCam_canon
    | with_reducible apply writeTap_canon
    | split

theorem midStages_kept (s : State) (f : CamFrame) (y : Nat) : (State.midStages s f y).kept = s.kept := by
  unfold State.midStages
  simp only [State.kept_bump, kept_mk, State.kept_fold, apply_ite State.kept, ite_self, updCam_kept, writeTap_kept]

theorem midStages_canon (s : State) (f : CamFrame) (y : Nat) (hs : s.Canonical) : (State.midStages s f y).Canonical := by
  unfold State.midStages
  repeat' first
    | with_reducible assumption
    | with_reducible intro _
    | simp only [canon_mk, canon_fold]
    | with_reducible apply canon_bump
    | with_reducible apply updCam_canon
    | with_reducible apply writeTap_canon
    | split

theorem condStage_kept (s : State) (f : CamFrame) (y : Nat) : (State.condStage s f y).kept = s.kept := by
  unfold State.condStage
  simp only [kept_mk, State.kept_fold, apply_ite State.kept, ite_self, updCam_kept, writeTap_kept]

theorem condStage_canon (s : State) (f : CamFrame) (y : Nat) (hs : s.Canonical) : (State.condStage s f y).Canonical := by
  unfold State.condStage
  repeat' first
    | with_reducible assumption
    | with_reducible intro _
    | simp only [canon_mk, canon_fold]
    | with_reducible apply updCam_canon
    | with_reducible apply writeTap_canon
    | split

theorem writeViews_kept (s : State) (k buf : Nat) (rows : List (List Nat)) (fl : Flags) (poison : Nat) :
    (State.writeViews s k buf rows fl poison).kept = s.kept := by
  unfold State.writeViews
  repeat' first
    | with_reducible rfl
    | (simp only [kept_mk, State.kept_fold, markLines_kept, writeVA_kept]; done)
    | dsimp only
    | intro _
    | split
    | (refine (kept_forEach _ _ _ ?_).trans ?_)

theorem writeViews_canon (s : State) (k buf : Nat) (rows : List (List Nat)) (fl : Flags) (poison : Nat) (hs : s.Canonical) :
    (State.writeViews s k buf rows fl poison).Canonical := by
  unfold State.writeViews
  repeat' first
    | with_reducible assumption
    | with_reducible intro _
    | simp only [canon_mk, canon_fold]
    | with_reducible apply canon_forEach
    | with_reducible apply markLines_canon
    | with_reducible apply writeVA_canon
    | split

/-! ## Jointers -/

theorem ctrlOutcome_kept (s : State) (k seq code : Nat) : (State.ctrlOutcome s k seq code).kept = s.kept := by
  unfold State.ctrlOutcome
  simp only [State.kept_setAll]

theorem ctrlOutcome_canon (s : State) (k seq code : Nat) (hs : s.Canonical) : (State.ctrlOutcome s k seq code).Canonical := by
  unfold State.ctrlOutcome
  repeat' first
    | with_reducible assumption
    | with_reducible apply canon_set
    | with_reducible apply canon_setAll
    | split

theorem queueRecord_kept (s : State) (r : CleatRecord) (k : Nat) : (State.queueRecord s r k).kept = s.kept := by
  unfold State.queueRecord
  repeat' first
    | with_reducible rfl
    | (simp only [kept_mk, State.kept_fold, apply_ite State.kept, ctrlOutcome_kept, demand_kept]; done)
    | dsimp only
    | intro _
    | split

theorem queueRecord_canon (s : State) (r : CleatRecord) (k : Nat) (hs : s.Canonical) : (State.queueRecord s r k).Canonical := by
  unfold State.queueRecord
  repeat' first
    | with_reducible assumption
    | with_reducible intro _
    | simp only [canon_mk, canon_fold]
    | with_reducible apply ctrlOutcome_canon
    | with_reducible apply demand_canon
    | split

theorem cleatTest_kept (s : State) (n : FrameNote) (bs : List Byte) (poison : Nat) : (State.cleatTest s n bs poison).kept = s.kept := by
  unfold State.cleatTest
  simp only [apply_ite State.kept, ite_self, ctrlOutcome_kept, queueRecord_kept]

theorem cleatTest_canon (s : State) (n : FrameNote) (bs : List Byte) (poison : Nat) (hs : s.Canonical) : (State.cleatTest s n bs poison).Canonical := by
  unfold State.cleatTest
  repeat' first
    | with_reducible assumption
    | with_reducible intro _
    | simp only [canon_mk, canon_fold]
    | with_reducible apply ctrlOutcome_canon
    | with_reducible apply queueRecord_canon
    | split

theorem cleatTake_kept (s : State) (k seq : Nat) (control : Option (List Byte)) (poison : Nat) :
    (State.cleatTake s k seq control poison).kept = s.kept := by
  unfold State.cleatTake
  repeat' first
    | with_reducible rfl
    | (simp only [kept_mk, State.kept_fold, apply_ite State.kept, cleatTest_kept]; done)
    | dsimp only
    | intro _
    | split

theorem cleatTake_canon (s : State) (k seq : Nat) (control : Option (List Byte)) (poison : Nat) (hs : s.Canonical) :
    (State.cleatTake s k seq control poison).Canonical := by
  unfold State.cleatTake
  repeat' first
    | with_reducible assumption
    | with_reducible intro _
    | simp only [canon_mk, canon_fold]
    | with_reducible apply cleatTest_canon
    | split

theorem bandAdd_kept (s : State) (f : CamFrame) : (State.bandAdd s f).kept = s.kept := by
  unfold State.bandAdd
  repeat' first
    | with_reducible rfl
    | (simp only [State.kept_bump, apply_ite State.kept, ite_self, pegAdd_kept]; done)
    | dsimp only
    | intro _
    | split

theorem bandAdd_canon (s : State) (f : CamFrame) (hs : s.Canonical) : (State.bandAdd s f).Canonical := by
  unfold State.bandAdd
  repeat' first
    | with_reducible assumption
    | simp only [canon_mk, canon_fold]
    | with_reducible apply canon_bump
    | with_reducible apply pegAdd_canon
    | split

theorem serveSet_kept (s : State) (f : CamFrame) (set : LineSet) (padding : Bool) : (State.serveSet s f set padding).kept = s.kept := by
  unfold State.serveSet
  repeat' first
    | with_reducible rfl
    | (simp only [State.kept_bump, apply_ite State.kept, ite_self, kept_forEach, implies_true, bandAdd_kept, condStage_kept, earlyStages_kept, midStages_kept, updCam_kept, writeViews_kept]; done)
    | dsimp only
    | intro _
    | split
    | (refine (kept_forEach _ _ _ ?_).trans ?_)
    | (refine (kept_foldl _ _ _ ?_).trans ?_)

theorem serveSet_canon (s : State) (f : CamFrame) (set : LineSet) (padding : Bool) (hs : s.Canonical) : (State.serveSet s f set padding).Canonical := by
  unfold State.serveSet
  extract_lets k t j h s1 s2 s3 before s4 f1 limit mid s5 now fm limit2 s6 f2 after b ends s7
  have h1 : s1.Canonical := canon_bump _ _ _ _ hs
  have h2 : s2.Canonical := by
    dsimp only [s2]
    split
    · exact canon_bump _ _ _ _ h1
    · exact h1
  have h4 : s4.Canonical := updCam_canon _ _ _ _ (earlyStages_canon _ _ _ _ h2)
  have h5 : s5.Canonical := by
    dsimp only [s5]
    split
    · exact canon_forEach _ _ _ (fun y s => midStages_canon s f1 y) h4
    · exact h4
  have h6 : s6.Canonical := by
    dsimp only [s6]
    split
    · exact canon_forEach _ _ _ (fun y s => condStage_canon s fm y) h5
    · exact h5
  have h7 : s7.Canonical := canon_forEach _ _ _ (fun _ s => bandAdd_canon s f2) h6
  clear_value s7
  split
  · split
    · exact writeViews_canon _ _ _ _ _ _ h7
    · exact h7
  · exact h7

theorem lineSetServe_kept (s : State) (j : Nat) : (State.lineSetServe s j).kept = s.kept := by
  unfold State.lineSetServe
  repeat' first
    | with_reducible rfl
    | (simp only [State.kept_set, kept_mk, State.kept_fold, apply_ite State.kept, ite_self, exitSelfRefresh_kept, serveSet_kept]; done)
    | simp only [kept_mk, State.kept_fold]
    | dsimp only
    | intro _
    | split
    | with_reducible refine (exitSelfRefresh_kept ..).trans ?_
    | with_reducible refine (serveSet_kept ..).trans ?_
    | with_reducible refine (State.kept_set ..).trans ?_

theorem lineSetServe_canon (s : State) (j : Nat) (hs : s.Canonical) : (State.lineSetServe s j).Canonical := by
  unfold State.lineSetServe
  repeat' first
    | with_reducible assumption
    | with_reducible intro _
    | simp only [canon_mk, canon_fold]
    | with_reducible apply exitSelfRefresh_canon
    | with_reducible apply serveSet_canon
    | dsimp only
    | split

theorem frameRecordWrite_kept (s : State) (k : Nat) : (State.frameRecordWrite s k).kept = s.kept := by
  unfold State.frameRecordWrite
  repeat' first
    | with_reducible rfl
    | (simp only [State.kept_set, State.kept_bump, kept_mk, State.kept_fold, apply_ite State.kept, ite_self, kept_forEach, implies_true, bandAdd_kept, camStopped_kept, cleatTest_kept, exitSelfRefresh_kept, pegAdd_kept, writeVA_kept]; done)
    | dsimp only
    | intro _
    | split
    | (refine (kept_forEach _ _ _ ?_).trans ?_)

theorem frameRecordWrite_canon (s : State) (k : Nat) (hs : s.Canonical) : (State.frameRecordWrite s k).Canonical := by
  unfold State.frameRecordWrite
  repeat' first
    | with_reducible assumption
    | with_reducible intro _
    | simp only [canon_mk, canon_fold]
    | with_reducible apply canon_set
    | with_reducible apply canon_bump
    | with_reducible apply canon_forEach
    | with_reducible apply bandAdd_canon
    | with_reducible apply camStopped_canon
    | with_reducible apply cleatTest_canon
    | with_reducible apply exitSelfRefresh_canon
    | with_reducible apply pegAdd_canon
    | with_reducible apply writeVA_canon
    | split

theorem reentrySetServe_kept (s : State) (j : Nat) (rd : ReadOutcome) : (State.reentrySetServe s j rd).kept = s.kept := by
  unfold State.reentrySetServe
  repeat' first
    | with_reducible rfl
    | (simp only [State.kept_set, State.kept_bump, kept_mk, State.kept_fold, apply_ite State.kept, ite_self, kept_forEach, kept_foldl, implies_true,
        exitSelfRefresh_kept, pegAdd_kept, readBlocks_kept, writeViews_kept]; done)
    | simp only [kept_mk, State.kept_fold]
    | dsimp only
    | intro _
    | split
    | (with_reducible refine (kept_forEach _ _ _ ?_).trans ?_)
    | (with_reducible refine (kept_foldl _ _ _ ?_).trans ?_)
    | (with_reducible refine (kept_foldl_fst _ _ _ ?_).trans ?_)
    | (with_reducible refine (kept_foldl_snd _ _ _ ?_).trans ?_)
    | with_reducible refine (exitSelfRefresh_kept ..).trans ?_
    | with_reducible refine (pegAdd_kept ..).trans ?_
    | with_reducible refine (readBlocks_kept ..).trans ?_
    | with_reducible refine (writeViews_kept ..).trans ?_
    | with_reducible refine (State.kept_set ..).trans ?_
    | with_reducible refine (State.kept_bump ..).trans ?_

theorem reentrySetServe_canon (s : State) (j : Nat) (rd : ReadOutcome) (hs : s.Canonical) : (State.reentrySetServe s j rd).Canonical := by
  unfold State.reentrySetServe
  repeat' first
    | with_reducible assumption
    | with_reducible intro _
    | simp only [canon_mk, canon_fold]
    | with_reducible apply canon_bump
    | with_reducible apply canon_forEach
    | with_reducible apply canon_foldl
    | with_reducible apply canon_foldl_fst
    | with_reducible apply canon_foldl_snd
    | with_reducible apply exitSelfRefresh_canon
    | with_reducible apply pegAdd_canon
    | with_reducible apply readBlocks_canon
    | with_reducible apply writeViews_canon
    | dsimp only
    | split

theorem glanceFrame_kept (s : State) : (State.glanceFrame s).kept = s.kept := by
  unfold State.glanceFrame
  repeat' first
    | with_reducible rfl
    | (simp only [State.kept_set, State.kept_bump, kept_mk, State.kept_fold, apply_ite State.kept, ite_self, setDom_kept, updCam_kept]; done)
    | simp only [kept_mk, State.kept_fold]
    | dsimp only
    | intro _
    | split
    | with_reducible refine (setDom_kept ..).trans ?_
    | with_reducible refine (updCam_kept ..).trans ?_
    | with_reducible refine (State.kept_set ..).trans ?_
    | with_reducible refine (State.kept_bump ..).trans ?_

theorem glanceFrame_canon (s : State) (hs : s.Canonical) : (State.glanceFrame s).Canonical := by
  unfold State.glanceFrame
  repeat' first
    | with_reducible assumption
    | with_reducible intro _
    | simp only [canon_mk, canon_fold]
    | with_reducible apply canon_bump
    | with_reducible apply setDom_canon
    | with_reducible apply updCam_canon
    | dsimp only
    | split

theorem glanceSource_kept (s : State) (v : Nat) : (State.glanceSource s v).kept = s.kept := by
  unfold State.glanceSource
  simp only [State.kept_set, glanceUpdate_kept]

theorem glanceSource_canon (s : State) (v : Nat) (hs : s.Canonical) : (State.glanceSource s v).Canonical := by
  unfold State.glanceSource
  repeat' first
    | with_reducible assumption
    | with_reducible apply canon_set
    | with_reducible apply glanceUpdate_canon
    | split

/-! ## Camera loops and I3C -/

theorem loopEnable_kept (s : State) (k : Nat) : (State.loopEnable s k).kept = s.kept := by
  unfold State.loopEnable
  repeat' first
    | with_reducible rfl
    | (simp only [State.kept_bump, State.kept_setAll, kept_mk, State.kept_fold, apply_ite State.kept, ite_self, demand_kept, floorRecompute_kept, refuse_kept]; done)
    | dsimp only
    | intro _
    | split

theorem loopEnable_canon (s : State) (k : Nat) (hs : s.Canonical) : (State.loopEnable s k).Canonical := by
  unfold State.loopEnable
  repeat' first
    | with_reducible assumption
    | simp only [canon_mk, canon_fold]
    | with_reducible apply canon_set
    | with_reducible apply canon_setAll
    | with_reducible apply canon_bump
    | with_reducible apply demand_canon
    | with_reducible apply floorRecompute_canon
    | with_reducible apply refuse_canon
    | split

theorem loopOff_kept (s : State) (k : Nat) : (State.loopOff s k).kept = s.kept := by
  unfold State.loopOff
  simp only [State.kept_drop, State.kept_setAll, kept_mk, State.kept_fold, apply_ite State.kept, ite_self, floorRecompute_kept]

theorem loopOff_canon (s : State) (k : Nat) (hs : s.Canonical) : (State.loopOff s k).Canonical := by
  unfold State.loopOff
  repeat' first
    | with_reducible assumption
    | with_reducible intro _
    | simp only [canon_mk, canon_fold]
    | with_reducible apply canon_set
    | with_reducible apply canon_setAll
    | with_reducible apply canon_drop
    | with_reducible apply floorRecompute_canon
    | split

theorem loopJobStart_kept (s : State) (k : Fin 96) (env : StartEnv) : (State.loopJobStart s k env).kept = s.kept := by
  unfold State.loopJobStart
  repeat' first
    | with_reducible rfl
    | (simp only [State.kept_bump, kept_mk, State.kept_fold, apply_ite State.kept, ite_self, exitSelfRefresh_kept, startJob_kept]; done)
    | dsimp only
    | intro _
    | split

theorem loopJobStart_canon (s : State) (k : Fin 96) (env : StartEnv) (hs : s.Canonical) : (State.loopJobStart s k env).Canonical := by
  unfold State.loopJobStart
  repeat' first
    | with_reducible assumption
    | with_reducible intro _
    | simp only [canon_mk, canon_fold]
    | with_reducible apply canon_bump
    | with_reducible apply exitSelfRefresh_canon
    | with_reducible apply startJob_canon
    | split

theorem loopDone_kept (s : State) (k : Nat) (j : Job) : (State.loopDone s k j).kept = s.kept := by
  unfold State.loopDone
  simp only [kept_mk, State.kept_fold, apply_ite State.kept, ite_self, cleatTake_kept]

theorem loopDone_canon (s : State) (k : Nat) (j : Job) (hs : s.Canonical) : (State.loopDone s k j).Canonical := by
  unfold State.loopDone
  repeat' first
    | with_reducible assumption
    | with_reducible intro _
    | simp only [canon_mk, canon_fold]
    | with_reducible apply cleatTake_canon
    | split

theorem recordTransfer_kept (s : State) (b : Nat) (acks : List Bool) : (State.recordTransfer s b acks).kept = s.kept := by
  unfold State.recordTransfer
  repeat' first
    | with_reducible rfl
    | (simp only [State.kept_set, State.kept_bump, State.kept_setAll, kept_mk, State.kept_fold, apply_ite State.kept, ite_self, ctrlOutcome_kept]; done)
    | dsimp only
    | intro _
    | split

theorem recordTransfer_canon (s : State) (b : Nat) (acks : List Bool) (hs : s.Canonical) : (State.recordTransfer s b acks).Canonical := by
  unfold State.recordTransfer
  repeat' first
    | with_reducible assumption
    | with_reducible intro _
    | simp only [canon_mk, canon_fold]
    | with_reducible apply canon_set
    | with_reducible apply canon_setAll
    | with_reducible apply canon_bump
    | with_reducible apply ctrlOutcome_canon
    | split

theorem ibi_kept (s : State) (b addr mdb : Nat) : (State.ibi s b addr mdb).kept = s.kept := by
  unfold State.ibi
  repeat' first
    | with_reducible rfl
    | (simp only [State.kept_bump, State.kept_setAll, apply_ite State.kept, ite_self]; done)
    | dsimp only
    | intro _
    | split

theorem ibi_canon (s : State) (b addr mdb : Nat) (hs : s.Canonical) : (State.ibi s b addr mdb).Canonical := by
  unfold State.ibi
  repeat' first
    | with_reducible assumption
    | simp only [canon_mk, canon_fold]
    | with_reducible apply canon_set
    | with_reducible apply canon_setAll
    | with_reducible apply canon_bump
    | split

theorem assignTarget_kept (s : State) (b : Nat) (t : I3cTarget) : (State.assignTarget s b t).kept = s.kept := by
  unfold State.assignTarget
  repeat' first
    | with_reducible rfl
    | (simp only [State.kept_setAll]; done)
    | dsimp only
    | intro _
    | split

theorem assignTarget_canon (s : State) (b : Nat) (t : I3cTarget) (hs : s.Canonical) : (State.assignTarget s b t).Canonical := by
  unfold State.assignTarget
  repeat' first
    | with_reducible assumption
    | with_reducible intro _
    | simp only [canon_mk, canon_fold]
    | with_reducible apply canon_set
    | with_reducible apply canon_setAll
    | split

theorem runDaa_kept (s : State) (b : Nat) (targets : List I3cTarget) : (State.runDaa s b targets).kept = s.kept := by
  unfold State.runDaa
  simp only [apply_ite State.kept, ite_self, kept_forEach, implies_true, assignTarget_kept]

theorem runDaa_canon (s : State) (b : Nat) (targets : List I3cTarget) (hs : s.Canonical) : (State.runDaa s b targets).Canonical := by
  unfold State.runDaa
  repeat' first
    | with_reducible assumption
    | with_reducible intro _
    | with_reducible apply canon_forEach
    | with_reducible apply assignTarget_canon
    | split

theorem runManual_kept (s : State) (b : Nat) : (State.runManual s b).kept = s.kept := by
  unfold State.runManual
  simp only [State.kept_set, State.kept_setAll, kept_mk, State.kept_fold, apply_ite State.kept, ite_self]

theorem runManual_canon (s : State) (b : Nat) (hs : s.Canonical) : (State.runManual s b).Canonical := by
  unfold State.runManual
  repeat' first
    | with_reducible assumption
    | with_reducible intro _
    | simp only [canon_mk, canon_fold]
    | with_reducible apply canon_set
    | with_reducible apply canon_setAll
    | split

/-! ## Rasp -/

theorem showSettling_kept (s : State) : (State.showSettling s).kept = s.kept := by
  unfold State.showSettling
  simp only [State.kept_set]

theorem showSettling_canon (s : State) (hs : s.Canonical) : (State.showSettling s).Canonical := by
  unfold State.showSettling
  repeat' first
    | with_reducible assumption
    | with_reducible apply canon_set
    | split

theorem setMode_kept (s : State) (g m : Nat) : (State.setMode s g m).kept = s.kept := by
  unfold State.setMode
  simp only [State.kept_set, kept_mk, State.kept_fold]

theorem setMode_canon (s : State) (g m : Nat) (hs : s.Canonical) : (State.setMode s g m).Canonical := by
  unfold State.setMode
  repeat' first
    | with_reducible assumption
    | with_reducible intro _
    | simp only [canon_mk, canon_fold]
    | with_reducible apply canon_set
    | split

theorem setModes_kept (s : State) (l : List (Nat × Nat)) : (State.setModes s l).kept = s.kept := by
  unfold State.setModes
  simp only [apply_ite State.kept, ite_self, kept_forEach, implies_true, setMode_kept]

theorem setModes_canon (s : State) (l : List (Nat × Nat)) (hs : s.Canonical) : (State.setModes s l).Canonical := by
  unfold State.setModes
  repeat' first
    | with_reducible assumption
    | with_reducible intro _
    | with_reducible apply canon_set
    | with_reducible apply canon_forEach
    | with_reducible apply setMode_canon
    | split

theorem requestUp_kept (s : State) : (State.requestUp s).kept = s.kept := by
  unfold State.requestUp
  simp only [State.kept_set, kept_mk, State.kept_fold]

theorem requestUp_canon (s : State) (hs : s.Canonical) : (State.requestUp s).Canonical := by
  unfold State.requestUp
  repeat' first
    | with_reducible assumption
    | simp only [canon_mk, canon_fold]
    | with_reducible apply canon_set
    | split

theorem requestDown_kept (s : State) : (State.requestDown s).kept = s.kept := by
  unfold State.requestDown
  simp only [kept_mk, State.kept_fold]

theorem requestDown_canon (s : State) (hs : s.Canonical) : (State.requestDown s).Canonical := by
  unfold State.requestDown
  repeat' first
    | with_reducible assumption
    | simp only [canon_mk, canon_fold]

    | split

theorem wishDone_kept (s : State) (w : StepWish) : (State.wishDone s w).kept = s.kept := by
  unfold State.wishDone
  simp only [State.kept_set, kept_mk, State.kept_fold]

theorem wishDone_canon (s : State) (w : StepWish) (hs : s.Canonical) : (State.wishDone s w).Canonical := by
  unfold State.wishDone
  repeat' first
    | with_reducible assumption
    | simp only [canon_mk, canon_fold]
    | with_reducible apply canon_set
    | split

theorem stepUp_kept (s : State) (next : StepWish) : (State.stepUp s next).kept = s.kept := by
  unfold State.stepUp
  simp only [State.kept_bump, apply_ite State.kept, ite_self, setModes_kept, wishDone_kept]

theorem stepUp_canon (s : State) (next : StepWish) (hs : s.Canonical) : (State.stepUp s next).Canonical := by
  unfold State.stepUp
  repeat' first
    | with_reducible assumption
    | with_reducible intro _
    | dsimp only
    | with_reducible apply canon_set
    | with_reducible apply canon_bump
    | with_reducible apply setModes_canon
    | with_reducible apply wishDone_canon
    | split

theorem boundaryModes_kept (s : State) : (State.boundaryModes s).kept = s.kept := by
  unfold State.boundaryModes
  repeat' first
    | with_reducible rfl
    | (simp only [State.kept_set, State.kept_bump, kept_mk, State.kept_fold, apply_ite State.kept, ite_self, kept_forEach, implies_true, setMode_kept, setModes_kept, stepUp_kept, wishDone_kept]; done)
    | dsimp only
    | intro _
    | split
    | (refine (kept_forEach _ _ _ ?_).trans ?_)

theorem boundaryModes_canon (s : State) (hs : s.Canonical) : (State.boundaryModes s).Canonical := by
  unfold State.boundaryModes
  repeat' first
    | with_reducible assumption
    | with_reducible intro _
    | simp only [canon_mk, canon_fold]
    | with_reducible apply canon_set
    | with_reducible apply canon_bump
    | with_reducible apply canon_forEach
    | with_reducible apply setMode_canon
    | with_reducible apply setModes_canon
    | with_reducible apply stepUp_canon
    | with_reducible apply wishDone_canon
    | split

theorem boundaryCommit_kept (s : State) : (State.boundaryCommit s).kept = s.kept := by
  unfold State.boundaryCommit
  simp only [State.kept_set, State.kept_setAll, kept_mk, State.kept_fold, apply_ite State.kept, ite_self]

theorem boundaryCommit_canon (s : State) (hs : s.Canonical) : (State.boundaryCommit s).Canonical := by
  unfold State.boundaryCommit
  repeat' first
    | with_reducible assumption
    | with_reducible intro _
    | simp only [canon_mk, canon_fold]
    | with_reducible apply canon_set
    | with_reducible apply canon_setAll
    | with_reducible apply canon_foldl
    | with_reducible apply canon_foldl_fst
    | with_reducible apply canon_foldl_snd
    | split

theorem beamCommit_kept (s : State) : (State.beamCommit s).kept = s.kept := by
  unfold State.beamCommit
  repeat' first
    | with_reducible rfl
    | (simp only [State.kept_setAll]; done)
    | dsimp only
    | intro _
    | split
    | with_reducible refine (State.kept_setAll ..).trans ?_

theorem beamCommit_canon (s : State) (hs : s.Canonical) : (State.beamCommit s).Canonical := by
  unfold State.beamCommit
  repeat' first
    | with_reducible assumption
    | with_reducible intro _
    | with_reducible apply canon_setAll
    | dsimp only
    | split

theorem clip_kept (s : State) (r : Reg) (n : Nat) : (State.clip s r n).kept = s.kept := by
  unfold State.clip
  simp only [State.kept_set, State.kept_bump, apply_ite State.kept, ite_self]

theorem clip_canon (s : State) (r : Reg) (n : Nat) (hs : s.Canonical) : (State.clip s r n).Canonical := by
  unfold State.clip
  repeat' first
    | with_reducible assumption
    | with_reducible apply canon_set
    | with_reducible apply canon_bump
    | split

theorem filterFrame_kept (s : State) (f : AudioFrame) : (State.filterFrame s f).kept = s.kept := by
  unfold State.filterFrame
  repeat' first
    | with_reducible rfl
    | (simp only [kept_mk, State.kept_fold, apply_ite State.kept, ite_self, kept_forEach, kept_foldl, implies_true]; done)
    | dsimp only
    | intro _
    | split
    | (with_reducible refine (kept_forEach _ _ _ ?_).trans ?_)
    | (with_reducible refine (kept_foldl _ _ _ ?_).trans ?_)
    | (with_reducible refine (kept_foldl_fst _ _ _ ?_).trans ?_)
    | (with_reducible refine (kept_foldl_snd _ _ _ ?_).trans ?_)

theorem filterFrame_canon (s : State) (f : AudioFrame) (hs : s.Canonical) : (State.filterFrame s f).Canonical := by
  unfold State.filterFrame
  repeat' first
    | with_reducible assumption
    | with_reducible intro _
    | simp only [canon_mk, canon_fold]
    | with_reducible apply canon_forEach
    | with_reducible apply canon_foldl
    | with_reducible apply canon_foldl_fst
    | with_reducible apply canon_foldl_snd
    | dsimp only
    | split

theorem audioWrite_kept (s : State) (p base slots : Nat) (bs : List Byte) : (State.audioWrite s p base slots bs).kept = s.kept := by
  unfold State.audioWrite
  repeat' first
    | with_reducible rfl
    | (simp only [kept_mk, State.kept_fold, whenAdmitted_kept, pegAdd_kept, writeVA_kept, implies_true]; done)
    | simp only [kept_mk, State.kept_fold]
    | dsimp only
    | intro _
    | split
    | with_reducible refine (whenAdmitted_kept (h_f := ?_) ..).trans ?_
    | with_reducible refine (pegAdd_kept ..).trans ?_
    | with_reducible refine (writeVA_kept ..).trans ?_

theorem audioWrite_canon (s : State) (p base slots : Nat) (bs : List Byte) (hs : s.Canonical) : (State.audioWrite s p base slots bs).Canonical := by
  unfold State.audioWrite
  repeat' first
    | with_reducible assumption
    | with_reducible intro _
    | simp only [canon_mk, canon_fold]
    | with_reducible apply whenAdmitted_canon
    | with_reducible apply pegAdd_canon
    | with_reducible apply writeVA_canon
    | with_reducible apply canon_store
    | with_reducible apply canon_change
    | with_reducible apply canon_host
    | with_reducible apply canon_bar4
    | with_reducible apply canon_staging
    | with_reducible apply canon_setSlot
    | with_reducible apply Mem.wf_write
    | with_reducible apply Mem.wf_writeBytes
    | with_reducible apply Mem.wf_writeNum
    | with_reducible apply Mem.wf_clear
    | with_reducible apply wf_forEach
    | with_reducible apply wf_foldl_fst
    | with_reducible apply canon_ddr_wf
    | with_reducible apply canon_check_wf
    | with_reducible apply canon_host_wf
    | with_reducible apply canon_bar4_wf
    | with_reducible apply canon_staging_wf
    | with_reducible apply canon_slot_wf
    | with_reducible apply splice_wf
    | with_reducible apply scramble_wf
    | with_reducible apply canon_regsOk
    | with_reducible apply regsOk_filter
    | with_reducible apply regsOk_nil
    | with_reducible apply wf_nil
    | with_reducible apply check_nil
    | with_reducible apply check_filter
    | with_reducible apply canon_slot0_wf
    | with_reducible apply canon_slot1_wf
    | dsimp only
    | split
    | with_reducible apply canon_parts

theorem lpBlock_kept (s : State) (first : Nat) (replay : Bool) : (State.lpBlock s first replay).kept = s.kept := by
  unfold State.lpBlock
  repeat' first
    | with_reducible rfl
    | (simp only [kept_mk, State.kept_fold, audioWrite_kept]; done)
    | simp only [kept_mk, State.kept_fold]
    | dsimp only
    | intro _
    | split
    | with_reducible refine (audioWrite_kept ..).trans ?_

theorem lpBlock_canon (s : State) (first : Nat) (replay : Bool) (hs : s.Canonical) : (State.lpBlock s first replay).Canonical := by
  unfold State.lpBlock
  repeat' first
    | with_reducible assumption
    | with_reducible intro _
    | simp only [canon_mk, canon_fold]
    | with_reducible apply audioWrite_canon
    | dsimp only
    | split

theorem hqBlock_kept (s : State) (first : Nat) : (State.hqBlock s first).kept = s.kept := by
  unfold State.hqBlock
  repeat' first
    | with_reducible rfl
    | (simp only [audioWrite_kept]; done)
    | dsimp only
    | intro _
    | split
    | with_reducible refine (audioWrite_kept ..).trans ?_

theorem hqBlock_canon (s : State) (first : Nat) (hs : s.Canonical) : (State.hqBlock s first).Canonical := by
  unfold State.hqBlock
  repeat' first
    | with_reducible assumption
    | with_reducible intro _
    | with_reducible apply audioWrite_canon
    | dsimp only
    | split

theorem showHq_kept (s : State) : (State.showHq s).kept = s.kept := by
  unfold State.showHq
  simp only [State.kept_set]

theorem showHq_canon (s : State) (hs : s.Canonical) : (State.showHq s).Canonical := by
  unfold State.showHq
  repeat' first
    | with_reducible assumption
    | with_reducible apply canon_set
    | split

theorem endFrame_kept (s : State) (f : AudioFrame) : (State.endFrame s f).kept = s.kept := by
  unfold State.endFrame
  repeat' first
    | with_reducible rfl
    | (simp only [State.kept_set, State.kept_bump, kept_mk, State.kept_fold, apply_ite State.kept, ite_self, kept_forEach, kept_foldl, implies_true,
        clip_kept, filterFrame_kept, lpBlock_kept, hqBlock_kept]; done)
    | simp only [kept_mk, State.kept_fold]
    | dsimp only
    | intro _
    | split
    | (with_reducible refine (kept_forEach _ _ _ ?_).trans ?_)
    | (with_reducible refine (kept_foldl _ _ _ ?_).trans ?_)
    | (with_reducible refine (kept_foldl_fst _ _ _ ?_).trans ?_)
    | (with_reducible refine (kept_foldl_snd _ _ _ ?_).trans ?_)
    | with_reducible refine (clip_kept ..).trans ?_
    | with_reducible refine (filterFrame_kept ..).trans ?_
    | with_reducible refine (lpBlock_kept ..).trans ?_
    | with_reducible refine (hqBlock_kept ..).trans ?_
    | with_reducible refine (State.kept_set ..).trans ?_
    | with_reducible refine (State.kept_bump ..).trans ?_

theorem endFrame_canon (s : State) (f : AudioFrame) (hs : s.Canonical) : (State.endFrame s f).Canonical := by
  unfold State.endFrame
  repeat' first
    | with_reducible assumption
    | with_reducible intro _
    | simp only [canon_mk, canon_fold]
    | with_reducible apply canon_set
    | with_reducible apply canon_bump
    | with_reducible apply canon_forEach
    | with_reducible apply canon_foldl
    | with_reducible apply canon_foldl_fst
    | with_reducible apply canon_foldl_snd
    | with_reducible apply clip_canon
    | with_reducible apply filterFrame_canon
    | with_reducible apply lpBlock_canon
    | with_reducible apply hqBlock_canon
    | dsimp only
    | split

theorem boundaryWork_kept (s : State) : (State.boundaryWork s).kept = s.kept := by
  unfold State.boundaryWork
  simp only [boundaryCommit_kept, boundaryModes_kept, showHq_kept, showSettling_kept]

theorem boundaryWork_canon (s : State) (hs : s.Canonical) : (State.boundaryWork s).Canonical := by
  unfold State.boundaryWork
  repeat' first
    | with_reducible assumption
    | with_reducible apply boundaryCommit_canon
    | with_reducible apply boundaryModes_canon
    | with_reducible apply showHq_canon
    | with_reducible apply showSettling_canon
    | split

theorem frameBoundary_kept (s : State) (f : AudioFrame) : (State.frameBoundary s f).kept = s.kept := by
  unfold State.frameBoundary
  simp only [State.kept_set, kept_mk, State.kept_fold, apply_ite State.kept, ite_self, boundaryWork_kept, endFrame_kept]

theorem frameBoundary_canon (s : State) (f : AudioFrame) (hs : s.Canonical) : (State.frameBoundary s f).Canonical := by
  unfold State.frameBoundary
  repeat' first
    | with_reducible assumption
    | simp only [canon_mk, canon_fold]
    | with_reducible apply canon_set
    | with_reducible apply boundaryWork_canon
    | with_reducible apply endFrame_canon
    | split

/-! ## The wake cascade -/

theorem showHit_kept (s : State) : (State.showHit s).kept = s.kept := by
  unfold State.showHit
  simp only [State.kept_set]

theorem showHit_canon (s : State) (hs : s.Canonical) : (State.showHit s).Canonical := by
  unfold State.showHit
  repeat' first
    | with_reducible assumption
    | with_reducible apply canon_set
    | split

theorem outcome_kept (s : State) (d o code : Nat) : (State.outcome s d o code).kept = s.kept := by
  unfold State.outcome
  repeat' first
    | with_reducible rfl
    | (simp only [State.kept_set, State.kept_setAll, apply_ite State.kept, ite_self]; done)
    | dsimp only
    | intro _
    | split
    | with_reducible refine (State.kept_set ..).trans ?_
    | with_reducible refine (State.kept_setAll ..).trans ?_

theorem outcome_canon (s : State) (d o code : Nat) (hs : s.Canonical) : (State.outcome s d o code).Canonical := by
  unfold State.outcome
  repeat' first
    | with_reducible assumption
    | with_reducible intro _
    | with_reducible apply canon_set
    | with_reducible apply canon_setAll
    | dsimp only
    | split

theorem causeDone_kept (s : State) (rung : Nat) : (State.causeDone s rung).kept = s.kept := by
  unfold State.causeDone
  simp only [kept_mk, State.kept_fold]

theorem causeDone_canon (s : State) (rung : Nat) (hs : s.Canonical) : (State.causeDone s rung).Canonical := by
  unfold State.causeDone
  repeat' first
    | with_reducible assumption
    | simp only [canon_mk, canon_fold]
    | with_reducible apply canon_drop
    | split

theorem servePeg_kept (s : State) (i : Nat) : (State.servePeg s i).kept = s.kept := by
  unfold State.servePeg
  simp only [pegThresh_kept]

theorem servePeg_canon (s : State) (i : Nat) (hs : s.Canonical) : (State.servePeg s i).Canonical := by
  unfold State.servePeg
  repeat' first
    | with_reducible assumption
    | with_reducible apply pegThresh_canon
    | split

theorem absorbWaiting_kept (s : State) : (State.absorbWaiting s).kept = s.kept := by
  unfold State.absorbWaiting
  repeat' first
    | with_reducible rfl
    | (simp only [kept_mk, State.kept_fold, kept_forEach, kept_foldl, implies_true, showHit_kept, outcome_kept, servePeg_kept]; done)
    | simp only [kept_mk, State.kept_fold]
    | dsimp only
    | intro _
    | split
    | (with_reducible refine (kept_forEach _ _ _ ?_).trans ?_)
    | with_reducible refine (showHit_kept ..).trans ?_
    | with_reducible refine (outcome_kept ..).trans ?_
    | with_reducible refine (servePeg_kept ..).trans ?_

theorem absorbWaiting_canon (s : State) (hs : s.Canonical) : (State.absorbWaiting s).Canonical := by
  unfold State.absorbWaiting
  repeat' first
    | with_reducible assumption
    | with_reducible intro _
    | simp only [canon_mk, canon_fold]
    | with_reducible apply canon_forEach
    | with_reducible apply canon_foldl
    | with_reducible apply showHit_canon
    | with_reducible apply outcome_canon
    | with_reducible apply servePeg_canon
    | dsimp only
    | split

theorem detect_kept (s : State) (c : Nat) : (State.detect s c).kept = s.kept := by
  unfold State.detect
  repeat' first
    | with_reducible rfl
    | (simp only [State.kept_set, State.kept_bump, State.kept_setAll, kept_mk, State.kept_fold, apply_ite State.kept, ite_self, demand_kept, cause_kept,
        pegAdd_kept, requestUp_kept, showHit_kept, outcome_kept]; done)
    | simp only [kept_mk, State.kept_fold]
    | dsimp only
    | intro _
    | split
    | with_reducible refine (demand_kept ..).trans ?_
    | with_reducible refine (cause_kept ..).trans ?_
    | with_reducible refine (pegAdd_kept ..).trans ?_
    | with_reducible refine (requestUp_kept ..).trans ?_
    | with_reducible refine (showHit_kept ..).trans ?_
    | with_reducible refine (outcome_kept ..).trans ?_
    | with_reducible refine (State.kept_set ..).trans ?_
    | with_reducible refine (State.kept_setAll ..).trans ?_
    | with_reducible refine (State.kept_bump ..).trans ?_

theorem detect_canon (s : State) (c : Nat) (hs : s.Canonical) : (State.detect s c).Canonical := by
  unfold State.detect
  repeat' first
    | with_reducible assumption
    | with_reducible intro _
    | simp only [canon_mk, canon_fold]
    | with_reducible apply canon_set
    | with_reducible apply canon_setAll
    | with_reducible apply canon_bump
    | with_reducible apply demand_canon
    | with_reducible apply cause_canon
    | with_reducible apply pegAdd_canon
    | with_reducible apply requestUp_canon
    | with_reducible apply showHit_canon
    | with_reducible apply outcome_canon
    | dsimp only
    | split

theorem runNetworks_kept (s : State) : (State.runNetworks s).kept = s.kept := by
  unfold State.runNetworks
  repeat' first
    | with_reducible rfl
    | (simp only [State.kept_set, State.kept_bump, kept_mk, State.kept_fold, apply_ite State.kept, ite_self, kept_forEach, kept_foldl, implies_true]; done)
    | dsimp only
    | intro _
    | split
    | (with_reducible refine (kept_forEach _ _ _ ?_).trans ?_)
    | with_reducible refine (State.kept_set ..).trans ?_
    | with_reducible refine (State.kept_bump ..).trans ?_

theorem runNetworks_canon (s : State) (hs : s.Canonical) : (State.runNetworks s).Canonical := by
  unfold State.runNetworks
  repeat' first
    | with_reducible assumption
    | with_reducible intro _
    | simp only [canon_mk, canon_fold]
    | with_reducible apply canon_set
    | with_reducible apply canon_bump
    | with_reducible apply canon_forEach
    | with_reducible apply canon_foldl
    | dsimp only
    | split

theorem classHop_kept (s : State) (c : Nat) : (State.classHop s c).1.kept = s.kept := by
  unfold State.classHop
  repeat' first
    | with_reducible rfl
    | (simp only [kept_mk, State.kept_fold]; done)
    | dsimp only
    | intro _
    | split

theorem classHop_canon (s : State) (c : Nat) (hs : s.Canonical) : (State.classHop s c).1.Canonical := by
  unfold State.classHop
  repeat' first
    | with_reducible assumption
    | simp only [canon_mk, canon_fold]

    | split

theorem activityHop_kept (s : State) : (State.activityHop s).kept = s.kept := by
  unfold State.activityHop
  simp only [State.kept_set, kept_mk, State.kept_fold, apply_ite State.kept, ite_self]

theorem activityHop_canon (s : State) (hs : s.Canonical) : (State.activityHop s).Canonical := by
  unfold State.activityHop
  repeat' first
    | with_reducible assumption
    | with_reducible intro _
    | simp only [canon_mk, canon_fold]
    | with_reducible apply canon_set
    | split

theorem awlHop_kept (s : State) : (State.awlHop s).kept = s.kept := by
  unfold State.awlHop
  repeat' first
    | with_reducible rfl
    | (simp only [State.kept_set, State.kept_bump, kept_mk, State.kept_fold, apply_ite State.kept, ite_self, kept_forEach, kept_foldl, implies_true,
        detect_kept, runNetworks_kept, classHop_kept, activityHop_kept]; done)
    | simp only [kept_mk, State.kept_fold]
    | dsimp only
    | intro _
    | split
    | (with_reducible refine (kept_forEach _ _ _ ?_).trans ?_)
    | (with_reducible refine (kept_foldl _ _ _ ?_).trans ?_)
    | (with_reducible refine (kept_foldl_fst _ _ _ ?_).trans ?_)
    | (with_reducible refine (kept_foldl_snd _ _ _ ?_).trans ?_)
    | with_reducible refine (detect_kept ..).trans ?_
    | with_reducible refine (runNetworks_kept ..).trans ?_
    | with_reducible refine (classHop_kept ..).trans ?_
    | with_reducible refine (activityHop_kept ..).trans ?_
    | with_reducible refine (State.kept_set ..).trans ?_
    | with_reducible refine (State.kept_bump ..).trans ?_

theorem awlHop_canon (s : State) (hs : s.Canonical) : (State.awlHop s).Canonical := by
  unfold State.awlHop
  repeat' first
    | with_reducible assumption
    | with_reducible intro _
    | simp only [canon_mk, canon_fold]
    | with_reducible apply canon_set
    | with_reducible apply canon_bump
    | with_reducible apply canon_forEach
    | with_reducible apply canon_foldl
    | with_reducible apply canon_foldl_fst
    | with_reducible apply canon_foldl_snd
    | with_reducible apply detect_canon
    | with_reducible apply runNetworks_canon
    | with_reducible apply classHop_canon
    | with_reducible apply activityHop_canon
    | dsimp only
    | split

theorem openCascadePeg_kept (s : State) (i c : Nat) (remote : Bool) : (State.openCascadePeg s i c remote).kept = s.kept := by
  unfold State.openCascadePeg
  simp only [State.kept_setAll]

theorem openCascadePeg_canon (s : State) (i c : Nat) (remote : Bool) (hs : s.Canonical) : (State.openCascadePeg s i c remote).Canonical := by
  unfold State.openCascadePeg
  repeat' first
    | with_reducible assumption
    | with_reducible apply canon_set
    | with_reducible apply canon_setAll
    | split

theorem cascadeEnable_kept (s : State) : (State.cascadeEnable s).kept = s.kept := by
  unfold State.cascadeEnable
  repeat' first
    | with_reducible rfl
    | (simp only [State.kept_set, State.kept_setAll, kept_mk, State.kept_fold, apply_ite State.kept, ite_self, refuse_kept, demand_kept, pegSet_kept,
        floorRecompute_kept, showHit_kept, openCascadePeg_kept]; done)
    | simp only [kept_mk, State.kept_fold]
    | dsimp only
    | intro _
    | split
    | with_reducible refine (refuse_kept ..).trans ?_
    | with_reducible refine (demand_kept ..).trans ?_
    | with_reducible refine (pegSet_kept ..).trans ?_
    | with_reducible refine (floorRecompute_kept ..).trans ?_
    | with_reducible refine (showHit_kept ..).trans ?_
    | with_reducible refine (openCascadePeg_kept ..).trans ?_
    | with_reducible refine (State.kept_set ..).trans ?_
    | with_reducible refine (State.kept_setAll ..).trans ?_

theorem cascadeEnable_canon (s : State) (hs : s.Canonical) : (State.cascadeEnable s).Canonical := by
  unfold State.cascadeEnable
  repeat' first
    | with_reducible assumption
    | with_reducible intro _
    | simp only [canon_mk, canon_fold]
    | with_reducible apply canon_setAll
    | with_reducible apply refuse_canon
    | with_reducible apply demand_canon
    | with_reducible apply pegSet_canon
    | with_reducible apply floorRecompute_canon
    | with_reducible apply showHit_canon
    | with_reducible apply openCascadePeg_canon
    | dsimp only
    | split

theorem cascadeDisable_kept (s : State) : (State.cascadeDisable s).kept = s.kept := by
  unfold State.cascadeDisable
  simp only [State.kept_setAll, kept_mk, State.kept_fold, apply_ite State.kept, ite_self, kept_forEach, implies_true, floorRecompute_kept, refuse_kept]

theorem cascadeDisable_canon (s : State) (hs : s.Canonical) : (State.cascadeDisable s).Canonical := by
  unfold State.cascadeDisable
  repeat' first
    | with_reducible assumption
    | with_reducible intro _
    | simp only [canon_mk, canon_fold]
    | with_reducible apply canon_set
    | with_reducible apply canon_setAll
    | with_reducible apply canon_forEach
    | with_reducible apply floorRecompute_canon
    | with_reducible apply refuse_canon
    | split

theorem cascadeCleared_kept (s : State) : (State.cascadeCleared s).kept = s.kept := by
  unfold State.cascadeCleared
  repeat' first
    | with_reducible rfl
    | (simp only [State.kept_set, kept_mk, State.kept_fold, apply_ite State.kept, ite_self]; done)
    | dsimp only
    | intro _
    | split
    | with_reducible refine (State.kept_set ..).trans ?_

theorem cascadeCleared_canon (s : State) (hs : s.Canonical) : (State.cascadeCleared s).Canonical := by
  unfold State.cascadeCleared
  repeat' first
    | with_reducible assumption
    | with_reducible intro _
    | simp only [canon_mk, canon_fold]
    | with_reducible apply canon_set
    | dsimp only
    | split

theorem startRung_kept (s : State) (n : Fin 4) (graph mask tag binding : Nat) (env : StartEnv) :
    (State.startRung s n graph mask tag binding env).kept = s.kept := by
  unfold State.startRung
  simp only [startJob_kept]

theorem startRung_canon (s : State) (n : Fin 4) (graph mask tag binding : Nat) (env : StartEnv) (hs : s.Canonical) :
    (State.startRung s n graph mask tag binding env).Canonical := by
  unfold State.startRung
  repeat' first
    | with_reducible assumption
    | with_reducible intro _
    | simp only [canon_mk, canon_fold]
    | with_reducible apply startJob_canon
    | split

theorem replay_kept (s : State) (d hit : Nat) : (State.replay s d hit).kept = s.kept := by
  unfold State.replay
  repeat' first
    | with_reducible rfl
    | (simp only [State.kept_set, kept_mk, State.kept_fold, apply_ite State.kept, ite_self, kept_forEach, kept_foldl, implies_true, lpBlock_kept]; done)
    | simp only [kept_mk, State.kept_fold]
    | dsimp only
    | intro _
    | split
    | (with_reducible refine (kept_forEach _ _ _ ?_).trans ?_)
    | with_reducible refine (lpBlock_kept ..).trans ?_
    | with_reducible refine (State.kept_set ..).trans ?_

theorem replay_canon (s : State) (d hit : Nat) (hs : s.Canonical) : (State.replay s d hit).Canonical := by
  unfold State.replay
  repeat' first
    | with_reducible assumption
    | with_reducible intro _
    | simp only [canon_mk, canon_fold]
    | with_reducible apply canon_set
    | with_reducible apply canon_forEach
    | with_reducible apply canon_foldl
    | with_reducible apply lpBlock_canon
    | dsimp only
    | split

theorem rung1Start_kept (s : State) (env : StartEnv) : (State.rung1Start s env).kept = s.kept := by
  unfold State.rung1Start
  repeat' first
    | with_reducible rfl
    | (simp only [State.kept_set, kept_mk, State.kept_fold, apply_ite State.kept, ite_self, writes_kept, floorRecompute_kept, showHq_kept, showHit_kept,
        outcome_kept, causeDone_kept, servePeg_kept, startRung_kept, replay_kept, implies_true]; done)
    | simp only [kept_mk, State.kept_fold]
    | dsimp only
    | intro _
    | split
    | with_reducible refine (writes_kept (h_f := ?_) ..).trans ?_
    | with_reducible refine (floorRecompute_kept ..).trans ?_
    | with_reducible refine (showHq_kept ..).trans ?_
    | with_reducible refine (showHit_kept ..).trans ?_
    | with_reducible refine (outcome_kept ..).trans ?_
    | with_reducible refine (causeDone_kept ..).trans ?_
    | with_reducible refine (servePeg_kept ..).trans ?_
    | with_reducible refine (startRung_kept ..).trans ?_
    | with_reducible refine (replay_kept ..).trans ?_
    | with_reducible refine (State.kept_set ..).trans ?_

theorem rung1Start_canon (s : State) (env : StartEnv) (hs : s.Canonical) : (State.rung1Start s env).Canonical := by
  unfold State.rung1Start
  repeat' first
    | with_reducible assumption
    | with_reducible intro _
    | simp only [canon_mk, canon_fold]
    | with_reducible apply canon_set
    | with_reducible apply writes_canon
    | with_reducible apply floorRecompute_canon
    | with_reducible apply showHq_canon
    | with_reducible apply showHit_canon
    | with_reducible apply outcome_canon
    | with_reducible apply causeDone_canon
    | with_reducible apply servePeg_canon
    | with_reducible apply startRung_canon
    | with_reducible apply replay_canon
    | dsimp only
    | split

theorem rung2Start_kept (s : State) (env : StartEnv) : (State.rung2Start s env).kept = s.kept := by
  unfold State.rung2Start
  repeat' first
    | with_reducible rfl
    | (simp only [State.kept_set, kept_mk, State.kept_fold, apply_ite State.kept, ite_self, absorbWaiting_kept, causeDone_kept, floorRecompute_kept, servePeg_kept, showHq_kept, startRung_kept]; done)
    | dsimp only
    | intro _
    | split

theorem rung2Start_canon (s : State) (env : StartEnv) (hs : s.Canonical) : (State.rung2Start s env).Canonical := by
  unfold State.rung2Start
  repeat' first
    | with_reducible assumption
    | simp only [canon_mk, canon_fold]
    | with_reducible apply canon_set
    | with_reducible apply absorbWaiting_canon
    | with_reducible apply causeDone_canon
    | with_reducible apply floorRecompute_canon
    | with_reducible apply servePeg_canon
    | with_reducible apply showHq_canon
    | with_reducible apply startRung_canon
    | split

theorem rung3Start_kept (s : State) (env : StartEnv) : (State.rung3Start s env).kept = s.kept := by
  unfold State.rung3Start
  simp only [State.kept_set, apply_ite State.kept, ite_self, causeDone_kept, servePeg_kept, startRung_kept]

theorem rung3Start_canon (s : State) (env : StartEnv) (hs : s.Canonical) : (State.rung3Start s env).Canonical := by
  unfold State.rung3Start
  repeat' first
    | with_reducible assumption
    | dsimp only
    | with_reducible apply canon_set
    | with_reducible apply causeDone_canon
    | with_reducible apply servePeg_canon
    | with_reducible apply startRung_canon
    | split

theorem toRung0_kept (s : State) : (State.toRung0 s).kept = s.kept := by
  unfold State.toRung0
  simp only [State.kept_set, floorRecompute_kept, requestDown_kept, showHq_kept]

theorem toRung0_canon (s : State) (hs : s.Canonical) : (State.toRung0 s).Canonical := by
  unfold State.toRung0
  repeat' first
    | with_reducible assumption
    | with_reducible apply canon_set
    | with_reducible apply floorRecompute_canon
    | with_reducible apply requestDown_canon
    | with_reducible apply showHq_canon
    | split

theorem afterReject_kept (s : State) : (State.afterReject s).kept = s.kept := by
  unfold State.afterReject
  simp only [apply_ite State.kept, ite_self, toRung0_kept]

theorem afterReject_canon (s : State) (hs : s.Canonical) : (State.afterReject s).Canonical := by
  unfold State.afterReject
  repeat' first
    | with_reducible assumption
    | with_reducible apply toRung0_canon
    | split

theorem rungPowerFails_kept (s : State) (rung : Nat) : (State.rungPowerFails s rung).kept = s.kept := by
  unfold State.rungPowerFails
  repeat' first
    | with_reducible rfl
    | (simp only [State.kept_bump, kept_mk, State.kept_fold, apply_ite State.kept, ite_self, showHit_kept, outcome_kept, causeDone_kept, servePeg_kept,
        afterReject_kept]; done)
    | simp only [kept_mk, State.kept_fold]
    | dsimp only
    | intro _
    | split
    | with_reducible refine (showHit_kept ..).trans ?_
    | with_reducible refine (outcome_kept ..).trans ?_
    | with_reducible refine (causeDone_kept ..).trans ?_
    | with_reducible refine (servePeg_kept ..).trans ?_
    | with_reducible refine (afterReject_kept ..).trans ?_
    | with_reducible refine (State.kept_bump ..).trans ?_

theorem rungPowerFails_canon (s : State) (rung : Nat) (hs : s.Canonical) : (State.rungPowerFails s rung).Canonical := by
  unfold State.rungPowerFails
  repeat' first
    | with_reducible assumption
    | with_reducible intro _
    | simp only [canon_mk, canon_fold]
    | with_reducible apply canon_bump
    | with_reducible apply showHit_canon
    | with_reducible apply outcome_canon
    | with_reducible apply causeDone_canon
    | with_reducible apply servePeg_canon
    | with_reducible apply afterReject_canon
    | dsimp only
    | split

theorem rungDone_kept (s : State) (n : Nat) (j : Job) : (State.rungDone s n j).kept = s.kept := by
  unfold State.rungDone
  repeat' first
    | with_reducible rfl
    | (simp only [State.kept_set, State.kept_bump, kept_mk, State.kept_fold, apply_ite State.kept, ite_self, absorbWaiting_kept, afterReject_kept, cause_kept, outcome_kept, pegAdd_kept]; done)
    | dsimp only
    | intro _
    | split

theorem rungDone_canon (s : State) (n : Nat) (j : Job) (hs : s.Canonical) : (State.rungDone s n j).Canonical := by
  unfold State.rungDone
  repeat' first
    | with_reducible assumption
    | simp only [canon_mk, canon_fold]
    | with_reducible apply canon_set
    | with_reducible apply canon_bump
    | with_reducible apply absorbWaiting_canon
    | with_reducible apply afterReject_canon
    | with_reducible apply cause_canon
    | with_reducible apply outcome_canon
    | with_reducible apply pegAdd_canon
    | split

theorem endRung2_kept (s : State) : (State.endRung2 s).kept = s.kept := by
  unfold State.endRung2
  simp only [apply_ite State.kept, ite_self, toRung0_kept]

theorem endRung2_canon (s : State) (hs : s.Canonical) : (State.endRung2 s).Canonical := by
  unfold State.endRung2
  repeat' first
    | with_reducible assumption
    | with_reducible apply toRung0_canon
    | split

end Sys2Proof.Machine
end

