-- ==== Sys2Proof/Laws/TileFrames.lean ====
section
/-! SUPPORT. What the tiles of the stations leave: the queue of commands and OTP (`_kept`), and the canonical form (`_canon`). -/

set_option linter.unusedSimpArgs false

namespace Sys2Proof.Machine

/-! ## Counts of a tile -/

theorem planeCount_kept (s : State) (n : Nat) (c : ConvCount) (nan : Nat) : (State.planeCount s n c nan).kept = s.kept := by
  unfold State.planeCount
  simp only [State.kept_set, State.kept_bump, apply_ite State.kept, ite_self]

theorem planeCount_canon (s : State) (n : Nat) (c : ConvCount) (nan : Nat) (hs : s.Canonical) : (State.planeCount s n c nan).Canonical := by
  unfold State.planeCount
  repeat' first
    | with_reducible assumption
    | with_reducible intro _
    | simp only [canon_mk, canon_fold]
    | with_reducible apply canon_set
    | with_reducible apply canon_bump
    | split

theorem clippedAdd_kept (s : State) (n k : Nat) : (State.clippedAdd s n k).kept = s.kept := by
  unfold State.clippedAdd
  simp only [State.kept_set, kept_mk, State.kept_fold]

theorem clippedAdd_canon (s : State) (n k : Nat) (hs : s.Canonical) : (State.clippedAdd s n k).Canonical := by
  unfold State.clippedAdd
  repeat' first
    | with_reducible assumption
    | simp only [canon_mk, canon_fold]
    | with_reducible apply canon_set
    | split

theorem gauge_kept (s : State) (w : Work) (k n : Nat) : (State.gauge s w k n).kept = s.kept := by
  unfold State.gauge
  simp only [State.kept_bump, State.kept_setAll, apply_ite State.kept, ite_self, clippedAdd_kept]

theorem gauge_canon (s : State) (w : Work) (k n : Nat) (hs : s.Canonical) : (State.gauge s w k n).Canonical := by
  unfold State.gauge
  repeat' first
    | with_reducible assumption
    | dsimp only
    | with_reducible apply canon_set
    | with_reducible apply canon_setAll
    | with_reducible apply canon_bump
    | with_reducible apply clippedAdd_canon
    | split

theorem finishTile_kept (s : State) (w : Work) (f : Flags) (m : Made) : (State.finishTile s w f m).1.kept = s.kept := by
  unfold State.finishTile
  repeat' first
    | with_reducible rfl
    | (simp only [State.kept_set, State.kept_bump, apply_ite State.kept, ite_self, clippedAdd_kept, gauge_kept, planeCount_kept]; done)
    | dsimp only
    | intro _
    | split

theorem finishTile_canon (s : State) (w : Work) (f : Flags) (m : Made) (hs : s.Canonical) : (State.finishTile s w f m).1.Canonical := by
  unfold State.finishTile
  repeat' first
    | with_reducible assumption
    | simp only [canon_mk, canon_fold]
    | with_reducible apply canon_set
    | with_reducible apply canon_bump
    | with_reducible apply clippedAdd_canon
    | with_reducible apply gauge_canon
    | with_reducible apply planeCount_canon
    | split

/-! ## Dowel and Froe -/

theorem retireTable_kept (s : State) (k : Nat) : (State.retireTable s k).kept = s.kept := by
  unfold State.retireTable
  simp only [State.kept_bump, apply_ite State.kept, ite_self, freeTable_kept]

theorem retireTable_canon (s : State) (k : Nat) (hs : s.Canonical) : (State.retireTable s k).Canonical := by
  unfold State.retireTable
  repeat' first
    | with_reducible assumption
    | with_reducible apply canon_bump
    | with_reducible apply freeTable_canon
    | split

theorem writeCoded_kept (s : State) (n c a : Nat) (h : BlockHeader) (payload : List Nat) : (State.writeCoded s n c a h payload).kept = s.kept := by
  unfold State.writeCoded
  repeat' first
    | with_reducible rfl
    | (simp only [State.kept_bump, kept_mk, State.kept_fold, putVA_kept]; done)
    | dsimp only
    | intro _
    | split

theorem writeCoded_canon (s : State) (n c a : Nat) (h : BlockHeader) (payload : List Nat) (hs : s.Canonical) :
    (State.writeCoded s n c a h payload).Canonical := by
  unfold State.writeCoded
  repeat' first
    | with_reducible assumption
    | simp only [canon_mk, canon_fold]
    | with_reducible apply canon_bump
    | with_reducible apply putVA_canon
    | with_reducible apply canon_store
    | with_reducible apply Mem.wf_write
    | with_reducible apply Mem.wf_writeBytes
    | with_reducible apply Mem.wf_writeNum
    | with_reducible apply Mem.wf_clear
    | with_reducible apply wf_forEach
    | with_reducible apply canon_ddr_wf
    | with_reducible apply canon_check_wf
    | with_reducible apply canon_host_wf
    | with_reducible apply canon_bar4_wf
    | with_reducible apply canon_staging_wf
    | with_reducible apply canon_slot_wf
    | with_reducible apply splice_wf
    | with_reducible apply scramble_wf
    | with_reducible apply canon_regsOk
    | with_reducible apply regsOk_filter
    | with_reducible apply regsOk_nil
    | with_reducible apply wf_nil
    | with_reducible apply check_nil
    | with_reducible apply check_filter
    | with_reducible apply canon_slot0_wf
    | with_reducible apply canon_slot1_wf
    | split
    | with_reducible apply canon_parts

theorem writePlain_kept (s : State) (n c a : Nat) (bs : List Byte) : (State.writePlain s n c a bs).kept = s.kept := by
  unfold State.writePlain
  simp only [State.kept_bump, apply_ite State.kept, ite_self, writeVA_kept]

theorem writePlain_canon (s : State) (n c a : Nat) (bs : List Byte) (hs : s.Canonical) : (State.writePlain s n c a bs).Canonical := by
  unfold State.writePlain
  repeat' first
    | with_reducible assumption
    | dsimp only
    | with_reducible apply canon_bump
    | with_reducible apply writeVA_canon
    | split

theorem encodeBlock_kept (s : State) (n : Nat) (j : Job) (o : Nat) (x : Coding) (a : Nat) (bs : List Byte) :
    (State.encodeBlock s n j o x a bs).kept = s.kept := by
  unfold State.encodeBlock
  repeat' first
    | with_reducible rfl
    | (simp only [apply_ite State.kept, writeCoded_kept, writePlain_kept]; done)
    | dsimp only
    | intro _
    | split

theorem encodeBlock_canon (s : State) (n : Nat) (j : Job) (o : Nat) (x : Coding) (a : Nat) (bs : List Byte) (hs : s.Canonical) :
    (State.encodeBlock s n j o x a bs).Canonical := by
  unfold State.encodeBlock
  repeat' first
    | with_reducible assumption
    | with_reducible intro _
    | simp only [canon_mk, canon_fold]
    | with_reducible apply writeCoded_canon
    | with_reducible apply writePlain_canon
    | split

theorem setCoding_kept (s : State) (j : JobId) (o mode : Nat) : (State.setCoding s j o mode).kept = s.kept := by
  unfold State.setCoding
  simp only [updJob_kept]

theorem setCoding_canon (s : State) (j : JobId) (o mode : Nat) (hs : s.Canonical) : (State.setCoding s j o mode).Canonical := by
  unfold State.setCoding
  repeat' first
    | with_reducible assumption
    | with_reducible intro _
    | simp only [canon_mk, canon_fold]
    | with_reducible apply updJob_canon
    | split

theorem refuseTable_kept (s : State) (j : JobId) (o code : Nat) : (State.refuseTable s j o code).kept = s.kept := by
  unfold State.refuseTable
  simp only [State.kept_set, State.kept_bump, setCoding_kept, warn_kept]

theorem refuseTable_canon (s : State) (j : JobId) (o code : Nat) (hs : s.Canonical) : (State.refuseTable s j o code).Canonical := by
  unfold State.refuseTable
  repeat' first
    | with_reducible assumption
    | with_reducible apply canon_set
    | with_reducible apply canon_bump
    | with_reducible apply setCoding_canon
    | with_reducible apply warn_canon
    | split

theorem openOperand_kept (s : State) (w : Work) (x : Coding) : (State.openOperand s w x).kept = s.kept := by
  unfold State.openOperand
  repeat' first
    | with_reducible rfl
    | (simp only [State.kept_set, State.kept_bump, State.kept_setAll, kept_mk, State.kept_fold, apply_ite State.kept, ite_self, updJob_kept,
        setCoding_kept, refuseTable_kept]; done)
    | simp only [kept_mk, State.kept_fold]
    | dsimp only
    | intro _
    | split
    | with_reducible refine (updJob_kept ..).trans ?_
    | with_reducible refine (setCoding_kept ..).trans ?_
    | with_reducible refine (refuseTable_kept ..).trans ?_
    | with_reducible refine (State.kept_set ..).trans ?_
    | with_reducible refine (State.kept_setAll ..).trans ?_
    | with_reducible refine (State.kept_bump ..).trans ?_

theorem openOperand_canon (s : State) (w : Work) (x : Coding) (hs : s.Canonical) : (State.openOperand s w x).Canonical := by
  unfold State.openOperand
  repeat' first
    | with_reducible assumption
    | with_reducible intro _
    | simp only [canon_mk, canon_fold]
    | with_reducible apply canon_setAll
    | with_reducible apply canon_bump
    | with_reducible apply updJob_canon
    | with_reducible apply setCoding_canon
    | with_reducible apply refuseTable_canon
    | dsimp only
    | split

theorem holdBlock_kept (s : State) (w : Work) (a : Nat) (bs : List Byte) : (State.holdBlock s w a bs).kept = s.kept := by
  unfold State.holdBlock
  repeat' first
    | with_reducible rfl
    | (simp only [kept_mk, State.kept_fold]; done)
    | dsimp only
    | intro _
    | split

theorem holdBlock_canon (s : State) (w : Work) (a : Nat) (bs : List Byte) (hs : s.Canonical) : (State.holdBlock s w a bs).Canonical := by
  unfold State.holdBlock
  repeat' first
    | with_reducible assumption
    | with_reducible intro _
    | simp only [canon_mk, canon_fold]
    | dsimp only
    | split

theorem holdTile_kept (s : State) (w : Work) : (State.holdTile s w).kept = s.kept := by
  unfold State.holdTile
  repeat' first
    | with_reducible rfl
    | (simp only [kept_mk, State.kept_fold]; done)
    | dsimp only
    | intro _
    | split

theorem holdTile_canon (s : State) (w : Work) (hs : s.Canonical) : (State.holdTile s w).Canonical := by
  unfold State.holdTile
  repeat' first
    | with_reducible assumption
    | with_reducible intro _
    | simp only [canon_mk, canon_fold]
    | dsimp only
    | split

theorem dowelWrite_kept (s : State) (w : Work) (x : Coding) (a : Nat) (bs : List Byte) : (State.dowelWrite s w x a bs).kept = s.kept := by
  unfold State.dowelWrite
  repeat' first
    | with_reducible rfl
    | (simp only [State.kept_drop, apply_ite State.kept, ite_self, kept_forEach, kept_foldl, implies_true, writeRefused_kept, writePlain_kept,
        encodeBlock_kept, openOperand_kept, holdBlock_kept]; done)
    | dsimp only
    | intro _
    | split
    | (with_reducible refine (kept_forEach _ _ _ ?_).trans ?_)
    | with_reducible refine (writeRefused_kept ..).trans ?_
    | with_reducible refine (writePlain_kept ..).trans ?_
    | with_reducible refine (encodeBlock_kept ..).trans ?_
    | with_reducible refine (openOperand_kept ..).trans ?_
    | with_reducible refine (holdBlock_kept ..).trans ?_

theorem dowelWrite_canon (s : State) (w : Work) (x : Coding) (a : Nat) (bs : List Byte) (hs : s.Canonical) : (State.dowelWrite s w x a bs).Canonical
    := by
  unfold State.dowelWrite
  repeat' first
    | with_reducible assumption
    | with_reducible intro _
    | with_reducible apply canon_drop
    | with_reducible apply canon_forEach
    | with_reducible apply canon_foldl
    | with_reducible apply writeRefused_canon
    | with_reducible apply writePlain_canon
    | with_reducible apply encodeBlock_canon
    | with_reducible apply openOperand_canon
    | with_reducible apply holdBlock_canon
    | dsimp only
    | split

theorem audioTile_kept (s : State) (w : Work) (hq : Bool) (env : TileEnv) : (State.audioTile s w hq env).1.kept = s.kept := by
  unfold State.audioTile
  repeat' first
    | with_reducible rfl
    | (simp only [dowelRead_kept, readFailed_kept, warn_kept]; done)
    | dsimp only
    | intro _
    | split

theorem audioTile_canon (s : State) (w : Work) (hq : Bool) (env : TileEnv) (hs : s.Canonical) : (State.audioTile s w hq env).1.Canonical := by
  unfold State.audioTile
  repeat' first
    | with_reducible assumption
    | simp only [canon_mk, canon_fold]
    | with_reducible apply canon_drop
    | with_reducible apply dowelRead_canon
    | with_reducible apply readFailed_canon
    | with_reducible apply warn_canon
    | split

theorem loadTile_kept (s : State) (w : Work) (o : DowelOp) (env : TileEnv) : (State.loadTile s w o env).1.kept = s.kept := by
  unfold State.loadTile
  repeat' first
    | with_reducible rfl
    | (simp only [dowelRead_kept, readFailed_kept, warn_kept]; done)
    | dsimp only
    | intro _
    | split

theorem loadTile_canon (s : State) (w : Work) (o : DowelOp) (env : TileEnv) (hs : s.Canonical) : (State.loadTile s w o env).1.Canonical := by
  unfold State.loadTile
  repeat' first
    | with_reducible assumption
    | dsimp only
    | with_reducible apply dowelRead_canon
    | with_reducible apply readFailed_canon
    | with_reducible apply warn_canon
    | split

theorem captureOutput_kept (s : State) (w : Work) (b : Binding) (t : TileIn) (r : Nat) : (State.captureOutput s w b t r).kept = s.kept := by
  unfold State.captureOutput
  simp only [updJob_kept]

theorem captureOutput_canon (s : State) (w : Work) (b : Binding) (t : TileIn) (r : Nat) (hs : s.Canonical) : (State.captureOutput s w b t r).Canonical := by
  unfold State.captureOutput
  repeat' first
    | with_reducible assumption
    | with_reducible intro _
    | simp only [canon_mk, canon_fold]
    | with_reducible apply updJob_canon
    | split

theorem storeTile_kept (s : State) (w : Work) (o : DowelOp) (r : Nat) : (State.storeTile s w o r).kept = s.kept := by
  unfold State.storeTile
  repeat' first
    | with_reducible rfl
    | (simp only [kept_mk, State.kept_fold, apply_ite State.kept, ite_self, markLines_kept, dowelWrite_kept, captureOutput_kept]; done)
    | simp only [kept_mk, State.kept_fold]
    | dsimp only
    | intro _
    | split
    | with_reducible refine (markLines_kept ..).trans ?_
    | with_reducible refine (dowelWrite_kept ..).trans ?_
    | with_reducible refine (captureOutput_kept ..).trans ?_

theorem storeTile_canon (s : State) (w : Work) (o : DowelOp) (r : Nat) (hs : s.Canonical) : (State.storeTile s w o r).Canonical := by
  unfold State.storeTile
  repeat' first
    | with_reducible assumption
    | with_reducible intro _
    | simp only [canon_mk, canon_fold]
    | with_reducible apply markLines_canon
    | with_reducible apply dowelWrite_canon
    | with_reducible apply captureOutput_canon
    | dsimp only
    | split

theorem decodeTile_kept (s : State) (w : Work) (t : TileIn) : (State.decodeTile s w t).1.kept = s.kept := by
  unfold State.decodeTile
  repeat' first
    | with_reducible rfl
    | (simp only [decodeAll_kept, warn_kept]; done)
    | dsimp only
    | intro _
    | split

theorem decodeTile_canon (s : State) (w : Work) (t : TileIn) (hs : s.Canonical) : (State.decodeTile s w t).1.Canonical := by
  unfold State.decodeTile
  repeat' first
    | with_reducible assumption
    | with_reducible intro _
    | simp only [canon_mk, canon_fold]
    | with_reducible apply canon_drop
    | with_reducible apply decodeAll_canon
    | with_reducible apply warn_canon
    | split

theorem histTile_kept (s : State) (w : Work) (o : HistOp) (t : Tile) : (State.histTile s w o t).1.kept = s.kept := by
  unfold State.histTile
  simp only [State.kept_set, State.kept_bump, kept_mk, State.kept_fold]

theorem histTile_canon (s : State) (w : Work) (o : HistOp) (t : Tile) (hs : s.Canonical) : (State.histTile s w o t).1.Canonical := by
  unfold State.histTile
  repeat' first
    | with_reducible assumption
    | with_reducible intro _
    | simp only [canon_mk, canon_fold]
    | with_reducible apply canon_set
    | with_reducible apply canon_bump
    | split

theorem streamRead_kept (s : State) (n : Nat) (env : TileEnv) : (State.streamRead s n env).kept = s.kept := by
  unfold State.streamRead
  repeat' first
    | with_reducible rfl
    | (simp only [State.kept_bump, kept_mk, State.kept_fold, apply_ite State.kept, ite_self, updJob_kept, dowelRead_kept, warn_kept, readFailed_kept,
        withHalves_kept, implies_true]; done)
    | simp only [kept_mk, State.kept_fold]
    | dsimp only
    | intro _
    | split
    | with_reducible refine (updJob_kept ..).trans ?_
    | with_reducible refine (dowelRead_kept ..).trans ?_
    | with_reducible refine (warn_kept ..).trans ?_
    | with_reducible refine (readFailed_kept ..).trans ?_
    | with_reducible refine (withHalves_kept (h_f := ?_) ..).trans ?_
    | with_reducible refine (State.kept_bump ..).trans ?_

theorem streamRead_canon (s : State) (n : Nat) (env : TileEnv) (hs : s.Canonical) : (State.streamRead s n env).Canonical := by
  unfold State.streamRead
  repeat' first
    | with_reducible assumption
    | with_reducible intro _
    | simp only [canon_mk, canon_fold]
    | with_reducible apply canon_bump
    | with_reducible apply updJob_canon
    | with_reducible apply dowelRead_canon
    | with_reducible apply warn_canon
    | with_reducible apply readFailed_canon
    | with_reducible apply withHalves_canon
    | dsimp only
    | split

/-! ## Mortise, Plane, Scribe, Auger -/

theorem fetchLines_kept (s : State) (n k : Nat) : (State.fetchLines s n k).kept = s.kept := by
  unfold State.fetchLines
  simp only [State.kept_bump, apply_ite State.kept, ite_self, draw_kept]

theorem fetchLines_canon (s : State) (n k : Nat) (hs : s.Canonical) : (State.fetchLines s n k).Canonical := by
  unfold State.fetchLines
  repeat' first
    | with_reducible assumption
    | dsimp only
    | with_reducible apply canon_bump
    | with_reducible apply draw_canon
    | split

theorem scribeTile_kept (s : State) (w : Work) (o : ScribeOp) (poison : Nat) : (State.scribeTile s w o poison).1.kept = s.kept := by
  unfold State.scribeTile
  repeat' first
    | with_reducible rfl
    | (simp only [State.kept_bump, kept_mk, State.kept_fold, apply_ite State.kept, ite_self, fetchLines_kept]; done)
    | dsimp only
    | intro _
    | split

theorem scribeTile_canon (s : State) (w : Work) (o : ScribeOp) (poison : Nat) (hs : s.Canonical) : (State.scribeTile s w o poison).1.Canonical := by
  unfold State.scribeTile
  repeat' first
    | with_reducible assumption
    | with_reducible intro _
    | simp only [canon_mk, canon_fold]
    | with_reducible apply canon_bump
    | with_reducible apply fetchLines_canon
    | split

theorem freeHalf_kept (s : State) (h : KerfHalf) : (State.freeHalf s h).kept = s.kept := by
  unfold State.freeHalf
  simp only [kept_mk, State.kept_fold]

theorem freeHalf_canon (s : State) (h : KerfHalf) (hs : s.Canonical) : (State.freeHalf s h).Canonical := by
  unfold State.freeHalf
  repeat' first
    | with_reducible assumption
    | with_reducible intro _
    | simp only [canon_mk, canon_fold]

    | split

theorem freeBlocks_kept (s : State) (w : Work) (o : MortiseOp) : (State.freeBlocks s w o).kept = s.kept := by
  unfold State.freeBlocks
  repeat' first
    | with_reducible rfl
    | (simp only [kept_mk, State.kept_fold]; done)
    | dsimp only
    | intro _
    | split

theorem freeBlocks_canon (s : State) (w : Work) (o : MortiseOp) (hs : s.Canonical) : (State.freeBlocks s w o).Canonical := by
  unfold State.freeBlocks
  repeat' first
    | with_reducible assumption
    | with_reducible intro _
    | simp only [canon_mk, canon_fold]

    | split

theorem mortiseTile_kept (s : State) (w : Work) (o : MortiseOp) (half : Option KerfHalf) : (State.mortiseTile s w o half).1.kept = s.kept := by
  unfold State.mortiseTile
  repeat' first
    | with_reducible rfl
    | (simp only [State.kept_bump, kept_mk, State.kept_fold, apply_ite State.kept, ite_self]; done)
    | dsimp only
    | intro _
    | split

theorem mortiseTile_canon (s : State) (w : Work) (o : MortiseOp) (half : Option KerfHalf) (hs : s.Canonical) :
    (State.mortiseTile s w o half).1.Canonical := by
  unfold State.mortiseTile
  repeat' first
    | with_reducible assumption
    | simp only [canon_mk, canon_fold]
    | with_reducible apply canon_bump
    | split

theorem planeTile_kept (s : State) (w : Work) (o : PlaneOp) (half : Option KerfHalf) : (State.planeTile s w o half).1.kept = s.kept := by
  unfold State.planeTile
  simp only [kept_mk, State.kept_fold]

theorem planeTile_canon (s : State) (w : Work) (o : PlaneOp) (half : Option KerfHalf) (hs : s.Canonical) : (State.planeTile s w o half).1.Canonical := by
  unfold State.planeTile
  repeat' first
    | with_reducible assumption
    | with_reducible intro _
    | simp only [canon_mk, canon_fold]
    | with_reducible apply canon_drop
    | split

theorem augerTile_kept (s : State) (w : Work) (a : AugerParams) (srcs : List AugerSrc) (env : TileEnv) : (State.augerTile s w a srcs env).1.kept =
    s.kept := by
  unfold State.augerTile
  repeat' first
    | with_reducible rfl
    | (simp only [State.kept_set, State.kept_bump, kept_mk, State.kept_fold, apply_ite State.kept, ite_self, dowelLines_kept, warn_kept, readFailed_kept,
        loftRead_kept]; done)
    | simp only [kept_mk, State.kept_fold]
    | dsimp only
    | intro _
    | split
    | with_reducible refine (dowelLines_kept ..).trans ?_
    | with_reducible refine (warn_kept ..).trans ?_
    | with_reducible refine (readFailed_kept ..).trans ?_
    | with_reducible refine (loftRead_kept ..).trans ?_
    | with_reducible refine (State.kept_set ..).trans ?_
    | with_reducible refine (State.kept_bump ..).trans ?_

theorem augerTile_canon (s : State) (w : Work) (a : AugerParams) (srcs : List AugerSrc) (env : TileEnv) (hs : s.Canonical) : (State.augerTile s w a
    srcs env).1.Canonical := by
  unfold State.augerTile
  repeat' first
    | with_reducible assumption
    | with_reducible intro _
    | simp only [canon_mk, canon_fold]
    | with_reducible apply canon_set
    | with_reducible apply canon_bump
    | with_reducible apply dowelLines_canon
    | with_reducible apply warn_canon
    | with_reducible apply readFailed_canon
    | with_reducible apply loftRead_canon
    | with_reducible apply canon_store
    | with_reducible apply canon_change
    | with_reducible apply canon_host
    | with_reducible apply canon_bar4
    | with_reducible apply canon_staging
    | with_reducible apply canon_setSlot
    | with_reducible apply Mem.wf_write
    | with_reducible apply Mem.wf_writeBytes
    | with_reducible apply Mem.wf_writeNum
    | with_reducible apply Mem.wf_clear
    | with_reducible apply wf_forEach
    | with_reducible apply wf_foldl_fst
    | with_reducible apply canon_ddr_wf
    | with_reducible apply canon_check_wf
    | with_reducible apply canon_host_wf
    | with_reducible apply canon_bar4_wf
    | with_reducible apply canon_staging_wf
    | with_reducible apply canon_slot_wf
    | with_reducible apply splice_wf
    | with_reducible apply scramble_wf
    | with_reducible apply canon_regsOk
    | with_reducible apply regsOk_filter
    | with_reducible apply regsOk_nil
    | with_reducible apply wf_nil
    | with_reducible apply check_nil
    | with_reducible apply check_filter
    | with_reducible apply canon_slot0_wf
    | with_reducible apply canon_slot1_wf
    | dsimp only
    | split
    | with_reducible apply canon_parts

/-! ## Scarf -/

theorem scarfCount_kept (s : State) (n : Nat) (gs : List GroupOut) : (State.scarfCount s n gs).kept = s.kept := by
  unfold State.scarfCount
  simp only [State.kept_set, State.kept_bump, apply_ite State.kept, ite_self]

theorem scarfCount_canon (s : State) (n : Nat) (gs : List GroupOut) (hs : s.Canonical) : (State.scarfCount s n gs).Canonical := by
  unfold State.scarfCount
  repeat' first
    | with_reducible assumption
    | with_reducible intro _
    | dsimp only
    | with_reducible apply canon_set
    | with_reducible apply canon_bump
    | split

theorem scarfDirect_kept (s : State) (w : Work) (o : ScarfOp) : (State.scarfDirect s w o).1.kept = s.kept := by
  unfold State.scarfDirect
  repeat' first
    | with_reducible rfl
    | (simp only [State.kept_set, State.kept_bump, kept_mk, State.kept_fold, scarfCount_kept]; done)
    | dsimp only
    | intro _
    | split
    | (refine (kept_foldl _ _ _ ?_).trans ?_)

theorem scarfDirect_canon (s : State) (w : Work) (o : ScarfOp) (hs : s.Canonical) : (State.scarfDirect s w o).1.Canonical := by
  unfold State.scarfDirect
  repeat' first
    | with_reducible assumption
    | with_reducible intro _
    | simp only [canon_mk, canon_fold]
    | with_reducible apply canon_set
    | with_reducible apply canon_bump
    | with_reducible apply canon_foldl
    | with_reducible apply canon_foldl_fst
    | with_reducible apply canon_foldl_snd
    | with_reducible apply scarfCount_canon
    | split

theorem putRow_kept (s : State) (c k a x : Nat) (es : List Elem) : (State.putRow s c k a x es).kept = s.kept := by
  unfold State.putRow
  simp only [apply_ite State.kept, ite_self, writeVA_kept]

theorem putRow_canon (s : State) (c k a x : Nat) (es : List Elem) (hs : s.Canonical) : (State.putRow s c k a x es).Canonical := by
  unfold State.putRow
  repeat' first
    | with_reducible assumption
    | with_reducible intro _
    | simp only [canon_mk, canon_fold]
    | with_reducible apply writeVA_canon
    | split

theorem writeNewKV_kept (s : State) (w : Work) (o : ScarfOp) (k : Nat) (recs : List StepRec) (keys vals : Tile) :
    (State.writeNewKV s w o k recs keys vals).kept = s.kept := by
  unfold State.writeNewKV
  repeat' first
    | with_reducible rfl
    | (simp only [State.kept_bump, apply_ite State.kept, kept_forEach, implies_true, putRow_kept]; done)
    | dsimp only
    | intro _
    | split
    | (refine (kept_forEach _ _ _ ?_).trans ?_)

theorem writeNewKV_canon (s : State) (w : Work) (o : ScarfOp) (k : Nat) (recs : List StepRec) (keys vals : Tile) (hs : s.Canonical) :
    (State.writeNewKV s w o k recs keys vals).Canonical := by
  unfold State.writeNewKV
  repeat' first
    | with_reducible assumption
    | with_reducible intro _
    | simp only [canon_mk, canon_fold]
    | with_reducible apply canon_bump
    | with_reducible apply canon_forEach
    | with_reducible apply putRow_canon
    | split

theorem addScores_kept (s : State) (k : Nat) (last : Nat) (seed : Nat) (sums : List (QRow × RowSum)) :
    (State.addScores s k last seed sums).kept = s.kept := by
  unfold State.addScores
  simp only [kept_forEach, implies_true, writeNumVA_kept]

theorem addScores_canon (s : State) (k : Nat) (last : Nat) (seed : Nat) (sums : List (QRow × RowSum)) (hs : s.Canonical) :
    (State.addScores s k last seed sums).Canonical := by
  unfold State.addScores
  repeat' first
    | with_reducible assumption
    | with_reducible intro _
    | dsimp only
    | with_reducible apply canon_forEach
    | with_reducible apply writeNumVA_canon
    | split

theorem scarfSeq_kept (s : State) (w : Work) (o : ScarfOp) (k : Nat) (x : Snapshot) (r : StepRec) (rows : List QRow) (mem : ReadOutcome) :
    (State.scarfSeq s w o k x r rows mem).1.kept = s.kept := by
  unfold State.scarfSeq
  repeat' first
    | with_reducible rfl
    | (simp only [State.kept_set, State.kept_bump, apply_ite State.kept, ite_self, readBlocks_kept, takeRanges_kept, warn_kept, setReason_kept,
        scarfCount_kept]; done)
    | dsimp only
    | intro _
    | split
    | with_reducible refine (readBlocks_kept ..).trans ?_
    | with_reducible refine (takeRanges_kept ..).trans ?_
    | with_reducible refine (warn_kept ..).trans ?_
    | with_reducible refine (setReason_kept ..).trans ?_
    | with_reducible refine (scarfCount_kept ..).trans ?_
    | with_reducible refine (State.kept_set ..).trans ?_
    | with_reducible refine (State.kept_bump ..).trans ?_

theorem scarfSeq_canon (s : State) (w : Work) (o : ScarfOp) (k : Nat) (x : Snapshot) (r : StepRec) (rows : List QRow) (mem : ReadOutcome) (hs :
    s.Canonical) : (State.scarfSeq s w o k x r rows mem).1.Canonical := by
  unfold State.scarfSeq
  repeat' first
    | with_reducible assumption
    | with_reducible intro _
    | with_reducible apply canon_set
    | with_reducible apply canon_bump
    | with_reducible apply readBlocks_canon
    | with_reducible apply takeRanges_canon
    | with_reducible apply warn_canon
    | with_reducible apply setReason_canon
    | with_reducible apply scarfCount_canon
    | dsimp only
    | split

theorem pagedNew_kept (s : State) (w : Work) (o : ScarfOp) (x : Snapshot) : (State.pagedNew s w o x).kept = s.kept := by
  unfold State.pagedNew
  split
  · exact writeNewKV_kept ..
  · rfl

theorem pagedNew_canon (s : State) (w : Work) (o : ScarfOp) (x : Snapshot) (hs : s.Canonical) : (State.pagedNew s w o x).Canonical := by
  unfold State.pagedNew
  split
  · exact writeNewKV_canon _ _ _ _ _ _ _ hs
  · exact hs

theorem pagedRecord_kept (w : Work) (o : ScarfOp) (x : Snapshot) (mem : ReadOutcome) (rows : List (StepRec × QRow)) (s : State)
    (b : Nat × List (QRow × RowSum)) (rc : StepRec) : (State.pagedRecord w o x mem rows (s, b) rc).1.kept = s.kept := by
  unfold State.pagedRecord
  dsimp only
  split
  · exact (addScores_kept ..).trans (scarfSeq_kept ..)
  · exact scarfSeq_kept ..

theorem pagedRecord_canon (w : Work) (o : ScarfOp) (x : Snapshot) (mem : ReadOutcome) (rows : List (StepRec × QRow)) (s : State)
    (b : Nat × List (QRow × RowSum)) (rc : StepRec) (hs : s.Canonical) : (State.pagedRecord w o x mem rows (s, b) rc).1.Canonical := by
  have h := scarfSeq_canon s w o x.session x rc ((rows.filter (fun p => p.1 == rc)).map (·.2)) mem hs
  unfold State.pagedRecord
  dsimp only
  split
  · exact addScores_canon _ _ _ _ _ h
  · exact h

/-- What the rows of a step leave, whatever the state before them. -/
theorem pagedRows_kept (w : Work) (o : ScarfOp) (x : Snapshot) (mem : ReadOutcome) (rows : List (StepRec × QRow)) (l : List StepRec) (s : State)
    (b : Nat × List (QRow × RowSum)) : (l.foldl (State.pagedRecord w o x mem rows) (s, b)).1.kept = s.kept :=
  kept_foldl_fst l _ (s, b) (pagedRecord_kept w o x mem rows)

theorem pagedRows_canon (w : Work) (o : ScarfOp) (x : Snapshot) (mem : ReadOutcome) (rows : List (StepRec × QRow)) (l : List StepRec) (s : State)
    (b : Nat × List (QRow × RowSum)) (hs : s.Canonical) : (l.foldl (State.pagedRecord w o x mem rows) (s, b)).1.Canonical :=
  canon_foldl_fst l _ (s, b) (pagedRecord_canon w o x mem rows) hs

theorem scarfPaged_kept (s : State) (w : Work) (o : ScarfOp) (poison : Nat) (mem : ReadOutcome) : (State.scarfPaged s w o poison mem).1.kept =
    s.kept := by
  unfold State.scarfPaged
  dsimp only
  split
  · rfl
  · split
    · exact pagedNew_kept ..
    · split
      · exact (pagedRows_kept ..).trans (pagedNew_kept ..)
      · exact (pagedRows_kept ..).trans (pagedNew_kept ..)

theorem scarfPaged_canon (s : State) (w : Work) (o : ScarfOp) (poison : Nat) (mem : ReadOutcome) (hs : s.Canonical) : (State.scarfPaged s w o poison
    mem).1.Canonical := by
  unfold State.scarfPaged
  dsimp only
  split
  · exact hs
  · have h := fun x => pagedNew_canon s w o x hs
    split
    · exact h _
    · split
      · exact pagedRows_canon _ _ _ _ _ _ _ _ (h _)
      · exact pagedRows_canon _ _ _ _ _ _ _ _ (h _)

theorem scarfTile_kept (s : State) (w : Work) (o : ScarfOp) (poison : Nat) (mem : ReadOutcome) : (State.scarfTile s w o poison mem).1.kept = s.kept := by
  unfold State.scarfTile
  repeat' first
    | with_reducible rfl
    | (simp only [scarfDirect_kept, scarfPaged_kept]; done)
    | dsimp only
    | intro _
    | split

theorem scarfTile_canon (s : State) (w : Work) (o : ScarfOp) (poison : Nat) (mem : ReadOutcome) (hs : s.Canonical) :
    (State.scarfTile s w o poison mem).1.Canonical := by
  unfold State.scarfTile
  repeat' first
    | with_reducible assumption
    | with_reducible apply scarfDirect_canon
    | with_reducible apply scarfPaged_canon
    | split

/-! ## Truss -/

theorem trussInit_kept (s : State) (w : Work) (o : TrussOp) (ch : Chunk) (first rows : Nat) (env : TileEnv) :
    (State.trussInit s w o ch first rows env).1.kept = s.kept := by
  unfold State.trussInit
  repeat' first
    | with_reducible rfl
    | (simp only [dowelRead_kept, readFailed_kept, warn_kept]; done)
    | dsimp only
    | intro _
    | split

theorem trussInit_canon (s : State) (w : Work) (o : TrussOp) (ch : Chunk) (first rows : Nat) (env : TileEnv) (hs : s.Canonical) :
    (State.trussInit s w o ch first rows env).1.Canonical := by
  unfold State.trussInit
  repeat' first
    | with_reducible assumption
    | with_reducible intro _
    | dsimp only
    | with_reducible apply dowelRead_canon
    | with_reducible apply readFailed_canon
    | with_reducible apply warn_canon
    | split

theorem trussTile_kept (s : State) (w : Work) (o : TrussOp) (poison : Nat) (env : TileEnv) : (State.trussTile s w o poison env).1.kept = s.kept := by
  unfold State.trussTile
  repeat' first
    | with_reducible rfl
    | (simp only [State.kept_bump, kept_mk, State.kept_fold, apply_ite State.kept, ite_self, kept_forEach, kept_foldl, implies_true, chunkAbort_kept,
        updLayer_kept, trussInit_kept]; done)
    | simp only [kept_mk, State.kept_fold]
    | dsimp only
    | intro _
    | split
    | (with_reducible refine (kept_forEach _ _ _ ?_).trans ?_)
    | (with_reducible refine (kept_foldl _ _ _ ?_).trans ?_)
    | (with_reducible refine (kept_foldl_fst _ _ _ ?_).trans ?_)
    | (with_reducible refine (kept_foldl_snd _ _ _ ?_).trans ?_)
    | with_reducible refine (chunkAbort_kept ..).trans ?_
    | with_reducible refine (updLayer_kept ..).trans ?_
    | with_reducible refine (trussInit_kept ..).trans ?_
    | with_reducible refine (State.kept_bump ..).trans ?_

theorem trussTile_canon (s : State) (w : Work) (o : TrussOp) (poison : Nat) (env : TileEnv) (hs : s.Canonical) : (State.trussTile s w o poison
    env).1.Canonical := by
  unfold State.trussTile
  repeat' first
    | with_reducible assumption
    | with_reducible intro _
    | simp only [canon_mk, canon_fold]
    | with_reducible apply canon_bump
    | with_reducible apply canon_forEach
    | with_reducible apply canon_foldl
    | with_reducible apply canon_foldl_fst
    | with_reducible apply canon_foldl_snd
    | with_reducible apply chunkAbort_canon
    | with_reducible apply updLayer_canon
    | with_reducible apply trussInit_canon
    | dsimp only
    | split

/-! ## Tiles -/

theorem compute_kept (s : State) (w : Work) (env : TileEnv) : (State.compute s w env).1.kept = s.kept := by
  unfold State.compute
  repeat' first
    | with_reducible rfl
    | (simp only [kept_mk, State.kept_fold, apply_ite State.kept, ite_self, loftRead_kept, audioTile_kept, loadTile_kept, storeTile_kept, decodeTile_kept,
        histTile_kept, scribeTile_kept, freeHalf_kept, freeBlocks_kept, mortiseTile_kept, planeTile_kept, augerTile_kept, scarfTile_kept,
        trussTile_kept]; done)
    | simp only [kept_mk, State.kept_fold]
    | dsimp only
    | intro _
    | split
    | with_reducible refine (loftRead_kept ..).trans ?_
    | with_reducible refine (audioTile_kept ..).trans ?_
    | with_reducible refine (loadTile_kept ..).trans ?_
    | with_reducible refine (storeTile_kept ..).trans ?_
    | with_reducible refine (decodeTile_kept ..).trans ?_
    | with_reducible refine (histTile_kept ..).trans ?_
    | with_reducible refine (scribeTile_kept ..).trans ?_
    | with_reducible refine (freeHalf_kept ..).trans ?_
    | with_reducible refine (freeBlocks_kept ..).trans ?_
    | with_reducible refine (mortiseTile_kept ..).trans ?_
    | with_reducible refine (planeTile_kept ..).trans ?_
    | with_reducible refine (augerTile_kept ..).trans ?_
    | with_reducible refine (scarfTile_kept ..).trans ?_
    | with_reducible refine (trussTile_kept ..).trans ?_

theorem compute_canon (s : State) (w : Work) (env : TileEnv) (hs : s.Canonical) : (State.compute s w env).1.Canonical := by
  unfold State.compute
  repeat' first
    | with_reducible assumption
    | with_reducible intro _
    | simp only [canon_mk, canon_fold]
    | with_reducible apply loftRead_canon
    | with_reducible apply audioTile_canon
    | with_reducible apply loadTile_canon
    | with_reducible apply storeTile_canon
    | with_reducible apply decodeTile_canon
    | with_reducible apply histTile_canon
    | with_reducible apply scribeTile_canon
    | with_reducible apply freeHalf_canon
    | with_reducible apply freeBlocks_canon
    | with_reducible apply mortiseTile_canon
    | with_reducible apply planeTile_canon
    | with_reducible apply augerTile_canon
    | with_reducible apply scarfTile_canon
    | with_reducible apply trussTile_canon
    | dsimp only
    | split

theorem issuePegs_kept (s : State) (j : Job) (d : OpDef) (q : Nat) : (State.issuePegs s j d q).kept = s.kept := by
  unfold State.issuePegs
  simp only [kept_forEach, implies_true, jobPegRef_kept]

theorem issuePegs_canon (s : State) (j : Job) (d : OpDef) (q : Nat) (hs : s.Canonical) : (State.issuePegs s j d q).Canonical := by
  unfold State.issuePegs
  repeat' first
    | with_reducible assumption
    | with_reducible intro _
    | with_reducible apply canon_forEach
    | with_reducible apply jobPegRef_canon
    | split

theorem served_kept (s : State) (w : Work) : (State.served s w).kept = s.kept := by
  unfold State.served
  simp only [State.kept_bump, kept_mk, State.kept_fold, apply_ite State.kept, ite_self]

theorem served_canon (s : State) (w : Work) (hs : s.Canonical) : (State.served s w).Canonical := by
  unfold State.served
  repeat' first
    | with_reducible assumption
    | with_reducible intro _
    | simp only [canon_mk, canon_fold]
    | with_reducible apply canon_bump
    | split

theorem dropGeneration_kept (s : State) (j : JobId) : (State.dropGeneration s j).kept = s.kept := by
  unfold State.dropGeneration
  repeat' first
    | with_reducible rfl
    | (simp only [apply_ite State.kept, ite_self, updJob_kept]; done)
    | dsimp only
    | intro _
    | split

theorem dropGeneration_canon (s : State) (j : JobId) (hs : s.Canonical) : (State.dropGeneration s j).Canonical := by
  unfold State.dropGeneration
  repeat' first
    | with_reducible assumption
    | with_reducible intro _
    | simp only [canon_mk, canon_fold]
    | with_reducible apply updJob_canon
    | split

theorem tileDone_kept (s : State) (w : Work) (poison : Nat) (rerun : Bool) : (State.tileDone s w poison rerun).kept = s.kept := by
  unfold State.tileDone
  repeat' first
    | with_reducible rfl
    | (simp only [State.kept_set, State.kept_bump, kept_mk, State.kept_fold, apply_ite State.kept, ite_self, updJob_kept, jobPeg_kept, releaseInputs_kept,
        settleJob_kept, issueWaits_kept, holdTile_kept, issuePegs_kept, served_kept, dropGeneration_kept]; done)
    | simp only [kept_mk, State.kept_fold]
    | dsimp only
    | intro _
    | split
    | with_reducible refine (updJob_kept ..).trans ?_
    | with_reducible refine (jobPeg_kept ..).trans ?_
    | with_reducible refine (releaseInputs_kept ..).trans ?_
    | with_reducible refine (settleJob_kept ..).trans ?_
    | with_reducible refine (issueWaits_kept ..).trans ?_
    | with_reducible refine (holdTile_kept ..).trans ?_
    | with_reducible refine (issuePegs_kept ..).trans ?_
    | with_reducible refine (served_kept ..).trans ?_
    | with_reducible refine (dropGeneration_kept ..).trans ?_
    | with_reducible refine (State.kept_set ..).trans ?_
    | with_reducible refine (State.kept_bump ..).trans ?_

theorem tileDone_canon (s : State) (w : Work) (poison : Nat) (rerun : Bool) (hs : s.Canonical) : (State.tileDone s w poison rerun).Canonical := by
  unfold State.tileDone
  repeat' first
    | with_reducible assumption
    | with_reducible intro _
    | simp only [canon_mk, canon_fold]
    | with_reducible apply canon_set
    | with_reducible apply canon_bump
    | with_reducible apply updJob_canon
    | with_reducible apply jobPeg_canon
    | with_reducible apply releaseInputs_canon
    | with_reducible apply settleJob_canon
    | with_reducible apply issueWaits_canon
    | with_reducible apply holdTile_canon
    | with_reducible apply issuePegs_canon
    | with_reducible apply served_canon
    | with_reducible apply dropGeneration_canon
    | dsimp only
    | split

theorem runWork_kept (s : State) (w : Work) (env : TileEnv) : (State.runWork s w env).kept = s.kept := by
  unfold State.runWork
  repeat' first
    | with_reducible rfl
    | (simp only [kept_mk, State.kept_fold, apply_ite State.kept, ite_self, written_kept, withHalves_kept, catchPartial_kept, putTile_kept,
        finishTile_kept, compute_kept, tileDone_kept, implies_true]; done)
    | simp only [kept_mk, State.kept_fold]
    | dsimp only
    | intro _
    | split
    | with_reducible refine (written_kept (h_f := ?_) ..).trans ?_
    | with_reducible refine (withHalves_kept (h_f := ?_) ..).trans ?_
    | with_reducible refine (catchPartial_kept (h_f := ?_) ..).trans ?_
    | with_reducible refine (putTile_kept ..).trans ?_
    | with_reducible refine (finishTile_kept ..).trans ?_
    | with_reducible refine (compute_kept ..).trans ?_
    | with_reducible refine (tileDone_kept ..).trans ?_

theorem runWork_canon (s : State) (w : Work) (env : TileEnv) (hs : s.Canonical) : (State.runWork s w env).Canonical := by
  unfold State.runWork
  repeat' first
    | with_reducible assumption
    | with_reducible intro _
    | simp only [canon_mk, canon_fold]
    | with_reducible apply written_canon
    | with_reducible apply withHalves_canon
    | with_reducible apply catchPartial_canon
    | with_reducible apply putTile_canon
    | with_reducible apply finishTile_canon
    | with_reducible apply compute_canon
    | with_reducible apply tileDone_canon
    | dsimp only
    | split

theorem demandBent_kept (s : State) (n : Nat) : (State.demandBent s n).kept = s.kept := by
  unfold State.demandBent
  repeat' first
    | with_reducible rfl
    | (simp only [State.kept_set, apply_ite State.kept, ite_self, kept_forEach, kept_foldl, implies_true, demand_kept, gauge_kept]; done)
    | dsimp only
    | intro _
    | split
    | (with_reducible refine (kept_forEach _ _ _ ?_).trans ?_)
    | (with_reducible refine (kept_foldl _ _ _ ?_).trans ?_)
    | (with_reducible refine (kept_foldl_fst _ _ _ ?_).trans ?_)
    | (with_reducible refine (kept_foldl_snd _ _ _ ?_).trans ?_)
    | with_reducible refine (demand_kept ..).trans ?_
    | with_reducible refine (gauge_kept ..).trans ?_
    | with_reducible refine (State.kept_set ..).trans ?_

theorem demandBent_canon (s : State) (n : Nat) (hs : s.Canonical) : (State.demandBent s n).Canonical := by
  unfold State.demandBent
  repeat' first
    | with_reducible assumption
    | with_reducible intro _
    | with_reducible apply canon_forEach
    | with_reducible apply canon_foldl
    | with_reducible apply canon_foldl_fst
    | with_reducible apply canon_foldl_snd
    | with_reducible apply demand_canon
    | with_reducible apply gauge_canon
    | dsimp only
    | split

theorem takeTile_kept (s : State) (n : Nat) (st : Station) : (State.takeTile s n st).kept = s.kept := by
  unfold State.takeTile
  repeat' first
    | with_reducible rfl
    | (simp only [kept_mk, State.kept_fold, apply_ite State.kept, ite_self, fillerStop_kept]; done)
    | simp only [kept_mk, State.kept_fold]
    | dsimp only
    | intro _
    | split
    | with_reducible refine (fillerStop_kept ..).trans ?_

theorem takeTile_canon (s : State) (n : Nat) (st : Station) (hs : s.Canonical) : (State.takeTile s n st).Canonical := by
  unfold State.takeTile
  repeat' first
    | with_reducible assumption
    | with_reducible intro _
    | simp only [canon_mk, canon_fold]
    | with_reducible apply fillerStop_canon
    | dsimp only
    | split

theorem tileCompute_kept (s : State) (n : Nat) (st : Station) (env : TileEnv) : (State.tileCompute s n st env).kept = s.kept := by
  unfold State.tileCompute
  repeat' first
    | with_reducible rfl
    | (simp only [kept_mk, State.kept_fold, apply_ite State.kept, ite_self, awaken_kept, dropAll_kept, runWork_kept, demandBent_kept, takeTile_kept,
        implies_true]; done)
    | simp only [kept_mk, State.kept_fold]
    | dsimp only
    | intro _
    | split
    | with_reducible refine (awaken_kept (h_f := ?_) ..).trans ?_
    | with_reducible refine (dropAll_kept ..).trans ?_
    | with_reducible refine (runWork_kept ..).trans ?_
    | with_reducible refine (demandBent_kept ..).trans ?_
    | with_reducible refine (takeTile_kept ..).trans ?_

theorem tileCompute_canon (s : State) (n : Nat) (st : Station) (env : TileEnv) (hs : s.Canonical) : (State.tileCompute s n st env).Canonical := by
  unfold State.tileCompute
  repeat' first
    | with_reducible assumption
    | with_reducible intro _
    | simp only [canon_mk, canon_fold]
    | with_reducible apply awaken_canon
    | with_reducible apply dropAll_canon
    | with_reducible apply runWork_canon
    | with_reducible apply demandBent_canon
    | with_reducible apply takeTile_canon
    | dsimp only
    | split

theorem hostReadTimeout_kept (s : State) (j : JobId) : (State.hostReadTimeout s j).kept = s.kept := by
  unfold State.hostReadTimeout
  repeat' first
    | with_reducible rfl
    | (simp only [runWork_kept]; done)
    | dsimp only
    | intro _
    | split

theorem hostReadTimeout_canon (s : State) (j : JobId) (hs : s.Canonical) : (State.hostReadTimeout s j).Canonical := by
  unfold State.hostReadTimeout
  repeat' first
    | with_reducible assumption
    | simp only [canon_mk, canon_fold]
    | with_reducible apply runWork_canon
    | with_reducible apply canon_host
    | with_reducible apply Mem.wf_write
    | with_reducible apply Mem.wf_writeBytes
    | with_reducible apply Mem.wf_writeNum
    | with_reducible apply Mem.wf_clear
    | with_reducible apply wf_forEach
    | with_reducible apply canon_ddr_wf
    | with_reducible apply canon_check_wf
    | with_reducible apply canon_host_wf
    | with_reducible apply canon_bar4_wf
    | with_reducible apply canon_staging_wf
    | with_reducible apply canon_slot_wf
    | with_reducible apply splice_wf
    | with_reducible apply scramble_wf
    | split

theorem supersedeTables_kept (s : State) (k : Nat) : (State.supersedeTables s k).kept = s.kept := by
  unfold State.supersedeTables
  simp only [State.kept_set, State.kept_bump, State.kept_drop, kept_forEach, implies_true]

theorem supersedeTables_canon (s : State) (k : Nat) (hs : s.Canonical) : (State.supersedeTables s k).Canonical := by
  unfold State.supersedeTables
  repeat' first
    | with_reducible assumption
    | with_reducible intro _
    | with_reducible apply canon_set
    | with_reducible apply canon_bump
    | with_reducible apply canon_drop
    | with_reducible apply canon_forEach
    | split

theorem writeHeld_kept (s : State) (j : Job) (g : Graph) (key : Nat) (h : HeldBlock) : (State.writeHeld s j g key h).kept = s.kept := by
  unfold State.writeHeld
  repeat' first
    | with_reducible rfl
    | (simp only [kept_mk, State.kept_fold, encodeBlock_kept]; done)
    | simp only [kept_mk, State.kept_fold]
    | dsimp only
    | intro _
    | split
    | with_reducible refine (encodeBlock_kept ..).trans ?_

theorem writeHeld_canon (s : State) (j : Job) (g : Graph) (key : Nat) (h : HeldBlock) (hs : s.Canonical) : (State.writeHeld s j g key h).Canonical
    := by
  unfold State.writeHeld
  repeat' first
    | with_reducible assumption
    | with_reducible intro _
    | simp only [canon_mk, canon_fold]
    | with_reducible apply encodeBlock_canon
    | dsimp only
    | split

theorem releaseHeld_kept (s : State) (j : Job) (g : Graph) (tiles : List (Nat × Nat)) : (State.releaseHeld s j g tiles).kept = s.kept := by
  unfold State.releaseHeld
  repeat' first
    | with_reducible rfl
    | (simp only [kept_mk, State.kept_fold, kept_forEach, kept_foldl, implies_true, releaseInputs_kept, issuePegs_kept]; done)
    | simp only [kept_mk, State.kept_fold]
    | dsimp only
    | intro _
    | split
    | (with_reducible refine (kept_forEach _ _ _ ?_).trans ?_)
    | with_reducible refine (releaseInputs_kept ..).trans ?_
    | with_reducible refine (issuePegs_kept ..).trans ?_

theorem releaseHeld_canon (s : State) (j : Job) (g : Graph) (tiles : List (Nat × Nat)) (hs : s.Canonical) : (State.releaseHeld s j g
    tiles).Canonical := by
  unfold State.releaseHeld
  repeat' first
    | with_reducible assumption
    | with_reducible intro _
    | simp only [canon_mk, canon_fold]
    | with_reducible apply canon_forEach
    | with_reducible apply canon_foldl
    | with_reducible apply releaseInputs_canon
    | with_reducible apply issuePegs_canon
    | dsimp only
    | split

theorem tableBuildDone_kept (s : State) (k : Nat) (rd : ReadOutcome) (wr : WriteOutcome) : (State.tableBuildDone s k rd wr).kept = s.kept := by
  unfold State.tableBuildDone
  repeat' first
    | with_reducible rfl
    | (simp only [State.kept_bump, State.kept_setAll, kept_mk, State.kept_fold, apply_ite State.kept, ite_self, kept_forEach, kept_foldl, implies_true,
        dropBuilds_kept, writes_kept, withHalves_kept, settleJob_kept, supersedeTables_kept, writeHeld_kept, releaseHeld_kept]; done)
    | simp only [kept_mk, State.kept_fold]
    | dsimp only
    | intro _
    | split
    | (with_reducible refine (kept_forEach _ _ _ ?_).trans ?_)
    | with_reducible refine (dropBuilds_kept ..).trans ?_
    | with_reducible refine (writes_kept (h_f := ?_) ..).trans ?_
    | with_reducible refine (withHalves_kept (h_f := ?_) ..).trans ?_
    | with_reducible refine (settleJob_kept ..).trans ?_
    | with_reducible refine (supersedeTables_kept ..).trans ?_
    | with_reducible refine (writeHeld_kept ..).trans ?_
    | with_reducible refine (releaseHeld_kept ..).trans ?_
    | with_reducible refine (State.kept_setAll ..).trans ?_
    | with_reducible refine (State.kept_bump ..).trans ?_

theorem tableBuildDone_canon (s : State) (k : Nat) (rd : ReadOutcome) (wr : WriteOutcome) (hs : s.Canonical) : (State.tableBuildDone s k rd
    wr).Canonical := by
  unfold State.tableBuildDone
  repeat' first
    | with_reducible assumption
    | with_reducible intro _
    | simp only [canon_mk, canon_fold]
    | with_reducible apply canon_setAll
    | with_reducible apply canon_bump
    | with_reducible apply canon_forEach
    | with_reducible apply canon_foldl
    | with_reducible apply dropBuilds_canon
    | with_reducible apply writes_canon
    | with_reducible apply withHalves_canon
    | with_reducible apply settleJob_canon
    | with_reducible apply supersedeTables_canon
    | with_reducible apply writeHeld_canon
    | with_reducible apply releaseHeld_canon
    | dsimp only
    | split

theorem arrayRetire_kept (s : State) (n a : Nat) (during : Bool) : (State.arrayRetire s n a during).kept = s.kept := by
  unfold State.arrayRetire
  simp only [State.kept_set, State.kept_bump, State.kept_drop, State.kept_setAll, apply_ite State.kept, ite_self, reduce_kept]

theorem arrayRetire_canon (s : State) (n a : Nat) (during : Bool) (hs : s.Canonical) : (State.arrayRetire s n a during).Canonical := by
  unfold State.arrayRetire
  repeat' first
    | with_reducible assumption
    | dsimp only
    | with_reducible apply canon_set
    | with_reducible apply canon_setAll
    | with_reducible apply canon_bump
    | with_reducible apply canon_drop
    | with_reducible apply reduce_canon
    | split

end Sys2Proof.Machine
end

