-- ==== Sys2Proof/Machine/Reads.lean ====
section
/-! DEFINITION. What a host read returns and does. The table of commands has rows for the two reads that latch alone (13 R398);
this is the view of the state that reads give (00 R7, R9; 01 R60; 13 R398, R399; 14 R427, R430; 19 R527, R529). -/

namespace Sys2Proof.Machine

/-- A station of a started job waits on peg `i` before its next tile (01 R26, R32): for a needed tile on a FULL_PEG, for a slot of its
output on a FREE_PEG, or for an audio block on LP_PEG or HQ_PEG (10 R323). -/
def State.tileWaits (s : State) (i : Nat) : Bool :=
  (List.range 8).any (fun n => [Station.mortise, .plane, .scribe, .auger, .scarf, .truss, .dowel, .froe, .gauge].any (fun st =>
    (s.works n st).any (fun w =>
      w.needed.any (fun (r, t) => match s.regionRef w.job r with | some x => x.fullPeg == i && !s.mayConsume x t | none => false) ||
        (match w.defn.out.bind (s.regionRef w.job) with | some x => x.freePeg == i && !s.mayProduce x w.q | none => false) ||
        (match w.audioRing with
          | some hq => (s.get (if hq then .casc_HQ_PEG else .casc_LP_PEG)) == i && !s.audioReady w
          | none => false))))

/-- A SEND channel of a started job waits on peg `i` for its next tile (11 R349, 01 R26). -/
def State.sendWaits (s : State) (i : Nat) : Bool :=
  s.jobs.any (fun j => !j.finished && (s.channels j).any (fun ch => ch.send &&
    (match s.flow j.ctx ch.num (s.channelPeer j.ctx ch) true, s.regionRef j ch.region, s.graph j.graph with
     | some f, some r, some g => r.fullPeg == i && decide (f.tile < j.regionTiles g ch.region) && !s.mayConsume r f.tile
     | _, _, _ => false)))

/-- A re-entry lane waits on peg `i` for the next band of the first frame of a stream (09 R280). -/
def State.laneWaits (s : State) (i : Nat) : Bool :=
  (List.range 96).any (fun k =>
    match s.camera.reentry.find? (fun r => r.stream == k) with
    | some r => s.get .loop_REENTRY_PEG_BASE k + r.buf == i && (s.reentryReady k).isNone
    | none => false)

/-- DW2 to DW7 of a session entry as they read: bits that the layout of the entry's TYPE reserves are 0 (04 Table Scarf-8, 05 Table
Truss-3; log entry 47). -/
def State.sessionWord (s : State) (r : Reg) (i : Nat) : Nat :=
  let two := s.get .ses_TYPE i == 2
  let n := match r with
    | .ses_D2 => if two then 8 else 7
    | .ses_D3 => if two then 7 else 24
    | .ses_D4 => if two then 32 else 8
    | .ses_D7 => if two then 32 else 16
    | _ => 32
  s.get r i % 2 ^ n

/-- DW6 and DW7 of a region map entry as they read (06 Table Memory-2): PUBLISH_PEG and VERSION of a VERSIONED entry, else HOST_ADDR. -/
def State.regionWord (s : State) (r : Reg) (i : Nat) : Nat :=
  let versioned := s.get .rgn_KIND i == 4
  match r with
  | .rgn_D6 => if versioned then s.get r i % 2 ^ 16 else s.get r i
  | .rgn_D7 => if versioned then 0 else s.get r i
  | _ => if versioned then s.get r i else 0

/-- Value of a field as a host reads it: the fields that are functions of other state are computed here (01 R34, Table
Stations-7), and every other field reads as it is held. -/
def State.view (s : State) (r : Reg) (i : Nat) : Nat :=
  match r with
  | .peg_REACHED => b2n (s.reached i)
  | .bent_FILLER => b2n (s.power.fillers.any (fun f => f.bent == i && s.fills f))
  | .pwrb_FILLER_US => (s.get .pwrb_FILLER_US i + ((s.power.fillers.filter (fun f => f.bent == i)).map s.fillerTime).sum) % 2 ^ Reg.pwrb_FILLER_US.width
  | .peg_WAITING => b2n (s.waiting i || s.tileWaits i || s.sendWaits i || s.laneWaits i)
  | .ses_D2 | .ses_D3 | .ses_D4 | .ses_D5 | .ses_D6 | .ses_D7 => s.sessionWord r i
  | .ses_STALLED => if s.get .ses_TYPE i = 2 then 0 else s.get .ses_STALLED i
  | .rgn_D6 | .rgn_D7 | .rgn_VERSION => s.regionWord r i
  | r => s.get r i

/-- The bits of the DW at byte `d` of entry `i` of a window; bits of no field are reserved and zero (00 R9). -/
def State.windowDW (s : State) (w : Window) (i d : Nat) : Nat :=
  w.fields.foldl (fun acc r =>
    match fieldPart (r.info.bit + w.skew) r.info.width d with
    | none => acc
    | some (fb, db, n) => acc ||| (bits (s.view r i) fb n * 2 ^ db)) 0

/-- Reads of a block are served (14 R427, R430; 19 R529; 01 R60): the table windows read as zero in START_UP, a logical bent that is
not present reads as zero but for BENT_ID.LOGICAL, and a DECOMMISSIONED device serves the Wedge and start-up blocks alone. -/
def State.readServed (s : State) (off : Nat) : Bool :=
  if s.boot.phase = .halted ∧ s.get .wedge_LIFE_CYCLE = 4 then
    targetOf off == .wedge || targetOf off == .startUp
  else if 0x10000000 ≤ off then s.get .host_DEV_STATE != 0
  else true

/-- The DW of the MSI-X pending-bit array that begins with vector `v` (13, Table Host-2). -/
def State.pendingBits (s : State) (v : Nat) : Nat :=
  (List.range 32).foldl (fun acc i => acc ||| (bits (s.get .pba_PENDING (v + i)) 0 1 * 2 ^ i)) 0

/-- An aligned 32-bit read of BAR0. An offset in no block and no window reads as zero (19 R527, R529), and the ADD alias of a peg
returns its COUNT (Table Stations-6). -/
def State.readDW (s : State) (off : Nat) : Nat :=
  if !s.readServed off then 0
  else if 0x0F070000 ≤ off ∧ off < 0x0F080000 then Mem.readNum 0 s.staging (off - 0x0F070000) 4
  else if 0x0F058000 ≤ off ∧ off < 0x0F058100 then s.pendingBits (8 * (off - 0x0F058000))
  else if 0x0C100000 ≤ off ∧ off < 0x0C140000 then s.get .peg_COUNT ((off - 0x0C100000) / 4)
  else if 0x04000000 ≤ off ∧ off < 0x06000000 ∧ !s.on .bent_PRESENT ((off - 0x04000000) / 0x400000) then
    if off % 0x400000 = 0 then
      let n := (off - 0x04000000) / 0x400000
      bits (s.get .bent_LOGICAL n) 0 Reg.bent_LOGICAL.info.width * 2 ^ Reg.bent_LOGICAL.info.bit
    else 0
  else windows.foldl (fun acc w =>
    match w.locate off with
    | some (i, d) => if s.windowApplies w i d then acc ||| s.windowDW w i d else acc
    | none => acc) 0

/-- An aligned read of BAR0 of at most 32 bits (00 R7): the addressed bytes of the register, and what the read latches. -/
def State.readOne (s : State) (off bytes : Nat) : Nat × State :=
  let d := off % 4
  (bits (s.readDW (off - d)) (8 * d) (8 * bytes), if s.readServed off then s.latch (off - d) else s)

/-- A host read as an access (00 R7): what it returns, and the state after it. One that is not aligned to its width returns zeros and is
counted in ACCESS_ERRORS; a 64-bit one is two 32-bit ones, the lower address first, of which the second sees what the first latches.
Doorbell pages read as zero (13 R399), BAR4 as its bytes (13 R398). -/
def State.hostAccess (s : State) (bar : Bar) (off : Nat) (width : Width) : Nat × State :=
  if off % width.bytes ≠ 0 then (0, s.accessError)
  else if barBytes bar < off + width.bytes then (0, s)
  else
    match bar with
    | .bar2 => (0, s)
    | .bar4 => (if s.readServed 0 then Mem.readNum 0 s.memory.bar4 off width.bytes else 0, s)
    | .bar0 =>
      match width with
      | .w64 =>
        let lo := s.readOne off 4
        let hi := lo.2.readOne (off + 4) 4
        (lo.1 + hi.1 * 2 ^ 32, hi.2)
      | w => s.readOne off w.bytes

/-- What a host read returns. -/
def State.hostRead (s : State) (bar : Bar) (off : Nat) (width : Width) : Nat := (s.hostAccess bar off width).1

end Sys2Proof.Machine
end

