-- ==== Sys2Proof/Laws/PowerFrames.lean ====
section
/-! SUPPORT. What domains, power, recovery, Wedge and start-up leave: the queue of commands and OTP (`_kept`), and the canonical form (`_canon`). -/

set_option linter.unusedSimpArgs false

namespace Sys2Proof.Machine

/-! ## Domains -/

theorem entryRequest_kept (s : State) (d : Nat) (off : Bool) : (State.entryRequest s d off).kept = s.kept := by
  unfold State.entryRequest
  simp only [State.kept_setAll, apply_ite State.kept, ite_self]

theorem entryRequest_canon (s : State) (d : Nat) (off : Bool) (hs : s.Canonical) : (State.entryRequest s d off).Canonical := by
  unfold State.entryRequest
  repeat' first
    | with_reducible assumption
    | dsimp only
    | with_reducible apply canon_set
    | with_reducible apply canon_setAll
    | split

theorem isolate_kept (s : State) (d : Nat) : (State.isolate s d).kept = s.kept := by
  unfold State.isolate
  repeat' first
    | with_reducible rfl
    | (simp only [State.kept_set, kept_mk, State.kept_fold, apply_ite State.kept, ite_self]; done)
    | dsimp only
    | intro _
    | split
    | with_reducible refine (State.kept_set ..).trans ?_

theorem isolate_canon (s : State) (d : Nat) (hs : s.Canonical) : (State.isolate s d).Canonical := by
  unfold State.isolate
  repeat' first
    | with_reducible assumption
    | with_reducible intro _
    | simp only [canon_mk, canon_fold]
    | dsimp only
    | split

theorem forget_kept (s : State) (l : List Reg) (div n : Nat) : (State.forget s l div n).kept = s.kept := by
  unfold State.forget
  simp only [kept_mk, State.kept_fold]

theorem forget_canon (s : State) (l : List Reg) (div n : Nat) (hs : s.Canonical) : (State.forget s l div n).Canonical := by
  unfold State.forget
  repeat' first
    | with_reducible assumption
    | with_reducible intro _
    | simp only [canon_mk, canon_fold]
    | with_reducible apply canon_regsOk
    | with_reducible apply regsOk_filter
    | with_reducible apply regsOk_nil
    | with_reducible apply wf_nil
    | with_reducible apply check_nil
    | with_reducible apply check_filter
    | with_reducible apply canon_ddr_wf
    | with_reducible apply canon_check_wf
    | with_reducible apply canon_host_wf
    | with_reducible apply canon_bar4_wf
    | with_reducible apply canon_staging_wf
    | with_reducible apply canon_slot0_wf
    | with_reducible apply canon_slot1_wf
    | with_reducible apply Mem.wf_write
    | with_reducible apply Mem.wf_writeBytes
    | with_reducible apply Mem.wf_writeNum
    | with_reducible apply Mem.wf_clear
    | with_reducible apply wf_forEach
    | split
    | with_reducible apply canon_parts

theorem loseLoft_kept (s : State) (n : Nat) : (State.loseLoft s n).kept = s.kept := by
  unfold State.loseLoft
  repeat' first
    | with_reducible rfl
    | (simp only [kept_mk, State.kept_fold, loseParts_kept]; done)
    | simp only [kept_mk, State.kept_fold]
    | dsimp only
    | intro _
    | split
    | with_reducible refine (loseParts_kept ..).trans ?_

theorem loseLoft_canon (s : State) (n : Nat) (hs : s.Canonical) : (State.loseLoft s n).Canonical := by
  unfold State.loseLoft
  repeat' first
    | with_reducible assumption
    | with_reducible intro _
    | simp only [canon_mk, canon_fold]
    | with_reducible apply loseParts_canon
    | dsimp only
    | split

theorem loseBent_kept (s : State) (n : Nat) : (State.loseBent s n).kept = s.kept := by
  unfold State.loseBent
  repeat' first
    | with_reducible rfl
    | (simp only [State.kept_setAll, kept_mk, State.kept_fold, loseParts_kept, forget_kept]; done)
    | simp only [kept_mk, State.kept_fold]
    | dsimp only
    | intro _
    | split
    | with_reducible refine (loseParts_kept ..).trans ?_
    | with_reducible refine (forget_kept ..).trans ?_
    | with_reducible refine (State.kept_setAll ..).trans ?_

theorem loseBent_canon (s : State) (n : Nat) (hs : s.Canonical) : (State.loseBent s n).Canonical := by
  unfold State.loseBent
  repeat' first
    | with_reducible assumption
    | with_reducible intro _
    | simp only [canon_mk, canon_fold]
    | with_reducible apply canon_setAll
    | with_reducible apply loseParts_canon
    | with_reducible apply forget_canon
    | dsimp only
    | split

theorem loseTables_kept (s : State) : (State.loseTables s).kept = s.kept := by
  unfold State.loseTables
  repeat' first
    | with_reducible rfl
    | (simp only [State.kept_set, kept_mk, State.kept_fold, kept_forEach, kept_foldl, implies_true, freeTable_kept]; done)
    | simp only [kept_mk, State.kept_fold]
    | dsimp only
    | intro _
    | split
    | (with_reducible refine (kept_forEach _ _ _ ?_).trans ?_)
    | with_reducible refine (freeTable_kept ..).trans ?_
    | with_reducible refine (State.kept_set ..).trans ?_

theorem loseTables_canon (s : State) (hs : s.Canonical) : (State.loseTables s).Canonical := by
  unfold State.loseTables
  repeat' first
    | with_reducible assumption
    | with_reducible intro _
    | simp only [canon_mk, canon_fold]
    | with_reducible apply canon_forEach
    | with_reducible apply canon_foldl
    | with_reducible apply freeTable_canon
    | dsimp only
    | split

theorem loseHighPath_kept (s : State) : (State.loseHighPath s).kept = s.kept := by
  unfold State.loseHighPath
  repeat' first
    | with_reducible rfl
    | (simp only [kept_mk, State.kept_fold]; done)
    | dsimp only
    | intro _
    | split

theorem loseHighPath_canon (s : State) (hs : s.Canonical) : (State.loseHighPath s).Canonical := by
  unfold State.loseHighPath
  repeat' first
    | with_reducible assumption
    | with_reducible intro _
    | simp only [canon_mk, canon_fold]
    | dsimp only
    | split

theorem loseDomain_kept (s : State) (d : Nat) : (State.loseDomain s d).kept = s.kept := by
  unfold State.loseDomain
  repeat' first
    | with_reducible rfl
    | (simp only [kept_mk, State.kept_fold, apply_ite State.kept, ite_self, loseParts_kept, forget_kept, loseLoft_kept, loseBent_kept, loseTables_kept,
        loseHighPath_kept]; done)
    | simp only [kept_mk, State.kept_fold]
    | dsimp only
    | intro _
    | split
    | with_reducible refine (loseParts_kept ..).trans ?_
    | with_reducible refine (forget_kept ..).trans ?_
    | with_reducible refine (loseLoft_kept ..).trans ?_
    | with_reducible refine (loseBent_kept ..).trans ?_
    | with_reducible refine (loseTables_kept ..).trans ?_
    | with_reducible refine (loseHighPath_kept ..).trans ?_

theorem loseDomain_canon (s : State) (d : Nat) (hs : s.Canonical) : (State.loseDomain s d).Canonical := by
  unfold State.loseDomain
  repeat' first
    | with_reducible assumption
    | with_reducible intro _
    | simp only [canon_mk, canon_fold]
    | with_reducible apply loseParts_canon
    | with_reducible apply forget_canon
    | with_reducible apply loseLoft_canon
    | with_reducible apply loseBent_canon
    | with_reducible apply loseTables_canon
    | with_reducible apply loseHighPath_canon
    | dsimp only
    | split

theorem lower_kept (s : State) (d st : Nat) : (State.lower s d st).kept = s.kept := by
  unfold State.lower
  simp only [apply_ite State.kept, ite_self, loseDomain_kept, setDom_kept]

theorem lower_canon (s : State) (d st : Nat) (hs : s.Canonical) : (State.lower s d st).Canonical := by
  unfold State.lower
  repeat' first
    | with_reducible assumption
    | with_reducible apply canon_set
    | with_reducible apply loseDomain_canon
    | with_reducible apply setDom_canon
    | split

theorem startExit_kept (s : State) (d : Nat) : (State.startExit s d).kept = s.kept := by
  unfold State.startExit
  simp only [State.kept_setAll, kept_mk, State.kept_fold, apply_ite State.kept, ite_self, exitSelfRefresh_kept]

theorem startExit_canon (s : State) (d : Nat) (hs : s.Canonical) : (State.startExit s d).Canonical := by
  unfold State.startExit
  repeat' first
    | with_reducible assumption
    | simp only [canon_mk, canon_fold]
    | with_reducible apply canon_set
    | with_reducible apply canon_setAll
    | with_reducible apply exitSelfRefresh_canon
    | split

theorem bring_kept (s : State) (ds : List Nat) : (State.bring s ds).kept = s.kept := by
  unfold State.bring
  repeat' first
    | with_reducible rfl
    | (simp only [kept_mk, State.kept_fold, kept_forEach, kept_foldl, implies_true, startExit_kept]; done)
    | simp only [kept_mk, State.kept_fold]
    | dsimp only
    | intro _
    | split
    | (with_reducible refine (kept_forEach _ _ _ ?_).trans ?_)
    | (with_reducible refine (kept_foldl _ _ _ ?_).trans ?_)
    | (with_reducible refine (kept_foldl_fst _ _ _ ?_).trans ?_)
    | (with_reducible refine (kept_foldl_snd _ _ _ ?_).trans ?_)
    | with_reducible refine (startExit_kept ..).trans ?_

theorem bring_canon (s : State) (ds : List Nat) (hs : s.Canonical) : (State.bring s ds).Canonical := by
  unfold State.bring
  repeat' first
    | with_reducible assumption
    | with_reducible intro _
    | simp only [canon_mk, canon_fold]
    | with_reducible apply canon_forEach
    | with_reducible apply canon_foldl
    | with_reducible apply canon_foldl_fst
    | with_reducible apply canon_foldl_snd
    | with_reducible apply startExit_canon
    | dsimp only
    | split

theorem entryDone_kept (s : State) (d : Nat) : (State.entryDone s d).kept = s.kept := by
  unfold State.entryDone
  simp only [kept_mk, State.kept_fold, apply_ite State.kept, ite_self, bring_kept, lower_kept]

theorem entryDone_canon (s : State) (d : Nat) (hs : s.Canonical) : (State.entryDone s d).Canonical := by
  unfold State.entryDone
  repeat' first
    | with_reducible assumption
    | with_reducible intro _
    | simp only [canon_mk, canon_fold]
    | with_reducible apply bring_canon
    | with_reducible apply lower_canon
    | split

theorem setArrays_kept (s : State) (n p : Nat) : (State.setArrays s n p).kept = s.kept := by
  unfold State.setArrays
  simp only [State.kept_setAll]

theorem setArrays_canon (s : State) (n p : Nat) (hs : s.Canonical) : (State.setArrays s n p).Canonical := by
  unfold State.setArrays
  repeat' first
    | with_reducible assumption
    | dsimp only
    | with_reducible apply canon_set
    | with_reducible apply canon_setAll
    | split

theorem wakeRecord_kept (s : State) (src arg : Nat) (ds : List Nat) : (State.wakeRecord s src arg ds).kept = s.kept := by
  unfold State.wakeRecord
  repeat' first
    | with_reducible rfl
    | (simp only [State.kept_bump, State.kept_setAll, kept_mk, State.kept_fold, apply_ite State.kept, ite_self, draw_kept]; done)
    | dsimp only
    | intro _
    | split

theorem wakeRecord_canon (s : State) (src arg : Nat) (ds : List Nat) (hs : s.Canonical) : (State.wakeRecord s src arg ds).Canonical := by
  unfold State.wakeRecord
  repeat' first
    | with_reducible assumption
    | with_reducible intro _
    | simp only [canon_mk, canon_fold]
    | with_reducible apply canon_set
    | with_reducible apply canon_setAll
    | with_reducible apply canon_bump
    | with_reducible apply draw_canon
    | split

theorem wake_kept (s : State) (src arg : Nat) (ds : List Nat) : (State.wake s src arg ds).kept = s.kept := by
  unfold State.wake
  simp only [State.kept_bump, bring_kept, wakeRecord_kept]

theorem wake_canon (s : State) (src arg : Nat) (ds : List Nat) (hs : s.Canonical) : (State.wake s src arg ds).Canonical := by
  unfold State.wake
  repeat' first
    | with_reducible assumption
    | with_reducible apply canon_bump
    | with_reducible apply bring_canon
    | with_reducible apply wakeRecord_canon
    | split

theorem wakeRung_kept (s : State) (i rung : Nat) : (State.wakeRung s i rung).kept = s.kept := by
  unfold State.wakeRung
  repeat' first
    | with_reducible rfl
    | (simp only [apply_ite State.kept, ite_self, rungPowerFails_kept, wake_kept]; done)
    | dsimp only
    | intro _
    | split

theorem wakeRung_canon (s : State) (i rung : Nat) (hs : s.Canonical) : (State.wakeRung s i rung).Canonical := by
  unfold State.wakeRung
  repeat' first
    | with_reducible assumption
    | simp only [canon_mk, canon_fold]
    | with_reducible apply rungPowerFails_canon
    | with_reducible apply wake_canon
    | split

theorem wakePeg_kept (s : State) (i : Nat) : (State.wakePeg s i).kept = s.kept := by
  unfold State.wakePeg
  simp only [apply_ite State.kept, ite_self, wake_kept, wakeRung_kept]

theorem wakePeg_canon (s : State) (i : Nat) (hs : s.Canonical) : (State.wakePeg s i).Canonical := by
  unfold State.wakePeg
  repeat' first
    | with_reducible assumption
    | with_reducible apply wake_canon
    | with_reducible apply wakeRung_canon
    | split

theorem wakeDemand_kept (s : State) (d : Nat) : (State.wakeDemand s d).kept = s.kept := by
  unfold State.wakeDemand
  simp only [kept_mk, State.kept_fold, apply_ite State.kept, ite_self, wake_kept]

theorem wakeDemand_canon (s : State) (d : Nat) (hs : s.Canonical) : (State.wakeDemand s d).Canonical := by
  unfold State.wakeDemand
  repeat' first
    | with_reducible assumption
    | simp only [canon_mk, canon_fold]
    | with_reducible apply wake_canon
    | split

theorem wakeGlance_kept (s : State) : (State.wakeGlance s).kept = s.kept := by
  unfold State.wakeGlance
  simp only [apply_ite State.kept, ite_self, wake_kept]

theorem wakeGlance_canon (s : State) (hs : s.Canonical) : (State.wakeGlance s).Canonical := by
  unfold State.wakeGlance
  repeat' first
    | with_reducible assumption
    | with_reducible apply wake_canon
    | split

theorem wakePower_kept (s : State) : (State.wakePower s).kept = s.kept := by
  unfold State.wakePower
  repeat' first
    | with_reducible rfl
    | (simp only [kept_mk, State.kept_fold, apply_ite State.kept, ite_self, wake_kept]; done)
    | dsimp only
    | intro _
    | split

theorem wakePower_canon (s : State) (hs : s.Canonical) : (State.wakePower s).Canonical := by
  unfold State.wakePower
  repeat' first
    | with_reducible assumption
    | simp only [canon_mk, canon_fold]
    | with_reducible apply wake_canon
    | split

theorem wakeEdge_kept (s : State) (src arg d : Nat) : (State.wakeEdge s src arg d).kept = s.kept := by
  unfold State.wakeEdge
  repeat' first
    | with_reducible rfl
    | (simp only [apply_ite State.kept, ite_self, wake_kept]; done)
    | dsimp only
    | intro _
    | split

theorem wakeEdge_canon (s : State) (src arg d : Nat) (hs : s.Canonical) : (State.wakeEdge s src arg d).Canonical := by
  unfold State.wakeEdge
  repeat' first
    | with_reducible assumption
    | with_reducible intro _
    | simp only [canon_mk, canon_fold]
    | with_reducible apply wake_canon
    | split

/-! ## Power and cooling -/

theorem opChange_kept (s : State) (n op : Nat) : (State.opChange s n op).kept = s.kept := by
  unfold State.opChange
  repeat' first
    | with_reducible rfl
    | (simp only [State.kept_set, kept_mk, State.kept_fold, apply_ite State.kept, ite_self]; done)
    | dsimp only
    | intro _
    | split

theorem opChange_canon (s : State) (n op : Nat) (hs : s.Canonical) : (State.opChange s n op).Canonical := by
  unfold State.opChange
  repeat' first
    | with_reducible assumption
    | with_reducible intro _
    | simp only [canon_mk, canon_fold]
    | with_reducible apply canon_set
    | split

theorem opChangeDone_kept (s : State) (n : Nat) : (State.opChangeDone s n).kept = s.kept := by
  unfold State.opChangeDone
  repeat' first
    | with_reducible rfl
    | (simp only [State.kept_set, kept_mk, State.kept_fold]; done)
    | dsimp only
    | intro _
    | split

theorem opChangeDone_canon (s : State) (n : Nat) (hs : s.Canonical) : (State.opChangeDone s n).Canonical := by
  unfold State.opChangeDone
  repeat' first
    | with_reducible assumption
    | with_reducible intro _
    | simp only [canon_mk, canon_fold]
    | with_reducible apply canon_set
    | split

theorem capEffective_kept (s : State) : (State.capEffective s).kept = s.kept := by
  unfold State.capEffective
  simp only [State.kept_set, floorOverCap_kept]

theorem capEffective_canon (s : State) (hs : s.Canonical) : (State.capEffective s).Canonical := by
  unfold State.capEffective
  repeat' first
    | with_reducible assumption
    | with_reducible intro _
    | simp only [canon_mk, canon_fold]
    | with_reducible apply canon_set
    | with_reducible apply canon_foldl
    | with_reducible apply canon_foldl_fst
    | with_reducible apply canon_foldl_snd
    | with_reducible apply floorOverCap_canon
    | split

theorem powerEvent_kept (s : State) (a : Nat) : (State.powerEvent s a).kept = s.kept := by
  unfold State.powerEvent
  simp only [kept_mk, State.kept_fold]

theorem powerEvent_canon (s : State) (a : Nat) (hs : s.Canonical) : (State.powerEvent s a).Canonical := by
  unfold State.powerEvent
  repeat' first
    | with_reducible assumption
    | simp only [canon_mk, canon_fold]

    | split

theorem retireIdle_kept (s : State) : (State.retireIdle s).kept = s.kept := by
  unfold State.retireIdle
  repeat' first
    | with_reducible rfl
    | (simp only [kept_mk, State.kept_fold, apply_ite State.kept, ite_self, kept_forEach, kept_foldl, implies_true, selfRefreshEntry_kept,
        entryRequest_kept]; done)
    | simp only [kept_mk, State.kept_fold]
    | dsimp only
    | intro _
    | split
    | (with_reducible refine (kept_forEach _ _ _ ?_).trans ?_)
    | (with_reducible refine (kept_foldl _ _ _ ?_).trans ?_)
    | (with_reducible refine (kept_foldl_fst _ _ _ ?_).trans ?_)
    | (with_reducible refine (kept_foldl_snd _ _ _ ?_).trans ?_)
    | with_reducible refine (selfRefreshEntry_kept ..).trans ?_
    | with_reducible refine (entryRequest_kept ..).trans ?_

theorem retireIdle_canon (s : State) (hs : s.Canonical) : (State.retireIdle s).Canonical := by
  unfold State.retireIdle
  repeat' first
    | with_reducible assumption
    | with_reducible intro _
    | simp only [canon_mk, canon_fold]
    | with_reducible apply canon_forEach
    | with_reducible apply canon_foldl
    | with_reducible apply canon_foldl_fst
    | with_reducible apply canon_foldl_snd
    | with_reducible apply selfRefreshEntry_canon
    | with_reducible apply entryRequest_canon
    | dsimp only
    | split

theorem capWrite_kept (s : State) (cap : Reg) (v : Nat) : (State.capWrite s cap v).1.kept = s.kept := by
  unfold State.capWrite
  repeat' first
    | with_reducible rfl
    | (simp only [State.kept_set, apply_ite State.kept, ite_self, capEffective_kept, powerEvent_kept, retireIdle_kept]; done)
    | dsimp only
    | intro _
    | split

theorem capWrite_canon (s : State) (cap : Reg) (v : Nat) (hs : s.Canonical) : (State.capWrite s cap v).1.Canonical := by
  unfold State.capWrite
  repeat' first
    | with_reducible assumption
    | simp only [canon_mk, canon_fold]
    | with_reducible apply canon_set
    | with_reducible apply capEffective_canon
    | with_reducible apply powerEvent_canon
    | with_reducible apply retireIdle_canon
    | split

theorem capHostWrite_kept (s : State) (v : Nat) : (State.capHostWrite s v).kept = s.kept := by
  unfold State.capHostWrite
  simp only [State.kept_set, capWrite_kept]

theorem capHostWrite_canon (s : State) (v : Nat) (hs : s.Canonical) : (State.capHostWrite s v).Canonical := by
  unfold State.capHostWrite
  repeat' first
    | with_reducible assumption
    | dsimp only
    | with_reducible apply canon_set
    | with_reducible apply capWrite_canon
    | split

theorem powerSample_kept (s : State) (w : Nat) : (State.powerSample s w).kept = s.kept := by
  unfold State.powerSample
  simp only [State.kept_setAll, kept_mk, State.kept_fold]

theorem powerSample_canon (s : State) (w : Nat) (hs : s.Canonical) : (State.powerSample s w).Canonical := by
  unfold State.powerSample
  repeat' first
    | with_reducible assumption
    | simp only [canon_mk, canon_fold]
    | with_reducible apply canon_set
    | with_reducible apply canon_setAll
    | split

theorem setDuty_kept (s : State) (v : Nat) : (State.setDuty s v).kept = s.kept := by
  unfold State.setDuty
  simp only [State.kept_set, kept_forEach, implies_true]

theorem setDuty_canon (s : State) (v : Nat) (hs : s.Canonical) : (State.setDuty s v).Canonical := by
  unfold State.setDuty
  repeat' first
    | with_reducible assumption
    | with_reducible intro _
    | with_reducible apply canon_set
    | with_reducible apply canon_forEach
    | split

theorem capAction_kept (s : State) : (State.capAction s).1.kept = s.kept := by
  unfold State.capAction
  repeat' first
    | with_reducible rfl
    | (simp only [State.kept_set, setDuty_kept]; done)
    | dsimp only
    | intro _
    | split

theorem capAction_canon (s : State) (hs : s.Canonical) : (State.capAction s).1.Canonical := by
  unfold State.capAction
  repeat' first
    | with_reducible assumption
    | dsimp only
    | with_reducible apply canon_set
    | with_reducible apply setDuty_canon
    | split

theorem parkClass_kept (s : State) : (State.parkClass s).kept = s.kept := by
  unfold State.parkClass
  repeat' first
    | with_reducible rfl
    | (simp only [State.kept_set, State.kept_bump]; done)
    | dsimp only
    | intro _
    | split

theorem parkClass_canon (s : State) (hs : s.Canonical) : (State.parkClass s).Canonical := by
  unfold State.parkClass
  repeat' first
    | with_reducible assumption
    | with_reducible intro _
    | simp only [canon_mk, canon_fold]
    | with_reducible apply canon_set
    | with_reducible apply canon_bump
    | split

theorem unparkClass_kept (s : State) : (State.unparkClass s).kept = s.kept := by
  unfold State.unparkClass
  repeat' first
    | with_reducible rfl
    | (simp only [State.kept_set]; done)
    | dsimp only
    | intro _
    | split

theorem unparkClass_canon (s : State) (hs : s.Canonical) : (State.unparkClass s).Canonical := by
  unfold State.unparkClass
  repeat' first
    | with_reducible assumption
    | with_reducible intro _
    | simp only [canon_mk, canon_fold]
    | with_reducible apply canon_set
    | split

theorem controlPeriod_kept (s : State) : (State.controlPeriod s).kept = s.kept := by
  unfold State.controlPeriod
  split
  · rfl
  · simp only [apply_ite State.kept, retireIdle_kept, ite_self]
    rw [kept_forEach]
    · simp only [apply_ite State.kept, unparkClass_kept, parkClass_kept, kept_mk, State.kept_fold, capAction_kept, State.kept_bump, State.kept_set, ite_self]
    · intro n s; split <;> rfl

theorem controlPeriod_canon (s : State) (hs : s.Canonical) : (State.controlPeriod s).Canonical := by
  unfold State.controlPeriod
  split
  · exact hs
  · repeat' first
      | with_reducible assumption
      | with_reducible intro _
      | simp only [canon_mk, canon_fold]
      | with_reducible apply retireIdle_canon
      | with_reducible apply canon_forEach
      | with_reducible apply capAction_canon
      | with_reducible apply parkClass_canon
      | with_reducible apply unparkClass_canon
      | with_reducible apply canon_set
      | with_reducible apply canon_bump
      | split

theorem stretchEnd_kept (s : State) (n k : Nat) : (State.stretchEnd s n k).kept = s.kept := by
  unfold State.stretchEnd
  simp only [State.kept_set, State.kept_bump, kept_mk, State.kept_fold, apply_ite State.kept, ite_self]

theorem stretchEnd_canon (s : State) (n k : Nat) (hs : s.Canonical) : (State.stretchEnd s n k).Canonical := by
  unfold State.stretchEnd
  repeat' first
    | with_reducible assumption
    | with_reducible intro _
    | simp only [canon_mk, canon_fold]
    | with_reducible apply canon_set
    | with_reducible apply canon_bump
    | split

theorem mortiseActivity_kept (s : State) (n : Nat) : (State.mortiseActivity s n).2.kept = s.kept := by
  unfold State.mortiseActivity
  repeat' first
    | with_reducible rfl
    | (simp only [apply_ite State.kept, ite_self, draw_kept]; done)
    | dsimp only
    | intro _
    | split
    | with_reducible refine (draw_kept ..).trans ?_

theorem mortiseActivity_canon (s : State) (n : Nat) (hs : s.Canonical) : (State.mortiseActivity s n).2.Canonical := by
  unfold State.mortiseActivity
  repeat' first
    | with_reducible assumption
    | with_reducible intro _
    | with_reducible apply draw_canon
    | dsimp only
    | split

theorem fillerStart_kept (s : State) (n : Nat) : (State.fillerStart s n).kept = s.kept := by
  unfold State.fillerStart
  repeat' first
    | with_reducible rfl
    | (simp only [State.kept_set, kept_mk, State.kept_fold, apply_ite State.kept, ite_self, gauge_kept, mortiseActivity_kept]; done)
    | simp only [kept_mk, State.kept_fold]
    | dsimp only
    | intro _
    | split
    | with_reducible refine (gauge_kept ..).trans ?_
    | with_reducible refine (mortiseActivity_kept ..).trans ?_
    | with_reducible refine (State.kept_set ..).trans ?_

theorem fillerStart_canon (s : State) (n : Nat) (hs : s.Canonical) : (State.fillerStart s n).Canonical := by
  unfold State.fillerStart
  repeat' first
    | with_reducible assumption
    | with_reducible intro _
    | simp only [canon_mk, canon_fold]
    | with_reducible apply gauge_canon
    | with_reducible apply mortiseActivity_canon
    | dsimp only
    | split

theorem fillerLimit_kept (s : State) (n : Nat) : (State.fillerLimit s n).kept = s.kept := by
  unfold State.fillerLimit
  repeat' first
    | with_reducible rfl
    | (simp only [State.kept_bump, kept_mk, State.kept_fold, apply_ite State.kept, ite_self]; done)
    | dsimp only
    | intro _
    | split
    | with_reducible refine (State.kept_bump ..).trans ?_

theorem fillerLimit_canon (s : State) (n : Nat) (hs : s.Canonical) : (State.fillerLimit s n).Canonical := by
  unfold State.fillerLimit
  repeat' first
    | with_reducible assumption
    | with_reducible intro _
    | simp only [canon_mk, canon_fold]
    | with_reducible apply canon_bump
    | dsimp only
    | split

theorem forceOff_kept (s : State) (ds : List Nat) : (State.forceOff s ds).kept = s.kept := by
  unfold State.forceOff
  simp only [State.kept_setAll, kept_mk, State.kept_fold, apply_ite State.kept, ite_self, kept_forEach, kept_foldl, implies_true, freeSlot_kept, lower_kept]

theorem forceOff_canon (s : State) (ds : List Nat) (hs : s.Canonical) : (State.forceOff s ds).Canonical := by
  unfold State.forceOff
  repeat' first
    | with_reducible assumption
    | with_reducible intro _
    | simp only [canon_mk, canon_fold]
    | with_reducible apply canon_set
    | with_reducible apply canon_setAll
    | with_reducible apply canon_forEach
    | with_reducible apply canon_foldl
    | with_reducible apply canon_foldl_fst
    | with_reducible apply canon_foldl_snd
    | with_reducible apply freeSlot_canon
    | with_reducible apply lower_canon
    | split

theorem fixedSelfRefresh_kept (s : State) : (State.fixedSelfRefresh s).kept = s.kept := by
  unfold State.fixedSelfRefresh
  simp only [State.kept_set, kept_mk, State.kept_fold, setDoms_kept]

theorem fixedSelfRefresh_canon (s : State) (hs : s.Canonical) : (State.fixedSelfRefresh s).Canonical := by
  unfold State.fixedSelfRefresh
  repeat' first
    | with_reducible assumption
    | with_reducible intro _
    | simp only [canon_mk, canon_fold]
    | with_reducible apply canon_set
    | with_reducible apply setDoms_canon
    | split

theorem coolantStop_kept (s : State) (trip : Bool) : (State.coolantStop s trip).kept = s.kept := by
  unfold State.coolantStop
  simp only [State.kept_set, State.kept_bump, kept_mk, State.kept_fold, apply_ite State.kept, ite_self, kept_forEach, implies_true, faultJob_kept, fillerStop_kept, fixedSelfRefresh_kept, forceOff_kept, powerEvent_kept, setDoms_kept]

theorem coolantStop_canon (s : State) (trip : Bool) (hs : s.Canonical) : (State.coolantStop s trip).Canonical := by
  unfold State.coolantStop
  repeat' first
    | with_reducible assumption
    | with_reducible intro _
    | simp only [canon_mk, canon_fold]
    | with_reducible apply canon_set
    | with_reducible apply canon_bump
    | with_reducible apply canon_forEach
    | with_reducible apply faultJob_canon
    | with_reducible apply fillerStop_canon
    | with_reducible apply fixedSelfRefresh_canon
    | with_reducible apply forceOff_canon
    | with_reducible apply powerEvent_canon
    | with_reducible apply setDoms_canon
    | split

theorem coolantFall_kept (s : State) : (State.coolantFall s).kept = s.kept := by
  unfold State.coolantFall
  simp only [State.kept_set, kept_mk, State.kept_fold, apply_ite State.kept, ite_self, coolantStop_kept]

theorem coolantFall_canon (s : State) (hs : s.Canonical) : (State.coolantFall s).Canonical := by
  unfold State.coolantFall
  repeat' first
    | with_reducible assumption
    | simp only [canon_mk, canon_fold]
    | with_reducible apply canon_set
    | with_reducible apply coolantStop_canon
    | split

theorem coolantResume_kept (s : State) : (State.coolantResume s).kept = s.kept := by
  unfold State.coolantResume
  repeat' first
    | with_reducible rfl
    | (simp only [State.kept_set, State.kept_setAll, kept_mk, State.kept_fold, apply_ite State.kept, ite_self, kept_forEach, kept_foldl, implies_true,
        demand_kept, exitSelfRefresh_kept, capEffective_kept, powerEvent_kept]; done)
    | simp only [kept_mk, State.kept_fold]
    | dsimp only
    | intro _
    | split
    | (with_reducible refine (kept_forEach _ _ _ ?_).trans ?_)
    | (with_reducible refine (kept_foldl _ _ _ ?_).trans ?_)
    | (with_reducible refine (kept_foldl_fst _ _ _ ?_).trans ?_)
    | (with_reducible refine (kept_foldl_snd _ _ _ ?_).trans ?_)
    | with_reducible refine (demand_kept ..).trans ?_
    | with_reducible refine (exitSelfRefresh_kept ..).trans ?_
    | with_reducible refine (capEffective_kept ..).trans ?_
    | with_reducible refine (powerEvent_kept ..).trans ?_
    | with_reducible refine (State.kept_set ..).trans ?_
    | with_reducible refine (State.kept_setAll ..).trans ?_

theorem coolantResume_canon (s : State) (hs : s.Canonical) : (State.coolantResume s).Canonical := by
  unfold State.coolantResume
  repeat' first
    | with_reducible assumption
    | with_reducible intro _
    | simp only [canon_mk, canon_fold]
    | with_reducible apply canon_set
    | with_reducible apply canon_setAll
    | with_reducible apply canon_forEach
    | with_reducible apply canon_foldl
    | with_reducible apply canon_foldl_fst
    | with_reducible apply canon_foldl_snd
    | with_reducible apply demand_canon
    | with_reducible apply exitSelfRefresh_canon
    | with_reducible apply capEffective_canon
    | with_reducible apply powerEvent_canon
    | dsimp only
    | split

theorem bentTemp_kept (s : State) (n : Nat) : (State.bentTemp s n).kept = s.kept := by
  unfold State.bentTemp
  simp only [State.kept_set, kept_mk, State.kept_fold, apply_ite State.kept, ite_self]

theorem bentTemp_canon (s : State) (n : Nat) (hs : s.Canonical) : (State.bentTemp s n).Canonical := by
  unfold State.bentTemp
  repeat' first
    | with_reducible assumption
    | simp only [canon_mk, canon_fold]
    | with_reducible apply canon_set
    | split

theorem tempHigh_kept (s : State) : (State.tempHigh s).kept = s.kept := by
  unfold State.tempHigh
  simp only [State.kept_set, apply_ite State.kept, ite_self, kept_forEach, implies_true, fillerStop_kept, setDuty_kept]

theorem tempHigh_canon (s : State) (hs : s.Canonical) : (State.tempHigh s).Canonical := by
  unfold State.tempHigh
  repeat' first
    | with_reducible assumption
    | with_reducible intro _
    | dsimp only
    | with_reducible apply canon_set
    | with_reducible apply canon_forEach
    | with_reducible apply fillerStop_canon
    | with_reducible apply setDuty_canon
    | split

theorem tempSample_kept (s : State) (temps : List Nat) : (State.tempSample s temps).kept = s.kept := by
  unfold State.tempSample
  repeat' first
    | with_reducible rfl
    | (simp only [State.kept_set, State.kept_setAll, kept_mk, State.kept_fold, apply_ite State.kept, ite_self, kept_forEach, kept_foldl, implies_true,
        warn_kept, powerEvent_kept, coolantStop_kept, bentTemp_kept, tempHigh_kept]; done)
    | simp only [kept_mk, State.kept_fold]
    | dsimp only
    | intro _
    | split
    | (with_reducible refine (kept_forEach _ _ _ ?_).trans ?_)
    | (with_reducible refine (kept_foldl _ _ _ ?_).trans ?_)
    | (with_reducible refine (kept_foldl_fst _ _ _ ?_).trans ?_)
    | (with_reducible refine (kept_foldl_snd _ _ _ ?_).trans ?_)
    | with_reducible refine (warn_kept ..).trans ?_
    | with_reducible refine (powerEvent_kept ..).trans ?_
    | with_reducible refine (coolantStop_kept ..).trans ?_
    | with_reducible refine (bentTemp_kept ..).trans ?_
    | with_reducible refine (tempHigh_kept ..).trans ?_
    | with_reducible refine (State.kept_set ..).trans ?_
    | with_reducible refine (State.kept_setAll ..).trans ?_

theorem tempSample_canon (s : State) (temps : List Nat) (hs : s.Canonical) : (State.tempSample s temps).Canonical := by
  have h0 : (forEach (temps.take 48).zipIdx (fun (t, i) s => s.setAll i [(.temp_TEMP, t), (.temp_VALID, 1)]) s).Canonical := by
    refine canon_forEach _ _ _ ?_ hs
    intro x u hu
    exact canon_setAll _ _ _ hu
  unfold State.tempSample
  dsimp only
  generalize (forEach (temps.take 48).zipIdx (fun x s => s.setAll x.2 [(.temp_TEMP, x.1), (.temp_VALID, 1)]) s) = t at h0 ⊢
  split
  · exact h0
  · repeat' first
      | with_reducible assumption
      | with_reducible intro _
      | with_reducible apply coolantStop_canon
      | with_reducible apply tempHigh_canon
      | with_reducible apply powerEvent_canon
      | with_reducible apply canon_setAll
      | with_reducible apply canon_set
      | with_reducible apply canon_forEach
      | with_reducible apply bentTemp_canon
      | dsimp only
      | split

theorem smbusRead_kept (s : State) (bs : List Byte) : (State.smbusRead s bs).kept = s.kept := by
  unfold State.smbusRead
  simp only [kept_mk, State.kept_fold]

theorem smbusRead_canon (s : State) (bs : List Byte) (hs : s.Canonical) : (State.smbusRead s bs).Canonical := by
  unfold State.smbusRead
  repeat' first
    | with_reducible assumption
    | simp only [canon_mk, canon_fold]

    | split

theorem capTrayWrite_kept (s : State) (v : Nat) (pecOk : Bool) : (State.capTrayWrite s v pecOk).kept = s.kept := by
  unfold State.capTrayWrite
  simp only [kept_mk, State.kept_fold, apply_ite State.kept, ite_self, capWrite_kept]

theorem capTrayWrite_canon (s : State) (v : Nat) (pecOk : Bool) (hs : s.Canonical) : (State.capTrayWrite s v pecOk).Canonical := by
  unfold State.capTrayWrite
  repeat' first
    | with_reducible assumption
    | simp only [canon_mk, canon_fold]
    | with_reducible apply capWrite_canon
    | split

/-! ## Results -/

theorem leave_kept (s : State) (j : Job) : (State.leave s j).kept = s.kept := by
  have h := postResult_kept s j
  unfold State.leave
  split
  · rename_i t heq
    rw [heq] at h; exact h
  · rename_i t heq
    rw [heq] at h
    dsimp only at h ⊢
    split <;> simp only [leaveQueue_kept, loopDone_kept, rungDone_kept, h]

theorem leave_canon (s : State) (j : Job) (hs : s.Canonical) : (State.leave s j).Canonical := by
  have h := postResult_canon s j hs
  unfold State.leave
  split
  · rename_i t heq
    rw [heq] at h; exact h
  · rename_i t heq
    rw [heq] at h
    dsimp only at h ⊢
    apply leaveQueue_canon
    split
    · exact loopDone_canon _ _ _ h
    · exact rungDone_canon _ _ _ h
    · exact h

theorem resultSlotWrite_kept (s : State) (id : JobId) : (State.resultSlotWrite s id).kept = s.kept := by
  unfold State.resultSlotWrite
  repeat' first
    | with_reducible rfl
    | (simp only [kept_mk, State.kept_fold, apply_ite State.kept, ite_self, exitSelfRefresh_kept, settleJob_kept, leave_kept]; done)
    | simp only [kept_mk, State.kept_fold]
    | dsimp only
    | intro _
    | split
    | with_reducible refine (exitSelfRefresh_kept ..).trans ?_
    | with_reducible refine (settleJob_kept ..).trans ?_
    | with_reducible refine (leave_kept ..).trans ?_

theorem resultSlotWrite_canon (s : State) (id : JobId) (hs : s.Canonical) : (State.resultSlotWrite s id).Canonical := by
  unfold State.resultSlotWrite
  repeat' first
    | with_reducible assumption
    | with_reducible intro _
    | simp only [canon_mk, canon_fold]
    | with_reducible apply exitSelfRefresh_canon
    | with_reducible apply settleJob_canon
    | with_reducible apply leave_canon
    | dsimp only
    | split

/-! ## The flash -/

theorem writeHealth_kept (s : State) (writer : Nat) : (State.writeHealth s writer).kept = s.kept := by
  unfold State.writeHealth
  simp only [State.kept_set, kept_mk, State.kept_fold, apply_ite State.kept, ite_self, kept_forEach, implies_true]

theorem writeHealth_canon (s : State) (writer : Nat) (hs : s.Canonical) : (State.writeHealth s writer).Canonical := by
  unfold State.writeHealth
  repeat' first
    | with_reducible assumption
    | with_reducible intro _
    | simp only [canon_mk, canon_fold]
    | with_reducible apply canon_set
    | with_reducible apply canon_forEach
    | split

theorem loadHealth_kept (s : State) (copy : Nat) (bs : List Byte) : (State.loadHealth s copy bs).kept = s.kept := by
  unfold State.loadHealth
  simp only [State.kept_setAll, kept_mk, State.kept_fold, apply_ite State.kept, ite_self, kept_forEach, implies_true]

theorem loadHealth_canon (s : State) (copy : Nat) (bs : List Byte) (hs : s.Canonical) : (State.loadHealth s copy bs).Canonical := by
  unfold State.loadHealth
  repeat' first
    | with_reducible assumption
    | with_reducible intro _
    | simp only [canon_mk, canon_fold]
    | with_reducible apply canon_set
    | with_reducible apply canon_setAll
    | with_reducible apply canon_drop
    | with_reducible apply canon_forEach
    | split

theorem applyVerdict_kept (s : State) (v : Verdict) : (State.applyVerdict s v).kept = s.kept := by
  unfold State.applyVerdict
  simp only [State.kept_set, kept_mk, State.kept_fold, apply_ite State.kept, ite_self, reduce_kept]

theorem applyVerdict_canon (s : State) (v : Verdict) (hs : s.Canonical) : (State.applyVerdict s v).Canonical := by
  unfold State.applyVerdict
  repeat' first
    | with_reducible assumption
    | with_reducible intro _
    | simp only [canon_mk, canon_fold]
    | with_reducible apply canon_set
    | with_reducible apply reduce_canon
    | split

/-! ## Spares and recovery -/

theorem newIncarnation_kept (s : State) (sl : Nat) : (State.newIncarnation s sl).kept = s.kept := by
  unfold State.newIncarnation
  simp only [State.kept_set, apply_ite State.kept, ite_self]

theorem newIncarnation_canon (s : State) (sl : Nat) (hs : s.Canonical) : (State.newIncarnation s sl).Canonical := by
  unfold State.newIncarnation
  repeat' first
    | with_reducible assumption
    | dsimp only
    | with_reducible apply canon_set
    | split

theorem recoveryEvent_kept (s : State) (code u : Nat) : (State.recoveryEvent s code u).kept = s.kept := by
  unfold State.recoveryEvent
  simp only [State.kept_bump, State.kept_setAll]

theorem recoveryEvent_canon (s : State) (code u : Nat) (hs : s.Canonical) : (State.recoveryEvent s code u).Canonical := by
  unfold State.recoveryEvent
  repeat' first
    | with_reducible assumption
    | with_reducible apply canon_set
    | with_reducible apply canon_setAll
    | with_reducible apply canon_bump
    | split

theorem suspect_kept (s : State) (u : Nat) : (State.suspect s u).kept = s.kept := by
  unfold State.suspect
  simp only [State.kept_set, State.kept_setAll, kept_mk, State.kept_fold, recoveryEvent_kept]

theorem suspect_canon (s : State) (u : Nat) (hs : s.Canonical) : (State.suspect s u).Canonical := by
  unfold State.suspect
  repeat' first
    | with_reducible assumption
    | simp only [canon_mk, canon_fold]
    | with_reducible apply canon_set
    | with_reducible apply canon_setAll
    | with_reducible apply recoveryEvent_canon
    | split

theorem compOff_kept (s : State) : (State.compOff s).kept = s.kept := by
  unfold State.compOff
  simp only [State.kept_set]

theorem compOff_canon (s : State) (hs : s.Canonical) : (State.compOff s).Canonical := by
  unfold State.compOff
  repeat' first
    | with_reducible assumption
    | with_reducible apply canon_set
    | split

theorem showRecovery_kept (s : State) : (State.showRecovery s).kept = s.kept := by
  unfold State.showRecovery
  simp only [State.kept_setAll, compOff_kept]

theorem showRecovery_canon (s : State) (hs : s.Canonical) : (State.showRecovery s).Canonical := by
  unfold State.showRecovery
  repeat' first
    | with_reducible assumption
    | dsimp only
    | with_reducible apply canon_set
    | with_reducible apply canon_setAll
    | with_reducible apply compOff_canon
    | split

theorem showForemen_kept (s : State) : (State.showForemen s).kept = s.kept := by
  unfold State.showForemen
  simp only [State.kept_set, kept_forEach, implies_true]

theorem showForemen_canon (s : State) (hs : s.Canonical) : (State.showForemen s).Canonical := by
  unfold State.showForemen
  repeat' first
    | with_reducible assumption
    | with_reducible intro _
    | with_reducible apply canon_set
    | with_reducible apply canon_forEach
    | split

theorem takeOff_kept (s : State) (u : Nat) : (State.takeOff s u).kept = s.kept := by
  unfold State.takeOff
  simp only [State.kept_set, kept_mk, State.kept_fold, kept_forEach, implies_true, forceOff_kept]

theorem takeOff_canon (s : State) (u : Nat) (hs : s.Canonical) : (State.takeOff s u).Canonical := by
  unfold State.takeOff
  repeat' first
    | with_reducible assumption
    | with_reducible intro _
    | simp only [canon_mk, canon_fold]
    | with_reducible apply canon_set
    | with_reducible apply canon_forEach
    | with_reducible apply forceOff_canon
    | split

theorem setAge_kept (s : State) (n p : Nat) : (State.setAge s n p).kept = s.kept := by
  unfold State.setAge
  simp only [State.kept_setAll, apply_ite State.kept, ite_self, reduce_kept]

theorem setAge_canon (s : State) (n p : Nat) (hs : s.Canonical) : (State.setAge s n p).Canonical := by
  unfold State.setAge
  repeat' first
    | with_reducible assumption
    | dsimp only
    | with_reducible apply canon_set
    | with_reducible apply canon_setAll
    | with_reducible apply reduce_canon
    | split

theorem showBents_kept (s : State) : (State.showBents s).kept = s.kept := by
  unfold State.showBents
  simp only [State.kept_setAll]

theorem showBents_canon (s : State) (hs : s.Canonical) : (State.showBents s).Canonical := by
  unfold State.showBents
  repeat' first
    | with_reducible assumption
    | with_reducible intro _
    | dsimp only
    | with_reducible apply canon_set
    | with_reducible apply canon_setAll
    | split

theorem bringIn_kept (s : State) (n failed : Nat) : (State.bringIn s n failed).kept = s.kept := by
  unfold State.bringIn
  repeat' first
    | with_reducible rfl
    | (simp only [State.kept_set, kept_mk, State.kept_fold, apply_ite State.kept, ite_self, kept_forEach, implies_true, bring_kept, reduce_kept, showBents_kept, showRecovery_kept]; done)
    | dsimp only
    | intro _
    | split
    | (refine (kept_forEach _ _ _ ?_).trans ?_)

theorem bringIn_canon (s : State) (n failed : Nat) (hs : s.Canonical) : (State.bringIn s n failed).Canonical := by
  unfold State.bringIn
  repeat' first
    | with_reducible assumption
    | with_reducible intro _
    | simp only [canon_mk, canon_fold]
    | with_reducible apply canon_set
    | with_reducible apply canon_forEach
    | with_reducible apply bring_canon
    | with_reducible apply reduce_canon
    | with_reducible apply showBents_canon
    | with_reducible apply showRecovery_canon
    | split

theorem bentLost_kept (s : State) (p n : Nat) : (State.bentLost s p n).kept = s.kept := by
  unfold State.bentLost
  simp only [State.kept_setAll, kept_mk, State.kept_fold, kept_forEach, implies_true, bringIn_kept, faultJob_kept, fillerStop_kept, takeOff_kept]

theorem bentLost_canon (s : State) (p n : Nat) (hs : s.Canonical) : (State.bentLost s p n).Canonical := by
  unfold State.bentLost
  repeat' first
    | with_reducible assumption
    | with_reducible intro _
    | simp only [canon_mk, canon_fold]
    | with_reducible apply canon_set
    | with_reducible apply canon_setAll
    | with_reducible apply canon_forEach
    | with_reducible apply bringIn_canon
    | with_reducible apply faultJob_canon
    | with_reducible apply fillerStop_canon
    | with_reducible apply takeOff_canon
    | split

theorem spareLost_kept (s : State) (p n : Nat) : (State.spareLost s p n).kept = s.kept := by
  unfold State.spareLost
  simp only [State.kept_set, kept_mk, State.kept_fold, bringIn_kept, takeOff_kept]

theorem spareLost_canon (s : State) (p n : Nat) (hs : s.Canonical) : (State.spareLost s p n).Canonical := by
  unfold State.spareLost
  repeat' first
    | with_reducible assumption
    | with_reducible intro _
    | simp only [canon_mk, canon_fold]
    | with_reducible apply canon_set
    | with_reducible apply bringIn_canon
    | with_reducible apply takeOff_canon
    | split

theorem jointerLost_kept (s : State) (j : Nat) : (State.jointerLost s j).kept = s.kept := by
  unfold State.jointerLost
  simp only [State.kept_set, kept_mk, State.kept_fold, apply_ite State.kept, ite_self, kept_forEach, implies_true, camStopped_kept, ctrlOutcome_kept, faultJob_kept, reduce_kept]

theorem jointerLost_canon (s : State) (j : Nat) (hs : s.Canonical) : (State.jointerLost s j).Canonical := by
  unfold State.jointerLost
  repeat' first
    | with_reducible assumption
    | with_reducible intro _
    | simp only [canon_mk, canon_fold]
    | with_reducible apply canon_set
    | with_reducible apply canon_forEach
    | with_reducible apply camStopped_canon
    | with_reducible apply ctrlOutcome_canon
    | with_reducible apply faultJob_canon
    | with_reducible apply reduce_canon
    | split

theorem i3cLost_kept (s : State) (g : Nat) : (State.i3cLost s g).kept = s.kept := by
  unfold State.i3cLost
  repeat' first
    | with_reducible rfl
    | (simp only [State.kept_setAll, kept_mk, State.kept_fold, ctrlOutcome_kept, reduce_kept]; done)
    | dsimp only
    | intro _
    | split
    | (refine (kept_forEach _ _ _ ?_).trans ?_)

theorem i3cLost_canon (s : State) (g : Nat) (hs : s.Canonical) : (State.i3cLost s g).Canonical := by
  unfold State.i3cLost
  repeat' first
    | with_reducible assumption
    | with_reducible intro _
    | simp only [canon_mk, canon_fold]
    | with_reducible apply canon_set
    | with_reducible apply canon_setAll
    | with_reducible apply canon_forEach
    | with_reducible apply ctrlOutcome_canon
    | with_reducible apply reduce_canon
    | split

theorem ucieLost_kept (s : State) (m : Nat) : (State.ucieLost s m).kept = s.kept := by
  unfold State.ucieLost
  simp only [State.kept_set, event_kept, reduce_kept]

theorem ucieLost_canon (s : State) (m : Nat) (hs : s.Canonical) : (State.ucieLost s m).Canonical := by
  unfold State.ucieLost
  repeat' first
    | with_reducible assumption
    | with_reducible apply canon_set
    | with_reducible apply event_canon
    | with_reducible apply reduce_canon
    | split

theorem unitLost_kept (s : State) (u : Nat) : (State.unitLost s u).kept = s.kept := by
  unfold State.unitLost
  simp only [State.kept_set, kept_mk, State.kept_fold, apply_ite State.kept, ite_self, kept_forEach, implies_true, i3cLost_kept, jointerLost_kept, reduce_kept, setMode_kept, showHq_kept, showSettling_kept, takeOff_kept, ucieLost_kept]

theorem unitLost_canon (s : State) (u : Nat) (hs : s.Canonical) : (State.unitLost s u).Canonical := by
  unfold State.unitLost
  repeat' first
    | with_reducible assumption
    | with_reducible intro _
    | simp only [canon_mk, canon_fold]
    | with_reducible apply canon_set
    | with_reducible apply canon_forEach
    | with_reducible apply i3cLost_canon
    | with_reducible apply jointerLost_canon
    | with_reducible apply reduce_canon
    | with_reducible apply setMode_canon
    | with_reducible apply showHq_canon
    | with_reducible apply showSettling_canon
    | with_reducible apply takeOff_canon
    | with_reducible apply ucieLost_canon
    | split

theorem coldSpare_kept (s : State) (failed : Nat) : (State.coldSpare s failed).kept = s.kept := by
  unfold State.coldSpare
  repeat' first
    | with_reducible rfl
    | (simp only [State.kept_set, kept_mk, State.kept_fold, reduce_kept, showForemen_kept, showRecovery_kept]; done)
    | dsimp only
    | intro _
    | split

theorem coldSpare_canon (s : State) (failed : Nat) (hs : s.Canonical) : (State.coldSpare s failed).Canonical := by
  unfold State.coldSpare
  repeat' first
    | with_reducible assumption
    | with_reducible intro _
    | simp only [canon_mk, canon_fold]
    | with_reducible apply canon_set
    | with_reducible apply reduce_canon
    | with_reducible apply showForemen_canon
    | with_reducible apply showRecovery_canon
    | split

theorem takeover_kept (s : State) : (State.takeover s).kept = s.kept := by
  unfold State.takeover
  simp only [State.kept_set, State.kept_bump, kept_mk, State.kept_fold, coldSpare_kept, newIncarnation_kept, pegAdd_kept, recoveryEvent_kept, suspect_kept, takeOff_kept]

theorem takeover_canon (s : State) (hs : s.Canonical) : (State.takeover s).Canonical := by
  unfold State.takeover
  repeat' first
    | with_reducible assumption
    | simp only [canon_mk, canon_fold]
    | with_reducible apply canon_set
    | with_reducible apply canon_bump
    | with_reducible apply coldSpare_canon
    | with_reducible apply newIncarnation_canon
    | with_reducible apply pegAdd_canon
    | with_reducible apply recoveryEvent_canon
    | with_reducible apply suspect_canon
    | with_reducible apply takeOff_canon
    | split

theorem standbyLost_kept (s : State) : (State.standbyLost s).kept = s.kept := by
  unfold State.standbyLost
  simp only [kept_mk, State.kept_fold, coldSpare_kept, newIncarnation_kept, suspect_kept, takeOff_kept]

theorem standbyLost_canon (s : State) (hs : s.Canonical) : (State.standbyLost s).Canonical := by
  unfold State.standbyLost
  repeat' first
    | with_reducible assumption
    | simp only [canon_mk, canon_fold]
    | with_reducible apply coldSpare_canon
    | with_reducible apply newIncarnation_canon
    | with_reducible apply suspect_canon
    | with_reducible apply takeOff_canon
    | split

theorem heartbeatSample_kept (s : State) (byStandby error : Bool) : (State.heartbeatSample s byStandby error).kept = s.kept := by
  unfold State.heartbeatSample
  simp only [kept_mk, State.kept_fold, apply_ite State.kept, ite_self, standbyLost_kept, takeover_kept]

theorem heartbeatSample_canon (s : State) (byStandby error : Bool) (hs : s.Canonical) : (State.heartbeatSample s byStandby error).Canonical := by
  unfold State.heartbeatSample
  repeat' first
    | with_reducible assumption
    | simp only [canon_mk, canon_fold]
    | with_reducible apply standbyLost_canon
    | with_reducible apply takeover_canon
    | split

theorem declareFailed_kept (s : State) (u : Nat) : (State.declareFailed s u).kept = s.kept := by
  unfold State.declareFailed
  repeat' first
    | with_reducible rfl
    | (simp only [apply_ite State.kept, bentLost_kept, newIncarnation_kept, reduce_kept, spareLost_kept, standbyLost_kept, suspect_kept, takeOff_kept, unitLost_kept]; done)
    | dsimp only
    | intro _
    | split

theorem declareFailed_canon (s : State) (u : Nat) (hs : s.Canonical) : (State.declareFailed s u).Canonical := by
  unfold State.declareFailed
  repeat' first
    | with_reducible assumption
    | with_reducible intro _
    | simp only [canon_mk, canon_fold]
    | with_reducible apply bentLost_canon
    | with_reducible apply newIncarnation_canon
    | with_reducible apply reduce_canon
    | with_reducible apply spareLost_canon
    | with_reducible apply standbyLost_canon
    | with_reducible apply suspect_canon
    | with_reducible apply takeOff_canon
    | with_reducible apply unitLost_canon
    | split

theorem foremanPoll_kept (s : State) (silent errors : List Nat) : (State.foremanPoll s silent errors).kept = s.kept := by
  unfold State.foremanPoll
  simp only [kept_mk, State.kept_fold, apply_ite State.kept, ite_self, kept_forEach, implies_true, declareFailed_kept]

theorem foremanPoll_canon (s : State) (silent errors : List Nat) (hs : s.Canonical) : (State.foremanPoll s silent errors).Canonical := by
  unfold State.foremanPoll
  repeat' first
    | with_reducible assumption
    | with_reducible intro _
    | simp only [canon_mk, canon_fold]
    | with_reducible apply canon_forEach
    | with_reducible apply declareFailed_canon
    | split

theorem shutdownStart_kept (s : State) : (State.shutdownStart s).kept = s.kept := by
  unfold State.shutdownStart
  simp only [State.kept_set, State.kept_setAll, kept_mk, State.kept_fold, apply_ite State.kept, ite_self, kept_forEach, implies_true, compOff_kept]

theorem shutdownStart_canon (s : State) (hs : s.Canonical) : (State.shutdownStart s).Canonical := by
  unfold State.shutdownStart
  repeat' first
    | with_reducible assumption
    | with_reducible intro _
    | simp only [canon_mk, canon_fold]
    | with_reducible apply canon_set
    | with_reducible apply canon_setAll
    | with_reducible apply canon_forEach
    | with_reducible apply compOff_canon
    | split

theorem shutdownGo_kept (s : State) : (State.shutdownGo s).kept = s.kept := by
  unfold State.shutdownGo
  repeat' first
    | with_reducible rfl
    | (simp only [State.kept_setAll, kept_mk, State.kept_fold, refuse_kept, shutdownStart_kept]; done)
    | dsimp only
    | intro _
    | split

theorem shutdownGo_canon (s : State) (hs : s.Canonical) : (State.shutdownGo s).Canonical := by
  unfold State.shutdownGo
  repeat' first
    | with_reducible assumption
    | simp only [canon_mk, canon_fold]
    | with_reducible apply canon_set
    | with_reducible apply canon_setAll
    | with_reducible apply refuse_canon
    | with_reducible apply shutdownStart_canon
    | split

theorem healthUpdate_kept (s : State) (writer : Nat) (ok : Bool) : (State.healthUpdate s writer ok).kept = s.kept := by
  unfold State.healthUpdate
  simp only [State.kept_set, kept_mk, State.kept_fold, apply_ite State.kept, ite_self, writeHealth_kept]

theorem healthUpdate_canon (s : State) (writer : Nat) (ok : Bool) (hs : s.Canonical) : (State.healthUpdate s writer ok).Canonical := by
  unfold State.healthUpdate
  repeat' first
    | with_reducible assumption
    | simp only [canon_mk, canon_fold]
    | with_reducible apply canon_set
    | with_reducible apply writeHealth_canon
    | split

theorem verdicts_kept (s : State) (units : List Nat) (vs : List Verdict) : (State.verdicts s units vs).kept = s.kept := by
  unfold State.verdicts
  simp only [State.kept_set, kept_mk, State.kept_fold, kept_forEach, implies_true, applyVerdict_kept]

theorem verdicts_canon (s : State) (units : List Nat) (vs : List Verdict) (hs : s.Canonical) : (State.verdicts s units vs).Canonical := by
  unfold State.verdicts
  repeat' first
    | with_reducible assumption
    | with_reducible intro _
    | simp only [canon_mk, canon_fold]
    | with_reducible apply canon_set
    | with_reducible apply canon_forEach
    | with_reducible apply applyVerdict_canon
    | split

theorem listRepairs_kept (s : State) : (State.listRepairs s).kept = s.kept := by
  unfold State.listRepairs
  repeat' first
    | with_reducible rfl
    | (simp only [State.kept_setAll, kept_mk, State.kept_fold, apply_ite State.kept]; done)
    | dsimp only
    | intro _
    | split
    | (refine (kept_forEach _ _ _ ?_).trans ?_)

theorem listRepairs_canon (s : State) (hs : s.Canonical) : (State.listRepairs s).Canonical := by
  unfold State.listRepairs
  repeat' first
    | with_reducible assumption
    | with_reducible intro _
    | simp only [canon_mk, canon_fold]
    | with_reducible apply canon_set
    | with_reducible apply canon_setAll
    | with_reducible apply canon_forEach
    | split

theorem swapForemen_kept (s : State) : (State.swapForemen s).kept = s.kept := by
  unfold State.swapForemen
  simp only [State.kept_set, State.kept_setAll, apply_ite State.kept, ite_self, newIncarnation_kept]

theorem swapForemen_canon (s : State) (hs : s.Canonical) : (State.swapForemen s).Canonical := by
  unfold State.swapForemen
  repeat' first
    | with_reducible assumption
    | dsimp only
    | with_reducible apply canon_set
    | with_reducible apply canon_setAll
    | with_reducible apply newIncarnation_canon
    | split

theorem shutdownDone_kept (s : State) (vs : List Verdict) (ok : Bool) : (State.shutdownDone s vs ok).kept = s.kept := by
  unfold State.shutdownDone
  repeat' first
    | with_reducible rfl
    | (simp only [State.kept_setAll, kept_mk, State.kept_fold, apply_ite State.kept, ite_self, forceOff_kept, compOff_kept, healthUpdate_kept,
        verdicts_kept, listRepairs_kept, swapForemen_kept]; done)
    | simp only [kept_mk, State.kept_fold]
    | dsimp only
    | intro _
    | split
    | with_reducible refine (forceOff_kept ..).trans ?_
    | with_reducible refine (compOff_kept ..).trans ?_
    | with_reducible refine (healthUpdate_kept ..).trans ?_
    | with_reducible refine (verdicts_kept ..).trans ?_
    | with_reducible refine (listRepairs_kept ..).trans ?_
    | with_reducible refine (swapForemen_kept ..).trans ?_
    | with_reducible refine (State.kept_setAll ..).trans ?_

theorem shutdownDone_canon (s : State) (vs : List Verdict) (ok : Bool) (hs : s.Canonical) : (State.shutdownDone s vs ok).Canonical := by
  unfold State.shutdownDone
  repeat' first
    | with_reducible assumption
    | with_reducible intro _
    | simp only [canon_mk, canon_fold]
    | with_reducible apply canon_setAll
    | with_reducible apply forceOff_canon
    | with_reducible apply compOff_canon
    | with_reducible apply healthUpdate_canon
    | with_reducible apply verdicts_canon
    | with_reducible apply listRepairs_canon
    | with_reducible apply swapForemen_canon
    | dsimp only
    | split

theorem spareInService_kept (s : State) (n : Nat) : (State.spareInService s n).kept = s.kept := by
  unfold State.spareInService
  repeat' first
    | with_reducible rfl
    | (simp only [State.kept_set, State.kept_bump, State.kept_setAll, kept_mk, State.kept_fold, apply_ite State.kept, ite_self, kept_forEach, kept_foldl,
        implies_true, setDoms_kept, reduce_kept, setArrays_kept, showRecovery_kept, setAge_kept, showBents_kept, shutdownStart_kept]; done)
    | simp only [kept_mk, State.kept_fold]
    | dsimp only
    | intro _
    | split
    | (with_reducible refine (kept_forEach _ _ _ ?_).trans ?_)
    | with_reducible refine (setDoms_kept ..).trans ?_
    | with_reducible refine (reduce_kept ..).trans ?_
    | with_reducible refine (setArrays_kept ..).trans ?_
    | with_reducible refine (showRecovery_kept ..).trans ?_
    | with_reducible refine (setAge_kept ..).trans ?_
    | with_reducible refine (showBents_kept ..).trans ?_
    | with_reducible refine (shutdownStart_kept ..).trans ?_
    | with_reducible refine (State.kept_set ..).trans ?_
    | with_reducible refine (State.kept_setAll ..).trans ?_
    | with_reducible refine (State.kept_bump ..).trans ?_

theorem spareInService_canon (s : State) (n : Nat) (hs : s.Canonical) : (State.spareInService s n).Canonical := by
  unfold State.spareInService
  repeat' first
    | with_reducible assumption
    | with_reducible intro _
    | simp only [canon_mk, canon_fold]
    | with_reducible apply canon_set
    | with_reducible apply canon_setAll
    | with_reducible apply canon_bump
    | with_reducible apply canon_forEach
    | with_reducible apply canon_foldl
    | with_reducible apply setDoms_canon
    | with_reducible apply reduce_canon
    | with_reducible apply setArrays_canon
    | with_reducible apply showRecovery_canon
    | with_reducible apply setAge_canon
    | with_reducible apply showBents_canon
    | with_reducible apply shutdownStart_canon
    | dsimp only
    | split

theorem coldSpareLoaded_kept (s : State) : (State.coldSpareLoaded s).kept = s.kept := by
  unfold State.coldSpareLoaded
  repeat' first
    | with_reducible rfl
    | (simp only [State.kept_set, kept_mk, State.kept_fold, apply_ite State.kept, ite_self, kept_forEach, implies_true, pegAdd_kept, setDom_kept, showForemen_kept, showRecovery_kept, shutdownStart_kept]; done)
    | dsimp only
    | intro _
    | split
    | (refine (kept_forEach _ _ _ ?_).trans ?_)

theorem coldSpareLoaded_canon (s : State) (hs : s.Canonical) : (State.coldSpareLoaded s).Canonical := by
  unfold State.coldSpareLoaded
  repeat' first
    | with_reducible assumption
    | with_reducible intro _
    | simp only [canon_mk, canon_fold]
    | with_reducible apply canon_set
    | with_reducible apply canon_forEach
    | with_reducible apply pegAdd_canon
    | with_reducible apply setDom_canon
    | with_reducible apply showForemen_canon
    | with_reducible apply showRecovery_canon
    | with_reducible apply shutdownStart_canon
    | split

theorem lastResort_kept (s : State) (cause : Nat) : (State.lastResort s cause).kept = s.kept := by
  unfold State.lastResort
  simp only [State.kept_set, State.kept_setAll, kept_mk, State.kept_fold, apply_ite State.kept, ite_self, event_kept, fixedSelfRefresh_kept, forceOff_kept, recoveryEvent_kept, setDoms_kept]

theorem lastResort_canon (s : State) (cause : Nat) (hs : s.Canonical) : (State.lastResort s cause).Canonical := by
  unfold State.lastResort
  repeat' first
    | with_reducible assumption
    | with_reducible intro _
    | simp only [canon_mk, canon_fold]
    | with_reducible apply canon_set
    | with_reducible apply canon_setAll
    | with_reducible apply cause_canon
    | with_reducible apply event_canon
    | with_reducible apply fixedSelfRefresh_canon
    | with_reducible apply forceOff_canon
    | with_reducible apply recoveryEvent_canon
    | with_reducible apply setDoms_canon
    | split

theorem testGo_kept (s : State) (prog : Nat) : (State.testGo s prog).kept = s.kept := by
  unfold State.testGo
  repeat' first
    | with_reducible rfl
    | (simp only [State.kept_set, State.kept_setAll, kept_mk, State.kept_fold, apply_ite State.kept, kept_forEach, implies_true, compOff_kept, refuse_kept]; done)
    | dsimp only
    | intro _
    | split
    | (refine (kept_forEach _ _ _ ?_).trans ?_)

theorem testGo_canon (s : State) (prog : Nat) (hs : s.Canonical) : (State.testGo s prog).Canonical := by
  unfold State.testGo
  repeat' first
    | with_reducible assumption
    | with_reducible intro _
    | simp only [canon_mk, canon_fold]
    | with_reducible apply canon_set
    | with_reducible apply canon_setAll
    | with_reducible apply canon_forEach
    | with_reducible apply compOff_canon
    | with_reducible apply refuse_canon
    | split

theorem testWrite_kept (s : State) (prog : Nat) : (State.testWrite s prog).kept = s.kept := by
  unfold State.testWrite
  repeat' first
    | with_reducible rfl
    | (simp only [whenOn_kept, testGo_kept, implies_true]; done)
    | dsimp only
    | intro _
    | split
    | with_reducible refine (whenOn_kept (h_f := ?_) ..).trans ?_
    | with_reducible refine (testGo_kept ..).trans ?_

theorem testWrite_canon (s : State) (prog : Nat) (hs : s.Canonical) : (State.testWrite s prog).Canonical := by
  unfold State.testWrite
  repeat' first
    | with_reducible assumption
    | with_reducible intro _
    | with_reducible apply whenOn_canon
    | with_reducible apply testGo_canon
    | dsimp only
    | split

theorem testDone_kept (s : State) (vs : List Verdict) (elapsed : Nat) (ok : Bool) : (State.testDone s vs elapsed ok).kept = s.kept := by
  unfold State.testDone
  repeat' first
    | with_reducible rfl
    | (simp only [State.kept_setAll, kept_mk, State.kept_fold, apply_ite State.kept, ite_self, compOff_kept, showBents_kept, shutdownStart_kept,
        healthUpdate_kept, verdicts_kept]; done)
    | simp only [kept_mk, State.kept_fold]
    | dsimp only
    | intro _
    | split
    | with_reducible refine (compOff_kept ..).trans ?_
    | with_reducible refine (showBents_kept ..).trans ?_
    | with_reducible refine (shutdownStart_kept ..).trans ?_
    | with_reducible refine (healthUpdate_kept ..).trans ?_
    | with_reducible refine (verdicts_kept ..).trans ?_
    | with_reducible refine (State.kept_setAll ..).trans ?_

theorem testDone_canon (s : State) (vs : List Verdict) (elapsed : Nat) (ok : Bool) (hs : s.Canonical) : (State.testDone s vs elapsed ok).Canonical
    := by
  unfold State.testDone
  repeat' first
    | with_reducible assumption
    | with_reducible intro _
    | simp only [canon_mk, canon_fold]
    | with_reducible apply canon_setAll
    | with_reducible apply compOff_canon
    | with_reducible apply showBents_canon
    | with_reducible apply shutdownStart_canon
    | with_reducible apply healthUpdate_canon
    | with_reducible apply verdicts_canon
    | dsimp only
    | split

theorem applyDeferred_kept (s : State) (d : Nat) : (State.applyDeferred s d).kept = s.kept := by
  unfold State.applyDeferred
  repeat' first
    | with_reducible rfl
    | (simp only [kept_mk, State.kept_fold, kept_forEach, kept_foldl, implies_true, writeDW_kept, testRuleEnable_kept, glanceSource_kept, runDaa_kept,
        runManual_kept, beamCommit_kept, testGo_kept]; done)
    | simp only [kept_mk, State.kept_fold]
    | dsimp only
    | intro _
    | split
    | (with_reducible refine (kept_forEach _ _ _ ?_).trans ?_)
    | with_reducible refine (writeDW_kept ..).trans ?_
    | with_reducible refine (testRuleEnable_kept ..).trans ?_
    | with_reducible refine (glanceSource_kept ..).trans ?_
    | with_reducible refine (runDaa_kept ..).trans ?_
    | with_reducible refine (runManual_kept ..).trans ?_
    | with_reducible refine (beamCommit_kept ..).trans ?_
    | with_reducible refine (testGo_kept ..).trans ?_

theorem applyDeferred_canon (s : State) (d : Nat) (hs : s.Canonical) : (State.applyDeferred s d).Canonical := by
  unfold State.applyDeferred
  repeat' first
    | with_reducible assumption
    | with_reducible intro _
    | simp only [canon_mk, canon_fold]
    | with_reducible apply canon_forEach
    | with_reducible apply canon_foldl
    | with_reducible apply writeDW_canon
    | with_reducible apply testRuleEnable_canon
    | with_reducible apply glanceSource_canon
    | with_reducible apply runDaa_canon
    | with_reducible apply runManual_canon
    | with_reducible apply beamCommit_canon
    | with_reducible apply testGo_canon
    | dsimp only
    | split

theorem exitDone_kept (s : State) (d : Nat) : (State.exitDone s d).kept = s.kept := by
  unfold State.exitDone
  repeat' first
    | with_reducible rfl
    | (simp only [State.kept_set, State.kept_bump, kept_mk, State.kept_fold, apply_ite State.kept, ite_self, setDom_kept, setArrays_kept,
        applyDeferred_kept]; done)
    | simp only [kept_mk, State.kept_fold]
    | dsimp only
    | intro _
    | split
    | with_reducible refine (setDom_kept ..).trans ?_
    | with_reducible refine (setArrays_kept ..).trans ?_
    | with_reducible refine (applyDeferred_kept ..).trans ?_
    | with_reducible refine (State.kept_set ..).trans ?_
    | with_reducible refine (State.kept_bump ..).trans ?_

theorem exitDone_canon (s : State) (d : Nat) (hs : s.Canonical) : (State.exitDone s d).Canonical := by
  unfold State.exitDone
  repeat' first
    | with_reducible assumption
    | with_reducible intro _
    | simp only [canon_mk, canon_fold]
    | with_reducible apply canon_bump
    | with_reducible apply setDom_canon
    | with_reducible apply setArrays_canon
    | with_reducible apply applyDeferred_canon
    | dsimp only
    | split

/-! ## Wedge -/

theorem random_kept (s : State) (n : Nat) : (State.random s n).2.kept = s.kept := by
  unfold State.random
  repeat' first
    | with_reducible rfl
    | (simp only [State.kept_set, State.kept_bump, State.kept_drop, State.kept_setAll, State.kept_resetFields, kept_mk, State.kept_fold, apply_ite State.kept, ite_self, kept_forEach, kept_foldl, kept_foldl_fst, kept_foldl_snd, kept_whenB, implies_true]; done)
    | dsimp only
    | intro _
    | split
    | (refine (kept_forEach _ _ _ ?_).trans ?_)
    | (refine (kept_foldl _ _ _ ?_).trans ?_)

theorem random_canon (s : State) (n : Nat) (hs : s.Canonical) : (State.random s n).2.Canonical := by
  unfold State.random
  repeat' first
    | with_reducible assumption
    | with_reducible intro _
    | simp only [canon_mk, canon_fold]

    | split

theorem loadIdentity_kept (s : State) : (State.loadIdentity s).kept = s.kept := by
  unfold State.loadIdentity
  repeat' first
    | with_reducible rfl
    | (simp only [State.kept_set, State.kept_bump, State.kept_drop, State.kept_setAll, State.kept_resetFields, kept_mk, State.kept_fold, apply_ite State.kept, ite_self, kept_forEach, kept_foldl, kept_foldl_fst, kept_foldl_snd, kept_whenB, implies_true]; done)
    | dsimp only
    | intro _
    | split
    | (refine (kept_forEach _ _ _ ?_).trans ?_)
    | (refine (kept_foldl _ _ _ ?_).trans ?_)

theorem loadIdentity_canon (s : State) (hs : s.Canonical) : (State.loadIdentity s).Canonical := by
  unfold State.loadIdentity
  repeat' first
    | with_reducible assumption
    | simp only [canon_mk, canon_fold]
    | with_reducible apply canon_set
    | with_reducible apply canon_setAll
    | split

theorem showQueue_kept (s : State) : (State.showQueue s).kept = s.kept := by
  unfold State.showQueue
  repeat' first
    | with_reducible rfl
    | (simp only [State.kept_set, State.kept_bump, State.kept_drop, State.kept_setAll, State.kept_resetFields, kept_mk, State.kept_fold, apply_ite State.kept, ite_self, kept_forEach, kept_foldl, kept_foldl_fst, kept_foldl_snd, kept_whenB, implies_true]; done)
    | dsimp only
    | intro _
    | split
    | (refine (kept_forEach _ _ _ ?_).trans ?_)
    | (refine (kept_foldl _ _ _ ?_).trans ?_)

theorem showQueue_canon (s : State) (hs : s.Canonical) : (State.showQueue s).Canonical := by
  unfold State.showQueue
  repeat' first
    | with_reducible assumption
    | with_reducible apply canon_set
    | split

theorem newKem_kept (s : State) (epoch : Nat) : (State.newKem s epoch).kept = s.kept := by
  unfold State.newKem
  repeat' first
    | with_reducible rfl
    | (simp only [State.kept_set, State.kept_bump, State.kept_drop, State.kept_setAll, State.kept_resetFields, kept_mk, State.kept_fold, apply_ite State.kept, ite_self, kept_forEach, kept_foldl, kept_foldl_fst, kept_foldl_snd, kept_whenB, implies_true, random_kept, showQueue_kept]; done)
    | dsimp only
    | intro _
    | split
    | (refine (kept_forEach _ _ _ ?_).trans ?_)
    | (refine (kept_foldl _ _ _ ?_).trans ?_)

theorem newKem_canon (s : State) (epoch : Nat) (hs : s.Canonical) : (State.newKem s epoch).Canonical := by
  unfold State.newKem
  repeat' first
    | with_reducible assumption
    | simp only [canon_mk, canon_fold]
    | with_reducible apply canon_set
    | with_reducible apply canon_setAll
    | with_reducible apply canon_drop
    | with_reducible apply random_canon
    | with_reducible apply showQueue_canon
    | split

theorem keyGo_kept (s : State) (eraseSlot : Nat) : (State.keyGo s eraseSlot).kept = s.kept := by
  unfold State.keyGo
  repeat' first
    | with_reducible rfl
    | (simp only [State.kept_set, State.kept_bump, State.kept_drop, State.kept_setAll, State.kept_resetFields, kept_mk, State.kept_fold, apply_ite State.kept, ite_self, kept_forEach, kept_foldl, kept_foldl_fst, kept_foldl_snd, kept_whenB, implies_true]; done)
    | dsimp only
    | intro _
    | split
    | (refine (kept_forEach _ _ _ ?_).trans ?_)
    | (refine (kept_foldl _ _ _ ?_).trans ?_)

theorem keyGo_canon (s : State) (eraseSlot : Nat) (hs : s.Canonical) : (State.keyGo s eraseSlot).Canonical := by
  unfold State.keyGo
  repeat' first
    | with_reducible assumption
    | dsimp only
    | with_reducible apply canon_set
    | split

theorem seeTag_kept (s : State) (ok : Bool) : (State.seeTag s ok).kept = s.kept := by
  unfold State.seeTag
  repeat' first
    | with_reducible rfl
    | (simp only [kept_mk, State.kept_fold]; done)
    | dsimp only
    | intro _
    | split

theorem seeTag_canon (s : State) (ok : Bool) (hs : s.Canonical) : (State.seeTag s ok).Canonical := by
  unfold State.seeTag
  repeat' first
    | with_reducible assumption
    | with_reducible intro _
    | simp only [canon_mk, canon_fold]
    | dsimp only
    | split

theorem keyDeliveryDone_kept (s : State) (tagOk : Bool) : (State.keyDeliveryDone s tagOk).kept = s.kept := by
  unfold State.keyDeliveryDone
  repeat' first
    | with_reducible rfl
    | (simp only [State.kept_set, State.kept_bump, State.kept_setAll, kept_mk, State.kept_fold, apply_ite State.kept, ite_self, newKem_kept, seeTag_kept];
        done)
    | simp only [kept_mk, State.kept_fold]
    | dsimp only
    | intro _
    | split
    | with_reducible refine (newKem_kept ..).trans ?_
    | with_reducible refine (seeTag_kept ..).trans ?_
    | with_reducible refine (State.kept_set ..).trans ?_
    | with_reducible refine (State.kept_setAll ..).trans ?_
    | with_reducible refine (State.kept_bump ..).trans ?_

theorem keyDeliveryDone_canon (s : State) (tagOk : Bool) (hs : s.Canonical) : (State.keyDeliveryDone s tagOk).Canonical := by
  unfold State.keyDeliveryDone
  repeat' first
    | with_reducible assumption
    | with_reducible intro _
    | simp only [canon_mk, canon_fold]
    | with_reducible apply canon_set
    | with_reducible apply canon_setAll
    | with_reducible apply canon_bump
    | with_reducible apply newKem_canon
    | with_reducible apply seeTag_canon
    | dsimp only
    | split

theorem keyErase_kept (s : State) (slot : Nat) : (State.keyErase s slot).kept = s.kept := by
  unfold State.keyErase
  repeat' first
    | with_reducible rfl
    | (simp only [State.kept_set, State.kept_bump, State.kept_drop, State.kept_setAll, State.kept_resetFields, kept_mk, State.kept_fold, apply_ite State.kept, ite_self, kept_forEach, kept_foldl, kept_foldl_fst, kept_foldl_snd, kept_whenB, implies_true, eraseKey_kept, refuse_kept]; done)
    | dsimp only
    | intro _
    | split
    | (refine (kept_forEach _ _ _ ?_).trans ?_)
    | (refine (kept_foldl _ _ _ ?_).trans ?_)

theorem keyErase_canon (s : State) (slot : Nat) (hs : s.Canonical) : (State.keyErase s slot).Canonical := by
  unfold State.keyErase
  repeat' first
    | with_reducible assumption
    | simp only [canon_mk, canon_fold]
    | with_reducible apply canon_set
    | with_reducible apply eraseKey_canon
    | with_reducible apply refuse_canon
    | split

theorem attestGo_kept (s : State) (value : Nat) : (State.attestGo s value).kept = s.kept := by
  unfold State.attestGo
  repeat' first
    | with_reducible rfl
    | (simp only [State.kept_set, State.kept_bump, State.kept_drop, State.kept_setAll, State.kept_resetFields, kept_mk, State.kept_fold, apply_ite State.kept, ite_self, kept_forEach, kept_foldl, kept_foldl_fst, kept_foldl_snd, kept_whenB, implies_true, showQueue_kept]; done)
    | dsimp only
    | intro _
    | split
    | (refine (kept_forEach _ _ _ ?_).trans ?_)
    | (refine (kept_foldl _ _ _ ?_).trans ?_)

theorem attestGo_canon (s : State) (value : Nat) (hs : s.Canonical) : (State.attestGo s value).Canonical := by
  unfold State.attestGo
  repeat' first
    | with_reducible assumption
    | simp only [canon_mk, canon_fold]
    | with_reducible apply canon_set
    | with_reducible apply canon_setAll
    | with_reducible apply showQueue_canon
    | split

theorem signStart_kept (s : State) : (State.signStart s).kept = s.kept := by
  unfold State.signStart
  repeat' first
    | with_reducible rfl
    | (simp only [State.kept_set, State.kept_bump, State.kept_drop, State.kept_setAll, State.kept_resetFields, kept_mk, State.kept_fold, apply_ite State.kept, ite_self, kept_forEach, kept_foldl, kept_foldl_fst, kept_foldl_snd, kept_whenB, implies_true, showQueue_kept]; done)
    | dsimp only
    | intro _
    | split
    | (refine (kept_forEach _ _ _ ?_).trans ?_)
    | (refine (kept_foldl _ _ _ ?_).trans ?_)

theorem signStart_canon (s : State) (hs : s.Canonical) : (State.signStart s).Canonical := by
  unfold State.signStart
  repeat' first
    | with_reducible assumption
    | simp only [canon_mk, canon_fold]
    | with_reducible apply canon_set
    | with_reducible apply showQueue_canon
    | split

theorem attestSignDone_kept (s : State) : (State.attestSignDone s).kept = s.kept := by
  unfold State.attestSignDone
  repeat' first
    | with_reducible rfl
    | (simp only [State.kept_set, State.kept_bump, State.kept_drop, State.kept_setAll, State.kept_resetFields, kept_mk, State.kept_fold, apply_ite State.kept, ite_self, kept_forEach, kept_foldl, kept_foldl_fst, kept_foldl_snd, kept_whenB, implies_true, pegAdd_kept]; done)
    | dsimp only
    | intro _
    | split
    | (refine (kept_forEach _ _ _ ?_).trans ?_)
    | (refine (kept_foldl _ _ _ ?_).trans ?_)

theorem attestSignDone_canon (s : State) (hs : s.Canonical) : (State.attestSignDone s).Canonical := by
  unfold State.attestSignDone
  repeat' first
    | with_reducible assumption
    | simp only [canon_mk, canon_fold]
    | with_reducible apply canon_set
    | with_reducible apply canon_bump
    | with_reducible apply pegAdd_canon
    | split

theorem certSignDone_kept (s : State) : (State.certSignDone s).kept = s.kept := by
  unfold State.certSignDone
  repeat' first
    | with_reducible rfl
    | (simp only [State.kept_set, State.kept_bump, State.kept_drop, State.kept_setAll, State.kept_resetFields, kept_mk, State.kept_fold, apply_ite State.kept, ite_self, kept_forEach, kept_foldl, kept_foldl_fst, kept_foldl_snd, kept_whenB, implies_true]; done)
    | dsimp only
    | intro _
    | split
    | (refine (kept_forEach _ _ _ ?_).trans ?_)
    | (refine (kept_foldl _ _ _ ?_).trans ?_)

theorem certSignDone_canon (s : State) (hs : s.Canonical) : (State.certSignDone s).Canonical := by
  unfold State.certSignDone
  repeat' first
    | with_reducible assumption
    | simp only [canon_mk, canon_fold]
    | with_reducible apply canon_set
    | with_reducible apply canon_setAll
    | split

theorem bufFree_kept (s : State) (b : Nat) : (State.bufFree s b).kept = s.kept := by
  unfold State.bufFree
  repeat' first
    | with_reducible rfl
    | (simp only [State.kept_set, State.kept_bump, State.kept_drop, State.kept_setAll, State.kept_resetFields, kept_mk, State.kept_fold, apply_ite State.kept, ite_self, kept_forEach, kept_foldl, kept_foldl_fst, kept_foldl_snd, kept_whenB, implies_true]; done)
    | dsimp only
    | intro _
    | split
    | (refine (kept_forEach _ _ _ ?_).trans ?_)
    | (refine (kept_foldl _ _ _ ?_).trans ?_)

theorem bufFree_canon (s : State) (b : Nat) (hs : s.Canonical) : (State.bufFree s b).Canonical := by
  unfold State.bufFree
  repeat' first
    | with_reducible assumption
    | with_reducible apply canon_set
    | split

theorem seeToken_kept (s : State) (ok : Bool) : (State.seeToken s ok).kept = s.kept := by
  unfold State.seeToken
  repeat' first
    | with_reducible rfl
    | (simp only [kept_mk, State.kept_fold]; done)
    | dsimp only
    | intro _
    | split

theorem seeToken_canon (s : State) (ok : Bool) (hs : s.Canonical) : (State.seeToken s ok).Canonical := by
  unfold State.seeToken
  repeat' first
    | with_reducible assumption
    | with_reducible intro _
    | simp only [canon_mk, canon_fold]
    | dsimp only
    | split

theorem lcGo_canon (s : State) (dst confirm : Nat) (tokenOk : Bool) (hs : s.Canonical) : (State.lcGo s dst confirm tokenOk).Canonical := by
  unfold State.lcGo
  repeat' first
    | with_reducible assumption
    | with_reducible intro _
    | simp only [canon_mk, canon_fold]
    | with_reducible apply canon_set
    | with_reducible apply canon_setAll
    | with_reducible apply random_canon
    | with_reducible apply seeToken_canon
    | dsimp only
    | split

/-! ## Checks of an image -/

theorem reservedPegs_kept (s : State) : (State.reservedPegs s).kept = s.kept := by
  unfold State.reservedPegs
  simp only [State.kept_set, State.kept_setAll, kept_forEach, implies_true]

theorem reservedPegs_canon (s : State) (hs : s.Canonical) : (State.reservedPegs s).Canonical := by
  unfold State.reservedPegs
  repeat' first
    | with_reducible assumption
    | with_reducible intro _
    | dsimp only
    | with_reducible apply canon_set
    | with_reducible apply canon_setAll
    | with_reducible apply canon_forEach
    | split

theorem classSizes_kept (s : State) : (State.classSizes s).kept = s.kept := by
  unfold State.classSizes
  simp only [State.kept_set, kept_forEach, implies_true]

theorem classSizes_canon (s : State) (hs : s.Canonical) : (State.classSizes s).Canonical := by
  unfold State.classSizes
  repeat' first
    | with_reducible assumption
    | with_reducible intro _
    | dsimp only
    | with_reducible apply canon_set
    | with_reducible apply canon_forEach
    | split

theorem applyDefaults_kept (s : State) (c : ImageCfg) : (State.applyDefaults s c).kept = s.kept := by
  unfold State.applyDefaults
  repeat' first
    | with_reducible rfl
    | (simp only [State.kept_set, apply_ite State.kept, ite_self, kept_forEach, kept_foldl, implies_true]; done)
    | dsimp only
    | intro _
    | split
    | (with_reducible refine (kept_forEach _ _ _ ?_).trans ?_)
    | with_reducible refine (State.kept_set ..).trans ?_

theorem applyDefaults_canon (s : State) (c : ImageCfg) (hs : s.Canonical) : (State.applyDefaults s c).Canonical := by
  unfold State.applyDefaults
  repeat' first
    | with_reducible assumption
    | with_reducible intro _
    | with_reducible apply canon_set
    | with_reducible apply canon_forEach
    | with_reducible apply canon_foldl
    | dsimp only
    | split

theorem applyImage_kept (s : State) (c : ImageCfg) : (State.applyImage s c).kept = s.kept := by
  unfold State.applyImage
  repeat' first
    | with_reducible rfl
    | (simp only [State.kept_set, kept_mk, State.kept_fold, kept_forEach, kept_foldl, implies_true, reservedPegs_kept, classSizes_kept,
        applyDefaults_kept]; done)
    | simp only [kept_mk, State.kept_fold]
    | dsimp only
    | intro _
    | split
    | (with_reducible refine (kept_forEach _ _ _ ?_).trans ?_)
    | with_reducible refine (reservedPegs_kept ..).trans ?_
    | with_reducible refine (classSizes_kept ..).trans ?_
    | with_reducible refine (applyDefaults_kept ..).trans ?_
    | with_reducible refine (State.kept_set ..).trans ?_

theorem applyImage_canon (s : State) (c : ImageCfg) (hs : s.Canonical) : (State.applyImage s c).Canonical := by
  unfold State.applyImage
  repeat' first
    | with_reducible assumption
    | with_reducible intro _
    | simp only [canon_mk, canon_fold]
    | with_reducible apply canon_set
    | with_reducible apply canon_forEach
    | with_reducible apply canon_foldl
    | with_reducible apply reservedPegs_canon
    | with_reducible apply classSizes_canon
    | with_reducible apply applyDefaults_canon
    | with_reducible apply canon_store
    | with_reducible apply canon_change
    | with_reducible apply canon_host
    | with_reducible apply canon_bar4
    | with_reducible apply canon_staging
    | with_reducible apply canon_setSlot
    | with_reducible apply Mem.wf_write
    | with_reducible apply Mem.wf_writeBytes
    | with_reducible apply Mem.wf_writeNum
    | with_reducible apply Mem.wf_clear
    | with_reducible apply wf_forEach
    | with_reducible apply wf_foldl_fst
    | with_reducible apply canon_ddr_wf
    | with_reducible apply canon_check_wf
    | with_reducible apply canon_host_wf
    | with_reducible apply canon_bar4_wf
    | with_reducible apply canon_staging_wf
    | with_reducible apply canon_slot_wf
    | with_reducible apply splice_wf
    | with_reducible apply scramble_wf
    | with_reducible apply canon_regsOk
    | with_reducible apply regsOk_filter
    | with_reducible apply regsOk_nil
    | with_reducible apply wf_nil
    | with_reducible apply check_nil
    | with_reducible apply check_filter
    | with_reducible apply canon_slot0_wf
    | with_reducible apply canon_slot1_wf
    | dsimp only
    | split
    | with_reducible apply canon_parts

/-! ## Resets, start-up and updates -/

theorem abandonUpdate_kept (s : State) : (State.abandonUpdate s).kept = s.kept := by
  unfold State.abandonUpdate
  repeat' first
    | with_reducible rfl
    | (simp only [kept_mk, State.kept_fold]; done)
    | dsimp only
    | intro _
    | split

theorem abandonUpdate_canon (s : State) (hs : s.Canonical) : (State.abandonUpdate s).Canonical := by
  unfold State.abandonUpdate
  repeat' first
    | with_reducible assumption
    | simp only [canon_mk, canon_fold]
    | with_reducible apply canon_set
    | with_reducible apply canon_setSlot
    | with_reducible apply Mem.wf_write
    | with_reducible apply Mem.wf_writeBytes
    | with_reducible apply Mem.wf_writeNum
    | with_reducible apply Mem.wf_clear
    | with_reducible apply wf_forEach
    | with_reducible apply canon_ddr_wf
    | with_reducible apply canon_check_wf
    | with_reducible apply canon_host_wf
    | with_reducible apply canon_bar4_wf
    | with_reducible apply canon_staging_wf
    | with_reducible apply canon_slot_wf
    | with_reducible apply splice_wf
    | with_reducible apply scramble_wf
    | with_reducible apply canon_regsOk
    | with_reducible apply regsOk_filter
    | with_reducible apply regsOk_nil
    | with_reducible apply wf_nil
    | with_reducible apply check_nil
    | with_reducible apply check_filter
    | with_reducible apply canon_slot0_wf
    | with_reducible apply canon_slot1_wf
    | split
    | with_reducible apply canon_parts

theorem porst_kept (s : State) : (State.porst s).kept = s.kept := by
  unfold State.porst
  repeat' first
    | with_reducible rfl
    | (simp only [kept_mk, State.kept_fold, abandonUpdate_kept]; done)
    | simp only [kept_mk, State.kept_fold]
    | dsimp only
    | intro _
    | split
    | with_reducible refine (abandonUpdate_kept ..).trans ?_

theorem porst_canon (s : State) (hs : s.Canonical) : (State.porst s).Canonical := by
  unfold State.porst
  repeat' first
    | with_reducible assumption
    | with_reducible intro _
    | simp only [canon_mk, canon_fold]
    | with_reducible apply abandonUpdate_canon
    | with_reducible apply canon_store
    | with_reducible apply canon_change
    | with_reducible apply canon_host
    | with_reducible apply canon_bar4
    | with_reducible apply canon_staging
    | with_reducible apply canon_setSlot
    | with_reducible apply Mem.wf_write
    | with_reducible apply Mem.wf_writeBytes
    | with_reducible apply Mem.wf_writeNum
    | with_reducible apply Mem.wf_clear
    | with_reducible apply wf_forEach
    | with_reducible apply wf_foldl_fst
    | with_reducible apply canon_ddr_wf
    | with_reducible apply canon_check_wf
    | with_reducible apply canon_host_wf
    | with_reducible apply canon_bar4_wf
    | with_reducible apply canon_staging_wf
    | with_reducible apply canon_slot_wf
    | with_reducible apply splice_wf
    | with_reducible apply scramble_wf
    | with_reducible apply canon_regsOk
    | with_reducible apply regsOk_filter
    | with_reducible apply regsOk_nil
    | with_reducible apply wf_nil
    | with_reducible apply check_nil
    | with_reducible apply check_filter
    | with_reducible apply canon_slot0_wf
    | with_reducible apply canon_slot1_wf
    | dsimp only
    | split
    | with_reducible apply canon_parts

theorem warmReset_kept (s : State) : (State.warmReset s).kept = s.kept := by
  unfold State.warmReset
  repeat' first
    | with_reducible rfl
    | (simp only [State.kept_set, State.kept_setAll, kept_mk, State.kept_fold, kept_forEach, kept_foldl, implies_true, setDoms_kept, abandonUpdate_kept];
        done)
    | simp only [kept_mk, State.kept_fold]
    | dsimp only
    | intro _
    | split
    | (with_reducible refine (kept_forEach _ _ _ ?_).trans ?_)
    | with_reducible refine (setDoms_kept ..).trans ?_
    | with_reducible refine (abandonUpdate_kept ..).trans ?_
    | with_reducible refine (State.kept_set ..).trans ?_
    | with_reducible refine (State.kept_setAll ..).trans ?_

theorem warmReset_canon (s : State) (hs : s.Canonical) : (State.warmReset s).Canonical := by
  unfold State.warmReset
  repeat' first
    | with_reducible assumption
    | with_reducible intro _
    | simp only [canon_mk, canon_fold]
    | with_reducible apply canon_set
    | with_reducible apply canon_setAll
    | with_reducible apply canon_forEach
    | with_reducible apply canon_foldl
    | with_reducible apply setDoms_canon
    | with_reducible apply abandonUpdate_canon
    | with_reducible apply canon_store
    | with_reducible apply canon_change
    | with_reducible apply canon_host
    | with_reducible apply canon_bar4
    | with_reducible apply canon_staging
    | with_reducible apply canon_setSlot
    | with_reducible apply Mem.wf_write
    | with_reducible apply Mem.wf_writeBytes
    | with_reducible apply Mem.wf_writeNum
    | with_reducible apply Mem.wf_clear
    | with_reducible apply wf_forEach
    | with_reducible apply wf_foldl_fst
    | with_reducible apply canon_ddr_wf
    | with_reducible apply canon_check_wf
    | with_reducible apply canon_host_wf
    | with_reducible apply canon_bar4_wf
    | with_reducible apply canon_staging_wf
    | with_reducible apply canon_slot_wf
    | with_reducible apply splice_wf
    | with_reducible apply scramble_wf
    | with_reducible apply canon_regsOk
    | with_reducible apply regsOk_filter
    | with_reducible apply regsOk_nil
    | with_reducible apply wf_nil
    | with_reducible apply check_nil
    | with_reducible apply check_filter
    | with_reducible apply canon_slot0_wf
    | with_reducible apply canon_slot1_wf
    | dsimp only
    | split
    | with_reducible apply canon_parts

theorem seeSlot_kept (s : State) (sl : Nat) (c : SlotCheck) : (State.seeSlot s sl c).kept = s.kept := by
  unfold State.seeSlot
  repeat' first
    | with_reducible rfl
    | (simp only [kept_mk, State.kept_fold]; done)
    | dsimp only
    | intro _
    | split

theorem seeSlot_canon (s : State) (sl : Nat) (c : SlotCheck) (hs : s.Canonical) : (State.seeSlot s sl c).Canonical := by
  unfold State.seeSlot
  repeat' first
    | with_reducible assumption
    | with_reducible intro _
    | simp only [canon_mk, canon_fold]
    | with_reducible apply canon_store
    | with_reducible apply canon_change
    | with_reducible apply canon_host
    | with_reducible apply canon_bar4
    | with_reducible apply canon_staging
    | with_reducible apply canon_setSlot
    | with_reducible apply Mem.wf_write
    | with_reducible apply Mem.wf_writeBytes
    | with_reducible apply Mem.wf_writeNum
    | with_reducible apply Mem.wf_clear
    | with_reducible apply wf_forEach
    | with_reducible apply wf_foldl_fst
    | with_reducible apply canon_ddr_wf
    | with_reducible apply canon_check_wf
    | with_reducible apply canon_host_wf
    | with_reducible apply canon_bar4_wf
    | with_reducible apply canon_staging_wf
    | with_reducible apply canon_slot_wf
    | with_reducible apply splice_wf
    | with_reducible apply scramble_wf
    | with_reducible apply canon_regsOk
    | with_reducible apply regsOk_filter
    | with_reducible apply regsOk_nil
    | with_reducible apply wf_nil
    | with_reducible apply check_nil
    | with_reducible apply check_filter
    | with_reducible apply canon_slot0_wf
    | with_reducible apply canon_slot1_wf
    | dsimp only
    | split
    | with_reducible apply canon_parts

theorem appendRecord_kept (s : State) : (State.appendRecord s).kept = s.kept := by
  unfold State.appendRecord
  simp only [kept_mk, State.kept_fold]

theorem appendRecord_canon (s : State) (hs : s.Canonical) : (State.appendRecord s).Canonical := by
  unfold State.appendRecord
  repeat' first
    | with_reducible assumption
    | simp only [canon_mk, canon_fold, dirWrite_slot0, dirWrite_slot1, append_slot0, append_slot1]
    | with_reducible apply canon_regsOk
    | with_reducible apply regsOk_filter
    | with_reducible apply regsOk_nil
    | with_reducible apply wf_nil
    | with_reducible apply check_nil
    | with_reducible apply check_filter
    | with_reducible apply canon_ddr_wf
    | with_reducible apply canon_check_wf
    | with_reducible apply canon_host_wf
    | with_reducible apply canon_bar4_wf
    | with_reducible apply canon_staging_wf
    | with_reducible apply canon_slot0_wf
    | with_reducible apply canon_slot1_wf
    | with_reducible apply Mem.wf_write
    | with_reducible apply Mem.wf_writeBytes
    | with_reducible apply Mem.wf_writeNum
    | with_reducible apply Mem.wf_clear
    | with_reducible apply wf_forEach
    | split
    | with_reducible apply canon_parts

theorem sampleStraps_kept (s : State) (straps : Nat) (env : BootEnv) : (State.sampleStraps s straps env).kept = s.kept := by
  unfold State.sampleStraps
  simp only [State.kept_setAll, kept_mk, State.kept_fold, setDoms_kept]

theorem sampleStraps_canon (s : State) (straps : Nat) (env : BootEnv) (hs : s.Canonical) : (State.sampleStraps s straps env).Canonical := by
  unfold State.sampleStraps
  repeat' first
    | with_reducible assumption
    | simp only [canon_mk, canon_fold]
    | with_reducible apply canon_set
    | with_reducible apply canon_setAll
    | with_reducible apply setDoms_canon
    | split

theorem showOtp_kept (s : State) : (State.showOtp s).kept = s.kept := by
  unfold State.showOtp
  simp only [State.kept_setAll]

theorem showOtp_canon (s : State) (hs : s.Canonical) : (State.showOtp s).Canonical := by
  unfold State.showOtp
  repeat' first
    | with_reducible assumption
    | dsimp only
    | with_reducible apply canon_set
    | with_reducible apply canon_setAll
    | split

theorem readOtp_kept (s : State) (cold : Bool) : (State.readOtp s cold).kept = s.kept := by
  unfold State.readOtp
  simp only [State.kept_set, State.kept_setAll, apply_ite State.kept, ite_self, loadIdentity_kept, random_kept, showOtp_kept]

theorem readOtp_canon (s : State) (cold : Bool) (hs : s.Canonical) : (State.readOtp s cold).Canonical := by
  unfold State.readOtp
  repeat' first
    | with_reducible assumption
    | dsimp only
    | with_reducible apply canon_set
    | with_reducible apply canon_setAll
    | with_reducible apply loadIdentity_canon
    | with_reducible apply random_canon
    | with_reducible apply showOtp_canon
    | split

theorem clearStart_kept (s : State) : (State.clearStart s).kept = s.kept := by
  unfold State.clearStart
  simp only [State.kept_resetFields, kept_mk, State.kept_fold, kept_forEach, implies_true]

theorem clearStart_canon (s : State) (hs : s.Canonical) : (State.clearStart s).Canonical := by
  unfold State.clearStart
  repeat' first
    | with_reducible assumption
    | with_reducible intro _
    | simp only [canon_mk, canon_fold]
    | with_reducible apply canon_set
    | with_reducible apply canon_resetFields
    | with_reducible apply canon_forEach
    | split

theorem flashStops_kept (s : State) : (State.flashStops s).kept = s.kept := by
  unfold State.flashStops
  simp only [State.kept_bump, State.kept_setAll, kept_mk, State.kept_fold]

theorem flashStops_canon (s : State) (hs : s.Canonical) : (State.flashStops s).Canonical := by
  unfold State.flashStops
  repeat' first
    | with_reducible assumption
    | simp only [canon_mk, canon_fold]
    | with_reducible apply canon_set
    | with_reducible apply canon_setAll
    | with_reducible apply canon_bump
    | split

theorem readHealth_kept (s : State) : (State.readHealth s).kept = s.kept := by
  unfold State.readHealth
  simp only [State.kept_setAll, apply_ite State.kept, ite_self, loadHealth_kept]

theorem readHealth_canon (s : State) (hs : s.Canonical) : (State.readHealth s).Canonical := by
  unfold State.readHealth
  repeat' first
    | with_reducible assumption
    | dsimp only
    | with_reducible apply canon_set
    | with_reducible apply canon_setAll
    | with_reducible apply loadHealth_canon
    | split

theorem trySlot_kept (s : State) (sl : Nat) (env : BootEnv) : (State.trySlot s sl env).1.kept = s.kept := by
  unfold State.trySlot
  repeat' first
    | with_reducible rfl
    | (simp only [State.kept_set, apply_ite State.kept, ite_self, seeSlot_kept, readHealth_kept]; done)
    | dsimp only
    | intro _
    | split
    | with_reducible refine (seeSlot_kept ..).trans ?_
    | with_reducible refine (readHealth_kept ..).trans ?_
    | with_reducible refine (State.kept_set ..).trans ?_

theorem trySlot_canon (s : State) (sl : Nat) (env : BootEnv) (hs : s.Canonical) : (State.trySlot s sl env).1.Canonical := by
  unfold State.trySlot
  repeat' first
    | with_reducible assumption
    | with_reducible intro _
    | with_reducible apply canon_set
    | with_reducible apply seeSlot_canon
    | with_reducible apply readHealth_canon
    | dsimp only
    | split

theorem slotOrder_kept (s : State) : (State.slotOrder s).1.kept = s.kept := by
  unfold State.slotOrder
  repeat' first
    | with_reducible rfl
    | (simp only [State.kept_set, kept_mk, State.kept_fold]; done)
    | dsimp only
    | intro _
    | split

theorem slotOrder_canon (s : State) (hs : s.Canonical) : (State.slotOrder s).1.Canonical := by
  unfold State.slotOrder
  repeat' first
    | with_reducible assumption
    | simp only [canon_mk, canon_fold, dirWrite_slot0, dirWrite_slot1, append_slot0, append_slot1]
    | with_reducible apply canon_set
    | with_reducible apply canon_regsOk
    | with_reducible apply regsOk_filter
    | with_reducible apply regsOk_nil
    | with_reducible apply wf_nil
    | with_reducible apply check_nil
    | with_reducible apply check_filter
    | with_reducible apply canon_ddr_wf
    | with_reducible apply canon_check_wf
    | with_reducible apply canon_host_wf
    | with_reducible apply canon_bar4_wf
    | with_reducible apply canon_staging_wf
    | with_reducible apply canon_slot0_wf
    | with_reducible apply canon_slot1_wf
    | with_reducible apply Mem.wf_write
    | with_reducible apply Mem.wf_writeBytes
    | with_reducible apply Mem.wf_writeNum
    | with_reducible apply Mem.wf_clear
    | with_reducible apply wf_forEach
    | split
    | with_reducible apply canon_parts

theorem runImage_kept (s : State) (sl pref : Nat) : (State.runImage s sl pref).kept = s.kept := by
  unfold State.runImage
  simp only [State.kept_setAll, kept_mk, State.kept_fold]

theorem runImage_canon (s : State) (sl pref : Nat) (hs : s.Canonical) : (State.runImage s sl pref).Canonical := by
  unfold State.runImage
  repeat' first
    | with_reducible assumption
    | simp only [canon_mk, canon_fold]
    | with_reducible apply canon_set
    | with_reducible apply canon_setAll
    | split

theorem startTest_kept (s : State) (vs : List Verdict) : (State.startTest s vs).kept = s.kept := by
  unfold State.startTest
  repeat' first
    | with_reducible rfl
    | (simp only [State.kept_set, State.kept_setAll, kept_mk, State.kept_fold, apply_ite State.kept, ite_self, kept_forEach, kept_foldl, implies_true,
        writeHealth_kept, applyVerdict_kept]; done)
    | simp only [kept_mk, State.kept_fold]
    | dsimp only
    | intro _
    | split
    | (with_reducible refine (kept_forEach _ _ _ ?_).trans ?_)
    | with_reducible refine (writeHealth_kept ..).trans ?_
    | with_reducible refine (applyVerdict_kept ..).trans ?_
    | with_reducible refine (State.kept_set ..).trans ?_
    | with_reducible refine (State.kept_setAll ..).trans ?_

theorem startTest_canon (s : State) (vs : List Verdict) (hs : s.Canonical) : (State.startTest s vs).Canonical := by
  unfold State.startTest
  repeat' first
    | with_reducible assumption
    | with_reducible intro _
    | simp only [canon_mk, canon_fold]
    | with_reducible apply canon_set
    | with_reducible apply canon_setAll
    | with_reducible apply canon_forEach
    | with_reducible apply canon_foldl
    | with_reducible apply writeHealth_canon
    | with_reducible apply applyVerdict_canon
    | dsimp only
    | split

theorem setMeasurements_kept (s : State) (sl : Nat) : (State.setMeasurements s sl).kept = s.kept := by
  unfold State.setMeasurements
  simp only [State.kept_set, kept_forEach, implies_true, newKem_kept]

theorem setMeasurements_canon (s : State) (sl : Nat) (hs : s.Canonical) : (State.setMeasurements s sl).Canonical := by
  unfold State.setMeasurements
  repeat' first
    | with_reducible assumption
    | with_reducible intro _
    | dsimp only
    | with_reducible apply canon_set
    | with_reducible apply canon_forEach
    | with_reducible apply newKem_canon
    | split

theorem assignBents_kept (s : State) : (State.assignBents s).kept = s.kept := by
  unfold State.assignBents
  repeat' first
    | with_reducible rfl
    | (simp only [State.kept_set, State.kept_setAll, kept_mk, State.kept_fold, kept_forEach, kept_foldl, implies_true, setArrays_kept, setAge_kept]; done)
    | simp only [kept_mk, State.kept_fold]
    | dsimp only
    | intro _
    | split
    | (with_reducible refine (kept_forEach _ _ _ ?_).trans ?_)
    | with_reducible refine (setArrays_kept ..).trans ?_
    | with_reducible refine (setAge_kept ..).trans ?_
    | with_reducible refine (State.kept_set ..).trans ?_
    | with_reducible refine (State.kept_setAll ..).trans ?_

theorem assignBents_canon (s : State) (hs : s.Canonical) : (State.assignBents s).Canonical := by
  unfold State.assignBents
  repeat' first
    | with_reducible assumption
    | with_reducible intro _
    | simp only [canon_mk, canon_fold]
    | with_reducible apply canon_set
    | with_reducible apply canon_setAll
    | with_reducible apply canon_forEach
    | with_reducible apply canon_foldl
    | with_reducible apply setArrays_canon
    | with_reducible apply setAge_canon
    | dsimp only
    | split

theorem assignForemen_kept (s : State) : (State.assignForemen s).kept = s.kept := by
  unfold State.assignForemen
  simp only [State.kept_set, State.kept_setAll]

theorem assignForemen_canon (s : State) (hs : s.Canonical) : (State.assignForemen s).Canonical := by
  unfold State.assignForemen
  repeat' first
    | with_reducible assumption
    | with_reducible intro _
    | dsimp only
    | with_reducible apply canon_set
    | with_reducible apply canon_setAll
    | split

theorem assignSlots_kept (s : State) : (State.assignSlots s).kept = s.kept := by
  unfold State.assignSlots
  simp only [State.kept_set, kept_forEach, implies_true]

theorem assignSlots_canon (s : State) (hs : s.Canonical) : (State.assignSlots s).Canonical := by
  unfold State.assignSlots
  repeat' first
    | with_reducible assumption
    | with_reducible intro _
    | dsimp only
    | with_reducible apply canon_set
    | with_reducible apply canon_forEach
    | split

theorem assignReduce_kept (s : State) : (State.assignReduce s).kept = s.kept := by
  unfold State.assignReduce
  simp only [apply_ite State.kept, ite_self, kept_forEach, implies_true, reduce_kept]

theorem assignReduce_canon (s : State) (hs : s.Canonical) : (State.assignReduce s).Canonical := by
  unfold State.assignReduce
  repeat' first
    | with_reducible assumption
    | with_reducible intro _
    | dsimp only
    | with_reducible apply canon_forEach
    | with_reducible apply reduce_canon
    | split

theorem assignDomains_kept (s : State) : (State.assignDomains s).kept = s.kept := by
  unfold State.assignDomains
  simp only [State.kept_setAll, kept_forEach, implies_true, setDoms_kept]

theorem assignDomains_canon (s : State) (hs : s.Canonical) : (State.assignDomains s).Canonical := by
  unfold State.assignDomains
  repeat' first
    | with_reducible assumption
    | with_reducible intro _
    | dsimp only
    | with_reducible apply canon_set
    | with_reducible apply canon_setAll
    | with_reducible apply canon_forEach
    | with_reducible apply setDoms_canon
    | split

theorem startMemory_kept (s : State) : (State.startMemory s).kept = s.kept := by
  unfold State.startMemory
  simp only [State.kept_set, State.kept_setAll, kept_mk, State.kept_fold]

theorem startMemory_canon (s : State) (hs : s.Canonical) : (State.startMemory s).Canonical := by
  unfold State.startMemory
  repeat' first
    | with_reducible assumption
    | with_reducible intro _
    | simp only [canon_mk, canon_fold]
    | with_reducible apply canon_set
    | with_reducible apply canon_setAll
    | with_reducible apply canon_host
    | with_reducible apply Mem.wf_write
    | with_reducible apply Mem.wf_writeBytes
    | with_reducible apply Mem.wf_writeNum
    | with_reducible apply Mem.wf_clear
    | with_reducible apply wf_forEach
    | with_reducible apply canon_ddr_wf
    | with_reducible apply canon_check_wf
    | with_reducible apply canon_host_wf
    | with_reducible apply canon_bar4_wf
    | with_reducible apply canon_staging_wf
    | with_reducible apply canon_slot_wf
    | with_reducible apply splice_wf
    | with_reducible apply scramble_wf
    | with_reducible apply canon_regsOk
    | with_reducible apply regsOk_filter
    | with_reducible apply regsOk_nil
    | with_reducible apply wf_nil
    | with_reducible apply check_nil
    | with_reducible apply check_filter
    | with_reducible apply canon_slot0_wf
    | with_reducible apply canon_slot1_wf
    | split
    | with_reducible apply canon_parts

theorem startPorts_kept (s : State) (targets : List (Nat × List I3cTarget)) : (State.startPorts s targets).kept = s.kept := by
  unfold State.startPorts
  simp only [State.kept_set, State.kept_setAll, apply_ite State.kept, ite_self, kept_forEach, implies_true, runDaa_kept]

theorem startPorts_canon (s : State) (targets : List (Nat × List I3cTarget)) (hs : s.Canonical) : (State.startPorts s targets).Canonical := by
  unfold State.startPorts
  repeat' first
    | with_reducible assumption
    | with_reducible intro _
    | dsimp only
    | with_reducible apply canon_set
    | with_reducible apply canon_setAll
    | with_reducible apply canon_forEach
    | with_reducible apply runDaa_canon
    | split

theorem startUnits_kept (s : State) (targets : List (Nat × List I3cTarget)) : (State.startUnits s targets).kept = s.kept := by
  unfold State.startUnits
  simp only [apply_ite State.kept, ite_self, assignBents_kept, assignDomains_kept, assignForemen_kept, assignReduce_kept, assignSlots_kept, capEffective_kept, coolantStop_kept, lastResort_kept, showBents_kept, showForemen_kept, startMemory_kept, startPorts_kept]

theorem startUnits_canon (s : State) (targets : List (Nat × List I3cTarget)) (hs : s.Canonical) : (State.startUnits s targets).Canonical := by
  unfold State.startUnits
  repeat' first
    | with_reducible assumption
    | with_reducible intro _
    | dsimp only
    | with_reducible apply assignBents_canon
    | with_reducible apply assignDomains_canon
    | with_reducible apply assignForemen_canon
    | with_reducible apply assignReduce_canon
    | with_reducible apply assignSlots_canon
    | with_reducible apply capEffective_canon
    | with_reducible apply coolantStop_canon
    | with_reducible apply lastResort_canon
    | with_reducible apply showBents_canon
    | with_reducible apply showForemen_canon
    | with_reducible apply startMemory_canon
    | with_reducible apply startPorts_canon
    | split

theorem runSlot_kept (s : State) (sl pref : Nat) (env : BootEnv) : (State.runSlot s sl pref env).kept = s.kept := by
  unfold State.runSlot
  repeat' first
    | with_reducible rfl
    | (simp only [kept_mk, State.kept_fold, verdicts_kept, applyImage_kept, runImage_kept, startTest_kept, setMeasurements_kept, startUnits_kept]; done)
    | simp only [kept_mk, State.kept_fold]
    | dsimp only
    | intro _
    | split
    | with_reducible refine (verdicts_kept ..).trans ?_
    | with_reducible refine (applyImage_kept ..).trans ?_
    | with_reducible refine (runImage_kept ..).trans ?_
    | with_reducible refine (startTest_kept ..).trans ?_
    | with_reducible refine (setMeasurements_kept ..).trans ?_
    | with_reducible refine (startUnits_kept ..).trans ?_

theorem runSlot_canon (s : State) (sl pref : Nat) (env : BootEnv) (hs : s.Canonical) : (State.runSlot s sl pref env).Canonical := by
  unfold State.runSlot
  repeat' first
    | with_reducible assumption
    | with_reducible intro _
    | simp only [canon_mk, canon_fold]
    | with_reducible apply verdicts_canon
    | with_reducible apply applyImage_canon
    | with_reducible apply runImage_canon
    | with_reducible apply startTest_canon
    | with_reducible apply setMeasurements_canon
    | with_reducible apply startUnits_canon
    | with_reducible apply canon_store
    | with_reducible apply canon_change
    | with_reducible apply canon_host
    | with_reducible apply canon_bar4
    | with_reducible apply canon_staging
    | with_reducible apply canon_setSlot
    | with_reducible apply Mem.wf_write
    | with_reducible apply Mem.wf_writeBytes
    | with_reducible apply Mem.wf_writeNum
    | with_reducible apply Mem.wf_clear
    | with_reducible apply wf_forEach
    | with_reducible apply wf_foldl_fst
    | with_reducible apply canon_ddr_wf
    | with_reducible apply canon_check_wf
    | with_reducible apply canon_host_wf
    | with_reducible apply canon_bar4_wf
    | with_reducible apply canon_staging_wf
    | with_reducible apply canon_slot_wf
    | with_reducible apply splice_wf
    | with_reducible apply scramble_wf
    | with_reducible apply canon_regsOk
    | with_reducible apply regsOk_filter
    | with_reducible apply regsOk_nil
    | with_reducible apply wf_nil
    | with_reducible apply check_nil
    | with_reducible apply check_filter
    | with_reducible apply canon_slot0_wf
    | with_reducible apply canon_slot1_wf
    | dsimp only
    | split
    | with_reducible apply canon_parts

theorem chooseSlot_kept (s : State) (env : BootEnv) : (State.chooseSlot s env).kept = s.kept := by
  have h0 := slotOrder_kept s
  have h1 := trySlot_kept s.slotOrder.1 s.slotOrder.2.1 env
  have h2 := trySlot_kept (s.slotOrder.1.trySlot s.slotOrder.2.1 env).1 s.slotOrder.2.2 env
  unfold State.chooseSlot
  dsimp only
  split
  · rename_i t heq
    rw [heq] at h1
    rw [runSlot_kept, h1, h0]
  · rename_i t heq
    rw [heq] at h1 h2
    dsimp only at h1 h2 ⊢
    split
    · rename_i u heq2
      rw [heq2] at h2
      simp only [runSlot_kept, apply_ite State.kept, kept_mk, State.kept_fold, ite_self, h2, h1, h0]
    · rename_i u heq2
      rw [heq2] at h2
      simp only [appendRecord_kept, kept_mk, State.kept_setAll, State.kept_fold, h2, h1, h0]

theorem chooseSlot_canon (s : State) (env : BootEnv) (hs : s.Canonical) : (State.chooseSlot s env).Canonical := by
  have h0 := slotOrder_canon s hs
  have h1 := trySlot_canon s.slotOrder.1 s.slotOrder.2.1 env h0
  have h2 := trySlot_canon (s.slotOrder.1.trySlot s.slotOrder.2.1 env).1 s.slotOrder.2.2 env h1
  unfold State.chooseSlot
  dsimp only
  split
  · rename_i t heq
    rw [heq] at h1
    exact runSlot_canon _ _ _ _ h1
  · rename_i t heq
    rw [heq] at h1 h2
    dsimp only at h1 h2 ⊢
    split
    · rename_i u heq2
      rw [heq2] at h2
      apply runSlot_canon
      split
      · exact h2
      · simp only [canon_mk, dirWrite_slot0, dirWrite_slot1]; exact h2
    · rename_i u heq2
      rw [heq2] at h2
      exact appendRecord_canon _ ((canon_mk ..).2 ((canon_fold _).2 (canon_setAll _ _ _ h2)))

theorem startFrom3_kept (s : State) (env : BootEnv) : (State.startFrom3 s env).kept = s.kept := by
  unfold State.startFrom3
  repeat' first
    | with_reducible rfl
    | (simp only [State.kept_set, kept_mk, State.kept_fold, setDoms_kept, clearStart_kept, flashStops_kept, chooseSlot_kept]; done)
    | simp only [kept_mk, State.kept_fold]
    | dsimp only
    | intro _
    | split
    | with_reducible refine (setDoms_kept ..).trans ?_
    | with_reducible refine (clearStart_kept ..).trans ?_
    | with_reducible refine (flashStops_kept ..).trans ?_
    | with_reducible refine (chooseSlot_kept ..).trans ?_
    | with_reducible refine (State.kept_set ..).trans ?_

theorem startFrom3_canon (s : State) (env : BootEnv) (hs : s.Canonical) : (State.startFrom3 s env).Canonical := by
  unfold State.startFrom3
  repeat' first
    | with_reducible assumption
    | with_reducible intro _
    | simp only [canon_mk, canon_fold]
    | with_reducible apply canon_set
    | with_reducible apply setDoms_canon
    | with_reducible apply clearStart_canon
    | with_reducible apply flashStops_canon
    | with_reducible apply chooseSlot_canon
    | with_reducible apply canon_store
    | with_reducible apply canon_change
    | with_reducible apply canon_host
    | with_reducible apply canon_bar4
    | with_reducible apply canon_staging
    | with_reducible apply canon_setSlot
    | with_reducible apply Mem.wf_write
    | with_reducible apply Mem.wf_writeBytes
    | with_reducible apply Mem.wf_writeNum
    | with_reducible apply Mem.wf_clear
    | with_reducible apply wf_forEach
    | with_reducible apply wf_foldl_fst
    | with_reducible apply canon_ddr_wf
    | with_reducible apply canon_check_wf
    | with_reducible apply canon_host_wf
    | with_reducible apply canon_bar4_wf
    | with_reducible apply canon_staging_wf
    | with_reducible apply canon_slot_wf
    | with_reducible apply splice_wf
    | with_reducible apply scramble_wf
    | with_reducible apply canon_regsOk
    | with_reducible apply regsOk_filter
    | with_reducible apply regsOk_nil
    | with_reducible apply wf_nil
    | with_reducible apply check_nil
    | with_reducible apply check_filter
    | with_reducible apply canon_slot0_wf
    | with_reducible apply canon_slot1_wf
    | dsimp only
    | split
    | with_reducible apply canon_parts

theorem startUp_kept (s : State) (straps : Nat) (env : BootEnv) (cold : Bool) : (State.startUp s straps env cold).kept = s.kept := by
  unfold State.startUp
  simp only [kept_mk, State.kept_fold, apply_ite State.kept, ite_self, readOtp_kept, sampleStraps_kept, setDoms_kept, startFrom3_kept]

theorem startUp_canon (s : State) (straps : Nat) (env : BootEnv) (cold : Bool) (hs : s.Canonical) : (State.startUp s straps env cold).Canonical := by
  unfold State.startUp
  repeat' first
    | with_reducible assumption
    | simp only [canon_mk, canon_fold]
    | with_reducible apply canon_set
    | with_reducible apply readOtp_canon
    | with_reducible apply sampleStraps_canon
    | with_reducible apply setDoms_canon
    | with_reducible apply startFrom3_canon
    | split

theorem restart_kept (s : State) (env : BootEnv) : (State.restart s env).kept = s.kept := by
  unfold State.restart
  repeat' first
    | with_reducible rfl
    | (simp only [State.kept_set, State.kept_bump, State.kept_drop, State.kept_setAll, State.kept_resetFields, kept_mk, State.kept_fold, apply_ite State.kept, ite_self, kept_forEach, kept_foldl, kept_foldl_fst, kept_foldl_snd, kept_whenB, implies_true, abandonUpdate_kept, startFrom3_kept]; done)
    | dsimp only
    | intro _
    | split
    | (refine (kept_forEach _ _ _ ?_).trans ?_)
    | (refine (kept_foldl _ _ _ ?_).trans ?_)

theorem restart_canon (s : State) (env : BootEnv) (hs : s.Canonical) : (State.restart s env).Canonical := by
  unfold State.restart
  repeat' first
    | with_reducible assumption
    | simp only [canon_mk, canon_fold]
    | with_reducible apply canon_set
    | with_reducible apply canon_resetFields
    | with_reducible apply abandonUpdate_canon
    | with_reducible apply startFrom3_canon
    | with_reducible apply canon_staging
    | with_reducible apply Mem.wf_write
    | with_reducible apply Mem.wf_writeBytes
    | with_reducible apply Mem.wf_writeNum
    | with_reducible apply Mem.wf_clear
    | with_reducible apply wf_forEach
    | with_reducible apply canon_ddr_wf
    | with_reducible apply canon_check_wf
    | with_reducible apply canon_host_wf
    | with_reducible apply canon_bar4_wf
    | with_reducible apply canon_staging_wf
    | with_reducible apply canon_slot_wf
    | with_reducible apply splice_wf
    | with_reducible apply scramble_wf
    | with_reducible apply canon_regsOk
    | with_reducible apply regsOk_filter
    | with_reducible apply regsOk_nil
    | with_reducible apply wf_nil
    | with_reducible apply check_nil
    | with_reducible apply check_filter
    | with_reducible apply canon_slot0_wf
    | with_reducible apply canon_slot1_wf
    | split
    | with_reducible apply canon_parts

theorem confirmOtp_canon (s : State) (hs : s.Canonical) : (State.confirmOtp s).Canonical := by
  unfold State.confirmOtp
  repeat' first
    | with_reducible assumption
    | with_reducible intro _
    | simp only [canon_mk, canon_fold]
    | with_reducible apply showOtp_canon
    | split

theorem confirm_canon (s : State) (hs : s.Canonical) : (State.confirm s).Canonical := by
  unfold State.confirm
  repeat' first
    | with_reducible assumption
    | simp only [canon_mk, canon_fold, dirWrite_slot0, dirWrite_slot1, append_slot0, append_slot1]
    | with_reducible apply confirmOtp_canon
    | with_reducible apply canon_regsOk
    | with_reducible apply regsOk_filter
    | with_reducible apply regsOk_nil
    | with_reducible apply wf_nil
    | with_reducible apply check_nil
    | with_reducible apply check_filter
    | with_reducible apply canon_ddr_wf
    | with_reducible apply canon_check_wf
    | with_reducible apply canon_host_wf
    | with_reducible apply canon_bar4_wf
    | with_reducible apply canon_staging_wf
    | with_reducible apply canon_slot0_wf
    | with_reducible apply canon_slot1_wf
    | with_reducible apply Mem.wf_write
    | with_reducible apply Mem.wf_writeBytes
    | with_reducible apply Mem.wf_writeNum
    | with_reducible apply Mem.wf_clear
    | with_reducible apply wf_forEach
    | split
    | with_reducible apply canon_parts

theorem startUpComplete_canon (s : State) (hs : s.Canonical) : (State.startUpComplete s).Canonical := by
  unfold State.startUpComplete
  repeat' first
    | with_reducible assumption
    | with_reducible intro _
    | simp only [canon_mk, canon_fold]
    | with_reducible apply canon_set
    | with_reducible apply canon_setAll
    | with_reducible apply floorRecompute_canon
    | with_reducible apply compOff_canon
    | with_reducible apply lastResort_canon
    | with_reducible apply appendRecord_canon
    | with_reducible apply confirm_canon
    | dsimp only
    | split

theorem updateGo_kept (s : State) (op slot area : Nat) : (State.updateGo s op slot area).kept = s.kept := by
  unfold State.updateGo
  repeat' first
    | with_reducible rfl
    | (simp only [State.kept_set, State.kept_setAll, kept_mk, State.kept_fold, apply_ite State.kept, demand_kept, refuse_kept]; done)
    | dsimp only
    | intro _
    | split

theorem updateGo_canon (s : State) (op slot area : Nat) (hs : s.Canonical) : (State.updateGo s op slot area).Canonical := by
  unfold State.updateGo
  repeat' first
    | with_reducible assumption
    | simp only [canon_mk, canon_fold]
    | with_reducible apply canon_set
    | with_reducible apply canon_setAll
    | with_reducible apply demand_canon
    | with_reducible apply refuse_canon
    | split

theorem stage_kept (s : State) (slot : Nat) : (State.stage s slot).kept = s.kept := by
  unfold State.stage
  simp only [State.kept_setAll]

theorem stage_canon (s : State) (slot : Nat) (hs : s.Canonical) : (State.stage s slot).Canonical := by
  unfold State.stage
  repeat' first
    | with_reducible assumption
    | with_reducible apply canon_set
    | with_reducible apply canon_setAll
    | split

theorem startHealth_kept (s : State) : (State.startHealth s).kept = s.kept := by
  unfold State.startHealth
  repeat' first
    | with_reducible rfl
    | (simp only [State.kept_set, kept_mk, State.kept_fold, apply_ite State.kept, ite_self, kept_forEach, kept_foldl, implies_true]; done)
    | dsimp only
    | intro _
    | split
    | (with_reducible refine (kept_forEach _ _ _ ?_).trans ?_)
    | with_reducible refine (State.kept_set ..).trans ?_

theorem startHealth_canon (s : State) (hs : s.Canonical) : (State.startHealth s).Canonical := by
  unfold State.startHealth
  repeat' first
    | with_reducible assumption
    | with_reducible intro _
    | simp only [canon_mk, canon_fold]
    | with_reducible apply canon_set
    | with_reducible apply canon_forEach
    | with_reducible apply canon_foldl
    | dsimp only
    | split

theorem verifySlot_kept (s : State) (slot : Nat) (c : SlotCheck) : (State.verifySlot s slot c).kept = s.kept := by
  unfold State.verifySlot
  repeat' first
    | with_reducible rfl
    | (simp only [State.kept_setAll, kept_mk, State.kept_fold, apply_ite State.kept, ite_self, random_kept, seeSlot_kept, startHealth_kept]; done)
    | simp only [kept_mk, State.kept_fold]
    | dsimp only
    | intro _
    | split
    | with_reducible refine (random_kept ..).trans ?_
    | with_reducible refine (seeSlot_kept ..).trans ?_
    | with_reducible refine (startHealth_kept ..).trans ?_
    | with_reducible refine (State.kept_setAll ..).trans ?_

theorem verifySlot_canon (s : State) (slot : Nat) (c : SlotCheck) (hs : s.Canonical) : (State.verifySlot s slot c).Canonical := by
  unfold State.verifySlot
  repeat' first
    | with_reducible assumption
    | with_reducible intro _
    | simp only [canon_mk, canon_fold]
    | with_reducible apply canon_setAll
    | with_reducible apply random_canon
    | with_reducible apply seeSlot_canon
    | with_reducible apply startHealth_canon
    | with_reducible apply canon_store
    | with_reducible apply canon_change
    | with_reducible apply canon_host
    | with_reducible apply canon_bar4
    | with_reducible apply canon_staging
    | with_reducible apply canon_setSlot
    | with_reducible apply Mem.wf_write
    | with_reducible apply Mem.wf_writeBytes
    | with_reducible apply Mem.wf_writeNum
    | with_reducible apply Mem.wf_clear
    | with_reducible apply wf_forEach
    | with_reducible apply wf_foldl_fst
    | with_reducible apply canon_ddr_wf
    | with_reducible apply canon_check_wf
    | with_reducible apply canon_host_wf
    | with_reducible apply canon_bar4_wf
    | with_reducible apply canon_staging_wf
    | with_reducible apply canon_slot_wf
    | with_reducible apply splice_wf
    | with_reducible apply scramble_wf
    | with_reducible apply canon_regsOk
    | with_reducible apply regsOk_filter
    | with_reducible apply regsOk_nil
    | with_reducible apply wf_nil
    | with_reducible apply check_nil
    | with_reducible apply check_filter
    | with_reducible apply canon_slot0_wf
    | with_reducible apply canon_slot1_wf
    | dsimp only
    | split
    | with_reducible apply canon_parts

theorem updateEffect_kept (s : State) (u : Update) (c : SlotCheck) : (State.updateEffect s u c).kept = s.kept := by
  unfold State.updateEffect
  repeat' first
    | with_reducible rfl
    | (simp only [State.kept_set, kept_mk, State.kept_fold, stage_kept, verifySlot_kept]; done)
    | dsimp only
    | intro _
    | split

theorem updateEffect_canon (s : State) (u : Update) (c : SlotCheck) (hs : s.Canonical) : (State.updateEffect s u c).Canonical := by
  unfold State.updateEffect
  repeat' first
    | with_reducible assumption
    | with_reducible intro _
    | simp only [canon_mk, canon_fold, dirWrite_slot0, dirWrite_slot1, append_slot0, append_slot1]
    | with_reducible apply canon_set
    | with_reducible apply stage_canon
    | with_reducible apply verifySlot_canon
    | with_reducible apply canon_staging
    | with_reducible apply canon_setSlot
    | with_reducible apply Mem.wf_write
    | with_reducible apply Mem.wf_writeBytes
    | with_reducible apply Mem.wf_writeNum
    | with_reducible apply Mem.wf_clear
    | with_reducible apply wf_forEach
    | with_reducible apply canon_ddr_wf
    | with_reducible apply canon_check_wf
    | with_reducible apply canon_host_wf
    | with_reducible apply canon_bar4_wf
    | with_reducible apply canon_staging_wf
    | with_reducible apply canon_slot_wf
    | with_reducible apply splice_wf
    | with_reducible apply scramble_wf
    | with_reducible apply canon_regsOk
    | with_reducible apply regsOk_filter
    | with_reducible apply regsOk_nil
    | with_reducible apply wf_nil
    | with_reducible apply check_nil
    | with_reducible apply check_filter
    | with_reducible apply canon_slot0_wf
    | with_reducible apply canon_slot1_wf
    | split
    | with_reducible apply canon_parts

theorem updateDone_kept (s : State) (flashOk : Bool) (c : SlotCheck) : (State.updateDone s flashOk c).kept = s.kept := by
  unfold State.updateDone
  repeat' first
    | with_reducible rfl
    | (simp only [State.kept_set, State.kept_bump, State.kept_setAll, kept_mk, State.kept_fold, apply_ite State.kept, ite_self, abandonUpdate_kept, shutdownStart_kept, stage_kept, updateEffect_kept]; done)
    | dsimp only
    | intro _
    | split

theorem updateDone_canon (s : State) (flashOk : Bool) (c : SlotCheck) (hs : s.Canonical) : (State.updateDone s flashOk c).Canonical := by
  unfold State.updateDone
  repeat' first
    | with_reducible assumption
    | simp only [canon_mk, canon_fold]
    | with_reducible apply canon_set
    | with_reducible apply canon_setAll
    | with_reducible apply canon_bump
    | with_reducible apply abandonUpdate_canon
    | with_reducible apply shutdownStart_canon
    | with_reducible apply stage_canon
    | with_reducible apply updateEffect_canon
    | split

theorem keydigGo_canon (s : State) (slot : Nat) (hs : s.Canonical) : (State.keydigGo s slot).Canonical := by
  unfold State.keydigGo
  repeat' first
    | with_reducible assumption
    | with_reducible intro _
    | simp only [canon_mk, canon_fold]
    | with_reducible apply canon_set
    | with_reducible apply refuse_canon
    | with_reducible apply showOtp_canon
    | split

/-! ## The tick -/

theorem tick_kept (s : State) : (State.tick s).kept = s.kept := by
  unfold State.tick
  repeat' first
    | with_reducible rfl
    | (simp only [State.kept_set, kept_mk, State.kept_fold]; done)
    | dsimp only
    | intro _
    | split
    | with_reducible refine (State.kept_set ..).trans ?_

theorem tick_canon (s : State) (hs : s.Canonical) : (State.tick s).Canonical := by
  unfold State.tick
  repeat' first
    | with_reducible assumption
    | with_reducible intro _
    | simp only [canon_mk, canon_fold]
    | dsimp only
    | split

/-! ## Reads of registers -/

theorem readOne_kept (s : State) (off bytes : Nat) : (State.readOne s off bytes).2.kept = s.kept := by
  unfold State.readOne
  repeat' first
    | with_reducible rfl
    | (simp only [apply_ite State.kept, ite_self, latch_kept]; done)
    | dsimp only
    | intro _
    | split
    | with_reducible refine (latch_kept ..).trans ?_

theorem readOne_canon (s : State) (off bytes : Nat) (hs : s.Canonical) : (State.readOne s off bytes).2.Canonical := by
  unfold State.readOne
  repeat' first
    | with_reducible assumption
    | with_reducible intro _
    | with_reducible apply latch_canon
    | dsimp only
    | split

theorem hostAccess_kept (s : State) (bar : Bar) (off : Nat) (width : Width) : (State.hostAccess s bar off width).2.kept = s.kept := by
  unfold State.hostAccess
  repeat' first
    | with_reducible rfl
    | (simp only [kept_mk, State.kept_fold, apply_ite State.kept, ite_self, accessError_kept, readOne_kept]; done)
    | simp only [kept_mk, State.kept_fold]
    | dsimp only
    | intro _
    | split
    | with_reducible refine (accessError_kept ..).trans ?_
    | with_reducible refine (readOne_kept ..).trans ?_

theorem hostAccess_canon (s : State) (bar : Bar) (off : Nat) (width : Width) (hs : s.Canonical) : (State.hostAccess s bar off width).2.Canonical := by
  unfold State.hostAccess
  repeat' first
    | with_reducible assumption
    | with_reducible intro _
    | simp only [canon_mk, canon_fold]
    | with_reducible apply accessError_canon
    | with_reducible apply readOne_canon
    | with_reducible apply canon_store
    | with_reducible apply canon_change
    | with_reducible apply canon_host
    | with_reducible apply canon_bar4
    | with_reducible apply canon_staging
    | with_reducible apply canon_setSlot
    | with_reducible apply Mem.wf_write
    | with_reducible apply Mem.wf_writeBytes
    | with_reducible apply Mem.wf_writeNum
    | with_reducible apply Mem.wf_clear
    | with_reducible apply wf_forEach
    | with_reducible apply wf_foldl_fst
    | with_reducible apply canon_ddr_wf
    | with_reducible apply canon_check_wf
    | with_reducible apply canon_host_wf
    | with_reducible apply canon_bar4_wf
    | with_reducible apply canon_staging_wf
    | with_reducible apply canon_slot_wf
    | with_reducible apply splice_wf
    | with_reducible apply scramble_wf
    | with_reducible apply canon_regsOk
    | with_reducible apply regsOk_filter
    | with_reducible apply regsOk_nil
    | with_reducible apply wf_nil
    | with_reducible apply check_nil
    | with_reducible apply check_filter
    | with_reducible apply canon_slot0_wf
    | with_reducible apply canon_slot1_wf
    | dsimp only
    | split
    | with_reducible apply canon_parts

/-! ## What programs OTP (R387, R424, R431) -/

theorem kept_pending {s t : State} (h : t.kept = s.kept) : t.pending = s.pending := congrArg Prod.fst h

theorem kept_otp {s t : State} (h : t.kept = s.kept) : t.wedge.otp = s.wedge.otp := congrArg Prod.snd h

theorem Otp.Grows.refl (o : Otp) : o.Grows o :=
  ⟨List.prefix_refl _, List.prefix_refl _, Nat.le_refl _, Nat.le_refl _, Nat.le_refl _⟩

theorem confirmOtp_pending (s : State) : s.confirmOtp.pending = s.pending := by
  unfold State.confirmOtp
  dsimp only
  exact (kept_pending (showOtp_kept _)).trans rfl

theorem confirmOtp_otp (s : State) : s.wedge.otp.Grows s.confirmOtp.wedge.otp ∧ (s.wedge.otp.Ok → s.confirmOtp.wedge.otp.Ok) := by
  unfold State.confirmOtp
  dsimp only
  rw [kept_otp (showOtp_kept _)]
  dsimp only
  by_cases h : (s.boot.svnLock && decide (s.wedge.otp.minSvn < s.get .start_RUN_SVN) && decide (0 < s.wedge.otp.svnWrites)) = true
  · rw [if_pos h]
    simp only [Bool.and_eq_true, decide_eq_true_eq] at h
    exact ⟨⟨List.prefix_refl _, List.prefix_append _ _, Nat.le_of_lt h.1.2, Nat.le_refl _, Nat.sub_le _ _⟩,
      fun k => ⟨k.keys, k.digests, k.lifeCycle, k.returns, Nat.le_trans (Nat.sub_le _ _) k.svnWrites⟩⟩
  · rw [if_neg h]
    exact ⟨⟨List.prefix_refl _, List.prefix_append _ _, Nat.le_refl _, Nat.le_refl _, Nat.le_refl _⟩,
      fun k => ⟨k.keys, k.digests, k.lifeCycle, k.returns, k.svnWrites⟩⟩

theorem confirm_pending (s : State) : s.confirm.pending = s.pending := by
  unfold State.confirm
  dsimp only
  split
  · rfl
  · split
    · rw [confirmOtp_pending]
    · rfl

theorem confirm_otp (s : State) : s.wedge.otp.Grows s.confirm.wedge.otp ∧ (s.wedge.otp.Ok → s.confirm.wedge.otp.Ok) := by
  unfold State.confirm
  dsimp only
  split
  · exact ⟨Otp.Grows.refl _, id⟩
  · split
    · exact confirmOtp_otp { s with flash := _ }
    · exact ⟨Otp.Grows.refl _, id⟩

theorem startUpComplete_pending (s : State) : s.startUpComplete.pending = s.pending := by
  unfold State.startUpComplete
  split
  · rfl
  · dsimp only
    rw [kept_pending (floorRecompute_kept _)]
    dsimp only
    rw [State.set_pending, confirm_pending, kept_pending (appendRecord_kept _), kept_pending (compOff_kept _), State.setAll_pending]

theorem startUpComplete_otp (s : State) :
    s.wedge.otp.Grows s.startUpComplete.wedge.otp ∧ (s.wedge.otp.Ok → s.startUpComplete.wedge.otp.Ok) := by
  unfold State.startUpComplete
  split
  · exact ⟨Otp.Grows.refl _, id⟩
  · dsimp only
    rw [kept_otp (floorRecompute_kept _)]
    dsimp only
    rw [State.set_wedge]
    have h : ∀ ms : Nat, ((s.setAll 0 [(.froe_OFF_START_UP, 0), (.host_DEV_STATE, 1), (.rasp_AFN, 0), (.start_START_MS, ms)]).compOff.appendRecord).wedge.otp = s.wedge.otp := by
      intro ms
      rw [kept_otp (appendRecord_kept _), kept_otp (compOff_kept _), State.setAll_wedge]
    have c := confirm_otp ((s.setAll 0 [(.froe_OFF_START_UP, 0), (.host_DEV_STATE, 1), (.rasp_AFN, 0),
      (.start_START_MS, min 0xFFFF ((s.now - s.boot.since) / 614400))]).compOff.appendRecord)
    rw [h] at c
    exact c

theorem toBytes_length : ∀ k n : Nat, (toBytes k n).length = k
  | 0, _ => rfl
  | k + 1, n => congrArg Nat.succ (toBytes_length k (n / 256))

theorem keydigGo_pending (s : State) (slot : Nat) : (s.keydigGo slot).pending = s.pending := by
  unfold State.keydigGo
  dsimp only
  split
  · rw [kept_pending (refuse_kept _ _ _ _), State.set_pending]
  · rw [State.set_pending, kept_pending (showOtp_kept _)]
    dsimp only
    rw [State.set_pending]

theorem keydigGo_otp (s : State) (slot : Nat) (hs : slot < 4) :
    s.wedge.otp.Grows (s.keydigGo slot).wedge.otp ∧ (s.wedge.otp.Ok → (s.keydigGo slot).wedge.otp.Ok) := by
  unfold State.keydigGo
  dsimp only
  split
  · rw [kept_otp (refuse_kept _ _ _ _), State.set_wedge]
    exact ⟨Otp.Grows.refl _, id⟩
  · rename_i h
    rw [State.set_wedge, kept_otp (showOtp_kept _)]
    dsimp only
    rw [State.set_wedge]
    simp only [Bool.or_eq_true, not_or, State.set_wedge] at h
    have hn : ∀ p ∈ s.wedge.otp.keys, p.1 ≠ slot := by
      intro p hp he
      exact h.2 (List.any_eq_true.2 ⟨p, hp, by simp [he]⟩)
    refine ⟨⟨List.prefix_append _ _, List.prefix_refl _, Nat.le_refl _, Nat.le_refl _, Nat.le_refl _⟩, fun k => ⟨?_, ?_, k.lifeCycle, k.returns, k.svnWrites⟩⟩
    · rw [List.map_append, List.nodup_append]
      refine ⟨k.keys, by simp, ?_⟩
      intro a ha b hb
      obtain ⟨p, hp, rfl⟩ := List.mem_map.1 ha
      simp at hb
      subst hb
      exact hn p hp
    · intro p hp
      rcases List.mem_append.1 hp with hp | hp
      · exact k.digests p hp
      · simp at hp
        subst hp
        exact ⟨hs, toBytes_length _ _⟩

theorem lcTransition_le {a b : Nat} {x : Bool} (h : lcTransition a b = some x) : b ≤ 4 := by
  unfold lcTransition at h
  split at h
  · omega
  · split at h
    · omega
    · split at h
      · omega
      · cases h

theorem seeToken_pending (s : State) (ok : Bool) : (s.seeToken ok).pending = s.pending := rfl

theorem seeToken_wedge (s : State) (ok : Bool) : (s.seeToken ok).wedge = s.wedge := rfl

theorem lcGo_pending (s : State) (dst confirm : Nat) (tokenOk : Bool) : (s.lcGo dst confirm tokenOk).pending = s.pending := by
  unfold State.lcGo
  dsimp only
  split
  · rw [State.set_pending, seeToken_pending, State.setAll_pending]
  · rw [State.setAll_pending]
    dsimp only
    split
    · rw [kept_pending (random_kept _ _), State.set_pending, seeToken_pending, State.setAll_pending]
    · split <;> (dsimp only; rw [State.set_pending, seeToken_pending, State.setAll_pending])

theorem lcCheck_zero (s : State) (dst confirm : Nat) (tokenOk : Bool) (h : s.lcCheck dst confirm tokenOk = 0) : dst ≤ 4 := by
  unfold State.lcCheck firstCode at h
  dsimp only at h
  split at h
  · cases h
  · rename_i hc
    cases ht : lcTransition (s.get .wedge_LIFE_CYCLE) dst with
    | none => simp [ht] at hc
    | some x => exact lcTransition_le ht

theorem lcGo_otp (s : State) (dst confirm : Nat) (tokenOk : Bool) :
    s.wedge.otp.Grows (s.lcGo dst confirm tokenOk).wedge.otp ∧ (s.wedge.otp.Ok → (s.lcGo dst confirm tokenOk).wedge.otp.Ok) := by
  unfold State.lcGo
  dsimp only
  split
  · rw [State.set_wedge, seeToken_wedge, State.setAll_wedge]
    exact ⟨Otp.Grows.refl _, id⟩
  · rename_i hc
    rw [State.setAll_wedge]
    dsimp only
    have hd := lcCheck_zero _ _ _ _ (Decidable.not_not.1 hc)
    have key : ∀ (p : List Byte × State), p.2.wedge.otp = s.wedge.otp → ∀ (r : Nat), r ≤ s.wedge.otp.returns →
        s.wedge.otp.Grows { p.2.wedge.otp with lifeCycle := dst, secret := p.1, returns := r } ∧
          (s.wedge.otp.Ok → Otp.Ok { p.2.wedge.otp with lifeCycle := dst, secret := p.1, returns := r }) := by
      intro p hp r hr
      rw [hp]
      exact ⟨⟨List.prefix_refl _, List.prefix_refl _, Nat.le_refl _, hr, Nat.le_refl _⟩,
        fun k => ⟨k.keys, k.digests, hd, Nat.le_trans hr k.returns, k.svnWrites⟩⟩
    refine key _ ?_ _ ?_
    · split
      · rw [kept_otp (random_kept _ _), State.set_wedge, seeToken_wedge, State.setAll_wedge]
      · split <;> (dsimp only; rw [State.set_wedge, seeToken_wedge, State.setAll_wedge])
    · have hq : ∀ (p : List Byte × State), p.2.wedge.otp = s.wedge.otp →
          (if s.get .wedge_LIFE_CYCLE = 3 ∧ dst = 2 then p.2.wedge.otp.returns - 1 else p.2.wedge.otp.returns) ≤ s.wedge.otp.returns := by
        intro p hp
        rw [hp]
        split
        · exact Nat.sub_le _ _
        · exact Nat.le_refl _
      refine hq _ ?_
      split
      · rw [kept_otp (random_kept _ _), State.set_wedge, seeToken_wedge, State.setAll_wedge]
      · split <;> (dsimp only; rw [State.set_wedge, seeToken_wedge, State.setAll_wedge])

end Sys2Proof.Machine
end

