-- ==== Sys2Proof/Machine/Pins.lean ====
section
/-! DEFINITION. The device-owned pins (18 R504, R514, R515): their ball groups, the domain that owns each, and the state of each in every
condition of the device. A view of the state; no command reads it. -/

namespace Sys2Proof.Machine

/-- Device-owned pins (Tables Package-2 and Package-5). -/
inductive Pin where
  | refClk | porstN | warmRstN | coolantOk | faultN
  | devId (n : Fin 9) | smbAddr (n : Fin 2) | smbClk | smbDat
  | xspiSck | xspiCsN | xspiDq (n : Fin 8) | xspiDqs | xspiResetN
  | pdmClk (g : Fin 4) | pdmDat (k : Fin 16)
  | i3cScl (b : Fin 24) | i3cSda (b : Fin 24)
  | csi (p : Fin 24) (w : Fin 10)
  /-- A lane of a Kertik port, and a spare lane of a lane group; one pin stands for both wires of the pair. -/
  | ktx (k : Fin 8) (l : Fin 4) | krx (k : Fin 8) (l : Fin 4) | kstx (g n : Fin 2) | ksrx (g n : Fin 2)
  | memResetN (d : Fin 16)
  /-- Any of the other 37 balls of a GDDR6 channel. -/
  | mem (c : Fin 32)
  | memZq (g : Fin 8) | dnu (n : Fin 32)
deriving DecidableEq, Repr

/-- States of Table Package-5. -/
inductive PinState where
  /-- As the pin's chapter defines. -/
  | normal
  /-- The table gives none. -/
  | unstated
  | receiverOn | receiverOff | sampled | low | high | highZ | released | asserted | ignored | answers
  /-- The address is not acknowledged. -/
  | nacked
  /-- High-Z, held by the 100 kΩ pull-up. -/
  | pulledHigh
  /-- The 1.0 kΩ pull-up is on and the falling-edge wake armed. -/
  | wakeArmed
  /-- LP receivers on, terminations off, start-of-transmission wake armed. -/
  | startArmed
  | electricalIdle
  /-- Terminated, receiver off. -/
  | terminated
  /-- The self-refresh state of JESD250. -/
  | selfRefresh
  /-- A PDM clock, in kHz. -/
  | clock (khz : Nat)
deriving DecidableEq, Repr

/-- Columns of Table Package-5. -/
inductive PinCond where
  | reset | retention | off | coolantStop | lastResort | normal
deriving DecidableEq, Repr

/-- Domain that owns a pin (15 Table Clocks-2), where it is one that can leave ON after start-up. -/
def Pin.domain : Pin → Option Nat
  | .xspiSck | .xspiCsN | .xspiDq _ | .xspiDqs | .xspiResetN => some 146
  | .pdmClk g => some (115 + g.val)
  | .pdmDat k => some (115 + k.val / 4)
  | .i3cScl b | .i3cSda b => some (111 + b.val / 6)
  | .csi p _ => some (85 + p.val)
  | .ktx k _ | .krx k _ => some (130 + k.val)
  | .kstx g _ | .ksrx g _ => some (138 + g.val)
  | .memResetN d => some (59 + d.val / 2)
  | .mem c => some (59 + c.val / 4)
  | .memZq g => some (59 + g.val)
  | _ => none

/-- The column of a pin whose domain is in RETENTION or OFF. -/
def State.pinRest (s : State) (p : Pin) : PinCond :=
  match p.domain with
  | none => .normal
  | some d => if s.get .dom_STATE d = 1 then .retention else .off

/-- The column that the state selects for a pin (R515). In the last-resort state and where the table says "Normal" the pin follows its
domain's current state. -/
def State.pinCond (s : State) (p : Pin) : PinCond :=
  let up : Bool := match p.domain with
    | none => decide (s.boot.phase ≠ Phase.reset ∧ s.boot.phase ≠ Phase.warm)
    | some d => s.domainOn d
  if s.boot.lastResort then .lastResort
  else if s.boot.phase = .running ∧ s.on .pwr_COOLANT_STOP then .coolantStop
  else if up then .normal
  else if s.boot.phase = .running then s.pinRest p
  else .reset

/-- What a group's clock pin shows in its mode (10 Table Cascade-1). -/
def State.pdmClock (s : State) (g : Nat) : PinState :=
  match s.groupMode g with
  | 0 => .low
  | 1 => .clock 768
  | _ => .clock 3072

/-- State of a pin whose domain is in force, that is the "Normal" entry of Table Package-5. -/
def State.pinNormal (s : State) : Pin → PinState
  | .refClk => .receiverOn
  | .coolantOk => .sampled
  | .faultN => if s.faultN then .asserted else .released
  | .devId _ | .smbAddr _ => .receiverOff
  | .smbClk | .smbDat => .answers
  | .xspiResetN => .high
  | .pdmClk g => s.pdmClock g.val
  | .memResetN _ => .high
  | .mem _ => if s.refresh = .active then .normal else .selfRefresh
  | .memZq _ | .dnu _ => .unstated
  | _ => .normal

/-- State of a pin in one column of Table Package-5. `on`: whether its domain is ON, for the columns that do not say. -/
def State.pinIn (s : State) (c : PinCond) (on : Bool) (p : Pin) : PinState :=
  let resting := c == .reset || c == .retention || c == .off
  match p with
  | .refClk => .receiverOn
  | .porstN | .warmRstN => if c == .reset then .unstated else .normal
  | .coolantOk => .sampled
  | .faultN => if s.faultN then .asserted else .released
  | .devId _ | .smbAddr _ => if c == .reset then .sampled else .receiverOff
  | .smbClk => match c with | .reset => .ignored | .lastResort => .nacked | _ => .answers
  | .smbDat => match c with | .reset => .released | .lastResort => .nacked | _ => .answers
  | .xspiSck => if c == .normal then .normal else .low
  | .xspiCsN => if c == .normal then .normal else .high
  | .xspiDq _ => if c == .normal then .normal else .highZ
  | .xspiDqs => if c == .normal then .normal else .receiverOff
  | .xspiResetN => if c == .reset then .low else .high
  | .pdmClk g => if resting then .low else if on then s.pdmClock g.val else .low
  | .pdmDat k =>
    if resting then .receiverOff
    else if c == .coolantStop && s.groupMode (k.val / 4) == 0 then .receiverOff else .normal
  | .i3cScl _ => if resting || c == .coolantStop then .pulledHigh else .normal
  | .i3cSda _ => if c == .retention || c == .coolantStop then .wakeArmed else if resting then .pulledHigh else .normal
  | .csi _ _ => if c == .retention then .startArmed else if resting || c == .coolantStop then .highZ else .normal
  | .ktx _ _ | .kstx _ _ => if resting || c == .coolantStop then .electricalIdle else .normal
  | .krx _ _ | .ksrx _ _ => if resting || c == .coolantStop then .terminated else .normal
  | .memResetN _ => if c == .reset then .low else .high
  | .mem _ =>
    match c with
    | .reset => .highZ
    | .normal => s.pinNormal p
    | _ => .selfRefresh
  | .memZq _ | .dnu _ => .unstated

/-- State of a pin (R515). In the last-resort state a pin whose domain is not ON is as that domain leaves it. -/
def State.pinState (s : State) (p : Pin) : PinState :=
  let on := match p.domain with | none => true | some d => s.domainOn d
  match s.pinCond p with
  | .normal => s.pinNormal p
  | .lastResort =>
    match s.pinIn .lastResort on p with
    | .normal => if on then s.pinNormal p else s.pinIn (s.pinRest p) on p
    | x => x
  | c => s.pinIn c on p

/-! ## The wires of a camera port (R504) -/

/-- What a ball CSIp_W of a port carries. -/
inductive CsiWire where
  /-- D-PHY clock and data lanes, `n` for the N wire. -/
  | clockLane (n : Bool)
  | dataLane (l : Fin 4) (n : Bool)
  /-- Wire A, B or C, as 0 to 2, of a C-PHY trio. -/
  | trio (t w : Fin 3)
  | unused
deriving DecidableEq, Repr

/-- Table Package-2: the wires of a port in D-PHY and in C-PHY mode. The lane remapping of 08 R252 acts on these positions. -/
def csiWire (cphy : Bool) (w : Fin 10) : CsiWire :=
  let n := w.val
  if cphy then
    if h : n < 9 then .trio ⟨n / 3, by omega⟩ ⟨n % 3, by omega⟩ else .unused
  else if h : 2 ≤ n then .dataLane ⟨(n - 2) / 2, by omega⟩ (n % 2 == 1)
  else .clockLane (n == 1)

/-! ## Ball groups (R504, Table Package-2) -/

/-- Pad supplies (Table Package-3). -/
inductive Rail where
  | vinFrame | vinSill | vddAon | vddWedge | vddPhy | vddhPhy | vddqMem | vddio1v8 | vddio3v3
deriving DecidableEq, Repr

/-- A rail of Table Package-3: nominal voltage, range, and power balls; millivolts. -/
structure RailSpec where
  nominal : Nat
  low : Nat
  high : Nat
  balls : Nat
deriving DecidableEq, Repr

/-- Table Package-3. -/
def Rail.spec : Rail → RailSpec
  | .vinFrame => ⟨1800, 1710, 1890, 640⟩
  | .vinSill => ⟨1800, 1710, 1890, 220⟩
  | .vddAon => ⟨750, 720, 780, 12⟩
  | .vddWedge => ⟨750, 720, 780, 4⟩
  | .vddPhy => ⟨850, 820, 880, 200⟩
  | .vddhPhy => ⟨1200, 1160, 1240, 60⟩
  | .vddqMem => ⟨1350, 1310, 1390, 320⟩
  | .vddio1v8 => ⟨1800, 1710, 1890, 40⟩
  | .vddio3v3 => ⟨3300, 3135, 3465, 8⟩

/-- Pad supply of a pin; none for balls to be left open. -/
def Pin.supply : Pin → Option Rail
  | .mem _ | .memResetN _ | .memZq _ => some .vddqMem
  | .csi _ _ => some .vddPhy
  | .ktx _ _ | .krx _ _ | .kstx _ _ | .ksrx _ _ => some .vddhPhy
  | .porstN | .warmRstN | .coolantOk | .faultN | .smbClk | .smbDat => some .vddio3v3
  | .dnu _ => none
  | _ => some .vddio1v8

/-- The rail that supplies a domain's logic (Table Package-3). -/
def railOf (d : Nat) : Rail :=
  if d < 69 then .vinFrame
  else if d = 144 then .vddWedge
  else if (85 ≤ d ∧ d < 109) ∨ (130 ≤ d ∧ d < 140) then .vddPhy
  else if (115 ≤ d ∧ d < 119) ∨ d = 120 ∨ d = 121 ∨ (140 ≤ d ∧ d < 144) ∨ d = 151 then .vddAon
  else .vinSill

end Sys2Proof.Machine
end

