-- ==== Sys2Proof/WellFormed.lean ====
section
/-! DEFINITION. Which commands the world can send: the operands have the shape that the spec gives them. The machine runs every
command, well-formed or not; an ill-formed one stands for nothing that happens. -/

namespace Sys2Proof

/-- A physical address of GDDR6 lies in the largest memory (06 Table Memory-5). -/
def ReadOutcome.wf : ReadOutcome → Bool
  | .clean => true
  | .corrected pa => decide (pa < 2 ^ 36)
  | .miscorrected pa bs => decide (pa < 2 ^ 36) && decide (bs.length = 64)
  | .uncorrectable pa _ => decide (pa < 2 ^ 36)
  | .edcRepeats _ pa => decide (pa < 2 ^ 36)
  | .retrained pa => decide (pa < 2 ^ 36)
  | .retrainFailed pa => decide (pa < 2 ^ 36)

/-- The same of a write. -/
def WriteOutcome.wf : WriteOutcome → Bool
  | .clean => true
  | .edcRepeats _ pa => decide (pa < 2 ^ 36)
  | .retrained pa => decide (pa < 2 ^ 36)
  | .failed pa => decide (pa < 2 ^ 36)

/-- A Loft line is one of the 786,432 of a bent (06 R210). -/
def LoftOutcome.wf : LoftOutcome → Bool
  | .clean => true
  | .corrected _ l => decide (l < 786432)
  | .uncorrectable _ l => decide (l < 786432)

/-- What the accesses of a command meet. -/
def Met.wf {α : Type} (m : Met α) : Bool := m.rd.wf && m.wr.wf && m.loft.wf

/-- What one tile computation meets. -/
def TileEnv.wf (e : TileEnv) : Bool := e.mem.wf && e.loft.wf && e.wr.wf

/-- What a job start meets. -/
def StartEnv.wf (e : StartEnv) : Bool := e.mem.wf && e.outMem.wf && e.ctlMem.wf && e.stepMem.wf && e.seqMem.wf && e.walkMem.wf && e.wr.wf

/-- A payload in the clear has up to 4,144 bytes (11 Table Fabric-3). -/
def Frame.wf (f : Frame) : Bool := decide (f.payload.length ≤ 4144)

/-- A module trains at one of the six rates, or not at all (13 R392). -/
def ModuleTrain.wf (m : ModuleTrain) : Bool := [0, 4, 8, 12, 16, 24, 32].contains m.rate.toNat

/-- A self-test gives one verdict for a unit (17 R496). -/
def verdictsOk (vs : List Verdict) : Bool := decide (vs.map (·.u)).Nodup

/-- A start-up test gives one verdict for a unit. -/
def Machine.BootEnv.wf (e : Machine.BootEnv) : Bool := verdictsOk e.verdicts

/-- Is the command one that the world can send? -/
def Instr.wf : Instr → Bool
  | .registerWrite _ off w _ => decide (off % w.bytes = 0)
  | .clippedLoRead _ => true
  | .histSamplesLoRead _ => true
  | .jobEntryEnable _ _ => true
  | .jobEntryDisable _ _ => true
  | .jobDb _ _ => true
  | .ringDb _ _ => true
  | .pegEnable _ _ => true
  | .pegDisable _ => true
  | .pegCountWrite _ _ => true
  | .pegThreshWrite _ _ => true
  | .pegAddAliasWrite _ _ => true
  | .pegEvqHeadWrite _ => true
  | .pegWaitComplete _ => true
  | .jobStart _ e => e.wf
  | .contextResident _ n => n.wf
  | .contextRestored n _ => n.wf
  | .tileCompute _ _ e => e.wf
  | .hostReadTimeout _ => true
  | .tableBuildDone sl => sl.wf
  | .tableSlotRetire _ => true
  | .jobTimeout _ => true
  | .resultSlotWrite j => j.wf
  | .deferredReclaim c => c.wf
  | .stateFetchDone _ _ mem => mem.wf
  | .chunkCommit sn => sn.wf
  | .swapOut _ _ => true
  | .weightStreamRead _ e => e.wf
  | .arrayRetire _ _ _ => true
  | .poolEnable _ => true
  | .poolReady c => c.wf
  | .poolDisable _ => true
  | .sessionEnable sn _ => sn.wf
  | .sessionDisable sn => sn.wf
  | .streamEnable sn _ => sn.wf
  | .streamDisable _ => true
  | .resetPendingWrite _ => true
  | .openSeq _ _ _ => true
  | .closeSeq _ _ _ => true
  | .truncateSeq _ _ _ => true
  | .forkSeq _ _ _ => true
  | .editDone sn => sn.wf
  | .regionEnable _ _ _ => true
  | .regionReady _ _ => true
  | .regionDisable _ _ => true
  | .scrubPageDone => true
  | .patrolRead o => o.wf
  | .channelRetrain _ _ r => decide (r.pa < 2 ^ 36)
  | .selfRefreshEntry => true
  | .selfRefreshExit => true
  | .csiFrameStart _ _ _ _ => true
  | .csiFrameEnd _ _ _ => true
  | .csiLinePacket _ _ _ _ _ p => decide (p.length < 2 ^ 16)
  | .csiEmbeddedPacket _ _ _ _ p => decide (p.length < 2 ^ 16)
  | .csiLineStartEnd _ _ _ => true
  | .idleTimeout _ => true
  | .lineSetServe j => j.wf
  | .frameRecordWrite k => k.wf
  | .reentrySetServe j => j.wf
  | .glancePeriodExpiry => true
  | .glanceFrame => true
  | .glanceSrcWrite _ => true
  | .cameraStreamEnable _ => true
  | .cameraStreamDisable _ => true
  | .loopEnable _ => true
  | .loopDisable _ => true
  | .loopStopped _ => true
  | .loopJobStart _ e => e.wf
  | .i3cRecordTransfer _ _ => true
  | .i3cIbi _ _ _ => true
  | .hotJoin _ => true
  | .daaGo _ ts => decide (ts.map (·.pid)).Nodup
  | .manGo _ => true
  | .pdmFrameBoundary f => decide (f.pins.length = 24576) && f.rd.wf && f.wr.wf
  | .beamCommit => true
  | .awlHop _ => true
  | .rung1JobStart e => e.wf
  | .rung2JobStart e => e.wf
  | .rung2HoldExpiry => true
  | .release => true
  | .rung3JobStart e => e.wf
  | .cascadeEnable => true
  | .cascadeDisable => true
  | .cascadeCleared => true
  | .routeEnable _ => true
  | .routeDisable _ => true
  | .fabricJobEnable _ l => decide (l.length ≤ 512)
  | .fabricJobDisable _ => true
  | .testRuleEnable _ _ _ => true
  | .reorderRelease _ => true
  | .kertikLinkUp _ l => decide l.Nodup
  | .kertikLinkDown _ _ => true
  | .kertikDataRx _ f => f.wf
  | .kertikAckRx _ f => f.wf
  | .kertikPegRx _ f => f.wf
  | .kertikKeepaliveRx _ f => f.wf
  | .kertikAbortRx _ f => f.wf
  | .kertikDataTx _ _ e => e.loft.wf
  | .ackDelayExpiry _ fl => decide (fl < 2 ^ 16)
  | .rtoExpiry _ fl => decide (fl < 2 ^ 16)
  | .flowTimeout _ fl => decide (fl < 2 ^ 16)
  | .keepaliveTx _ => true
  | .peerSilent _ => true
  | .barrierArrive _ => true
  | .fillerStart _ => true
  | .fillerLimitExpiry _ => true
  | .tenantEnable _ => true
  | .quotaWrite _ _ _ => true
  | .tenantDisable _ => true
  | .contextEnable _ => true
  | .contextDisable _ => true
  | .keyGo _ => true
  | .keyDeliveryDone _ => true
  | .keyErase _ => true
  | .attestGo _ => true
  | .attestSignStart => true
  | .attestSignDone => true
  | .kemCertSignDone => true
  | .bufFree _ => true
  | .lcGo _ _ _ => true
  | .ringEnable _ => true
  | .ringReady _ => true
  | .ringDisable _ => true
  | .ucieLinkTrain m n => m.wf && n.wf
  | .hotReset _ => true
  | .l1Entry => true
  | .capHostWrite _ => true
  | .smbusStatus => true
  | .smbusCapTrayWrite _ _ => true
  | .smbusCapTrayRead => true
  | .smbusPwr10ms => true
  | .smbusFloorW => true
  | .smbusCapReason => true
  | .smbusHottest => true
  | .smbusSensors => true
  | .smbusFaultInfo => true
  | .smbusTimeout => true
  | .eraseSlot _ _ => true
  | .program _ _ => true
  | .readFlash _ _ => true
  | .verify _ _ => true
  | .commit _ _ => true
  | .cancel _ _ => true
  | .updDone _ _ => true
  | .restart e => e.wf
  | .keydigGo _ => true
  | .porstNAssert => true
  | .warmRstNAssert => true
  | .porstNRelease _ e => e.wf
  | .warmRstNRelease _ e => e.wf
  | .startUpComplete => true
  | .domainEntryRequest _ _ => true
  | .domainIsolate _ => true
  | .domainEntryDone _ => true
  | .domainExitRequest _ => true
  | .domainExitDone _ => true
  | .idleRetExpiry _ => true
  | .idleOffExpiry _ => true
  | .wakePeg _ => true
  | .wakeActivity => true
  | .wakeDemand _ => true
  | .wakeHostLink _ => true
  | .wakeGlanceTimer => true
  | .wakePowerEvent => true
  | .wakeI3cIbi _ => true
  | .wakeCsiSot _ => true
  | .clockFault => true
  | .referenceAbsent => true
  | .powerSample _ => true
  | .controlPeriod => true
  | .opChange _ _ => true
  | .opChangeDone _ => true
  | .droopFire _ => true
  | .stretchEnd _ _ => true
  | .tempSample l => decide (l.length = 48)
  | .coolantOkFall => true
  | .coolantResume => true
  | .foremanPoll a b => decide (a.Nodup ∧ b.val.Nodup)
  | .unitFenced _ => true
  | .spareBentInService _ => true
  | .heartbeatAdd _ => true
  | .heartbeatSample _ _ => true
  | .coldSpareLoaded => true
  | .lastResort c => decide (0 < c.toNat ∧ c.toNat ≤ 5)
  | .healthMapUpdate _ => true
  | .shutdownGo => true
  | .shutdownDone vs _ => verdictsOk vs
  | .tsUnit => true
  | .tsLoftMarch => true
  | .tsLinkLoopback => true
  | .tsProgramDone vs _ _ => verdictsOk vs
  | .mainPllRelock => true
  | .configSpaceWrite _ _ => true
  | .editGo _ op _ _ => decide (op.toNat = 0 ∨ 4 < op.toNat)
  | .tsGo _ => true

/-- The command is well-formed. -/
abbrev WellFormed (i : Instr) : Prop := i.wf = true

end Sys2Proof
end

