-- ==== Sys2Proof/Tests/Slice0.lean ====
section
/-! SUPPORT. Tests: the ill-formed terms that WellFormed refuses, worked examples of the spec, and a witness for the premises of every
statement of Certificates/Slice0/Obligations.lean. -/

namespace Sys2Proof.Tests
open Sys2Proof Sys2Proof.Machine

/-! ## Small states -/

/-- A running device whose register fields hold the listed values. -/
def up (l : List (Reg × Nat × Nat)) : State :=
  { l.foldl (fun s p => s.set p.1 p.2.1 p.2.2) (State.reset.set .host_DEV_STATE 0 1) with boot := { phase := .running } }

/-- Next state of a command, and the state before when it stops. -/
def after (c : Instr) (s : State) : State := match exec c s with | .next t => t | _ => s

/-- A graph with one load on the first bent of the placement, and a STREAMED operand for it. -/
def graph : Graph :=
  { id := 5, pegCount := 2, loftLines := 8
    regions := [{ num := 0, producer := (0, 7), base := 0, slotLines := 1, nslots := 2, fullPeg := 0, freePeg := 1 }]
    ops := [{ kind := .load { addr := .abs 0x1000 }, shapes := [{ fmt := .int8, c := 64 }] }]
    streams := [{ ops := [0], addr := .abs 0x2000, blocks := [(0, 64)], shape := { fmt := .int8, c := 64 } }] }

/-- Context 1 is enabled with three pegs and one writable private region. -/
def context : List (Reg × Nat × Nat) :=
  [(.ctx_ENABLE, 1, 1), (.peg_ENABLE, 2000, 1), (.peg_ENABLE, 2001, 1), (.peg_ENABLE, 1500, 1), (.peg_CONTEXT, 2000, 1),
    (.peg_CONTEXT, 2001, 1), (.peg_CONTEXT, 1500, 1), (.rgn_ENABLE, 32, 1), (.rgn_SIZE, 32, 0x200000), (.rgn_KIND, 32, 1),
    (.rgn_WRITABLE, 32, 1)]

/-- Entry 7 is a session, or a stream, of context 1. -/
def session : List (Reg × Nat × Nat) :=
  context ++ [(.ses_CONTEXT, 7, 1), (.ten_Q_SESSIONS, 0, 1), (.ses_D7, 7, 2000), (.kvc_VALID, 0, 1), (.cls_KV_CLASSES, 0, 1), (.pool_STATE, 1, 2),
    (.rcl_VALID, 0, 1), (.cls_RCLASSES, 0, 1), (.pool_FREE_PAGES, 1, 4), (.pool_FREE_CHUNKS, 1, 4)]

/-- A ring job of context 1 on bent 0. -/
def job : Job := { id := .ring 1, ctx := 1, graph := 5, pegBase := 2000, donePeg := 1500, ring := 3, bents := [0] }

/-- The job, resident in slot 0 of bent 0. -/
def resident (l : List (Reg × Nat × Nat)) : State :=
  { up ([(.bent_PRESENT, 0, 1), (.bent_PWR, 0, 2), (.slot_STATE, 0, 2), (.dowel_WSTREAM_LINES, 0, 64)] ++ l) with
    graphs := [graph], jobs := [job], residents := [{ bent := 0, slot := 0, job := .ring 1 }] }

/-- A chunk in flight of one layer on bent 0 that waits for its state, and one whose layer is done. -/
def chunk (all : Bool) : Chunk := { stream := 7, nsteps := 4, resetAtStart := false, layers := [{ layer := 0, bent := 0, done := all }] }

end Sys2Proof.Tests

open Sys2Proof Sys2Proof.Machine Sys2Proof.Tests

/-! ## The machine -/

theorem test_HostWritesGated : hostTarget (.tenantEnable 0) = some .other ∧ hostTarget .tsUnit = some .foreman ∧
    ({ State.reset with boot := { phase := .halted } } : State).boot.phase = .halted ∧ State.reset.get .host_DEV_STATE = 0 ∧
    ((up [(.host_DEV_STATE, 0, 2)]).boot.phase ≠ .halted ∧ (up [(.host_DEV_STATE, 0, 2)]).get .host_DEV_STATE = 2) ∧
    ((up [(.rec_SHUTDOWN_STATE, 0, 2)]).get .host_DEV_STATE = 1 ∧ (up [(.rec_SHUTDOWN_STATE, 0, 2)]).get .rec_SHUTDOWN_STATE ≠ 0) ∧
    ((up [(.pwr_COOLANT_STOP, 0, 1)]).get .rec_SHUTDOWN_STATE = 0 ∧ (up [(.pwr_COOLANT_STOP, 0, 1)]).shutdownHeld = false ∧
      (up [(.pwr_COOLANT_STOP, 0, 1)]).get .pwr_COOLANT_STOP ≠ 0) := by decide

theorem test_EveryCommandRuns : (0x40 + Width.w32.bytes ≤ barBytes .bar0) ∧ barBytes .bar0 < barBytes .bar0 + Width.w8.bytes := by decide

theorem test_StepKeepsCanonical : step State.reset = .next { State.reset with now := 25 } := by rfl

theorem test_EventsAndMessages : (up []).get .host_ACCESS_ERROR = 0 ∧ (up [(.host_ACCESS_ERROR, 0, 1)]).get .host_ACCESS_ERROR ≠ 0 ∧
    (up []).get .msix_CTRL_MASK 3 ≠ 0 ∧ bit ((up [(.host_EVENT_MASK, 0, 63)]).get .host_EVENT_MASK) 0 = true ∧
    (let s : State := { up [(.msix_CTRL_MASK, 3, 0)] with busMaster := true, config := { msixEnable := true } }
     s.get .msix_CTRL_MASK 3 = 0 ∧ s.config.msixEnable = true ∧ s.config.functionMask = false ∧ s.busMaster = true ∧ s.d3hot = false) := by decide

/-! ## Tenants and contexts -/

/-- Tenant 5 of class 0 is enabled with the quotas of its class. -/
theorem test_TenantEnable : (let s := up [(.cls_VALID, 0, 1), (.cls_MAX_PEGS, 0, 9), (.ten_PASID, 5, 7), (.ten_Q_PEGS, 5, 9)]
    s.running = true ∧ s.get .ten_ENABLE 5 = 0 ∧ (after (.tenantEnable 5) s).get .ten_STATE 5 = 1) ∧
    (let s := up [(.cls_VALID, 0, 1), (.ten_PASID, 5, 7), (.ten_Q_PEGS, 5, 9)]
     (after (.tenantEnable 5) s).get .ten_REASON 5 = 0x0204) ∧
    (after (.tenantEnable 4095) (up [(.ten_STATE, 4095, 2)])).get .ten_REASON 4095 = 0x0207 ∧ (up [(.ten_ENABLE, 5, 1)]).get .ten_ENABLE 5 ≠ 0 := by decide

theorem test_QuotaWrite : (up []).running = true ∧ (up []).get .ten_ENABLE 5 = 0 ∧ (up [(.ten_ENABLE, 5, 1)]).get .ten_ENABLE 5 ≠ 0 ∧
    (after (.quotaWrite 5 true 3) (up [(.ten_ENABLE, 5, 1), (.ten_PEGS_USED, 5, 4), (.cls_MAX_PEGS, 0, 9)])).get .ten_REASON 5 = 0x0206 := by
  decide

theorem test_TenantDisable : (let s := up [(.ten_ENABLE, 5, 1)]
    s.get .ten_ENABLE 5 ≠ 0 ∧ s.get .ten_CONTEXTS_USED 5 = 0 ∧ s.ringsOf 5 = [] ∧ ∀ k < 256, s.get .wkey_SLOT_STATE k ≠ 1) ∧
    (up [(.ten_ENABLE, 5, 1), (.ten_CONTEXTS_USED, 5, 1)]).get .ten_CONTEXTS_USED 5 ≠ 0 ∧ (up []).get .ten_ENABLE 5 = 0 := by decide +kernel

theorem test_ContextEnableDisable : (up []).running = true ∧ (up []).get .ctx_ENABLE 9 = 0 ∧ (up [(.ctx_ENABLE, 9, 1)]).get .ctx_ENABLE 9 ≠ 0 ∧
    (up [(.ctx_ENABLE, 9, 1)]).contextInUse 9 = false ∧ (∀ k < 64, (up [(.ctx_ENABLE, 9, 1)]).get .ftab_VALID k = 0) ∧
    ({ up [(.ctx_ENABLE, 1, 1)] with jobs := [job] } : State).contextInUse 1 = true ∧
    (after (.contextEnable 9) (up [(.ten_STATE, 0, 1), (.ten_Q_CONTEXTS, 0, 1)])).get .ctx_STATE 9 = 1 := by decide +kernel

/-! ## Pegs and doorbells -/

/-- The counter rule at the ends of its range (01 R31). -/
theorem test_PegRules : hasReached 32 5 5 = true ∧ hasReached 32 (5 + 2 ^ 31) 5 = false ∧ hasReached 32 (4 + 2 ^ 31) 5 = true ∧
    hasReached 32 3 (2 ^ 32 - 2) = true ∧ (up []).get .peg_IRQ_EN 66 = 0 := by decide

theorem test_PegHostWrites : (up []).running = true ∧ 1024 ≤ (1024 : Fin 65536).val ∧ (1023 : Fin 65536).val < 1024 ∧
    (let s := up [(.peg_ENABLE, 1024, 1), (.peg_HOST_ACCESS, 1024, 1)]
     s.get .peg_ENABLE 1024 ≠ 0 ∧ s.get .peg_HOST_ACCESS 1024 ≠ 0 ∧
      (after (.pegAddAliasWrite 1024 0xFFFFFFFF) (s.set .peg_COUNT 1024 3)).get .peg_COUNT 1024 = 2) := by decide

theorem test_PegEnableDisable : (up []).get .peg_ENABLE 2000 = 0 ∧ (up [(.peg_ENABLE, 2000, 1)]).get .peg_ENABLE 2000 ≠ 0 ∧
    (up [(.peg_ENABLE, 2000, 1)]).jobsNamePeg 0 2000 = false ∧ (up [(.peg_ENABLE, 2000, 1)]).entryNamesPeg 2000 = false ∧
    ({ up [(.peg_ENABLE, 1500, 1), (.peg_CONTEXT, 1500, 1)] with jobs := [job], graphs := [graph] } : State).jobsNamePeg 1 1500 = true ∧
    (after (.pegEnable 2000 0x103) (up [(.ctx_ENABLE, 1, 1), (.ten_Q_PEGS, 0, 1)])).get .peg_ENABLE 2000 = 1 := by decide +kernel

theorem test_HeadDoorbells : (up []).running = true ∧ (after (.pegEvqHeadWrite 4) (up [(.host_PEG_EVQ_TAIL, 0, 4)])).get .host_PEG_EVQ_HEAD = 4 ∧
    (after (.pegEvqHeadWrite 5) (up [(.host_PEG_EVQ_TAIL, 0, 4)])).get .host_PEG_EVQ_HEAD = 0 := by decide

theorem test_JobDoorbell : bits (0x00100009 : Word).toNat 0 14 = 9 ∧ bits (0x00100009 : Word).toNat 16 5 = 16 ∧
    (up [(.ctx_ENABLE, 9, 1)]).get .ctx_TENANT 9 = 0 ∧
    (after (.jobDb 0 0x00100009) (up [(.ctx_ENABLE, 9, 1)])).get .ctx_TAIL 9 = 16 ∧
    (after (.jobDb 0 0x00110009) (up [(.ctx_ENABLE, 9, 1)])).get .ctx_DB_REASON 9 = 0x0309 ∧
    (after (.jobDb 1 0x00100009) (up [(.ctx_ENABLE, 9, 1)])).get .host_DOORBELL_FAULTS = 1 := by decide

theorem test_ResultRings : (up []).get .ring_ENABLE 3 = 0 ∧ (up [(.ring_ENABLE, 3, 1)]).get .ring_ENABLE 3 ≠ 0 ∧
    (up [(.ring_ENABLE, 3, 1)]).ringInUse 3 = false ∧
    ({ up [(.ring_ENABLE, 3, 1)] with jobs := [job] } : State).ringInUse 3 = true ∧
    (let s : State := { up [(.ring_LOCATION, 3, 1)] with ringsOpening := [3], busMaster := true }
     3 ∈ s.ringsOpening ∧ s.get .ring_LOCATION 3 ≠ 0 ∧ s.busMaster = true ∧ s.d3hot = false) ∧ (up []).get .ring_LOCATION 3 = 0 := by
  decide +kernel

/-! ## Jobs -/

theorem test_JobEntries : (up []).get .job_ENABLE 17 = 0 ∧ (up []).jobCheck 1 17 ≠ 0 ∧ (up []).get .ctx_ENABLE 1 = 0 ∧
    (up [(.ctx_ENABLE, 1, 1)]).graph 0 = none ∧ (up [(.job_ENABLE, 17, 1)]).get .job_ENABLE 17 ≠ 0 ∧
    (∀ st < 5, (up [(.job_STATE, 17, st)]).get .job_STATE 17 = st) ∧
    (let s : State := { up ([(.job_GRAPH, 17, 5), (.job_PEG_BASE, 17, 2000), (.job_DONE_PEG, 17, 1500), (.job_BENT_MASK, 17, 1),
        (.job_BINDING, 17, 0xFFFF), (.bent_PRESENT, 0, 1), (.cls_GRAPHS, 0, 32)] ++ context) with graphs := [graph] }
     s.running = true ∧ s.get .job_ENABLE 17 = 0 ∧ s.jobCheck 1 17 = 0 ∧ (after (.jobEntryEnable 1 1) s).get .job_STATE 17 = 1) := by
  decide +kernel

theorem test_JobStart : (let s : State := { up [(.ctx_ENABLE, 1, 1), (.ctx_TAIL, 1, 1), (.job_GRAPH, 16, 5), (.job_ENABLE, 16, 1)] with graphs := [graph] }
    s.ringEntries 1 = [0] ∧ s.graph 5 = some graph ∧ s.get .job_ENABLE 16 ≠ 0 ∧ s.ringBusy 1 = false ∧ graph.bind ≠ .session ∧
      s.awaitsBent 0 = false ∧ s.get .host_DEV_STATE = 1 ∧ s.get .pwr_COOLANT_STOP = 0 ∧ Store.get 0 s.jobSeq 1 < 2 ^ 32 ∧
      s.jobs.all (fun x => x.id != .ring 1) = true ∧ s.mayRead 1 0 64 = false ∧ graph.bind ≠ .stream ∧ s.refresh = .active ∧
      (after (.jobStart 1 {}) s).get .job_STATE 16 = 4) ∧ ({ up [] with refresh := .asleep } : State).refresh ≠ .active ∧
    ({ up [] with stopped := [16] } : State).stopped = [16] ∧ ({ up [] with jobs := [job] } : State).ringBusy 1 = true := by decide +kernel

theorem test_JobFaults : ({ up [] with jobs := [job] } : State).job (.ring 1) = some job ∧ job.fault = 0 ∧ job.finished = false ∧
    ({ up [] with jobs := [{ job with finished := true, fault := 7 }] } : State).job (.ring 1) = some { job with finished := true, fault := 7 } := by
  decide

theorem test_ResultWritten : (let s : State := { up [(.ring_STATE, 3, 1)] with jobs := [{ job with finished := true }] }
    s.job (.ring 1) = some { job with finished := true } ∧ s.boot.lastResort = false ∧ job.ring < 4096 ∧ s.get .ring_STATE 3 = 1 ∧
      s.get .ring_TENANT 3 = s.get .ctx_TENANT 1 ∧ s.get .ring_LOCATION 3 = 0 ∧ s.get .ring_IRQ_EN 3 = 0 ∧
      ¬2 ^ s.get .ring_SLOTS_LOG2 3 ≤ (s.get .ring_TAIL 3 + 2 ^ 16 - s.get .ring_HEAD 3) % 2 ^ 16) ∧
    (let s := up [(.ring_TAIL, 3, 1)]
     2 ^ s.get .ring_SLOTS_LOG2 3 ≤ (s.get .ring_TAIL 3 + 2 ^ 16 - s.get .ring_HEAD 3) % 2 ^ 16) ∧
    (resident []).jobDone job = false := by decide +kernel

theorem test_WaitCompletes : (let s : State := { up [(.peg_COUNT, 2000, 3)] with
      jobs := [job]
      waits := [{ peg := 2000, target := 4, job := some (.ring 1), who := .op 0 }, { peg := 2000, target := 3, job := some (.ring 1), who := .op 0 },
        { peg := 2000, target := 3, job := some (.ring 1), who := .release 0 0 }] }
    (∃ w, s.waits[0]? = some w ∧ ¬((s.get .peg_COUNT w.peg : Int) - w.target) % 2 ^ 32 < 2 ^ 31) ∧
      (∃ w, s.waits[1]? = some w ∧ ((s.get .peg_COUNT w.peg : Int) - w.target) % 2 ^ 32 < 2 ^ 31 ∧ ∃ o, w.who = .op o) ∧
      (∃ w, s.waits[2]? = some w ∧ ((s.get .peg_COUNT w.peg : Int) - w.target) % 2 ^ 32 < 2 ^ 31 ∧ w.job.bind s.job ≠ none ∧ ∃ k g, w.who = .release k g) ∧
      s.waits[3]? = none) :=
  ⟨⟨_, rfl, by decide⟩, ⟨_, rfl, by decide, _, rfl⟩, ⟨_, rfl, by decide, by decide, _, _, rfl⟩, rfl⟩

/-! ## Loft and tiles -/

theorem test_ContextSlots : (let s : State := { up [(.bent_PRESENT, 0, 1)] with jobs := [job], graphs := [graph] }
    s.job (.ring 1) = some job ∧ 0 ∈ job.bents ∧ s.resident (.ring 1) 0 = none ∧ s.get .bent_PRESENT 0 ≠ 0 ∧ (s.freeSlots 0).head? = some 0 ∧
      (s.loftFit 0 8).isSome = true ∧ (s.regionsOn job 0).length ≤ (s.freeRegionEntries 0).length ∧
      (after (.contextResident (.ring 1) { val := 0 }) s).get .slot_STATE 0 = 2) ∧
    (let s : State := { up ((List.range 64).map (fun k => (Reg.slot_STATE, k, 1))) with jobs := [job] }
     s.freeSlots 0 = [] ∧ s.victim 0 = none ∧ s.get .slot_STATE 63 = 1) ∧
    (resident []).residents.find? (fun y => y.bent == 0 && y.slot == 0) = some { bent := 0, slot := 0, job := .ring 1 } ∧
    ((resident []).resident (.ring 1) 0).isSome = true ∧
    (let s : State := { resident [(.slot_STATE, 0, 1)] with saves := [{ job := .ring 1, bent := 0, pages := [4], progress := 6 }] }
     s.refresh = .active ∧ (s.saves.find? (fun v => v.job == .ring 1 && v.bent == 0)).isSome = true ∧
      (after (.contextRestored { val := 0 } 0) s).get .slot_TILES 0 = 6) := by decide +kernel

theorem test_LoftLines : 0xFFFFF + cdiv ([1, 2, 3] : List Byte).length 64 ≤ 2 ^ 20 := by decide

theorem test_TileCompute : (up []).get .bent_PRESENT 0 = 0 ∧ (resident []).bentComputes 0 = true ∧ ((resident []).pickWork 0 .dowel).isSome = true ∧
    (resident []).pickWork 0 .mortise = none ∧ (resident []).hostLoad (.ring 1) = none ∧
    ((resident (context ++ [(.rgn_KIND, 32, 3)])).hostLoad (.ring 1)).isSome = true ∧
    (let l : Late := { slot := 28, inc := 0, receiver := .port 7 }
     l.inc.toNat ≠ (up []).get .inc_INCARNATION l.slot ∧ ((up []).dropLate l).get .kport_STALE_DROPS 7 = 1 ∧
      ({ l with inc := 1 } : Late).inc.toNat = (up []).get .inc_INCARNATION l.slot) := by decide +kernel

theorem test_WeightStream : ((resident []).nextStream 0).isSome = true ∧ (up []).nextStream 0 = none ∧
    ((after (.weightStreamRead 0 {}) (resident [])).wring.map (fun b => (b.bent, b.number))) = [(0, 0)] := by decide +kernel

theorem test_TablesAndArrays : (let s : State := { up [(.ftab_BUILDING, 3, 1)] with
      graphs := [graph], jobs := [job], froeBuilds := [{ slot := 3, job := .ring 1, op := 0, hist := 0 }] }
    (s.froeBuilds.find? (fun b => b.slot == 3)).isSome = true ∧ s.job (.ring 1) = some job ∧ s.graph 5 = some graph ∧ s.get .ftab_BUILDING 3 = 1 ∧
      s.froeBuilds.all s.sampleComplete = true ∧ s.froeBuilds.find? (fun b => b.slot == 4) = none ∧
      (after (.tableBuildDone { val := 3 }) s).get .ftab_VALID 3 = 1) ∧
    ({ up [] with froeBuilds := [{ slot := 3, job := .ring 1, op := 0, hist := 0 }] } : State).job (.ring 1) = none ∧
    (up [(.ftab_SUPERSEDED, 3, 1)]).get .ftab_SUPERSEDED 3 ≠ 0 ∧
    (let s := up [(.bent_PRESENT, 0, 1), (.mor_ARRAY_IN_SERVICE, 0, 0xFFFF), (.mor_SPARE_ARRAY, 0, 16)]
     bit (s.get .mor_ARRAY_IN_SERVICE 0) 15 = true ∧ s.get .mor_SPARE_ARRAY 0 < 17 ∧
      (after (.arrayRetire 0 15 false) s).get .mor_ARRAY_IN_SERVICE 0 = 0x17FFF ∧
      bit (s.get .mor_ARRAY_IN_SERVICE 0) 16 = false) ∧
    17 ≤ (up [(.mor_SPARE_ARRAY, 0, 31)]).get .mor_SPARE_ARRAY 0 := by decide +kernel

/-! ## Pools, sessions and streams -/

theorem test_PagePools : (up []).get .pool_ENABLE 1 = 0 ∧ (up [(.pool_ENABLE, 1, 1)]).get .pool_ENABLE 1 ≠ 0 ∧
    (up [(.pool_STATE, 1, 1)]).get .pool_STATE 1 = 1 ∧ (up []).get .pool_STATE 1 ≠ 1 ∧
    (let s : State := { up [(.peg_COUNT, 0, 1)] with reclaim := [{ ctx := 1, session := 0, target := 1, index := 2, chunk := false }] }
     (s.reclaim.filter (fun d => d.ctx == 1 && hasReached 32 (s.get .peg_COUNT (s.relPeg d.session)) d.target)) ≠ []) ∧
    (up []).reclaim = [] ∧ (up []).refresh = .active ∧ (up []).get .pool_DEFERRED 1 < 2 ^ 22 := by decide +kernel

theorem test_SessionEnableDisable : (up []).get .ses_ENABLE 7 = 0 ∧ bits (3 : Word).toNat 1 2 ≠ 2 ∧ bits (5 : Word).toNat 1 2 = 2 ∧
    (up []).sessionCheck 7 ≠ 0 ∧ (up ((.ses_TYPE, 7, 1) :: session)).sessionCheck 7 = 0 ∧
    ((up ((.ses_TYPE, 7, 2) :: session)).set .ses_D7 7 0).streamCheck 7 = 0 ∧ (up [(.ses_TYPE, 7, 2)]).streamCheck 7 ≠ 0 ∧
    (let s := up [(.ses_ENABLE, 7, 1), (.ses_TYPE, 7, 1)]
     s.get .ses_TYPE 7 = 1 ∧ s.busyEntries 0 = [] ∧ s.jobs = [] ∧ s.get .ses_EDIT_BUSY 7 = 0 ∧ ∀ i < s.nseq 7, (s.seqDesc 7 i).state = 0) ∧
    (up [(.ses_ENABLE, 7, 1), (.ses_TYPE, 7, 2)]).get .ses_TYPE 7 = 2 ∧ (up [(.ses_EDIT_BUSY, 7, 1)]).get .ses_EDIT_BUSY 7 ≠ 0 := by decide +kernel

theorem test_SequenceEdits : (up [(.ses_TYPE, 7, 2)]).get .ses_TYPE 7 = 2 ∧ (up [(.ses_EDIT_BUSY, 7, 1)]).get .ses_EDIT_BUSY 7 ≠ 0 ∧
    (up []).get .ses_ENABLE 7 = 0 ∧
    (let s := (up (session ++ [(.ses_ENABLE, 7, 1), (.ses_TYPE, 7, 1), (.ses_D4, 7, 1)])).putSeq 7 1 { state := 1 }
     s.running = true ∧ s.get .ses_TYPE 7 ≠ 2 ∧ s.get .ses_EDIT_BUSY 7 = 0 ∧ s.get .ses_ENABLE 7 ≠ 0 ∧ s.nseq 7 = 2 ∧ s.editCheck 7 1 2 0 = 0x040F ∧
      s.editCheck 7 1 0 0 = 0 ∧ s.editCheck 7 2 1 0 = 0 ∧ s.editCheck 7 3 1 0 = 0 ∧ s.editCheck 7 4 0 1 = 0 ∧ s.editCheck 7 5 0 0 = 0x040F ∧
      (after (.openSeq 7 0 0) s).get .ses_EDIT_BUSY 7 = 1 ∧ ((after (.editDone { val := 7 }) (after (.openSeq 7 0 0) s)).seqDesc 7 0).state = 1) ∧
    ({ up [] with edits := [⟨7, 2, 1, 0, 0, 0⟩] } : State).edits.filter (fun x => x.session == 7) = [⟨7, 2, 1, 0, 0, 0⟩] := by decide +kernel

theorem test_DescriptorRoundTrip : (let d : SeqDesc :=
      { state := 3, lastReason := 0xFFFF, gen := 2 ^ 32 - 1, len := 2 ^ 31 - 1, fill := 2 ^ 18 - 1
        npages := 4095, evicted := 2 ^ 32 - 1, chunks := [1, 2, 3, 4, 5, 6, 7, 2 ^ 64 - 1] }
    d.chunks.length = 8 ∧ SeqDesc.decode d.encode = d) := by decide +kernel

theorem test_RecurrentStreams : (let s : State := { up [(.ses_TYPE, 7, 2)] with jobs := [{ job with chunk := some (chunk false) }] }
    s.get .ses_TYPE 7 = 2 ∧ (s.jobs.head?.bind Job.inFlight) = some (chunk false) ∧ ((chunk false).head 0).isSome = true ∧
      (chunk true).layers.all (fun l => l.done && l.poison == 0) = true) ∧
    (let s : State := { up [(.str_IN_FLIGHT, 7, 1)] with parts := [{ stream := 7, layer := 0, bent := 0, tag := 0, lines := 2 }] }
     s.parts.filter (fun p => p.stream == 7 && p.bent == 0) ≠ [] ∧ s.get .str_IN_FLIGHT 7 ≠ 0) ∧ (up []).parts = [] ∧ (up []).jobs = [] ∧
    (let s : State := { up ([(.ses_TYPE, 7, 2), (.rcl_LROW_BYTES0, 0, 128), (.truss_CACHE_LINES, 0, 2)] ++ session) with
        jobs := [{ job with chunk := some (chunk false) }], memory := { pages := [⟨32, [0]⟩] } }
     (chunk false).aborted = 0 ∧ s.refresh = .active ∧ s.get .truss_CACHE_USED 0 + cdiv (s.batch 7 * s.lrow 7 0) 64 ≤ s.get .truss_CACHE_LINES 0 ∧
      s.codedIn 1 [(s.layerAddr 7 0, 128)] = [] ∧ (∀ b ∈ s.linesFor 1 [(s.layerAddr 7 0, 128)], b ∉ s.memory.bad) ∧
      s.linesFor 1 [(s.layerAddr 7 0, 128)] ≠ [] ∧ s.job job.id ≠ none ∧ s.partialWrite 1 (s.layerAddr 7 0) 128 = false ∧
      (after (.stateFetchDone 0 0 .clean) s).get .truss_CACHE_USED 0 = 2) := by
  decide +kernel

/-! ## Regions and GDDR6 -/

theorem canonical_up (l : List (Reg × Nat × Nat)) : (up l).Canonical := by
  have h : ∀ (l : List (Reg × Nat × Nat)) (s : State), s.Canonical → (l.foldl (fun s p => s.set p.1 p.2.1 p.2.2) s).Canonical := by
    intro l
    induction l with
    | nil => exact fun _ h => h
    | cons p l ih => exact fun s h => ih _ (canon_set _ _ _ _ h)
  exact h l _ (canon_set _ _ _ _ ⟨regsOk_nil, ⟨rfl, rfl, rfl, rfl⟩, rfl, rfl, rfl⟩)

/-- Region 1 of context 1 passes the check as PRIVATE, SHARE, HOST and VERSIONED. -/
theorem test_RegionEnableDisable :
    (let base := context ++ [(.ctx_ENABLE, 2, 1), (.rgn_ENABLE, 64, 1), (.rgn_KIND, 64, 1), (.rgn_SIZE, 64, 0x200000), (.rgn_SRC_CONTEXT, 33, 2),
        (.rgn_VA, 33, 0x400000), (.rgn_SIZE, 33, 0x200000), (.ten_Q_MEM_PAGES, 0, 2), (.mem_PAGES_FREE, 0, 2), (.rgn_D6, 33, 2000)]
     (∀ kind < 5, kind = 0 ∨ (up base).get .rgn_ENABLE 33 = 0 ∧ (up (base ++ [(.rgn_KIND, 33, kind), (.rgn_D6, 33, if kind = 3 then 0 else 2000)])).regionCheck 1 1 = 0) ∧
      (up base).regionCheck 1 1 ≠ 0) ∧
    0 ∈ (up []).freePages ∧ (up [(.rgn_STATE, 33, 1)]).get .rgn_STATE 33 = 1 ∧ (up []).refresh = .active ∧
    ({ up [] with refresh := .asleep } : State).refresh ≠ .active ∧
    (let s := up [(.rgn_ENABLE, 33, 1), (.rgn_KIND, 33, 4)]
     s.get .rgn_ENABLE 33 ≠ 0 ∧ s.regionInUse 1 1 = false ∧ s.get .rgn_KIND 33 = 4) ∧
    (up [(.rgn_ENABLE, 33, 1), (.rgn_SHARERS, 33, 1)]).regionInUse 1 1 = true := by decide +kernel

theorem test_ScrubPage : (let s : State := { up [] with memory := { scrub := [⟨7, some 33⟩, ⟨8, none⟩], pending := [8] } }
    s.Canonical ∧ s.memory.scrub = [⟨7, some 33⟩, ⟨8, none⟩] ∧ s.refresh = .active ∧ 7 ∉ s.memory.pending ∧ 8 ∈ s.memory.pending ∧
      (∀ x ∈ ([⟨8, none⟩] : List ScrubPage), x.region ≠ some 33)) :=
  ⟨⟨(canonical_up []).1, ⟨rfl, rfl, rfl, rfl⟩, rfl, rfl, rfl⟩, rfl, rfl, by decide, by decide, by decide⟩

theorem test_MemoryUpkeep : (up []).refresh = .active ∧ (∀ b ∈ patrolBlocks 0, b ∉ (up []).memory.bad) ∧ 63 / 64 ∈ patrolBlocks (up []).memory.patrol ∧
    (∃ b ∈ patrolBlocks 15, (b * 64) / 64 ∈ patrolBlocks ({ up [] with memory := { patrol := 15 } } : State).memory.patrol) ∧
    Store.get 0 (up []).memory.pageCE (63 / 2 ^ 21) + 1 ≠ (up []).ceRetire ∧ (up []).pageOwner 0 = none ∧ (up []).jobs = [] ∧
    (up []).memory.scrub = [] ∧ (up []).boot.lastResort = false ∧ ({ up [] with jobs := [job] } : State).jobs ≠ [] ∧
    ({ up [] with refresh := .entering } : State).refresh = .entering ∧ ({ up [] with refresh := .exiting } : State).refresh = .exiting := by
  decide +kernel

/-! ## The host port -/

theorem test_WritesDiscarded : (0x01000000 : Nat) + Width.w64.bytes ≤ barBytes .bar0 ∧ inBlock 0x0F080000 = false ∧ inBlock 0x0F080004 = false ∧
    0xFF8 + Width.w32.bytes ≤ barBytes .bar2 ∧ 8 ≤ 0xFF8 % 4096 ∧ inBlock 0x0F040020 = true := by decide +kernel

theorem test_RegisterWriteTypes : (up []).running = true ∧ (up []).get .ten_ENABLE 4095 = 0 ∧ (up [(.ten_ENABLE, 4095, 1)]).get .ten_ENABLE 4095 ≠ 0 ∧
    (up []).get .bent_PRESENT 7 = 0 ∧ (up [(.bent_PRESENT, 7, 1)]).get .bent_PRESENT 7 ≠ 0 ∧
    (after (.registerWrite .bar0 0x0F040020 .w32 0xFFFFFFFF) (up [])).get .host_EVENT_MASK = 63 ∧
    (let s := up [(.host_ACCESS_ERROR, 0, 1)]
     let stood : State := { s with before := s.regs }
     (after (.registerWrite .bar0 0x0F04001C .w32 1) stood).get .host_ACCESS_ERROR = 0 ∧
      (after (.registerWrite .bar0 0x0F04001C .w32 1) s).get .host_ACCESS_ERROR = 1) ∧
    (after (.registerWrite .bar0 0x10000008 .w32 0x12345) (up [])).get .ten_PASID 0 = 0x12345 ∧
    (after (.registerWrite .bar0 0x10000008 .w32 0x12345) (up [(.ten_ENABLE, 0, 1)])).get .ten_PASID 0 = 0 := by decide +kernel

theorem test_HostLink : linkRate 32 = 32 ∧ linkRate 0 = 0 ∧ linkRate 15 = 12 ∧ (up []).indices .pba_PENDING = [] ∧ (up []).hostPortIdle = true ∧
    ({ up [] with ringsOpening := [3] } : State).hostPortIdle = false := by decide +kernel

/-! ## Cameras -/

/-- Stream 5 on port 2 and Jointer 0, of one RAW8 exposure (DT 0x2A) of 4 by 2 samples. -/
def Sys2Proof.Tests.camera : List (Reg × Nat × Nat) :=
  context ++ [(.cam_CONTEXT, 5, 1), (.ten_Q_STREAMS, 0, 1), (.tmpl_VALID, 0, 1), (.cls_TEMPLATES, 0, 1), (.cam_PORT, 5, 2), (.port_ENABLED, 2, 1),
    (.port_LANES, 2, 4), (.port_RATE, 2, 25), (.jnt_PRESENT, 0, 1), (.tmpl_WIDTH_M1, 0, 3), (.tmpl_HEIGHT_M1, 0, 1), (.tmpl_EXP_DT0, 0, 0x2A),
    (.tmpl_FPS_MAX, 0, 1), (.cam_FRAME_PEG, 5, 2000), (.dom_STATE, 87, 2), (.dom_STATE, 69, 2)]

/-- An open frame of it. -/
def Sys2Proof.Tests.frame : CamFrame := { stream := 5, seq := 0, counts := [0], waiting := [[]], last := [[]] }

theorem test_CameraPackets : (let s := up (camera ++ [(.cam_ENABLE, 5, 1), (.cam_STATE, 5, 1)])
    s.get .port_ENABLED 2 ≠ 0 ∧ s.get .dom_STATE (85 + 2) = 2 ∧ s.shortBound 2 0 = [5] ∧ s.shortBound 2 31 = [] ∧ s.expVC 5 0 = 0 ∧
      s.get .jnt_PRESENT (s.get .cam_JOINTER 5) ≠ 0 ∧ s.get .cam_STATE 5 = 1 ∧ s.get .jnt_GLANCE_ACTIVE = 0 ∧ s.get .loop_ENABLE 5 = 0 ∧
      (s.portStreams 2).find? (fun k => (s.camPairs k).contains (0, 0x2A)) = some 5 ∧ dtBits 0x2A ≠ none ∧ dtBits 0x13 = none ∧
      (after (.csiFrameStart 2 0 .clean 1) s).openFrame 5 = some { frame with csiNo := 1 }) ∧
    (let s : State := { up (camera ++ [(.cam_ENABLE, 5, 1), (.cam_STATE, 5, 2), (.tmpl_IDLE_TIMEOUT, 0, 9)]) with camera := { frames := [frame] } }
     s.get .cam_STATE 5 = 2 ∧ s.get .tmpl_IDLE_TIMEOUT 0 ≠ 0 ∧ s.openFrame 5 = some frame ∧ frame.skipped = false ∧ frame.cutAt = none ∧
      frame.waiting.all List.isEmpty = true ∧ 0 ≤ s.get .tmpl_HEIGHT_M1 0 ∧ s.slotsUsed 5 < 64 ∧
      ((after (.csiLinePacket 2 0 0x2A .clean true [1, 2, 3]) s).openFrame 5).map (·.last) = some [[1, 2, 3, 3]]) ∧
    (let s : State := { up (camera ++ [(.cam_ENABLE, 5, 1), (.cam_STATE, 5, 1)]) with camera := { frames := [{ frame with closed := true, flags := 0x100 }] } }
     s.timedOutNow 5 = true ∧ s.shortBound 2 0 = [5] ∧
      (after (.csiFrameEnd 2 0 .clean) s).camera.frames = [{ frame with closed := true }]) ∧
    (up (camera ++ [(.cam_STATE, 5, 3), (.cam_EXP_VC0, 5, 1)])).expVC 5 0 = 1 ∧ (up []).get .port_ENABLED 2 = 0 ∧ (up []).get .jnt_PRESENT 0 = 0 := by
  decide +kernel

theorem test_CameraStreams : (let s := up (camera ++ [(.cam_BUFFER_BYTES, 5, 5), (.jnt_GLANCE_SRC, 0, 127)])
    s.get .cam_ENABLE 5 = 0 ∧ s.camCheck 5 = 0 ∧ 96 ≤ s.get .jnt_GLANCE_SRC ∧ s.get .jnt_GLANCE_ACTIVE = 0 ∧
      (after (.cameraStreamEnable 5) s).get .cam_STATE 5 = 1) ∧ (up []).camCheck 5 ≠ 0 ∧
    (∀ st < 4, (up [(.cam_ENABLE, 5, 1), (.cam_STATE, 5, st)]).get .cam_STATE 5 = st ∧ (up [(.cam_ENABLE, 5, 1)]).get .loop_ENABLE 5 = 0) ∧
    (let f : CamFrame := { frame with closed := true, served := 2 }
     let s : State := { up (camera ++ [(.cam_ENABLE, 5, 1), (.cam_STATE, 5, 1)]) with camera := { frames := [f] } }
     s.streamFrames 5 = [f] ∧ s.tmplHeight (s.camTmpl 5) ≤ f.served ∧ s.refresh = .active ∧ s.camera.heldControls = []) ∧
    (let f : CamFrame := { frame with sets := [⟨0, [[1, 2, 3, 4]], {}⟩], received := 1 }
     let s : State := { up (camera ++ [(.cam_ENABLE, 5, 1), (.cam_STATE, 5, 2)]) with camera := { frames := [f] } }
     s.get .dom_STATE 69 = 2 ∧ s.get .jnt_PRESENT 0 ≠ 0 ∧ s.clocks.stopped = false ∧
      nextTurn ((s.jointerStreams 0).filter (fun k => ((s.servedFrame k).bind s.nextSet).isSome)) (Store.get 0 s.camera.turn 0) = some 5 ∧
      (s.servedFrame 5).isSome = true) ∧
    (let s : State := { up (camera ++ [(.cam_ENABLE, 5, 1), (.dom_STATE, 77, 2), (.tmpl_REENTRY_AT, 0, 1), (.peg_COUNT, 0, 2)]) with
        camera := { reentry := [{ stream := 5, seq := 0, buf := 0, served := 1 }] } }
     nextTurn ((s.jointerStreams 0).filter (fun k => (s.reentryReady k).isSome)) (Store.get 0 s.camera.turn 8) = some 5) ∧
    (let s : State := { up [] with camera := { frames := [{ frame with glance := true, fine := [[0]] }] } }
     (s.camera.frames.find? (fun f => f.glance && f.fine.length == s.tmplHeight (s.camTmpl f.stream))).isSome = true) ∧
    (up []).streamFrames 5 = [] ∧ (up []).get .dom_STATE 69 ≠ 2 := by decide +kernel

/-! ## Loops and I3C -/

theorem test_Loops : (let l := camera ++ [(.cam_STATE, 5, 1), (.loop_GRAPH, 5, 5), (.cls_GRAPHS, 0, 32), (.bent_PRESENT, 0, 1), (.loop_BENT_MASK, 5, 1),
      (.loop_PEG_BASE, 5, 2000), (.loop_BAND_PEG_BASE, 5, 3000), (.peg_ENABLE, 3000, 1), (.peg_CONTEXT, 3000, 1), (.peg_ENABLE, 3001, 1),
      (.peg_CONTEXT, 3001, 1), (.peg_ENABLE, 3002, 1), (.peg_CONTEXT, 3002, 1), (.loop_VIEW_PEG, 5, 1500), (.loop_DONE_PEG, 5, 1500),
      (.loop_TAP_FRAMES_M1, 5, 2)]
    let s : State := { up l with graphs := [{ graph with kind := .loop }] }
    s.get .loop_ENABLE 5 = 0 ∧ s.loopCheck 5 = 0 ∧ (after (.loopEnable 5) s).get .loop_STATE 5 = 1) ∧ (up []).loopCheck 5 ≠ 0 ∧
    (∀ st < 3, (up [(.loop_STATE, 5, st)]).get .loop_STATE 5 = st) ∧ (up []).loopPending 5 = false ∧
    (let s : State := { up [] with camera := { waiting := [{ stream := 5, frameSeq := 1, buf := 0, slot := 0 }] } }
     s.loopPending 5 = true ∧ (s.camera.waiting.find? (fun w => w.stream == 5)).isSome = true ∧ s.job (.loop 5) = none ∧ s.awaitsBent 0 = false ∧
      s.get .host_DEV_STATE = 1) := by decide +kernel

theorem test_I3cBuses : (let r : CleatRecord := { bus := 3, source := some (5, 9), entries := [(2, [1, 2])] }
    let s : State := { up [(.dom_STATE, 111, 2), (.i3c_ENABLED, 3, 1), (.i3ct_VALID, 49, 1), (.i3ct_DYN_ADDR, 49, 0x11), (.i3ct_BCR, 49, 2)] with
      camera := { queue := [r] } }
    s.camera.queue.find? (fun r => r.bus == 3) = some r ∧ s.get .dom_STATE 111 = 2 ∧
      (List.range 16).find? (fun i => s.get .i3ct_VALID (3 * 16 + i) != 0 && s.get .i3ct_DYN_ADDR (3 * 16 + i) == 0x11) = some 1 ∧
      s.get .i3c_ENABLED 3 ≠ 0 ∧ bit (s.get .i3ct_BCR (3 * 16 + 1)) 1 = true ∧ s.running = true ∧
      (sendEntries 3 [(0x11, [1, 2])] [false, false]).2 = false ∧ (sendEntries 3 [(0x11, [1, 2])] [false, true]).2 = true ∧ (after (.daaGo 3 [⟨5, 6, 7⟩]) s).get .i3ct_DYN_ADDR 48 = 0x10) ∧
    (up []).get .dom_STATE 114 ≠ 2 ∧ (up []).get .i3c_ENABLED 3 = 0 := by decide +kernel

/-! ## Audio and the cascade -/

/-- A network of one score, of class 1, whose B has the FP32 code `b` (02 R76). -/
def Sys2Proof.Tests.hopNet (b : Nat) : AwlNet := { outs := [{ reads := [], weights := [], m := 0, b := b, score := some 1 }] }

theorem test_Audio : ({ up [] with audio := { running := true, wish := .up } } : State).audio.running = true ∧ (up []).get .rasp_LISTEN_GROUP < 4 ∧
    (up []).audio.running = false ∧ State.reset.get .host_DEV_STATE ≠ 1 ∧
    (let s : State := { up [(.rasp_ACTIVE_GROUPS, 0, 3), (.rasp_MODE0, 0, 2)] with audio := { running := true, wish := .down } }
     s.audio.starting = false ∧ (∃ g ∈ s.activeGroups, s.groupMode g = 2) ∧ (∃ g ∈ s.activeGroups, s.groupMode g ≠ 2) ∧
      s.get .plumb_ACTIVITY = 0 ∧ (s.set .plumb_ACTIVITY 0 1).get .plumb_ACTIVITY ≠ 0 ∧ s.get .rasp_PENDING = 0 ∧ s.beamCheck = 0) ∧
    (let s : State := { up [(.casc_ENABLE, 0, 1), (.plumb_HOP_MS, 0, 1), (.plumb_HIT_CLASSES, 0, 2), (.plumbc_THRESH, 1, 5), (.plumbc_CONSEC, 1, 1),
        (.casc_STATE, 0, 1), (.casc_LP_PEG, 0, 2000), (.dom_STATE, 121, 2)] with
        audio := { running := true, net := hopNet 0x40A00000 } }
     s.get .casc_ENABLE ≠ 0 ∧ s.audio.hopRun = false ∧ s.get .plumb_HOP_MS ≤ s.audio.hopFrame + 1 ∧ Store.get 0 s.audio.refractory 1 = 0 ∧
      bit (s.get .plumb_HIT_CLASSES) 1 = true ∧ s.get .casc_LP_PEG ≠ s.get .casc_HQ_PEG ∧
      s.get .dom_STATE 121 = 2 ∧ s.get .dom_CHANGING 121 = 0 ∧
      (after (.awlHop ()) s).get .peg_COUNT 64 = 1 ∧ (after (.awlHop ()) s).get .plumbs_SCORE 1 = 5 ∧
      (after (.awlHop ()) { s with audio := { s.audio with net := hopNet 0x40800000 } }).get .peg_COUNT 64 = 0) ∧
    (up [(.rasp_PENDING, 0, 1)]).beamCheck = 0x070B ∧ (up []).running = true := by decide +kernel

theorem test_Cascade : (let l := context ++ [(.casc_CONTEXT, 0, 1), (.casc_RUNG1_GRAPH, 0, 5), (.casc_RUNG2_GRAPH, 0, 6), (.cls_GRAPHS, 0, 96),
      (.bent_PRESENT, 0, 1), (.casc_RUNG1_MASK, 0, 1), (.casc_RUNG2_MASK, 0, 1), (.casc_RUNG2_SESSION, 0, 0xFFFF), (.casc_PEG_BASE, 0, 2000),
      (.casc_DONE_PEG, 0, 1500), (.casc_LP_PEG, 0, 1500), (.casc_HQ_PEG, 0, 1500), (.casc_LP_SLOTS_M1, 0, 127), (.dom_STATE, 0, 2)]
    let s : State := { up l with graphs := [{ graph with kind := .rung1 }, { graph with id := 6, kind := .rung2 }] }
    s.get .casc_ENABLE = 0 ∧ s.cascadeCheck = 0 ∧ (after .cascadeEnable s).get .casc_STATE = 1) ∧ (up []).cascadeCheck ≠ 0 ∧
    (∀ st < 4, (up [(.casc_ENABLE, 0, 1), (.casc_STATE, 0, st)]).get .casc_STATE = st ∧ (up [(.casc_ENABLE, 0, 1)]).rungBusy = false) ∧
    ({ up [] with audio := { clearing := true } } : State).audio.clearing = true ∧
    (let s : State := { up ([(.bent_PRESENT, 0, 1), (.casc_RUNG1_MASK, 0, 1), (.casc_RUNG2_MASK, 0, 1), (.casc_RUNG3_MASK, 0, 1), (.casc_ENABLE, 0, 1),
        (.casc_RUNG3_EN, 0, 1), (.peg_ENABLE, 66, 1)] ++ (bentDomains 0).map (fun d => (Reg.dom_STATE, d, 2))) with
        audio := { waiting := [(0, 5)], confirmed := some 3 } }
     s.onBents (s.get .casc_RUNG1_MASK) = [0] ∧ s.jobs = [] ∧ s.refresh = .active ∧ s.get .peg_IRQ_EN 64 = 0 ∧
      s.presentIn (s.get .casc_RUNG2_MASK) = [0] ∧ (s.presentIn (s.get .casc_RUNG2_MASK)).all s.bentOn = true ∧ s.reached 66 = true ∧
      s.audio.confirmed = some 3 ∧ s.audio.causes.takeWhile (fun x => x.1 != 1) = [] ∧ s.rungReady 3 = true ∧
      ({ s with audio := { s.audio with causes := [(3, 1), (1, 1)] } } : State).audio.causes.takeWhile (fun x => x.1 != 1) = [(3, 1)]) ∧
    (up []).audio.confirmed = none ∧ (up []).audio.waiting = [] ∧ (up []).ringFrame 0 = none ∧
    (up []).job (.rung 2) = none := by decide +kernel

/-! ## The fabric -/

/-- Entry 1 is a fabric job of this device, 0, and device 1, which port 2 reaches. -/
def Sys2Proof.Tests.fabric : State :=
  (up (context ++ [(.cls_FABRIC_EN, 0, 1), (.fjob_FJOB_ID, 1, 9), (.fjob_NMEMBERS_M1, 1, 1), (.route_ENABLE, 1, 1), (.route_HOPS, 1, 1),
    (.routep_VALID, 10, 1), (.kport_ENABLED, 2, 1), (.kport_LINK_UP, 2, 1), (.wkey_SLOT_STATE, 0, 1), (.wkey_SLOT_FJOB_ID, 0, 9),
    (.fab_FLOW_RECORDS_FREE, 0, 4), (.fab_RTO_US, 0, 40), (.dom_STATE, 124, 2), (.fab_INJECT_ALLOWED, 0, 1), (.fab_ETHERTYPE, 0, 0x88B5), (.slot_STATE, 0, 2)])).writeVA
      1 2 [1, 0]

/-- The same after the enable of the entry. -/
def Sys2Proof.Tests.member : State := after (.fabricJobEnable 1 []) fabric

/-- A fabric graph with a SEND and a RECEIVE channel over region 0 and a barrier. -/
def Sys2Proof.Tests.fabricGraph : Graph :=
  { graph with fabric := some { minMembers := 1, maxMembers := 2,
                                channels := [{ num := 0, send := true, region := 0, peer := .rank 1 }, { num := 1, send := false, region := 0, peer := .rank 1 }],
                                barriers := [{ arrive := 0, release := 1, after := [[]] }] } }

theorem test_FabricTables : fabric.running = true ∧ fabric.get .route_ENABLE 2 = 0 ∧ fabric.get .route_ENABLE 1 ≠ 0 ∧
    (∀ m ∈ fabric.fabric.members, 1 ∉ m.2) ∧ (∃ m ∈ member.fabric.members, 1 ∈ m.2) ∧
    fabric.get .fjob_ENABLE 1 = 0 ∧ fabric.fabricCheck 1 (fabric.memberWords 1 []) = 0 ∧ (up []).fabricCheck 1 [] ≠ 0 ∧
    member.get .fjob_ENABLE 1 ≠ 0 ∧ member.contextBusy 1 = false ∧ ({ member with jobs := [job] } : State).contextBusy 1 = true ∧
    (member.fabric.flows.map (fun f => (f.flow, f.peer, f.send))) = [(0xFFFF, 1, true), (0xFFFF, 1, false)] ∧
    fabric.get .dom_STATE (122 + 2) = 2 ∧ fabric.get .dom_STATE (122 + 3) ≠ 2 ∧ fabric.get .krule_EN 16 = 0 ∧ fabric.get .fab_INJECT_ALLOWED ≠ 0 ∧
    (up []).get .fab_INJECT_ALLOWED = 0 := by decide +kernel

theorem test_FabricLinks : fabric.get .kport_LINK_UP 2 ≠ 0 ∧ (∀ i < 8, fabric.get .krule_EN (8 * 2 + i) = 0) ∧ fabric.fabric.held = [] ∧
    (let s := fabric.set .kport_LINK_UP 2 0
     s.get .kport_ENABLED 2 ≠ 0 ∧ s.get .kport_LINK_UP 2 = 0 ∧ s.get .dom_HELD_OFF 124 = 0 ∧
      (after (.kertikLinkUp 2 []) s).get .kport_LINK_UP 2 = 1) ∧
    (let h := frameHeader { kind := 4 } false 1 1 2 0 0xFFFF 9 0 0
     hdrKind h = 4 ∧ hdrReserved h = false ∧ hdrDstDev h = fabric.get .fab_DEV_ID ∧ hdrSrcDev h ∈ member.members 1 ∧ 2 ∉ member.members 1 ∧
      member.entryOf (hdrFjob h) = some 1 ∧ fabric.entryOf (hdrFjob h) = none ∧ bits h 0 4 = 1 ∧ lengthFits 4 16 = true) ∧
    (let h := frameHeader { kind := 0 } false 2 1 2 1 0 9 0 0
     hdrKind h = 0 ∧ hdrDstDev h ≠ fabric.get .fab_DEV_ID ∧ hdrHops h = 2 ∧ fabric.egress 1 9 0 = some 2 ∧ fabric.egress 3 9 0 = none) ∧
    (let h := frameHeader { kind := 3 } false 0 1 2 0 0 0 0 0
     let f : Frame := { hdr := BitVec.ofNat 256 h, dest := .broadcast }
     (after (.kertikKeepaliveRx 2 f) fabric).get .kport_PEER_DEV 2 = 1 ∧ (after (.kertikKeepaliveRx 2 { f with etherType := 0 }) fabric).get .kport_FOREIGN_FRAMES 2 = 1 ∧
      (after (.kertikKeepaliveRx 2 { f with fcsOk := false }) fabric).get .kport_FCS_ERRORS 2 = 1 ∧
      (after (.kertikKeepaliveRx 2 { f with fecBad := 2 }) fabric).get .kport_FEC_UNCORRECTED 2 = 2 ∧
      (after (.kertikKeepaliveRx 2 { f with fecBad := 2 }) fabric).get .kport_PEER_DEV 2 = 0) := by decide +kernel

/-- The run comparison of R342 row 8 at its ends, and the flows of the entry. -/
theorem test_FabricFlows : runEarlier 0 1 = true ∧ runEarlier 0 32767 = true ∧ runEarlier 0 32768 = false ∧ runEarlier 5 5 = false ∧
    (member.flow 1 0xFFFF 1 false).map (fun f => (f.psn, f.early)) = some (0, []) ∧ (member.flow 1 0xFFFF 1 true).map (·.unacked) = some [] ∧
    member.flow 1 7 1 false = none ∧ member.fabricJob 1 = none ∧
    ({ member with graphs := [fabricGraph], jobs := [job] } : State).fabricJob 1 = some job ∧
    (let s := up [(.peg_ENABLE, 2000, 1), (.peg_REMOTE_ACCESS, 2000, 1), (.peg_CONTEXT, 2000, 1), (.peg_COUNT, 2000, 4)]
     (s.remotePegOp 1 (toBytes 4 2000 ++ toBytes 4 3)).get .peg_COUNT 2000 = 7 ∧
      (s.remotePegOp 1 (toBytes 4 (2000 + 65536) ++ toBytes 4 3)).get .peg_COUNT 2000 = 3 ∧
      (s.remotePegOp 2 (toBytes 4 2000 ++ toBytes 4 3)).get .peg_COUNT 2000 = 4) := by decide +kernel

theorem test_FabricSends : (let s : State := { member with
      graphs := [fabricGraph], jobs := [job]
      residents := [{ bent := 0, slot := 0, job := .ring 1, regions := [(0, 0)] }]
      lofts := { tiles := [{ bent := 0, slot := 0, region := 0, place := 0, desc := { poison := true } }] } }
    s.fabricJob 1 = some job ∧ s.job (.ring 1) = some job ∧
      ((s.channels job).find? (fun ch => ch.num == 0 && ch.send)).isSome = true ∧ (s.regionRef job 0).isSome = true ∧
      ((s.jobBarriers job).zipIdx.find? (fun x => s.atBarrier job x.1 x.2)).isSome = true ∧ s.waits = [] ∧ s.fabric.flows.all (fun f => f.unacked.isEmpty) = true ∧
      (s.members 1).getD 0 0 = s.get .fab_DEV_ID ∧ s.pegOwned (job.pegBase + 0) 1 = true ∧ (s.nthFlow 1 0 true).isSome = true ∧
      (after (.barrierArrive 1) s).get .peg_COUNT 2000 = 1) ∧
    member.egress 1 9 0xFFFF = some 2 ∧ member.egress 2 9 0xFFFF = none ∧ member.nthFlow 1 1 true = none ∧
    (let x : SentFrame := { psn := 0, body := { kind := 2 }, sent := true }
     let f : Flow := { ctx := 1, flow := 0xFFFF, peer := 1, send := true, unacked := [x] }
     x ∈ f.unacked ∧ (∀ y ∈ f.unacked, y.sent = true → x.time ≤ y.time) ∧ hasReached 32 x.psn 1 = false ∧
     ({ up [] with fabric := { flows := [f] } } : State).nthFlow 1 0 true = some f) := by decide +kernel

/-! ## Wedge -/

theorem test_KeysAndLifeCycle : (let s := up [(.wedge_LIFE_CYCLE, 0, 1)]
    s.boot.phase ≠ .halted ∧ s.get .pwr_COOLANT_STOP = 0 ∧ s.get .wedge_KEY_BUSY = 0 ∧ s.get .host_DEV_STATE = 1 ∧
      (∀ st < 4, (s.set .wkey_SLOT_STATE 255 st).get .wkey_SLOT_STATE 255 = st) ∧ s.wedge.otp.keys = [] ∧
      (s.set .wedge_KEY_BUSY 0 1).keyCheck true ≠ 0 ∧ s.lcCheck 4 0xDEC false = 0 ∧ s.lcCheck 4 0xDED false = 0x090C ∧ s.lcCheck 2 0 true = 0x090B) ∧
    (up []).lcCheck 1 0 false = 0 := by decide +kernel

/-- A key record that passes every check: header type 3, slot 7, tenant 0, fabric job 9. -/
theorem test_KeyAccepted : (let win := ofBytes (toBytes 4 3 ++ toBytes 4 0 ++ toBytes 4 1 ++ toBytes 4 7 ++ toBytes 4 9)
    let s := up [(.wedge_KEY_BUSY, 0, 1), (.wedge_KEM_EPOCH, 0, 1), (.wedge_KEY_WINDOW, 0, win), (.ten_STATE, 0, 1), (.cls_FABRIC_EN, 0, 1)]
    s.get .wedge_KEY_BUSY ≠ 0 ∧ s.keyCheck false = 0x0909) ∧ ([] : List (List Byte)).length + 1 < 4096 := by decide +kernel

theorem test_Attestation : (let w : Wedge := { queue := [.report 2 [] none, .cert] }
    let s : State := { up [(.wedge_LIFE_CYCLE, 0, 2)] with wedge := w }
    s.wedge.signing = none ∧ s.wedge.queue = .report 2 [] none :: [.cert] ∧ (after .attestSignStart s).get .wbuf_BUF_STATE 2 = 2 ∧
      (after (.attestGo 3) s).get .wbuf_BUF_STATE 3 = 1 ∧ (after (.attestGo 3) (up [])).get .wedge_ATTEST_REASON = 0x0904 ∧
      (∀ st < 4, (s.set .wbuf_BUF_STATE 7 st).get .wbuf_BUF_STATE 7 = st)) ∧
    ({ up [] with wedge := { signing := some (.report 2 [] none, []) } } : State).wedge.signing = some (.report 2 [] none, []) ∧
    ({ up [] with wedge := { signing := some (.cert, (up []).certBody) } } : State).wedge.signing = some (.cert, (up []).certBody) ∧
    (up []).wedge.queue = [] := ⟨by decide +kernel, rfl, rfl, rfl⟩

/-! ## Flash, resets and start-up -/

theorem test_ImageUpdates : (let s := up [(.start_UPD_BYTES, 0, 65536), (.start_RUN_SLOT, 0, 1)]
    s.boot.phase ≠ .halted ∧ s.get .host_DEV_STATE = 1 ∧ s.get .pwr_COOLANT_STOP = 0 ∧ s.get .start_UPD_BUSY = 0 ∧
      (after (.eraseSlot 0 0) s).get .start_UPD_BUSY = 1 ∧ (after (.eraseSlot 1 0) s).get .start_UPD_REASON = 0x0118 ∧
      (after (.eraseSlot 0 1) s).get .start_UPD_REASON = 0x0119 ∧ (after (.commit 0 0) s).get .start_UPD_REASON = 0x011A) ∧
    (let s : State := { up [(.dom_STATE, 146, 2)] with boot := { phase := .running, update := some ⟨1, 0, 0, 0, 0⟩ } }
     s.boot.update = some ⟨1, 0, 0, 0, 0⟩ ∧ s.get .dom_STATE 146 = 2) ∧ (up []).boot.update = none ∧
    Mem.wf 0xFF (up []).flash.slot0 = true := by decide +kernel

theorem test_StartUp : State.reset.boot.phase = .reset ∧ (up []).boot.phase ≠ .reset ∧ (up []).boot.phase ≠ .warm ∧ (up []).boot.update = none ∧
    (Instr.porstNRelease 5 {}, true) ∈ [(Instr.porstNRelease 5 {}, true), (.warmRstNRelease 5 {}, false)] ∧
    ({ State.reset.set .start_START_FAILED 0 1 with boot := { phase := .failed } } : State).get .start_START_FAILED ≠ 0 ∧
    (let s : State := { State.reset with boot := { phase := .ready } }
     s.boot.phase = .ready ∧ s.get .pwr_COOLANT_STOP = 0 ∧ s.boot.lastResort = false ∧ s.boot.sillLost = false ∧ s.flash.dirCopy = 2) := by
  decide +kernel

/-! ## Domains, power and recovery -/

theorem test_DomainsAndWakes : (up []).foremanUp = true ∧ State.reset.foremanUp = false ∧
    (let s := up ((.dom_STATE, 7, 2) :: (.dom_TARGET, 7, 2) :: [])
     s.get .dom_CHANGING 7 = 0 ∧ 0 < s.get .dom_STATE 7 ∧ s.mayLower 7 true = true ∧ (after (.domainEntryRequest 7 true) s).get .dom_CHANGING 7 = 1) ∧
    (let s := up [(.dom_STATE, 85, 2), (.dom_TARGET, 85, 1), (.dom_CHANGING, 85, 1)]
     s.get .dom_TARGET 85 < s.get .dom_STATE 85 ∧ s.isolated 85 = false ∧ (∀ c ∈ domChildren 85, s.get .dom_STATE c ≤ s.get .dom_TARGET 85) ∧
      (after (.domainIsolate 85) s).isolated 85 = true) ∧
    (let s := up [(.dom_TARGET, 85, 2), (.dom_CHANGING, 85, 1), (.dom_STATE, 151, 2), (.dom_STATE, 150, 2), (.dom_STATE, 109, 2)]
     s.get .dom_STATE 85 ≠ 2 ∧ ∀ e ∈ domParents 85, s.get .dom_STATE e = 2) ∧
    (let s := up [(.peg_WAKE, 63, 1), (.peg_ENABLE, 63, 1), (.peg_WAKE, 64, 1), (.peg_ENABLE, 64, 1)]
     s.get .peg_WAKE 63 ≠ 0 ∧ s.reached 63 = true ∧ s.reached 64 = true) ∧ (up []).rungBents 1 = none ∧
    (let s := up [(.bent_PRESENT, 0, 1), (.casc_RUNG1_MASK, 0, 1), (.casc_RUNG3_MASK, 0, 1), (.casc_RUNG2_MASK, 0, 1)]
     (s.rungBents 1).isSome = true ∧ (s.rungBents 3).isSome = true) ∧
    ((up []).wake 2 1 [40]).get .clk_LAST_SRC = 2 ∧ (up []).clocks.lastWake = none ∧
    (let s : State := { up [(.clk_WAKE_SEQ, 0, 7), (.clk_LAST_SRC, 0, 4)] with clocks := { lastWake := some (0, 4) } }
     s.clocks.lastWake = some (s.now, 4) ∧ (s.wake 7 1 []).get .clk_LAST_SRC = 4 ∧ (s.wake 1 5 [40]).get .clk_LAST_SRC = 1 ∧
      (s.wake 1 5 [40]).get .clk_WAKE_SEQ = 7) ∧
    5 ∈ ({ up [] with demands := [5] } : State).demands ∧ (up [(.dom_STATE, 148, 1)]).get .dom_STATE (147 + 1) = 1 ∧
    ({ up [] with power := { events := [4] } } : State).power.events = 4 :: [] ∧
    ({ up [] with camera := { glanceDue := true } } : State).camera.glanceDue = true ∧
    (up [(.dom_STATE, 111, 1)]).get .dom_STATE 111 = 1 ∧ (up []).clocks.isolated = [] ∧
    (up [(.cam_ENABLE, 5, 1), (.cam_PORT, 5, 2)]).portStreams 2 ≠ [] := by decide +kernel

theorem test_PowerAndClocks : (up [(.dom_STATE, 150, 2)]).get .dom_STATE 150 = 2 ∧ (up []).clocks.stopped = false ∧
    (let s := up [(.pwr_CAP_EFFECTIVE, 0, 100), (.pwr_PWR_1MS, 0, 801), (.pwr_DUTY, 0, 16), (.pwr_OP_LIMIT, 0, 4)]
     s.get .pwr_OP_LIMIT ≤ 5 ∧ s.get .pwr_DUTY ≤ 16 ∧ s.get .pwr_CAP_EFFECTIVE * 8 < s.get .pwr_PWR_1MS ∧
      (after .controlPeriod s).get .pwr_OP_LIMIT = 5 ∧ (after .controlPeriod (s.set .pwr_PWR_1MS 0 759)).get .pwr_OP_LIMIT = 3) ∧
    (let s := up [(.bent_PWR, 0, 2), (.bent_PRESENT, 0, 1)]
     s.get .bent_PWR 0 = 2 ∧ s.opWanted 0 < 6 ∧ (∀ x ∈ s.power.changing, x.1 ≠ 0)) ∧
    ({ up [] with power := { changing := [(0, 3)] } } : State).power.changing.find? (fun x => x.1 == 0) = some (0, 3) ∧
    0 ∈ ({ up [] with power := { stretched := [0] } } : State).power.stretched ∧ 64 ≤ (64 : Word).toNat ∧
    ([160] : List (BitVec 16)) ≠ [] ∧
    (up [(.pwr_COOLANT_STOP, 0, 1)]).get .pwr_COOLANT_STOP ≠ 0 ∧ (up []).boot.phase = .running ∧
    (let s : State := { resident [] with waits := [{ peg := 2000, target := 4, job := some (.ring 1), who := .release 0 0 }], graphs := [fabricGraph] }
     s.bentComputes 0 = true ∧ s.barrierWaits 0 ≠ [] ∧ s.power.fillers = []) ∧
    ({ up [] with power := { fillers := [{ bent := 0, since := 0, level := 3 }] } } : State).power.fillers.find? (fun f => f.bent == 0) =
      some { bent := 0, since := 0, level := 3 } ∧
    (after (.capHostWrite 100) (up [])).get .pwr_CAP_HOST = 100 ∧ (after (.capHostWrite 19) (up [])).get .pwr_CAP_REASON = 0x0A02 ∧
    (after (.capHostWrite 20) (up [(.pwr_FLOOR_W, 0, 21)])).get .pwr_CAP_REASON = 0x0A01 ∧ (up []).smbusUp = true ∧ State.reset.smbusUp = false ∧
    (after .smbusCapTrayRead (up [(.pwr_CAP_TRAY, 0, 300)])).outbox = [.smbus [44, 1]] := by decide +kernel

/-- A device with logical bent 2 on physical bent 2, no other spare than physical bent 8, Foremen A and B, and their domains ON. -/
def Sys2Proof.Tests.whole : State :=
  up ([(.rec_STANDBY_ID, 0, 1), (.wedge_LIFE_CYCLE, 0, 1), (.bent_PRESENT, 2, 1), (.bent_PHYSICAL, 2, 2), (.unit_STATUS, 8, 1)] ++
    [0, 1, 3, 4, 5, 6, 7].map (fun p => (Reg.unit_STATUS, p, 2)) ++
    (141 :: 142 :: 145 :: bentDomains 2).map (fun d => (Reg.dom_STATE, d, 2)))

/-- Bent 2 fails: the worked example of 17 R491 up to the choice of the spare. -/
theorem test_Recovery : whole.foremanUp = true ∧ whole.boot.phase = .running ∧ whole.polled 2 = true ∧ whole.logicalOf 2 = some 2 ∧
    whole.spareBent 8 = true ∧ whole.slotOf 2 = some 2 ∧
    (let s := after (.foremanPoll [] { val := [2] }) whole
     s.get .unit_STATUS 2 = 3 ∧ s.get .inc_INCARNATION 2 = 2 ∧ s.get .dom_STATE 2 = 0 ∧ s.recovery.bringIns = [(2, 8)] ∧ 2 ∈ s.recovery.off ∧
      s.get .unit_FENCED 2 = 0 ∧
      (let t := after (.spareBentInService 2) s
       t.get .bent_PHYSICAL 2 = 8 ∧ t.get .froe_OFF_RECOVERY = 0)) ∧
    whole.get .rec_STANDBY_ID ≠ 3 ∧ (after (.heartbeatSample true { val := true }) whole).get .rec_ACTIVE_ID = 1 ∧
    (after (.heartbeatSample true { val := true }) whole).recovery.cold = some 2 ∧ whole.boot.lastResort = false ∧
    ({ whole with health := { due := true } } : State).health.due = true := by decide +kernel

theorem test_SelfTest : whole.get .host_DEV_STATE = 1 ∧ whole.indices .ten_STATE = [] ∧ whole.get .unit_STATUS 33 < 2 ∧
    (let s := after .shutdownGo whole
     s.get .rec_SHUTDOWN_STATE = 1 ∧ s.get .unit_IN_RESET 24 = 1 ∧ s.get .unit_IN_RESET 25 = 0) ∧
    (let s : State := { whole with lofts := { repair := [(8, 3, 77)] } }
     s.listRepairs.health.rows = [(8 * 256 + 24, 77)] ∧ s.listRepairs.lofts.repair = []) ∧
    whole.get .wedge_LIFE_CYCLE = 1 ∧
    (let s := whole.set .rec_TS_UNITS_LO 0 256
     s.namedUnits = [8] ∧ s.unitBusy 8 = false ∧ (after .tsLoftMarch s).recovery.test = some ⟨2, [8]⟩ ∧ (after .tsLinkLoopback s).get .rec_TS_REASON = 0x0C07 ∧
      ([({ u := 8, pass := true } : Verdict)].map (·.u)).Nodup) := by decide +kernel

/-! ## Further witnesses: the branches of the statements that the states above leave out -/

/-- A graph of one Plane tile that reads nothing, into region 0. -/
def Sys2Proof.Tests.planeGraph : Graph :=
  { graph with ops := [{ kind := .plane {}, out := some 0, shapes := [{ fmt := .int8, c := 64 }] }], streams := [] }

theorem test_TileCompute_plane :
    (let s : State := { resident [(.peg_COUNT, 2001, 2)] with
      graphs := [planeGraph], residents := [{ bent := 0, slot := 0, job := .ring 1, regions := [(0, 0)] }] }
     s.bentComputes 0 = true ∧ (s.pickWork 0 .plane).any (fun w => w.defn.kind == .plane {} && (w.defn.out.bind (s.regionRef w.job)).isSome) = true ∧
      (s.set .dom_CHANGING 0 1).get .dom_CHANGING 0 ≠ 0 ∧ ((s.set .bent_PWR 0 1).pickWork 0 .plane).isSome = true) ∧
    (let s := resident (context ++ [(.rgn_KIND, 32, 3)])
     (s.hostLoad (.ring 1)).any (fun w => w.audioRing.isNone &&
      s.mayRead w.job.ctx 0x1000 (tileLines w.shape.fmt w.shape.h w.shape.w w.shape.c w.shape.layout * 64)) = true) ∧
    (resident []).dowelRuns 0 = true ∧ (resident []).refresh = .active := by decide +kernel

theorem test_ResultWritten_rest : (let s : State := { up [(.ring_STATE, 3, 1), (.ring_LOCATION, 3, 1), (.ring_HOST_ADDR, 3, 0x7000)] with
      jobs := [{ job with finished := true }], busMaster := true }
    s.get .ring_LOCATION 3 ≠ 0 ∧ s.busMaster = true ∧ s.d3hot = false ∧ s.get .ring_IRQ_EN 3 = 0 ∧ s.memory.wrote = none ∧
      s.get .ring_STATE 3 = 1 ∧ s.get .ring_TENANT 3 = s.get .ctx_TENANT 1 ∧
      (after (.resultSlotWrite { val := .ring 1 }) s).get .ring_TAIL 3 = 1 ∧ (after (.resultSlotWrite { val := .ring 1 }) s).jobs = []) ∧
    (let s : State := { up [] with jobs := [{ job with finished := true }] }
     s.get .ring_STATE 3 ≠ 1 ∧ (after (.resultSlotWrite { val := .ring 1 }) s).get .host_MISROUTED = 1) ∧
    (let j : Job := { job with finished := true, waited := true, snapshot := some { session := 7, descs := [] } }
     let s : State := { up [(.ring_STATE, 3, 1), (.ring_TAIL, 3, 1)] with jobs := [j], refresh := .asleep }
     s.job (.ring 1) = some j ∧ j.snapshot ≠ none ∧ s.refresh ≠ .active ∧ j.waited = true) := by decide +kernel

theorem test_Sleeping : (let s : State := { up [] with refresh := .asleep }
    s.exitSelfRefresh.refresh ≠ .active ∧ (up []).exitSelfRefresh.refresh = .active ∧ s.refresh = .asleep ∧ s.boot.lastResort = false) ∧
    (let s : State := { up (session ++ [(.ses_ENABLE, 7, 1), (.ses_TYPE, 7, 1)]) with refresh := .asleep }
     s.get .ses_TYPE 7 ≠ 2 ∧ s.get .ses_EDIT_BUSY 7 = 0 ∧ s.get .ses_ENABLE 7 ≠ 0 ∧ (after (.openSeq 7 0 0) s).memory.waiting ≠ []) ∧
    (up session).initMode 7 ≠ 1 ∧
    (let s : State := { up [(.casc_STATE, 0, 2), (.rasp_AFN, 0, 15)] with refresh := .asleep, audio := { running := true } }
     2 ≤ s.get .casc_STATE ∧ s.get .rasp_AFN % 16 = 15 ∧ s.refresh = .asleep ∧ s.audio.hqClean = false) ∧
    (let s : State := { up [(.casc_STATE, 0, 2), (.rasp_AFN, 0, 15), (.casc_LP_PEG, 0, 2000)] with audio := { running := true } }
     s.refresh = .active ∧ s.get .casc_LP_PEG ≠ s.get .casc_HQ_PEG) ∧
    ({ up [] with memory := { waiting := [.write 1 0 [] none] } } : State).memory.waiting = [.write 1 0 [] none] := by decide +kernel

theorem test_Chunks : (let s : State := { up [(.ses_TYPE, 7, 2)] with jobs := [{ job with chunk := some (chunk true) }] }
    s.job (.ring 1) = some { job with chunk := some (chunk true) } ∧ (s.jobs.head?.bind Job.inFlight) = some (chunk true) ∧
      (∀ l ∈ (chunk true).layers, s.partialWrite (s.get .ses_CONTEXT 7) (s.layerAddr 7 l.layer) l.state.length = false) ∧
      (after (.chunkCommit { val := 7 }) s).get .str_NEXT_CHUNK 7 = 1) ∧
    (let s : State := { up [(.mor_ARRAY_IN_SERVICE, 0, 0xFFFF), (.mor_SPARE_ARRAY, 0, 31), (.bent_PRESENT, 0, 1)] with free := 1 }
     bit (s.get .mor_ARRAY_IN_SERVICE 0) 3 = true ∧ s.get .bent_PRESENT 0 ≠ 0 ∧ 17 ≤ s.get .mor_SPARE_ARRAY 0) ∧
    (let s : State := { up [(.ten_MEM_USED, 0, 4)] with memory := { scrub := [⟨7, some 33⟩], leaving := [(33, 1, 0)] } }
     s.memory.leaving.find? (fun x => x.1 == 33) = some (33, 1, 0) ∧ (after .scrubPageDone s).get .ten_MEM_USED 0 = 3) := by decide +kernel

theorem test_HostLink_L1 : (let s := up [(.dom_STATE, 147, 2), (.dom_STATE, 148, 2), (.dom_STATE, 149, 2)]
    s.hostPortIdle = true ∧ (∀ d ∈ [147, 148, 149], s.get .dom_STATE d = 2 ∧ s.get .dom_CHANGING d = 0) ∧
      (after .l1Entry s).get .dom_STATE 148 = 1) ∧
    ({ up [(.pba_PENDING, 4, 1)] with config := {} } : State).indices .pba_PENDING = [4] := by decide +kernel

theorem test_Camera_rest : (let s : State := { up (camera ++ [(.cam_ENABLE, 5, 1), (.cam_STATE, 5, 2)]) with camera := { frames := [frame] } }
    (s.portStreams 2).find? (fun k => (s.camPairs k).contains (0, 0x2A)) = some 5 ∧ (s.camPairs 5).findIdx (fun x => x == (0, 0x2A)) = 0 ∧
      s.get .cam_STATE 5 = 2 ∧ s.get .jnt_PRESENT (s.get .cam_JOINTER 5) ≠ 0 ∧ s.get .dom_CHANGING 69 = 0 ∧ s.get .dom_CHANGING 77 = 0 ∧
      (s.set .dom_CHANGING 69 1).get .dom_CHANGING 69 ≠ 0 ∧ frame.waiting = [[]] ∧ frame.counts = [0] ∧ frame.last = [[]]) ∧
    (let f : CamFrame := { frame with sets := [⟨0, [[1, 2, 3, 4]], {}⟩], received := 1 }
     let s : State := { up (camera ++ [(.cam_ENABLE, 5, 1), (.cam_STATE, 5, 2)]) with camera := { frames := [f] } }
     s.servedFrame 5 = some f ∧ (s.nextSet f).isSome = true ∧ s.refresh = .active ∧ (after (.lineSetServe { val := 0 }) s).get .jnt_SETS_SERVED 0 = 1) ∧
    (let s := up [(.dom_STATE, 119, 2)]
     s.running = true ∧ s.get .dom_STATE 119 = 2 ∧ (up []).get .dom_STATE 119 ≠ 2 ∧ (after .beamCommit s).get .rasp_PENDING = 1 ∧
      (after .beamCommit (up [])).deferred = [(119, .beamCommit)]) ∧
    (let s : State := { up [(.cam_BUFFER_BYTES, 5, 5)] with camera := { glanceDue := true } }
     s.get .dom_STATE 69 ≠ 2 ∧ (up camera).get .dom_STATE 69 = 2 ∧ s.running = true) := by decide +kernel

theorem test_Cascade_rest :
    (let s : State := { up [(.casc_RUNG2_SESSION, 0, 7), (.casc_RUNG2_GRAPH, 0, 6), (.casc_RUNG2_MASK, 0, 1), (.bent_PRESENT, 0, 1)] with
      graphs := [{ graph with id := 6, bind := .session }], edits := [{ session := 7, op := 1, seq := 0, src := 0, arg := 0, since := 0 }], now := 9
      audio := { confirmed := some 3 } }
     s.graph (s.get .casc_RUNG2_GRAPH) = some { graph with id := 6, bind := .session } ∧ s.editing 7 = true ∧ s.audio.confirmed = some 3 ∧
      after (.rung2JobStart {}) s = s) ∧
    (up [(.det_DET_SEQ, 3, 35)]).logged 35 = true ∧ (up [(.det_DET_SEQ, 3, 35)]).logged 3 = false ∧ (up []).refresh = .active ∧
    (up []).job (.rung 2) = none ∧ (up [(.casc_STATE, 0, 3)]).get .casc_STATE = 3 := by decide +kernel

theorem protect_length (key : List Byte) (hdr : Nat) (payload : List Byte) : (protect key hdr payload).length = payload.length + 16 := by
  simp only [protect, List.length_append, List.length_replicate, List.length_take]
  omega

/-- Frames of device 1 for the entry of `member`: a DATA frame of channel 0, and of the control flow an ACK, a PEG and an ABORT. -/
def Sys2Proof.Tests.rx (kind flow n : Nat) : Frame :=
  let h := frameHeader { kind := kind } false 1 1 2 0 flow 9 0 0
  { hdr := BitVec.ofNat 256 h, payload := List.replicate n 0, raw := protect (member.fabricKey 1) h (List.replicate n 0) }

theorem test_FabricLinks_rx : (∀ p ∈ [(0, 64), (1, 16), (2, 8), (4, 16)], lengthFits p.1 p.2 = true ∧ (rx p.1 0xFFFF p.2).raw.length = p.2 + 16) ∧
    (∀ k n, (rx k 0xFFFF n).raw = protect (member.fabricKey 1) (frameHeader { kind := k } false 1 1 2 0 0xFFFF 9 0 0) (rx k 0xFFFF n).payload) ∧
    (∀ k ∈ [0, 1, 2, 4], let h := (rx k 0xFFFF 0).hdr.toNat
      h = frameHeader { kind := k } false 1 1 2 0 0xFFFF 9 0 0 ∧ hdrKind h = k ∧ hdrDstDev h = member.get .fab_DEV_ID ∧
      hdrReserved h = false ∧ bits h 0 4 = 1 ∧ member.entryOf (hdrFjob h) = some 1 ∧ hdrSrcDev h ∈ member.members 1 ∧
      (hdrBody h []).run = member.get .fjob_RUN 1 % 2 ^ 16 ∧ hdrFlow h = 0xFFFF ∧
      (member.flow 1 0xFFFF 1 false).map (fun f => (decide (f.psn = hdrPsn h), f.early)) = some (true, []) ∧
      (member.flow 1 0xFFFF 1 true).isSome = true ∧ member.fabricJob 1 = none) ∧
    (let s : State := { member with jobs := [job], graphs := [fabricGraph] }
     s.fabricJob 1 = some job ∧ s.job job.id = some job ∧ job.fault = 0 ∧ job.finished = false) ∧
    (let s := member.setAll 2000 [(.peg_REMOTE_ACCESS, 1)]
     s.pegOwned 2000 1 = true ∧ s.get .peg_REMOTE_ACCESS 2000 ≠ 0) ∧
    (let s := (fabric.set .kport_LINK_UP 2 0).set .kport_ENABLED 2 0
     s.egress 1 9 0 = none ∧ s.get .route_ENABLE 1 ≠ 0) := by
  refine ⟨?_, fun _ _ => rfl, ?_, ?_, ?_, ?_⟩
  · have h : ∀ k n, (rx k 0xFFFF n).raw.length = n + 16 := fun k n => by simp only [rx, protect_length, List.length_replicate]
    exact fun p hp => ⟨by revert p; decide, h _ _⟩
  all_goals decide +kernel

theorem test_FabricTables_rest : (let s : State := { fabric.setAll 32 [(.rgn_KIND, 3), (.rgn_STATE, 2)] with busMaster := true }
    s.place 1 (s.get .fjob_MEMBERS 1) = some (.host 0) ∧ s.busMaster = true ∧ s.d3hot = false ∧
      (s.askMembers 1).outbox = [.hostRead 0 0 4]) ∧
    (let s : State := { fabric with fabric := { forwards := [{ port := 2, hdr := frameHeader { kind := 0 } false 2 2 2 1 0 9 0 0, payload := [] }] } }
     s.running = true ∧ s.fabric.forwards.filter (fun x => hdrDstDev x.hdr == 1) ≠ [] ∧ (∀ m ∈ s.fabric.members, 1 ∉ m.2) ∧
      (after (.routeDisable 1) s).get .kport_HOP_EXPIRED 2 = 1) := by decide +kernel

theorem test_FabricSends_rest : (let r : Resident := { bent := 0, slot := 0, job := .ring 1, regions := [(0, 0)] }
    let f : Flow := { ctx := 1, flow := 0, peer := 1, send := true, credit := 1 }
    let s : State := { member.set .peg_COUNT 2000 1 with
      graphs := [fabricGraph], jobs := [job], residents := [r], fabric := { member.fabric with flows := [f] }
      lofts := { tiles := [{ bent := 0, slot := 0, region := 0, place := 0, desc := { poison := true } }] } }
    s.fabricJob 1 = some job ∧ ((s.channels job).find? (fun ch => ch.num == 0 && ch.send)).isSome = true ∧
      s.flow 1 0 1 true = some f ∧ (s.regionRef job 0).any (fun r => s.mayConsume r 0 && (s.tileAt r 0).isSome) = true) ∧
    (let s : State := { member with
      graphs := [fabricGraph], jobs := [job], waits := [{ peg := 2001, target := 1, job := some (.ring 1), who := .release 0 1 }] }
     (s.jobBarriers job).zipIdx.find? (fun x => s.atBarrier job x.1 x.2) = none) ∧
    (let x : SentFrame := { psn := 0, body := { kind := 0 }, sent := true }
     let s : State := { member with fabric := { flows := [{ ctx := 1, flow := 0, peer := 1, send := true, unacked := [x] }] } }
     ¬∀ f ∈ s.fabric.flows, f.ctx = 1 → f.send = true → f.flow ≠ 0xFFFF → ∀ u ∈ f.unacked, u.body.kind ≠ 0) := by decide +kernel

theorem test_Outcomes : (let s := up [(.wedge_KEY_BUSY, 0, 1)]
    (∀ x ∈ s.known.tags, x.1 ≠ s.wedge.dk ∨ x.2.1 ≠ s.get .wedge_KEY_WINDOW) ∧ (∀ x ∈ s.known.tokens, x.1 ≠ s.get .wedge_LC_TOKEN) ∧
      s.tagOutcome true = true ∧ s.tagOutcome false = false ∧
      ({ s with known := { tags := [(s.wedge.dk, 0, false)], tokens := [(0, false)] } } : State).tagOutcome true = false ∧
      ({ s with known := { tags := [(s.wedge.dk, 0, false)], tokens := [(0, false)] } } : State).tokenOutcome true = false) ∧
    (let s : State := { up [(.wedge_LIFE_CYCLE, 0, 4)] with boot := { phase := .halted } }
     s.boot.phase = .halted ∧ s.get .wedge_LIFE_CYCLE = 4 ∧ (after (.attestGo 3) s).get .wedge_ATTEST_REASON = 0x0904) := by decide +kernel

theorem test_Flash_rest : flashSize {} = some 0 ∧ flashSize { megabits := 9000 } = some 3 ∧ flashSize { megabits := 511 } = none ∧
    flashSize { answers := false } = none ∧ flashSize { erase4K := false } = none ∧ flashSize { pageBytes := 512 } = none ∧
    (∀ op ∈ [1, 3, 5, 6], let s : State := { up [(.dom_STATE, 146, 2), (.start_UPD_BUSY, 0, 1), (.start_UPD_BYTES, 0, 1)] with
        boot := { phase := .running, update := some ⟨op, 0, 0, 0, 1⟩ } }
      s.boot.update = some ⟨op, 0, 0, 0, 1⟩ ∧ s.get .dom_STATE 146 = 2 ∧ (after (.updDone true {}) s).get .start_UPD_BUSY = 0) ∧
    (let s : State := { State.reset with boot := { phase := .ready, update := some ⟨1, 0, 0, 0, 0⟩ } }
     s.boot.phase = .ready ∧ s.boot.update ≠ none ∧ after .startUpComplete s = s) := by decide +kernel

theorem test_Domains_rest : (up []).drained 85 = true ∧
    (let s : State := { up [(.dom_TARGET, 77, 2), (.dom_CHANGING, 77, 1), (.dom_STATE, 69, 2), (.dom_STATE, 151, 2), (.dom_STATE, 150, 2),
        (.dom_STATE, 109, 2), (.dom_TARGET, 69, 1), (.dom_CHANGING, 69, 1)] with clocks := { isolated := [(69, 0)] } }
     69 ∈ domParents 77 ∧ s.isolated 69 = true ∧ after (.domainExitDone 77) s = s) ∧
    (let s : State := { up [(.cam_ENABLE, 5, 1), (.cam_JOINTER, 5, 0), (.tmpl_HEIGHT_M1, 0, 9)] with camera := { frames := [{ frame with served := 1 }] } }
     s.drained 69 = false) ∧
    (let s : State := { up [(.dom_STATE, 111, 2), (.dom_TARGET, 111, 1), (.dom_CHANGING, 111, 1)] with clocks := { isolated := [(111, 0)] }, now := 100 }
     s.clocks.isolated.find? (fun p => p.1 == 111) = some (111, 0) ∧ 0 + 4 * 25 ≤ s.now ∧ s.get .dom_TARGET 111 = 1 ∧
      (after (.wakeI3cIbi 0) s).get .clk_LAST_SRC = 7 ∧ after (.wakeI3cIbi 0) { s with now := 99 } = { s with now := 99 }) := by decide +kernel

theorem test_Filler : (let s : State := { resident [(.pwr_FILLER_LEVEL_MAX, 0, 12), (.pwr_FILLER_MAX_US, 0, 200), (.pwr_DUTY, 0, 16)] with
      waits := [{ peg := 2000, target := 4, job := some (.ring 1), who := .release 0 1 }], graphs := [{ fabricGraph with ops := [] }] }
    s.bentComputes 0 = true ∧ s.barrierWaits 0 = [(2001, 0)] ∧ s.get .pwr_TEMP_HIGH = 0 ∧ s.power.fillers = [] ∧
      [Station.mortise, .plane, .scribe, .auger, .scarf, .truss, .dowel, .froe, .gauge].all (fun st => (s.pickWork 0 st).isNone) = true ∧
      (after (.fillerStart 0) s).power.fillers = [{ bent := 0, since := 0, waits := [(2001, 0)], level := 0 }] ∧
      (let u : State := { s with power := { mortiseTiles := [(0, 1)] } }
       Store.get 0 u.power.mortiseTiles 0 ≠ 0 ∧ microseconds 0 u.now < 20)) ∧
    (let f : Filler := { bent := 0, since := 0, level := 3 }
     let s : State := { up [] with power := { fillers := [f] } }
     f.ramp = none ∧ (after (.fillerLimitExpiry 0) s).get .pwrb_FILLER_LIMITS 0 = 1 ∧
      (after (.fillerLimitExpiry 0) s).power.fillers.all (fun f => f.ramp != none) = true) := by decide +kernel

theorem test_SelfTest_rest : (let s : State := { whole.set .rec_SHUTDOWN_STATE 0 1 with boot := { phase := .running } }
    s.get .rec_SHUTDOWN_STATE = 1 ∧ s.boot.update = none) ∧
    (let s : State := { whole with boot := { phase := .running, update := some ⟨1, 0, 0, 0, 0⟩ }, recovery := { test := some ⟨2, [8]⟩ } }
     s.recovery.test = some ⟨2, [8]⟩ ∧ s.boot.update ≠ none ∧ after (.tsProgramDone [] 0 true) s = s) ∧
    (let s : State := { whole with recovery := { test := some ⟨2, [8]⟩ } }
     s.recovery.test = some ⟨2, [8]⟩ ∧ s.boot.update = none) ∧
    (let s := whole.set .dom_STATE 145 0
     s.get .dom_STATE 145 ≠ 2 ∧ (after .tsUnit s).deferred = [(145, .testGo 1)]) := by decide +kernel

/-! ## Well-formed commands: an ill-formed term for each check -/

theorem test_WellFormed : ¬WellFormed (.registerWrite .bar0 2 .w32 0) ∧ ¬WellFormed (.daaGo 0 [⟨1, 0, 0⟩, ⟨1, 2, 3⟩]) ∧
    ¬WellFormed (.pdmFrameBoundary {}) ∧ ¬WellFormed (.kertikLinkUp 0 [1, 1]) ∧
    ¬WellFormed (.rtoExpiry 0 65536) ∧ ¬WellFormed (.ackDelayExpiry 0 65536) ∧ ¬WellFormed (.flowTimeout 0 65536) ∧
    ¬WellFormed (.ucieLinkTrain ⟨5, 0⟩ ⟨4, 0⟩) ∧ ¬WellFormed (.tempSample []) ∧ ¬WellFormed (.foremanPoll [1, 1] { val := [] }) ∧
    ¬WellFormed (.lastResort 0) ∧ ¬WellFormed (.lastResort 6) ∧
    ¬WellFormed (.shutdownDone [{ u := 1, pass := true }, { u := 1, pass := false }] true) ∧
    ¬WellFormed (.tsProgramDone [{ u := 1, pass := true }, { u := 1, pass := false }] 0 true) ∧
    ¬WellFormed (.porstNRelease 0 { verdicts := [{ u := 1, pass := true }, { u := 1, pass := false }] }) ∧
    ¬WellFormed (.editGo 0 3 0 0) ∧ ¬WellFormed (.channelRetrain 0 true ⟨2 ^ 36, none⟩) ∧ ¬WellFormed (.patrolRead (.corrected (2 ^ 36))) ∧
    ¬WellFormed (.tileCompute 0 .plane { loft := .corrected 0 786432 }) ∧ ¬WellFormed (.jobStart 0 { outMem := .corrected (2 ^ 36) }) ∧
    ¬WellFormed (.stateFetchDone 0 0 (.corrected (2 ^ 36))) := by decide +kernel

theorem test_WellFormed_lengths : ¬WellFormed (.csiLinePacket 0 0 0 .clean true (List.replicate 65536 0)) ∧
    ¬WellFormed (.csiEmbeddedPacket 0 0 .clean true (List.replicate 65536 0)) ∧ ¬WellFormed (.fabricJobEnable 0 (List.replicate 513 0)) ∧
    ¬WellFormed (.kertikDataRx 0 { hdr := 0, payload := List.replicate 4145 0 }) := by
  have long : ∀ n m : Nat, m ≤ n → ¬decide ((List.replicate n (0 : Byte)).length < m) = true := by
    intro n m h
    rw [List.length_replicate]
    exact fun g => absurd (of_decide_eq_true g) (by omega)
  have long' : ∀ n m : Nat, m < n → ¬decide ((List.replicate n (0 : BitVec 16)).length ≤ m) = true := by
    intro n m h
    rw [List.length_replicate]
    exact fun g => absurd (of_decide_eq_true g) (by omega)
  have long'' : ∀ n m : Nat, m < n → ¬decide ((List.replicate n (0 : Byte)).length ≤ m) = true := by
    intro n m h
    rw [List.length_replicate]
    exact fun g => absurd (of_decide_eq_true g) (by omega)
  exact ⟨long 65536 65536 (by omega), long 65536 65536 (by omega), long' 513 512 (by omega), long'' 4145 4144 (by omega)⟩

theorem test_WellFormed_accepts : WellFormed (.registerWrite .bar0 4 .w32 0) ∧ WellFormed (.lastResort 5) ∧ WellFormed (.editGo 0 5 0 0) ∧
    WellFormed (.tileCompute 0 .plane { loft := .corrected 0 786431 }) := by decide +kernel

/-! ## Reads: Table Stations-7 (REACHED is bit 12 of DW3), Table Stations-6 (the ADD alias reads COUNT), 00 R7, Table Host-2 -/

theorem test_reads :
    let s := up [(.peg_ENABLE, 2000, 1), (.peg_COUNT, 2000, 5), (.peg_THRESH, 2000, 3), (.pba_PENDING, 9, 1)]
    s.hostRead .bar0 0x0C007D00 .w32 = 5 ∧ s.hostRead .bar0 0x0C007D00 .w64 = 5 + 3 * 2 ^ 32 ∧ s.hostRead .bar0 0x0C007D04 .w8 = 3 ∧
    s.hostRead .bar0 0x0C007D0C .w32 = 0x1000 ∧ s.hostRead .bar0 0x0C007D01 .w32 = 0 ∧
    s.hostRead .bar0 (0x0C100000 + 8000) .w32 = 5 ∧ s.hostRead .bar0 0x0F058000 .w32 = 0x200 := by decide +kernel

/-! ## Pins: Table Package-5 by columns (reset, RETENTION, coolant stop, last resort), and the D-PHY positions of Table Package-2 -/

theorem test_pins :
    let s := up [(.dom_STATE, 111, 1), (.dom_STATE, 85, 2), (.dom_STATE, 115, 2), (.rasp_MODE0, 0, 1)]
    let stop := s.set .pwr_COOLANT_STOP 0 1
    let lost : State := { s with boot := { phase := .running, lastResort := true } }
    State.reset.pinState .xspiResetN = .low ∧ State.reset.pinState .faultN = .released ∧ State.reset.pinState (.mem 3) = .highZ ∧
    s.pinState (.i3cSda 5) = .wakeArmed ∧ s.pinState (.i3cScl 5) = .pulledHigh ∧ s.pinState (.csi 0 3) = .normal ∧
    s.pinState (.csi 1 3) = .highZ ∧ s.pinState (.pdmClk 0) = .clock 768 ∧ s.pinState .xspiResetN = .high ∧
    stop.pinState .faultN = .asserted ∧ stop.pinState (.csi 0 3) = .highZ ∧ stop.pinState .smbClk = .answers ∧
    lost.pinState .smbClk = .nacked ∧ lost.pinState (.mem 0) = .selfRefresh ∧ lost.pinState (.csi 0 3) = .normal ∧
    csiWire false 5 = .dataLane 1 true ∧ csiWire true 4 = .trio 1 1 := by decide +kernel

/-! ## Words: the table gives no row bits -/

theorem test_decode : decodeTableWord 32 5 = none ∧ State.reset.withFetchWord 32 5 = State.reset := by decide
end

section
/-! SUPPORT. Every command keeps a canonical state canonical: one arm a command, each by the law of the operation that it calls. -/

namespace Sys2Proof.Machine

/-- Whatever next state the meaning `m` answers from a canonical state is canonical. -/
def KeepsCanonical (m : State → Host.Outcome State Fault Refusal) : Prop :=
  ∀ s t : State, s.Canonical → m s = .next t → t.Canonical

/-- The meaning of a command that always answers a next state. -/
theorem KeepsCanonical.next {f : State → State} (h : ∀ s : State, s.Canonical → (f s).Canonical) :
    KeepsCanonical (fun s => .next (f s)) := by
  intro s t hs ht
  cases ht
  exact h s hs

/-- The meaning of a command that is a host write: the gate lets the write pass, or counts it, or leaves the state. -/
theorem KeepsCanonical.hostWrite {p : Target} {f : State → State} (h : ∀ s : State, s.Canonical → (f s).Canonical) :
    KeepsCanonical (fun s => .next (s.hostWrite p f)) :=
  .next fun s hs => hostWrite_canon s p f h hs

theorem canon_ite {p : Prop} [Decidable p] {s t : State} (hs : s.Canonical) (ht : t.Canonical) :
    (if p then s else t).Canonical := by
  split
  · exact hs
  · exact ht

/-! ## Commands whose meaning is more than one call -/

theorem execRegisterWrite_canon (bar : Bar) (off : Nat) (width : Width) (value : DWord) :
    KeepsCanonical (execRegisterWrite bar off width value) := by
  intro s t hs ht
  unfold execRegisterWrite at ht
  split at ht
  · cases ht
  · cases ht
    exact registerWrite_canon s bar off width _ hs

theorem execPegEvqHeadWrite_canon (h : BitVec 16) : KeepsCanonical (execPegEvqHeadWrite h) :=
  .hostWrite fun s hs => canon_ite (canon_set s _ _ _ hs) hs

theorem execContextResident_canon (j : JobId) (n : Met (Fin 8)) : KeepsCanonical (execContextResident j n) :=
  .next fun s hs =>
    have ht := contextResident_canon s j n.val.val n.loft n.wr hs
    canon_ite ht (fillersEnd_canon _ (receiveHeld_canon _ j ht))

theorem execContextRestored_canon (n : Met (Fin 8)) (sl : Fin 64) : KeepsCanonical (execContextRestored n sl) := by
  refine .next fun s hs => awaken_canon s _ (fun s hs => canon_ite hs ?_) hs
  split
  · exact receiveHeld_canon _ _ (contextRestored_canon s _ _ _ hs)
  · exact hs

theorem execConfigSpaceWrite_canon (w : ConfigWrite) (d0 : Bool) : KeepsCanonical (execConfigSpaceWrite w d0) :=
  .next fun s hs => canon_forEach _ _ _ (fun v s hs => flushVector_canon v s hs)
    (canon_ite (configure_canon s w hs) (configReset_canon s true hs))

theorem execAckDelayExpiry_canon (c : Fin 16384) (flow : Nat) : KeepsCanonical (execAckDelayExpiry c flow) := by
  refine .next fun s hs => ?_
  split
  · exact canon_ite hs (sendAck_canon s _ _ _ _ hs)
  · exact hs

theorem execKertikLinkDown_canon (k : Fin 8) (fecUncorrected : Bool) : KeepsCanonical (execKertikLinkDown k fecUncorrected) :=
  .next fun s hs =>
    have hd := canon_bump _ .kport_RETRAINS k.val 1 (canon_setAll k.val [(.kport_LINK_UP, 0), (.kport_LINK_DOWN_SEEN, 1)] s hs)
    canon_ite hs (canon_ite (canon_set _ _ _ _ (canon_bump _ _ _ _ hd)) hd)

theorem execClockFault_canon : KeepsCanonical execClockFault :=
  .next fun s hs => canon_ite (canon_setAll 0 _ _ (canon_bump s .clk_CLOCK_FAULTS 0 1 hs)) hs

theorem execDroopFire_canon (n : Fin 8) : KeepsCanonical (execDroopFire n) :=
  .next fun s hs => canon_ite hs (canon_bump s .pwrb_DROOP_EVENTS n.val 1 hs)

theorem execResultSlotWrite_canon (j : Met JobId) : KeepsCanonical (execResultSlotWrite j) :=
  .next fun s hs => canon_ite (writes_canon s none j.rd j.wr _ (fun s hs => resultSlotWrite_canon s _ hs) hs)
    (resultSlotWrite_canon s _ hs)

theorem execHeartbeatAdd_canon (active : WithLate Bool) : KeepsCanonical (execHeartbeatAdd active) :=
  .next fun s hs =>
    have hd := dropAll_canon s active.late hs
    canon_ite hd (canon_ite (pegAdd_canon _ 0 1 hd) (canon_ite hd (pegAdd_canon _ 1 1 hd)))

theorem execUnitFenced_canon (u : Fin 62) : KeepsCanonical (execUnitFenced u) :=
  .next fun s hs => canon_ite (recoveryEvent_canon _ _ _ (canon_set _ _ _ _ (canon_set s _ _ _ hs))) hs

theorem execAttestGo_canon (value : Word) : KeepsCanonical (execAttestGo value) :=
  .next fun s hs => canon_ite (canon_setAll 0 _ s hs) (hostWrite_canon s _ _ (fun s hs => attestGo_canon s _ hs) hs)

/-! ## All of them -/

theorem exec_canon (c : Instr) : KeepsCanonical (exec c) := by
  cases c with
  | registerWrite bar off width value => exact execRegisterWrite_canon bar off width value
  | clippedLoRead _ => exact .next fun s hs => latchClipped_canon s _ hs
  | histSamplesLoRead _ => exact .next fun s hs => latchHist_canon s _ hs
  | jobEntryEnable _ _ => exact .hostWrite fun s hs => jobEntryEnable_canon s _ _ hs
  | jobEntryDisable _ _ => exact .hostWrite fun s hs => jobEntryDisable_canon s _ _ hs
  | jobDb _ _ => exact .hostWrite fun s hs => jobDb_canon s _ _ hs
  | ringDb _ _ => exact .hostWrite fun s hs => ringDb_canon s _ _ hs
  | pegEnable _ _ => exact .hostWrite fun s hs => pegEnable_canon s _ _ hs
  | pegDisable _ => exact .hostWrite fun s hs => pegDisable_canon s _ hs
  | pegCountWrite _ _ => exact .hostWrite fun s hs => hostPeg_canon s _ _ (fun s hs => pegSet_canon s _ _ hs) hs
  | pegThreshWrite _ _ => exact .hostWrite fun s hs => hostPeg_canon s _ _ (fun s hs => pegThresh_canon s _ _ hs) hs
  | pegAddAliasWrite _ _ => exact .hostWrite fun s hs => hostPeg_canon s _ _ (fun s hs => pegAdd_canon s _ _ hs) hs
  | pegEvqHeadWrite h => exact execPegEvqHeadWrite_canon h
  | pegWaitComplete _ => exact .next fun s hs => settleAll_canon _ (pegWaitComplete_canon s _ hs)
  | jobStart _ _ => exact .next fun s hs => jobStart_canon s _ _ hs
  | contextResident j n => exact execContextResident_canon j n
  | contextRestored n sl => exact execContextRestored_canon n sl
  | tileCompute _ _ _ => exact .next fun s hs => tileCompute_canon s _ _ _ hs
  | hostReadTimeout _ => exact .next fun s hs => hostReadTimeout_canon s _ hs
  | tableBuildDone _ => exact .next fun s hs => tableBuildDone_canon s _ _ _ hs
  | tableSlotRetire _ => exact .next fun s hs => retireTable_canon s _ hs
  | jobTimeout _ => exact .next fun s hs => jobTimeout_canon s _ hs
  | resultSlotWrite j => exact execResultSlotWrite_canon j
  | deferredReclaim _ => exact .next fun s hs => awaken_canon s _ (fun s hs => writes_canon s _ _ _ _ (fun s hs => reclaimPool_canon s _ hs) hs) hs
  | stateFetchDone _ _ _ => exact .next fun s hs => awaken_canon s _ (fun s hs => fetchDone_canon s _ _ _ hs) hs
  | chunkCommit _ => exact .next fun s hs => awaken_canon s _ (fun s hs => settleContext_canon _ _ (chunkCommit_canon s _ _ _ hs)) hs
  | swapOut _ _ => exact .next fun s hs => swapOut_canon s _ _ hs
  | weightStreamRead _ _ => exact .next fun s hs => awaken_canon s _ (fun s hs => streamRead_canon s _ _ hs) hs
  | arrayRetire _ _ _ => exact .next fun s hs => arrayRetire_canon s _ _ _ hs
  | poolEnable _ => exact .hostWrite fun s hs => poolEnable_canon s _ hs
  | poolReady _ => exact .next fun s hs => awaken_canon s _ (fun s hs => writes_canon s _ _ _ _ (fun s hs => poolReady_canon s _ hs) hs) hs
  | poolDisable _ => exact .hostWrite fun s hs => poolDisable_canon s _ hs
  | sessionEnable _ _ => exact .hostWrite fun s hs => entryEnable_canon s _ _ _ _ hs
  | sessionDisable _ => exact .hostWrite fun s hs => sessionDisable_canon s _ _ _ hs
  | streamEnable _ _ => exact .hostWrite fun s hs => entryEnable_canon s _ _ _ _ hs
  | streamDisable _ => exact .hostWrite fun s hs => streamDisable_canon s _ hs
  | resetPendingWrite _ => exact .hostWrite fun s hs => resetPendingWrite_canon s _ hs
  | openSeq _ _ _ => exact .hostWrite fun s hs => edit_canon s _ _ _ _ hs
  | closeSeq _ _ _ => exact .hostWrite fun s hs => edit_canon s _ _ _ _ hs
  | truncateSeq _ _ _ => exact .hostWrite fun s hs => edit_canon s _ _ _ _ hs
  | forkSeq _ _ _ => exact .hostWrite fun s hs => edit_canon s _ _ _ _ hs
  | editDone _ => exact .next fun s hs => editDone_canon s _ _ _ hs
  | regionEnable _ _ _ => exact .hostWrite fun s hs => regionEnable_canon s _ _ _ hs
  | regionReady _ _ => exact .next fun s hs => regionReady_canon s _ _ hs
  | regionDisable _ _ => exact .hostWrite fun s hs => regionDisable_canon s _ _ hs
  | scrubPageDone => exact .next fun s hs => scrubDone_canon s hs
  | patrolRead _ => exact .next fun s hs => patrolRead_canon s _ hs
  | channelRetrain _ _ _ => exact .next fun s hs => channelRetrain_canon s _ _ _ hs
  | selfRefreshEntry => exact .next fun s hs => selfRefreshEntry_canon s hs
  | selfRefreshExit => exact .next fun s hs => serveWaiting_canon _ (selfRefreshExit_canon s hs)
  | csiFrameStart _ _ _ _ => exact .next fun s hs => frameStart_canon s _ _ _ _ hs
  | csiFrameEnd _ _ _ => exact .next fun s hs => frameEnd_canon s _ _ _ hs
  | csiLinePacket _ _ _ _ _ _ => exact .next fun s hs => longPacket_canon s _ _ _ _ _ _ hs
  | csiEmbeddedPacket _ _ _ _ _ => exact .next fun s hs => longPacket_canon s _ _ _ _ _ _ hs
  | csiLineStartEnd _ _ _ => exact .next fun s hs => lineStartEnd_canon s _ _ _ hs
  | idleTimeout _ => exact .next fun s hs => idleTimeout_canon s _ hs
  | lineSetServe _ => exact .next fun s hs => writes_canon s _ _ _ _ (fun s hs => lineSetServe_canon s _ hs) hs
  | frameRecordWrite _ => exact .next fun s hs => writes_canon s _ _ _ _ (fun s hs => frameRecordWrite_canon s _ hs) hs
  | reentrySetServe _ => exact .next fun s hs => writes_canon s _ _ _ _ (fun s hs => reentrySetServe_canon s _ _ hs) hs
  | glancePeriodExpiry => exact .next fun s hs => canon_ite hs hs
  | glanceFrame => exact .next fun s hs => glanceFrame_canon s hs
  | glanceSrcWrite _ => exact .hostWrite fun s hs => whenOn_canon s _ _ _ (fun s hs => glanceSource_canon s _ hs) hs
  | cameraStreamEnable _ => exact .hostWrite fun s hs => camEnable_canon s _ hs
  | cameraStreamDisable _ => exact .hostWrite fun s hs => camDisable_canon s _ hs
  | loopEnable _ => exact .hostWrite fun s hs => loopEnable_canon s _ hs
  | loopDisable _ => exact .hostWrite fun s hs => canon_ite (canon_setAll _ _ s hs) hs
  | loopStopped _ => exact .next fun s hs => canon_ite (loopOff_canon s _ hs) hs
  | loopJobStart _ _ => exact .next fun s hs => loopJobStart_canon s _ _ hs
  | i3cRecordTransfer _ _ => exact .next fun s hs => recordTransfer_canon s _ _ hs
  | i3cIbi _ _ _ => exact .next fun s hs => ibi_canon s _ _ _ hs
  | hotJoin _ => exact .next fun s hs => canon_ite (canon_set s _ _ _ hs) hs
  | daaGo _ _ => exact .hostWrite fun s hs => whenOn_canon s _ _ _ (fun s hs => runDaa_canon s _ _ hs) hs
  | manGo _ => exact .hostWrite fun s hs => whenOn_canon s _ _ _ (fun s hs => runManual_canon s _ hs) hs
  | pdmFrameBoundary _ => exact .next fun s hs => writes_canon s _ _ _ _ (fun s hs => frameBoundary_canon s _ hs) hs
  | beamCommit => exact .hostWrite fun s hs => whenOn_canon s _ _ _ (fun s hs => beamCommit_canon s hs) hs
  | awlHop _ => exact .next fun s hs => awlHop_canon s hs
  | rung1JobStart _ => exact .next fun s hs => rung1Start_canon s _ hs
  | rung2JobStart _ => exact .next fun s hs => rung2Start_canon s _ hs
  | rung2HoldExpiry => exact .next fun s hs => canon_ite hs (endRung2_canon s hs)
  | release => exact .hostWrite fun s hs => endRung2_canon s hs
  | rung3JobStart _ => exact .next fun s hs => rung3Start_canon s _ hs
  | cascadeEnable => exact .hostWrite fun s hs => cascadeEnable_canon s hs
  | cascadeDisable => exact .hostWrite fun s hs => cascadeDisable_canon s hs
  | cascadeCleared => exact .next fun s hs => cascadeCleared_canon s hs
  | routeEnable _ => exact .hostWrite fun s hs => routeEnable_canon s _ hs
  | routeDisable _ => exact .hostWrite fun s hs => routeDisable_canon s _ hs
  | fabricJobEnable _ _ => exact .hostWrite fun s hs => fabricJobEnable_canon s _ _ hs
  | fabricJobDisable _ => exact .hostWrite fun s hs => fabricJobDisable_canon s _ hs
  | testRuleEnable _ _ _ => exact .hostWrite fun s hs => whenOn_canon s _ _ _ (fun s hs => testRuleEnable_canon s _ _ _ hs) hs
  | reorderRelease _ => exact .next fun s hs => settleAll_canon _ (reorderRelease_canon s _ hs)
  | kertikLinkUp _ _ => exact .next fun s hs => linkUp_canon s _ _ hs
  | kertikLinkDown k fecUncorrected => exact execKertikLinkDown_canon k fecUncorrected
  | kertikDataRx _ _ => exact .next fun s hs => rxKind_canon s _ _ _ hs
  | kertikAckRx _ _ => exact .next fun s hs => settleAll_canon _ (rxKind_canon s _ _ _ hs)
  | kertikPegRx _ _ => exact .next fun s hs => rxKind_canon s _ _ _ hs
  | kertikKeepaliveRx _ _ => exact .next fun s hs => rxKind_canon s _ _ _ hs
  | kertikAbortRx _ _ => exact .next fun s hs => rxKind_canon s _ _ _ hs
  | kertikDataTx _ _ _ => exact .next fun s hs => dataTx_canon s _ _ _ hs
  | ackDelayExpiry c flow => exact execAckDelayExpiry_canon c flow
  | rtoExpiry _ _ => exact .next fun s hs => rtoExpiry_canon s _ _ hs
  | flowTimeout _ _ => exact .next fun s hs => flowTimeout_canon s _ _ hs
  | keepaliveTx _ => exact .next fun s hs => keepaliveTx_canon s _ hs
  | peerSilent _ => exact .next fun s hs => canon_ite (canon_set s _ _ _ hs) hs
  | barrierArrive _ => exact .next fun s hs => settleAll_canon _ (barrierArrive_canon s _ hs)
  | fillerStart _ => exact .next fun s hs => fillerStart_canon s _ hs
  | fillerLimitExpiry _ => exact .next fun s hs => fillerLimit_canon s _ hs
  | tenantEnable _ => exact .hostWrite fun s hs => tenantEnable_canon s _ hs
  | quotaWrite _ _ _ => exact .hostWrite fun s hs => quotaWrite_canon s _ _ _ hs
  | tenantDisable _ => exact .hostWrite fun s hs => tenantDisable_canon s _ hs
  | contextEnable _ => exact .hostWrite fun s hs => contextEnable_canon s _ hs
  | contextDisable _ => exact .hostWrite fun s hs => contextDisable_canon s _ hs
  | keyGo _ => exact .hostWrite fun s hs => keyGo_canon s _ hs
  | keyDeliveryDone _ => exact .next fun s hs => keyDeliveryDone_canon s _ hs
  | keyErase _ => exact .hostWrite fun s hs => keyErase_canon s _ hs
  | attestGo value => exact execAttestGo_canon value
  | attestSignStart => exact .next fun s hs => signStart_canon s hs
  | attestSignDone => exact .next fun s hs => attestSignDone_canon s hs
  | kemCertSignDone => exact .next fun s hs => certSignDone_canon s hs
  | bufFree _ => exact .hostWrite fun s hs => bufFree_canon s _ hs
  | lcGo _ _ _ => exact .hostWrite fun s hs => lcGo_canon s _ _ _ hs
  | ringEnable _ => exact .hostWrite fun s hs => ringEnable_canon s _ hs
  | ringReady _ => exact .next fun s hs => ringReady_canon s _ hs
  | ringDisable _ => exact .hostWrite fun s hs => ringDisable_canon s _ hs
  | ucieLinkTrain _ _ => exact .next fun s hs => linkTrain_canon s _ _ hs
  | hotReset _ => exact .next fun s hs => configReset_canon s _ hs
  | l1Entry => exact .next fun s hs => canon_ite (setDoms_canon s _ _ hs) hs
  | capHostWrite _ => exact .hostWrite fun s hs => capHostWrite_canon s _ hs
  | smbusStatus => exact .next fun s hs => smbusRead_canon s _ hs
  | smbusCapTrayWrite _ _ => exact .next fun s hs => capTrayWrite_canon s _ _ hs
  | smbusCapTrayRead => exact .next fun s hs => smbusRead_canon s _ hs
  | smbusPwr10ms => exact .next fun s hs => smbusRead_canon s _ hs
  | smbusFloorW => exact .next fun s hs => smbusRead_canon s _ hs
  | smbusCapReason => exact .next fun s hs => smbusRead_canon s _ hs
  | smbusHottest => exact .next fun s hs => smbusRead_canon s _ hs
  | smbusSensors => exact .next fun s hs => smbusRead_canon s _ hs
  | smbusFaultInfo => exact .next fun s hs => smbusRead_canon s _ hs
  | smbusTimeout => exact .next fun _ hs => hs
  | eraseSlot _ _ => exact .hostWrite fun s hs => updateGo_canon s _ _ _ hs
  | program _ _ => exact .hostWrite fun s hs => updateGo_canon s _ _ _ hs
  | readFlash _ _ => exact .hostWrite fun s hs => updateGo_canon s _ _ _ hs
  | verify _ _ => exact .hostWrite fun s hs => updateGo_canon s _ _ _ hs
  | commit _ _ => exact .hostWrite fun s hs => updateGo_canon s _ _ _ hs
  | cancel _ _ => exact .hostWrite fun s hs => updateGo_canon s _ _ _ hs
  | updDone _ _ => exact .next fun s hs => updateDone_canon s _ _ hs
  | restart _ => exact .hostWrite fun s hs => restart_canon s _ hs
  | keydigGo _ => exact .hostWrite fun s hs => keydigGo_canon s _ hs
  | porstNAssert => exact .next fun s hs => canon_ite hs (porst_canon s hs)
  | warmRstNAssert => exact .next fun s hs => canon_ite hs (warmReset_canon s hs)
  | porstNRelease _ _ => exact .next fun s hs => canon_ite (dropAll_canon _ _ (startUp_canon s _ _ _ hs)) hs
  | warmRstNRelease _ _ => exact .next fun s hs => canon_ite (dropAll_canon _ _ (startUp_canon s _ _ _ hs)) hs
  | startUpComplete => exact .next fun s hs => startUpComplete_canon s hs
  | domainEntryRequest _ _ => exact .next fun s hs => canon_ite (entryRequest_canon s _ _ hs) hs
  | domainIsolate _ => exact .next fun s hs => isolate_canon s _ hs
  | domainEntryDone _ => exact .next fun s hs => entryDone_canon s _ hs
  | domainExitRequest _ => exact .next fun s hs => canon_ite (bring_canon s _ hs) hs
  | domainExitDone _ => exact .next fun s hs => exitDone_canon s _ hs
  | idleRetExpiry _ => exact .next fun s hs => canon_ite (entryRequest_canon s _ _ hs) hs
  | idleOffExpiry _ => exact .next fun s hs => canon_ite (entryRequest_canon s _ _ hs) hs
  | wakePeg _ => exact .next fun s hs => wakePeg_canon s _ hs
  | wakeActivity => exact .next fun s hs => canon_ite (wake_canon s _ _ _ hs) hs
  | wakeDemand _ => exact .next fun s hs => wakeDemand_canon s _ hs
  | wakeHostLink _ => exact .next fun s hs => canon_ite (wake_canon s _ _ _ hs) hs
  | wakeGlanceTimer => exact .next fun s hs => wakeGlance_canon s hs
  | wakePowerEvent => exact .next fun s hs => wakePower_canon s hs
  | wakeI3cIbi _ => exact .next fun s hs => canon_ite (wakeEdge_canon s _ _ _ hs) hs
  | wakeCsiSot _ => exact .next fun s hs => canon_ite (wakeEdge_canon s _ _ _ hs) hs
  | clockFault => exact execClockFault_canon
  | referenceAbsent => exact .next fun s hs => canon_ite (canon_set s _ _ _ hs) hs
  | powerSample _ => exact .next fun s hs => powerSample_canon s _ hs
  | controlPeriod => exact .next fun s hs => controlPeriod_canon s hs
  | opChange _ _ => exact .next fun s hs => opChange_canon s _ _ hs
  | opChangeDone _ => exact .next fun s hs => opChangeDone_canon s _ hs
  | droopFire n => exact execDroopFire_canon n
  | stretchEnd _ _ => exact .next fun s hs => stretchEnd_canon s _ _ hs
  | tempSample _ => exact .next fun s hs => tempSample_canon s _ hs
  | coolantOkFall => exact .next fun s hs => coolantFall_canon s hs
  | coolantResume => exact .next fun s hs => coolantResume_canon s hs
  | foremanPoll _ _ => exact .next fun s hs => dropAll_canon _ _ (foremanPoll_canon s _ _ hs)
  | unitFenced u => exact execUnitFenced_canon u
  | spareBentInService _ => exact .next fun s hs => spareInService_canon s _ hs
  | heartbeatAdd active => exact execHeartbeatAdd_canon active
  | heartbeatSample _ _ => exact .next fun s hs => dropAll_canon _ _ (heartbeatSample_canon s _ _ hs)
  | coldSpareLoaded => exact .next fun s hs => coldSpareLoaded_canon s hs
  | lastResort _ => exact .next fun s hs => canon_ite (lastResort_canon s _ hs) hs
  | healthMapUpdate _ => exact .next fun s hs => canon_ite (healthUpdate_canon s _ _ hs) hs
  | shutdownGo => exact .hostWrite fun s hs => shutdownGo_canon s hs
  | shutdownDone _ _ => exact .next fun s hs => shutdownDone_canon s _ _ hs
  | tsUnit => exact .hostWrite fun s hs => testWrite_canon s _ hs
  | tsLoftMarch => exact .hostWrite fun s hs => testWrite_canon s _ hs
  | tsLinkLoopback => exact .hostWrite fun s hs => testWrite_canon s _ hs
  | tsProgramDone _ _ _ => exact .next fun s hs => testDone_canon s _ _ _ hs
  | mainPllRelock => exact .next fun s hs => canon_ite (canon_set s _ _ _ hs) hs
  | configSpaceWrite w d0 => exact execConfigSpaceWrite_canon w d0
  | editGo _ _ _ _ => exact .hostWrite fun s hs => edit_canon s _ _ _ _ hs
  | tsGo _ => exact .hostWrite fun s hs => testWrite_canon s _ hs
/-- Idling for one cycle changes no store but what the registers stood at, and every command keeps the form. -/
theorem step_canon : KeepsCanonical step := by
  intro s t hs ht
  unfold step at ht
  split at ht
  next =>
    cases ht
    exact hs
  next c rest _ =>
    have hq : State.Canonical { s with pending := rest } := hs
    exact exec_canon c { s with pending := rest } t hq ht

end Sys2Proof.Machine

open Sys2Proof Sys2Proof.Machine

/-- Settles O5: a step idles or runs one command, and each command keeps the form by the laws of the operations that it calls. -/
theorem stepKeepsCanonical : Obligations.StepKeepsCanonical :=
  step_canon
end

section
/-! SUPPORT. Reset, the answers of the commands, discarded writes, EVENT bits and messages. -/

namespace Sys2Proof.Machine

/-! ## Reset -/

/-- Nothing has written a register field yet, so each reads its Reset value. -/
theorem State.get_reset (r : Reg) (i : Nat) : State.reset.get r i = r.resetAt i := rfl

theorem reset_canonical : State.reset.Canonical :=
  canon_parts _ _ _ _ _ _ _ _ regsOk_nil (wf_nil 0) check_nil (wf_nil 0) (wf_nil 0) (wf_nil 0) (wf_nil 0xFF) (wf_nil 0xFF)

theorem reset_otp_ok : State.reset.wedge.otp.Ok where
  keys := List.nodup_nil
  digests _ hp := absurd hp List.not_mem_nil
  lifeCycle := Nat.zero_le 4
  returns := Nat.le_refl 3
  svnWrites := Nat.le_refl 32

/-! ## Answers -/

theorem exec_answers {c : Instr} (hc : ∀ bar off width value, c ≠ .registerWrite bar off width value) (s : State) :
    ∃ t, exec c s = .next t := by
  cases c with
  | registerWrite bar off width value => exact absurd rfl (hc bar off width value)
  | _ => exact ⟨_, rfl⟩

/-- Within the BAR a REGISTER_WRITE answers what the register write makes of the state. -/
theorem exec_registerWrite_inside {bar : Bar} {off : Nat} {width : Width} (h : off + width.bytes ≤ barBytes bar) (value : DWord) (s : State) :
    exec (.registerWrite bar off width value) s = .next (s.registerWrite bar off width value.toNat) :=
  if_neg (Nat.not_lt.2 h)

theorem exec_registerWrite_outside {bar : Bar} {off : Nat} {width : Width} (h : barBytes bar < off + width.bytes) (value : DWord) (s : State) :
    exec (.registerWrite bar off width value) s = .fault .outsideBar :=
  if_pos h

/-! ## REGISTER_WRITE by width -/

/-- An access that is narrow or misaligned, or that writes BAR4, is discarded and counted (00 R7, 13 R398). -/
theorem State.registerWrite_discarded {bar : Bar} {off : Nat} {width : Width}
    (h : width = .w8 ∨ width = .w16 ∨ off % width.bytes ≠ 0 ∨ bar = .bar4) (value : Nat) (s : State) :
    s.registerWrite bar off width value = s.accessError :=
  if_pos h

theorem State.registerWrite_bar0_w32 {off : Nat} (h : off % 4 = 0) (value : Nat) (s : State) :
    s.registerWrite .bar0 off .w32 value = s.hostDW off (value % 2 ^ 32) := by
  simp [State.registerWrite, Width.bytes, h]

/-- A 64-bit write acts as two 32-bit writes, the lower address first (00 R7). -/
theorem State.registerWrite_bar0_w64 {off : Nat} (h : off % 8 = 0) (value : Nat) (s : State) :
    s.registerWrite .bar0 off .w64 value = (s.hostDW off (value % 2 ^ 32)).hostDW (off + 4) (value / 2 ^ 32) := by
  simp [State.registerWrite, Width.bytes, h]

theorem State.registerWrite_bar2_w32 {off : Nat} (h : off % 4 = 0) (value : Nat) (s : State) :
    s.registerWrite .bar2 off .w32 value = s.hostDoorbellDW off := by
  simp [State.registerWrite, Width.bytes, h]

/-- A write outside every block of BAR0 is discarded and counted (13 R398). -/
theorem State.hostDW_outside {off : Nat} (h : inBlock off = false) (value : Nat) (s : State) : s.hostDW off value = s.accessError := by
  simp [State.hostDW, h]

theorem State.hostDoorbellDW_reserved {off : Nat} (h : 8 ≤ off % 4096) (s : State) : s.hostDoorbellDW off = s.accessError :=
  if_pos h

/-! ## EVENT bits and messages -/

theorem State.Writes.set (s : State) (r : Reg) (i v : Nat) : s.Writes (s.set r i v) [(r, i, v % 2 ^ r.width)] where
  rest := s.set_eq r i v
  values := by simp
  frame r' i' h := s.get_set_other r r' i i' v (h _ (List.mem_singleton.2 rfl))

/-- ACCESS_ERRORS stops at its largest value. -/
theorem State.accessError_eq (s : State) :
    s.accessError = (s.set .host_ACCESS_ERRORS 0 (min (s.get .host_ACCESS_ERRORS + 1) (2 ^ 32 - 1))).event .host_ACCESS_ERROR := rfl

/-- A bit that is set already, or masked, sends nothing. -/
theorem State.event_silent {s : State} {r : Reg} (hr : r ≠ .host_EVENT_MASK)
    (h : s.get r ≠ 0 ∨ bit (s.get .host_EVENT_MASK) (r.info.bit - Reg.host_ACCESS_ERROR.info.bit) = true) : s.event r = s.set r 0 1 := by
  have hm : (s.set r 0 1).get .host_EVENT_MASK = s.get .host_EVENT_MASK := s.get_set_other _ _ _ _ _ (.inl hr)
  unfold State.event
  simp only [hm]
  refine if_neg fun hc => ?_
  rcases h with h | h <;> simp_all [State.on]

/-- A bit that becomes set and is not masked sends the message of DEV_VECTOR. -/
theorem State.event_rises {s : State} {r : Reg} (hr : r ≠ .host_EVENT_MASK) (hv : r ≠ .host_DEV_VECTOR) (h0 : s.get r = 0)
    (hb : bit (s.get .host_EVENT_MASK) (r.info.bit - Reg.host_ACCESS_ERROR.info.bit) = false) :
    s.event r = (s.set r 0 1).message (s.get .host_DEV_VECTOR) := by
  have hm : (s.set r 0 1).get .host_EVENT_MASK = s.get .host_EVENT_MASK := s.get_set_other _ _ _ _ _ (.inl hr)
  have hd : (s.set r 0 1).get .host_DEV_VECTOR = s.get .host_DEV_VECTOR := s.get_set_other _ _ _ _ _ (.inl hv)
  simp [State.event, State.on, hm, hd, h0, hb]

theorem State.messageHeld_of {s : State} {v : Nat} (h : s.get .msix_CTRL_MASK v ≠ 0 ∨ s.config.msixEnable = false ∨
    s.config.functionMask = true ∨ s.busMaster = false ∨ s.d3hot = true) : s.messageHeld v = true := by
  rcases h with h | h | h | h | h <;> simp [State.messageHeld, State.on, h]

theorem State.messageHeld_not {s : State} {v : Nat} (hm : s.get .msix_CTRL_MASK v = 0) (he : s.config.msixEnable = true)
    (hf : s.config.functionMask = false) (hb : s.busMaster = true) (hd : s.d3hot = false) : s.messageHeld v = false := by
  simp [State.messageHeld, State.on, hm, he, hf, hb, hd]

theorem State.message_held {s : State} {v : Nat} (h : s.messageHeld v = true) : s.message v = s.set .pba_PENDING v 1 :=
  if_pos h

theorem State.message_sent {s : State} {v : Nat} (h : s.messageHeld v = false) :
    s.message v = { s with
      outbox := s.outbox ++ [.msix v (s.get .msix_ADDR_LO v + 2 ^ 32 * s.get .msix_ADDR_HI v) (s.get .msix_DATA v)]
      memory := { s.memory with
        host := Mem.writeNum 0 s.memory.host (s.get .msix_ADDR_LO v + 2 ^ 32 * s.get .msix_ADDR_HI v) 4 (s.get .msix_DATA v) } } :=
  if_neg (by simp [h])

/-- The bytes of a range read what was last written to the whole of it. -/
theorem Mem.readBytes_writeBytes (d : Byte) (m : Mem) (a : Nat) (bs : List Byte) :
    Mem.readBytes d (Mem.writeBytes d m a bs) a bs.length = bs := by
  refine List.ext_getElem (by simp [Mem.readBytes, rangeFrom]) fun i _ h => ?_
  simpa [Mem.readBytes, rangeFrom] using Mem.read_writeBytes_inside d bs m a i h

theorem Mem.readBytes_writeNum (d : Byte) (m : Mem) (a k v : Nat) :
    Mem.readBytes d (Mem.writeNum d m a k v) a k = toBytes k v := by
  have h := Mem.readBytes_writeBytes d m a (toBytes k v)
  rwa [toBytes_length] at h

theorem Mem.read_writeNum_outside (d : Byte) (m : Mem) (a k v b : Nat) (h : b < a ∨ a + k ≤ b) :
    Mem.read d (Mem.writeNum d m a k v) b = Mem.read d m b :=
  Mem.read_writeBytes_outside d _ m a b (by rwa [toBytes_length])

end Sys2Proof.Machine

open Sys2Proof Sys2Proof.Machine

/-- Settles O2: the register store is empty after reset, so each field reads its Reset value. -/
theorem resetState : Obligations.ResetState :=
  ⟨State.get_reset, fun _ => ⟨rfl, rfl, rfl, rfl, rfl, rfl, rfl, rfl, rfl⟩, rfl, rfl, rfl, rfl, rfl, rfl, rfl⟩

/-- Settles O6: empty stores are canonical, and OTP that was never programmed is within its bounds. -/
theorem resetInvariants : Obligations.ResetInvariants :=
  ⟨reset_canonical, reset_otp_ok⟩

/-- Settles O4: REGISTER_WRITE alone has a branch that is not a next state, and it is taken where the bytes leave the BAR. -/
theorem everyCommandRuns : Obligations.EveryCommandRuns :=
  ⟨fun _ s hc => exec_answers hc s, fun _ _ _ value s h => ⟨_, exec_registerWrite_inside h value s⟩,
    fun _ _ _ value s h => exec_registerWrite_outside h value s⟩

/-- Settles O40: each of the accesses ends in a discarded access, and the two halves of a 64-bit one in two. -/
theorem writesDiscarded : Obligations.WritesDiscarded := by
  intro bar off width value s hin
  rw [exec_registerWrite_inside hin]
  refine ⟨fun h => ?_, fun hw ha hb ho => ?_, fun hw ha hb hr => ?_, fun hw ha hb ho ho' => ?_⟩
  · rw [State.registerWrite_discarded h]
  · subst hw hb
    rw [State.registerWrite_bar0_w32 ha, State.hostDW_outside ho]
  · subst hw hb
    rw [State.registerWrite_bar2_w32 ha, State.hostDoorbellDW_reserved hr]
  · subst hw hb
    rw [State.registerWrite_bar0_w64 ha, State.hostDW_outside ho, State.hostDW_outside ho']

/-- Settles O9: a counted access is a count and an EVENT bit, an EVENT bit sends at most one message, and a message is either kept in the
PBA or written to host memory. -/
theorem eventsAndMessages : Obligations.EventsAndMessages := by
  refine ⟨State.accessError_eq, fun s r hr => ?_, fun s v h => ?_, fun s v hm he hf hb hd => ?_⟩
  · have hmask : r ≠ .host_EVENT_MASK := by rintro rfl; simp at hr
    have hvec : r ≠ .host_DEV_VECTOR := by rintro rfl; simp at hr
    have hw : 1 % 2 ^ r.width = 1 := by
      simp only [List.mem_cons, List.not_mem_nil, or_false] at hr
      rcases hr with rfl | rfl | rfl | rfl | rfl | rfl <;> rfl
    have hset := State.Writes.set s r 0 1
    rw [hw] at hset
    exact ⟨fun h => State.event_silent hmask (.inl h) ▸ hset, fun h => State.event_silent hmask (.inr h) ▸ hset,
      State.event_rises hmask hvec⟩
  · rw [State.message_held (State.messageHeld_of h)]
    exact State.Writes.set s .pba_PENDING v 1
  · intro a
    rw [State.message_sent (State.messageHeld_not hm he hf hb hd)]
    exact ⟨rfl, rfl, Mem.readBytes_writeNum 0 _ a 4 _, Mem.read_writeNum_outside 0 _ a 4 _⟩
end

section
/-! SUPPORT. Which fields a 32-bit host write reaches, and what it leaves of each by its type (00 Table Scope-5). -/

namespace Sys2Proof.Machine

/-! ## Folds that pass over idle elements -/

/-- Elements at which a fold leaves its accumulator alone may be left out. -/
theorem foldl_eq_foldl_filter {σ α : Type} {f : σ → α → σ} {p : α → Bool} (h : ∀ a, p a = false → ∀ s, f s a = s) (l : List α)
    (s : σ) : l.foldl f s = (l.filter p).foldl f s := by
  induction l generalizing s with
  | nil => rfl
  | cons a l ih =>
    cases hp : p a with
    | false => simp [hp, h a hp, ih]
    | true => simp [hp, ih]

/-! ## Windows -/

/-- Length of the range of offsets in which the entries of a window lie. -/
def Window.span (w : Window) : Nat := (w.n1 - 1) * w.s1 + (w.n2 - 1) * w.s2 + w.size

/-- Some entry of the window may lie in the offsets from `lo` up to `hi`. -/
def Window.meets (lo hi : Nat) (w : Window) : Bool := decide (w.base < hi) && decide (lo < w.base + w.span)

theorem Window.locate_outside {w : Window} {off : Nat} (h : off < w.base ∨ w.base + w.span ≤ off) : w.locate off = none := by
  unfold Window.locate
  split
  · rfl
  · refine if_neg fun ⟨ha, hb, hd⟩ => ?_
    have ha' := Nat.mul_le_mul_right w.s1 (Nat.le_sub_one_of_lt ha)
    have hb' := Nat.mul_le_mul_right w.s2 (Nat.le_sub_one_of_lt hb)
    unfold Window.span at h
    omega

/-- What a write of the DW at `off` does to the entry of one window. -/
def State.writeWindow (s : State) (w : Window) (off value : Nat) : State :=
  match w.locate off with
  | some (i, d) =>
    if s.windowApplies w i (d - d % 4) then w.fields.foldl (fun s r => s.writeField w i (d - d % 4) value r) s else s
  | none => s

theorem State.writeWindows_eq (s : State) (off value : Nat) :
    s.writeWindows off value = windows.foldl (fun s w => s.writeWindow w off value) s := rfl

/-- Only the windows that meet a range around the offset take part in a write. -/
theorem State.writeWindows_near {lo hi off : Nat} (hlo : lo ≤ off) (hhi : off < hi) (value : Nat) (s : State) :
    s.writeWindows off value = (windows.filter (Window.meets lo hi)).foldl (fun s w => s.writeWindow w off value) s := by
  rw [State.writeWindows_eq]
  refine foldl_eq_foldl_filter (fun w hw s => ?_) windows s
  have hl : w.locate off = none := Window.locate_outside (by simp [Window.meets] at hw; omega)
  simp [State.writeWindow, hl]

/-- The register block of the host port (Table Host-6). -/
def hostWindow : Window := { base := 0x0F040000, size := 0x10000, fields := hostFields }

/-- The tenant table (Table Tenants-2). -/
def tenantWindow : Window :=
  { base := 0x10000000, size := 0x40, n1 := 4096, s1 := 0x40, m1 := 1, lock := some .ten_ENABLE, table := true, fields := tenFields }

theorem windows_meeting_host : windows.filter (Window.meets 0x0F040000 0x0F050000) = [hostWindow] := by decide +kernel

theorem windows_meeting_tenants : windows.filter (Window.meets 0x10000000 0x10040000) = [tenantWindow] := by decide +kernel

/-- Where an offset falls in a table: entry `i` and the byte `d` of that entry. -/
theorem Window.locate_entry {w : Window} {off i d : Nat} (hn : w.n2 = 1) (hs : w.s2 = 0) (hsize : w.size ≤ w.s1) (hi : i < w.n1)
    (hd : d < w.size) (ho : off = w.base + i * w.s1 + d) : w.locate off = some (w.idx0 + i * w.m1, d) := by
  have hpos : 0 < w.s1 := by omega
  have hb : off - w.base = d + i * w.s1 := by omega
  have hq : (off - w.base) / w.s1 = i := by
    rw [hb, Nat.add_mul_div_right d i hpos, Nat.div_eq_of_lt (by omega), Nat.zero_add]
  unfold Window.locate
  rw [if_neg (by omega)]
  dsimp only
  rw [if_neg (Nat.ne_of_gt hpos), hq, hb]
  simp [hn, hs, hi, hd]

/-! ## One field -/

/-- The DW at byte offset `d` holds bits of the field that REGISTER_WRITE may change. -/
def Window.takes (w : Window) (d : Nat) (r : Reg) : Bool :=
  (fieldPart (r.info.bit + w.skew) r.info.width d).isSome && !r.info.own && r.info.kind != .ro

/-- A write leaves a field alone or sets it. -/
theorem State.writeField_cases (s : State) (w : Window) (i d value : Nat) (r : Reg) :
    s.writeField w i d value r = s ∨ ∃ v, s.writeField w i d value r = s.set r i v := by
  unfold State.writeField
  dsimp only
  split
  · exact .inl rfl
  · split
    · exact .inl rfl
    · split
      · exact .inl rfl
      · exact .inr ⟨_, rfl⟩
      · split
        · split
          · exact .inl rfl
          · exact .inr ⟨_, rfl⟩
        · exact .inr ⟨_, rfl⟩
      · exact .inr ⟨_, rfl⟩
      · exact .inr ⟨_, rfl⟩

theorem State.writeField_idle {w : Window} {d : Nat} {r : Reg} (h : w.takes d r = false) (i value : Nat) (s : State) :
    s.writeField w i d value r = s := by
  unfold State.writeField
  dsimp only
  split
  · rfl
  · split
    · rfl
    · have hro : r.info.kind = .ro := by simp_all [Window.takes]
      simp [hro]

theorem State.get_writeField_other {r r' : Reg} (h : r ≠ r') (w : Window) (i d value i' : Nat) (s : State) :
    (s.writeField w i d value r).get r' i' = s.get r' i' := by
  rcases s.writeField_cases w i d value r with he | ⟨v, he⟩ <;> rw [he]
  exact s.get_set_other r r' i i' v (.inl h)

theorem State.writeField_before (s : State) (w : Window) (i d value : Nat) (r : Reg) : (s.writeField w i d value r).before = s.before := by
  rcases s.writeField_cases w i d value r with he | ⟨v, he⟩ <;> rw [he]
  rfl

/-- Only the bits of the DW's fields decide a write of one window's entry. -/
theorem State.writeWindow_at {w : Window} {off i d : Nat} (hl : w.locate off = some (i, d)) (hd : d % 4 = 0)
    (hs : w.fields ≠ sesFields) (ht : w.fields ≠ strFields) (value : Nat) (s : State) :
    s.writeWindow w off value = (w.fields.filter (w.takes d)).foldl (fun s r => s.writeField w i d value r) s := by
  simp [State.writeWindow, hl, hd, State.windowApplies, hs, ht]
  exact foldl_eq_foldl_filter (fun r hr s => State.writeField_idle hr i value s) _ _

/-! ## Field values -/

theorem setBits_low_mod (old w v : Nat) : setBits old 0 w v % 2 ^ w = v % 2 ^ w := by
  simp [setBits, Nat.mod_one]

/-- A whole RW field of the DW takes the bits written. -/
theorem State.writeField_rw {w : Window} {d db : Nat} {r : Reg} (hp : fieldPart (r.info.bit + w.skew) r.info.width d = some (0, db, r.width))
    (ho : r.info.own = false) (hk : r.info.kind = .rw) (i value : Nat) (s : State) :
    s.Writes (s.writeField w i d value r) [(r, i, bits value db r.width)] := by
  have h := State.Writes.set s r i (setBits (s.get r i) 0 r.width (bits value db r.width))
  rw [setBits_low_mod, bits, Nat.mod_mod, ← bits] at h
  simpa [State.writeField, hp, ho, hk] using h

/-- A whole RWL field takes the bits written while the entry's ENABLE is 0. -/
theorem State.writeField_rwl_open {w : Window} {d db : Nat} {r e : Reg} {i : Nat}
    (hp : fieldPart (r.info.bit + w.skew) r.info.width d = some (0, db, r.width)) (ho : r.info.own = false) (hk : r.info.kind = .rwl)
    (hl : w.lock = some e) {s : State} (he : s.get e (i / w.lockDiv) = 0) (value : Nat) :
    s.Writes (s.writeField w i d value r) [(r, i, bits value db r.width)] := by
  have h := State.Writes.set s r i (setBits (s.get r i) 0 r.width (bits value db r.width))
  rw [setBits_low_mod, bits, Nat.mod_mod, ← bits] at h
  simpa [State.writeField, hp, ho, hk, hl, State.on, he] using h

/-- An RWL field keeps its value while the entry's ENABLE is not 0. -/
theorem State.writeField_rwl_locked {w : Window} {d i : Nat} {r e : Reg} (hk : r.info.kind = .rwl) (hl : w.lock = some e) {s : State}
    (he : s.get e (i / w.lockDiv) ≠ 0) (value : Nat) : s.writeField w i d value r = s := by
  unfold State.writeField
  simp only [hk, hl]
  split
  · rfl
  · simp [State.on, he]

/-! ## W1C bits (00 R10) -/

/-- The low bit of what the device has set in the present cycle. -/
theorem sub_and_mod_two (g b : Nat) : (g - (g &&& b)) % 2 = if b % 2 = 1 then 0 else g % 2 := by
  have hle : g &&& b ≤ g := Nat.and_le_left
  have hand : (g &&& b) % 2 = if b % 2 = 1 then g % 2 else 0 := by
    rw [show (g &&& b) % 2 = g % 2 &&& b % 2 from Nat.and_mod_two_pow (n := 1)]
    rcases Nat.mod_two_eq_zero_or_one b with hb | hb <;> simp [hb]
  split at hand <;> simp only [*, if_true, if_false] <;> omega

/-- The new low bit: 0 where a 1 meets a bit that stood, the old bit otherwise. -/
theorem w1c_low_bit (g b v : Nat) (hv : v < 2) :
    (bits g 0 1 &&& (2 ^ 1 - 1 - v ||| bits (g - (g &&& b)) 0 1)) % 2 ^ 1 = if v = 1 ∧ b % 2 = 1 then 0 else g % 2 := by
  have table : ∀ x < 2, ∀ y < 2, ∀ z < 2, (x &&& (1 - z ||| if y = 1 then 0 else x)) % 2 = if z = 1 ∧ y = 1 then 0 else x := by decide
  simp only [bits, Nat.pow_zero, Nat.div_one, Nat.pow_one, sub_and_mod_two]
  exact table _ (Nat.mod_lt g Nat.two_pos) _ (Nat.mod_lt b Nat.two_pos) v hv

/-- A W1C bit clears where a 1 is written to a bit that stood when the cycle began, and otherwise keeps its value. -/
theorem State.get_writeField_w1c {w : Window} {d db : Nat} {r : Reg} (hp : fieldPart (r.info.bit + w.skew) r.info.width d = some (0, db, 1))
    (ho : r.info.own = false) (hk : r.info.kind = .w1c) (hw : r.width = 1) (i value : Nat) (s : State) :
    (s.writeField w i d value r).get r i =
      if bits value db 1 = 1 ∧ Store.get (r.resetAt i) s.before (regKey r i) % 2 = 1 then 0 else s.get r i % 2 := by
  have he : s.writeField w i d value r = s.set r i (setBits (s.get r i) 0 1
      (bits (s.get r i) 0 1 &&& (2 ^ 1 - 1 - bits value db 1 ||| bits (s.setNow r i) 0 1))) := by
    simp [State.writeField, hp, ho, hk]
  rw [he, State.get_set_same, hw, setBits_low_mod]
  exact w1c_low_bit _ _ _ (Nat.mod_lt _ Nat.two_pos)

/-! ## Lists of fields -/

/-- The fields `l` of one entry, one after another. -/
def State.writeFields (s : State) (w : Window) (i d value : Nat) (l : List Reg) : State :=
  l.foldl (fun s r => s.writeField w i d value r) s

theorem State.writeFields_before (w : Window) (i d value : Nat) (l : List Reg) (s : State) :
    (s.writeFields w i d value l).before = s.before := by
  induction l generalizing s with
  | nil => rfl
  | cons r l ih => exact (ih _).trans (s.writeField_before w i d value r)

theorem State.get_writeFields_other {l : List Reg} {r : Reg} (h : r ∉ l) (w : Window) (i d value i' : Nat) (s : State) :
    (s.writeFields w i d value l).get r i' = s.get r i' := by
  induction l generalizing s with
  | nil => rfl
  | cons a l ih =>
    obtain ⟨ha, hl⟩ := not_or.1 (mt List.mem_cons.2 h)
    exact (ih hl _).trans (State.get_writeField_other (Ne.symm ha) w i d value i' s)

/-- A W1C bit in a list of fields in which it stands once. -/
theorem State.get_writeFields_w1c {w : Window} {d db : Nat} {r : Reg} {l l' : List Reg}
    (hp : fieldPart (r.info.bit + w.skew) r.info.width d = some (0, db, 1)) (ho : r.info.own = false) (hk : r.info.kind = .w1c)
    (hw : r.width = 1) (h : r ∉ l) (h' : r ∉ l') (i value : Nat) (s : State) :
    (s.writeFields w i d value (l ++ r :: l')).get r i =
      if bits value db 1 = 1 ∧ Store.get (r.resetAt i) s.before (regKey r i) % 2 = 1 then 0 else s.get r i % 2 := by
  have hsplit : s.writeFields w i d value (l ++ r :: l') =
      ((s.writeFields w i d value l).writeField w i d value r).writeFields w i d value l' := by
    simp [State.writeFields]
  rw [hsplit, State.get_writeFields_other h', State.get_writeField_w1c hp ho hk hw, State.get_writeFields_other h, State.writeFields_before]

/-! ## The way of a host write to its fields -/

/-- While the device runs the gate lets every host write pass. -/
theorem State.hostWrite_running {s : State} (h : s.running = true) (p : Target) (f : State → State) : s.hostWrite p f = f s := by
  simp only [State.running, Bool.and_eq_true, bne_iff_ne, beq_iff_eq, Bool.not_eq_true'] at h
  obtain ⟨⟨⟨⟨hphase, hstate⟩, hshut⟩, hheld⟩, hstop⟩ := h
  simp [State.hostWrite, hphase, hstate, hshut, hheld, hstop]

theorem inBlock_of_mem {base len off : Nat} (hm : (base, len) ∈ blocks ++ tables) (hlo : base ≤ off) (hhi : off < base + len) :
    inBlock off = true :=
  List.any_eq_true.2 ⟨(base, len), hm, by simp [hlo, hhi]⟩

/-- From the listening block on every field belongs to a domain that is ON while the host can write (15 R452). -/
theorem domainOfWrite_high {off : Nat} (h : 0x0F030000 ≤ off) : domainOfWrite off = none := by
  unfold domainOfWrite
  rw [if_neg (by omega), if_neg (by omega), if_neg (by omega)]

theorem State.hostDW_running {s : State} (h : s.running = true) {off : Nat} (hb : inBlock off = true) (ho : 0x0F030000 ≤ off) (value : Nat) :
    s.hostDW off value = s.writeDW off value := by
  simp [State.hostDW, hb, State.hostWrite_running h, domainOfWrite_high ho]

theorem State.writeDW_staging {off : Nat} (h : off < 0x10000) (value : Nat) (s : State) :
    s.writeDW (0x0F070000 + off) value = { s with staging := Mem.writeNum 0 s.staging off 4 value } := by
  unfold State.writeDW
  rw [if_pos ⟨by omega, by omega⟩, Nat.add_sub_cancel_left]

/-- In the host port block and in the tables up to the job entries a write changes the fields of the DW and nothing more. -/
theorem State.writeDW_fields {off : Nat} (hlo : 0x0F030000 ≤ off) (hhi : off < 0x14000000) (hv : off < 0x0F050000 ∨ 0x0F080000 ≤ off)
    (value : Nat) (s : State) : s.writeDW off value = s.writeWindows off value := by
  unfold State.writeDW
  rw [if_neg (by omega), if_neg (by omega), if_neg (by omega), if_neg (by omega), if_neg (by omega)]
  unfold State.afterWrite
  rw [if_neg (by omega), if_neg (by omega), if_neg (by omega), if_neg (by omega), if_neg (by omega)]

/-- A write to a DW of the host port block. -/
theorem State.hostDW_hostBlock {s : State} (h : s.running = true) {d : Nat} (hd : d < 0x10000) (h4 : d % 4 = 0) (value : Nat) :
    s.hostDW (0x0F040000 + d) value = s.writeFields hostWindow 0 d value (hostFields.filter (hostWindow.takes d)) := by
  have hb : inBlock (0x0F040000 + d) = true := inBlock_of_mem (base := 0x0F000000) (len := 0x80000) (by decide) (by omega) (by omega)
  have hl : hostWindow.locate (0x0F040000 + d) = some (0, d) := by simp [Window.locate, hostWindow, hd]
  rw [State.hostDW_running h hb (by omega), State.writeDW_fields (by omega) (by omega) (by omega),
    State.writeWindows_near (lo := 0x0F040000) (hi := 0x0F050000) (by omega) (by omega), windows_meeting_host]
  exact State.writeWindow_at hl h4 (by decide) (by decide) value s

/-- A write to a DW of a tenant's entry. -/
theorem State.hostDW_tenant {s : State} (h : s.running = true) (t : Fin 4096) {d : Nat} (hd : d < 64) (h4 : d % 4 = 0) (value : Nat) :
    s.hostDW (0x10000000 + 64 * t.val + d) value = s.writeFields tenantWindow t.val d value (tenFields.filter (tenantWindow.takes d)) := by
  have ht := t.isLt
  have hb : inBlock (0x10000000 + 64 * t.val + d) = true :=
    inBlock_of_mem (base := 0x10000000) (len := 0x40000) (by decide) (by omega) (by omega)
  have hl : tenantWindow.locate (0x10000000 + 64 * t.val + d) = some (t.val, d) := by
    have he := Window.locate_entry (w := tenantWindow) (off := 0x10000000 + 64 * t.val + d) rfl rfl (by decide) ht hd
      (by show _ = 0x10000000 + t.val * 0x40 + d; omega)
    simpa [tenantWindow] using he
  rw [State.hostDW_running h hb (by omega), State.writeDW_fields (by omega) (by omega) (by omega),
    State.writeWindows_near (lo := 0x10000000) (hi := 0x10040000) (by omega) (by omega), windows_meeting_tenants]
  exact State.writeWindow_at hl h4 (by decide) (by decide) value s

/-- A 32-bit REGISTER_WRITE at an aligned offset of BAR0. -/
theorem exec_registerWrite_bar0_w32 {off : Nat} (hoff : off < 0x20000000) (h4 : off % 4 = 0) (value : DWord) (s : State) :
    exec (.registerWrite .bar0 off .w32 value) s = .next (s.hostDW off (value.toNat % 2 ^ 32)) := by
  rw [exec_registerWrite_inside (by show off + 4 ≤ 2 ^ 29; omega), State.registerWrite_bar0_w32 h4]

/-- A 64-bit REGISTER_WRITE at an aligned offset of BAR0. -/
theorem exec_registerWrite_bar0_w64 {off : Nat} (hoff : off < 0x20000000) (h8 : off % 8 = 0) (value : DWord) (s : State) :
    exec (.registerWrite .bar0 off .w64 value) s =
      .next ((s.hostDW off (value.toNat % 2 ^ 32)).hostDW (off + 4) (value.toNat / 2 ^ 32)) := by
  rw [exec_registerWrite_inside (by show off + 8 ≤ 2 ^ 29; omega), State.registerWrite_bar0_w64 h8]

/-! ## The fields of the DWs -/

/-- The EVENT bits of the host port (Table Host-6). -/
def hostEvents : List Reg :=
  [.host_ACCESS_ERROR, .host_DOORBELL_FAULT, .host_MISROUTE, .host_EVQ_OVERFLOW, .host_FOREMAN_LOST_EV, .host_LINK_DEGRADED]

theorem State.Writes.refl (s : State) : s.Writes s [] where
  rest := rfl
  values _ hp := absurd hp List.not_mem_nil
  frame _ _ _ := rfl

theorem hostWindow_takes_mask : hostFields.filter (hostWindow.takes 0x20) = [.host_EVENT_MASK] := by decide
theorem hostWindow_takes_events : hostFields.filter (hostWindow.takes 0x1C) = hostEvents := by decide
theorem hostWindow_takes_errors : hostFields.filter (hostWindow.takes 0x08) = [] := by decide
theorem tenantWindow_takes_enable : tenFields.filter (tenantWindow.takes 0) = [] := by decide
theorem tenantWindow_takes_class : tenFields.filter (tenantWindow.takes 4) = [.ten_CLASS] := by decide
theorem tenantWindow_takes_pasid : tenFields.filter (tenantWindow.takes 8) = [.ten_PASID] := by decide

theorem writeEventMask {s : State} (h : s.running = true) (value : DWord) :
    s.Does (.registerWrite .bar0 0x0F040020 .w32 value) s [(.host_EVENT_MASK, 0, value.toNat % 2 ^ 32 % 2 ^ 6)] := by
  have hx := exec_registerWrite_bar0_w32 (off := 0x0F040000 + 0x20) (by decide) (by decide) value s
  rw [State.hostDW_hostBlock h (by decide) (by decide), hostWindow_takes_mask] at hx
  refine ⟨_, hx, ?_⟩
  have hw := State.writeField_rw (w := hostWindow) (d := 0x20) (db := 0) (r := .host_EVENT_MASK) rfl rfl rfl 0 (value.toNat % 2 ^ 32) s
  rwa [bits, Nat.pow_zero, Nat.div_one] at hw

theorem writeAccessErrors {s : State} (h : s.running = true) (value : DWord) :
    s.Does (.registerWrite .bar0 0x0F040008 .w32 value) s [] := by
  have hx := exec_registerWrite_bar0_w32 (off := 0x0F040000 + 0x08) (by decide) (by decide) value s
  rw [State.hostDW_hostBlock h (by decide) (by decide), hostWindow_takes_errors] at hx
  exact ⟨s, hx, .refl s⟩

/-- A write to the EVENT bits writes these fields and no other. -/
theorem writeEvents {s : State} (h : s.running = true) (value : DWord) :
    exec (.registerWrite .bar0 0x0F04001C .w32 value) s = .next (s.writeFields hostWindow 0 0x1C (value.toNat % 2 ^ 32) hostEvents) := by
  have hx := exec_registerWrite_bar0_w32 (off := 0x0F040000 + 0x1C) (by decide) (by decide) value s
  rwa [State.hostDW_hostBlock h (by decide) (by decide), hostWindow_takes_events] at hx

theorem get_writeEvents_accessError (value : Nat) (s : State) :
    (s.writeFields hostWindow 0 0x1C value hostEvents).get .host_ACCESS_ERROR =
      if value % 2 = 1 ∧ Store.get 0 s.before (regKey .host_ACCESS_ERROR 0) % 2 = 1 then 0 else s.get .host_ACCESS_ERROR % 2 := by
  have hg := State.get_writeFields_w1c (w := hostWindow) (d := 0x1C) (db := 0) (r := .host_ACCESS_ERROR) (l := []) (l' := hostEvents.tail)
    rfl rfl rfl rfl (by decide) (by decide) 0 value s
  rwa [bits, Nat.pow_zero, Nat.div_one] at hg

theorem get_writeEvents_doorbellFault (value : Nat) (s : State) :
    (s.writeFields hostWindow 0 0x1C value hostEvents).get .host_DOORBELL_FAULT =
      if value / 2 % 2 = 1 ∧ Store.get 0 s.before (regKey .host_DOORBELL_FAULT 0) % 2 = 1 then 0 else s.get .host_DOORBELL_FAULT % 2 :=
  State.get_writeFields_w1c (w := hostWindow) (d := 0x1C) (db := 1) (r := .host_DOORBELL_FAULT) (l := [.host_ACCESS_ERROR])
    (l' := hostEvents.tail.tail) rfl rfl rfl rfl (by decide) (by decide) 0 value s

theorem writePasid_open {s : State} (h : s.running = true) (t : Fin 4096) (he : s.get .ten_ENABLE t = 0) (value : DWord) :
    s.Does (.registerWrite .bar0 (0x10000000 + 64 * t.val + 8) .w32 value) s [(.ten_PASID, t, value.toNat % 2 ^ 32 % 2 ^ 20)] := by
  have hx := exec_registerWrite_bar0_w32 (off := 0x10000000 + 64 * t.val + 8) (by omega) (by omega) value s
  rw [State.hostDW_tenant h t (by decide) (by decide), tenantWindow_takes_pasid] at hx
  refine ⟨_, hx, ?_⟩
  have hw := State.writeField_rwl_open (w := tenantWindow) (d := 8) (db := 0) (r := .ten_PASID) (e := .ten_ENABLE) (i := t.val) rfl rfl rfl rfl
    (s := s) (by rwa [show tenantWindow.lockDiv = 1 from rfl, Nat.div_one]) (value.toNat % 2 ^ 32)
  rwa [bits, Nat.pow_zero, Nat.div_one] at hw

theorem writePasid_locked {s : State} (h : s.running = true) (t : Fin 4096) (he : s.get .ten_ENABLE t ≠ 0) (value : DWord) :
    s.Does (.registerWrite .bar0 (0x10000000 + 64 * t.val + 8) .w32 value) s [] := by
  have hx := exec_registerWrite_bar0_w32 (off := 0x10000000 + 64 * t.val + 8) (by omega) (by omega) value s
  rw [State.hostDW_tenant h t (by decide) (by decide), tenantWindow_takes_pasid] at hx
  have hk : s.writeField tenantWindow t.val 8 (value.toNat % 2 ^ 32) .ten_PASID = s :=
    State.writeField_rwl_locked rfl rfl (by rwa [show tenantWindow.lockDiv = 1 from rfl, Nat.div_one]) _
  exact ⟨_, hx, by rw [State.writeFields, List.foldl_cons, List.foldl_nil, hk]; exact .refl s⟩

/-- Of the two DWs of a 64-bit write to a tenant's entry the first holds no field that REGISTER_WRITE changes. -/
theorem writeClass_open {s : State} (h : s.running = true) (t : Fin 4096) (he : s.get .ten_ENABLE t = 0) (value : DWord) :
    s.Does (.registerWrite .bar0 (0x10000000 + 64 * t.val) .w64 value) s [(.ten_CLASS, t, value.toNat / 2 ^ 32 % 2 ^ 6)] := by
  have hx := exec_registerWrite_bar0_w64 (off := 0x10000000 + 64 * t.val) (by omega) (by omega) value s
  have hlow := State.hostDW_tenant h t (d := 0) (by decide) (by decide) (value.toNat % 2 ^ 32)
  rw [tenantWindow_takes_enable] at hlow
  rw [show s.hostDW (0x10000000 + 64 * t.val) (value.toNat % 2 ^ 32) = s from hlow, State.hostDW_tenant h t (by decide) (by decide),
    tenantWindow_takes_class] at hx
  refine ⟨_, hx, ?_⟩
  have hw := State.writeField_rwl_open (w := tenantWindow) (d := 4) (db := 0) (r := .ten_CLASS) (e := .ten_ENABLE) (i := t.val) rfl rfl rfl rfl
    (s := s) (by rwa [show tenantWindow.lockDiv = 1 from rfl, Nat.div_one]) (value.toNat / 2 ^ 32)
  rwa [bits, Nat.pow_zero, Nat.div_one] at hw

theorem writeStaging {s : State} (h : s.running = true) {off : Nat} (ho : off < 65536) (h4 : off % 4 = 0) (value : DWord) :
    exec (.registerWrite .bar0 (0x0F070000 + off) .w32 value) s =
      .next { s with staging := Mem.writeNum 0 s.staging off 4 (value.toNat % 2 ^ 32) } := by
  have hb : inBlock (0x0F070000 + off) = true := inBlock_of_mem (base := 0x0F000000) (len := 0x80000) (by decide) (by omega) (by omega)
  rw [exec_registerWrite_bar0_w32 (by omega) (by omega), State.hostDW_running h hb (by omega), State.writeDW_staging ho]

/-! ## Latching reads (13 R398) -/

theorem State.latchClipped_absent {s : State} {n : Nat} (h : s.get .bent_PRESENT n = 0) : s.latchClipped n = s := by
  simp [State.latchClipped, State.on, h]

theorem State.latchHist_absent {s : State} {n : Nat} (h : s.get .bent_PRESENT n = 0) : s.latchHist n = s := by
  simp [State.latchHist, State.on, h]

theorem State.latchClipped_present {s : State} {n : Nat} (h : s.get .bent_PRESENT n ≠ 0) :
    s.latchClipped n = s.set .gauge_CLIPPED_HI n (Store.get 0 s.clippedHigh n) := by
  simp [State.latchClipped, State.on, h]

theorem State.latchHist_present {s : State} {n : Nat} (h : s.get .bent_PRESENT n ≠ 0) :
    s.latchHist n = s.set .hist_HIST_SAMPLES_HI n (Store.get 0 s.histHigh n) := by
  simp [State.latchHist, State.on, h]

theorem clippedLoRead_absent {s : State} {n : Fin 8} (h : s.get .bent_PRESENT n = 0) : exec (.clippedLoRead n) s = .next s :=
  congrArg Host.Outcome.next (State.latchClipped_absent h)

theorem histSamplesLoRead_absent {s : State} {n : Fin 8} (h : s.get .bent_PRESENT n = 0) : exec (.histSamplesLoRead n) s = .next s :=
  congrArg Host.Outcome.next (State.latchHist_absent h)

theorem clippedLoRead_present {s : State} {n : Fin 8} (h : s.get .bent_PRESENT n ≠ 0) :
    s.Does (.clippedLoRead n) s [(.gauge_CLIPPED_HI, n, Store.get 0 s.clippedHigh n % 2 ^ 32)] :=
  ⟨_, congrArg Host.Outcome.next (State.latchClipped_present h), State.Writes.set s .gauge_CLIPPED_HI n _⟩

theorem histSamplesLoRead_present {s : State} {n : Fin 8} (h : s.get .bent_PRESENT n ≠ 0) :
    s.Does (.histSamplesLoRead n) s [(.hist_HIST_SAMPLES_HI, n, Store.get 0 s.histHigh n % 2 ^ 32)] :=
  ⟨_, congrArg Host.Outcome.next (State.latchHist_present h), State.Writes.set s .hist_HIST_SAMPLES_HI n _⟩

end Sys2Proof.Machine

open Sys2Proof Sys2Proof.Machine

/-- Settles O41: of the fields of each DW only those that REGISTER_WRITE may change are written, each by the rule of its type. -/
theorem registerWriteTypes : Obligations.RegisterWriteTypes := by
  refine ⟨fun value s h => ⟨writeEventMask h value, fun u hu => ?_, writeAccessErrors h value, fun t => ⟨fun he => ?_, fun he => ?_⟩,
    fun off ho h4 => writeStaging h ho h4 value⟩, fun n s => ⟨fun h => ?_, fun h => ?_⟩⟩
  · rw [writeEvents h value] at hu
    cases hu
    refine ⟨fun hv hb => ?_, fun hvb => ?_, fun hv hb => ?_, fun r i hr => State.get_writeFields_other hr ..⟩
    · rw [get_writeEvents_accessError, if_pos ⟨hv, hb⟩]
    · rw [get_writeEvents_accessError, if_neg]
      rintro ⟨hv, hb⟩
      rcases hvb with h0 | h0
      · exact absurd (hv.symm.trans h0) Nat.one_ne_zero
      · exact absurd (hb.symm.trans h0) Nat.one_ne_zero
    · rw [get_writeEvents_doorbellFault, if_pos ⟨hv, hb⟩]
  · exact ⟨writePasid_open h t he value, writeClass_open h t he value⟩
  · exact writePasid_locked h t he value
  · exact ⟨clippedLoRead_absent h, histSamplesLoRead_absent h⟩
  · exact ⟨clippedLoRead_present h, histSamplesLoRead_present h⟩
end
